-- ==== Sys2Proof/Word.lean ====
section
/-! DEFINITION. The word types and their plainest arithmetic. -/

namespace Sys2Proof

/-- A byte. -/
abbrev Byte := BitVec 8

/-- A register, a general register, a memory word: 32 bits (R5, R71). -/
abbrev Word := BitVec 32

/-- A register pair (R72), a SECDED word (R78). -/
abbrev DWord := BitVec 64

/-- A number as a 32-bit word, wrapping. -/
def w32 (n : Nat) : Word := BitVec.ofNat 32 n

/-- One bit as a number. -/
def bit (b : Bool) : Nat := if b then 1 else 0

end Sys2Proof
end

