-- ==== Sys2Proof/Payload.lean ====
section
/-! DEFINITION. The operand types of the commands. -/

namespace Sys2Proof

/-- Who makes a register access (R451, R455, R456): the host port, or a core (0 to 3 CC0 to CC3, 4 the SFC), at the level the core is in. -/
inductive Init where
  | host
  | core (c : Nat)
deriving DecidableEq, Repr

/-- What a Starling frame carries (Table STF-4). The table gives the contents; bytes are kept for MSG alone (assumption 8). -/
inductive Body where
  /-- 0 MSG: a segment of a queue message -/
  | msg (bytes : List Byte)
  /-- 1 ANS: a Table QE-3 outcome, or 7 for BUSY, and the queue -/
  | ans (outcome queue : Nat)
  /-- 2 RWIN_REQ: a remote-window access: store, target region, offset, size, data (R61) -/
  | rwinReq (store : Bool) (target off size data : Nat)
  /-- 3 RWIN_ANS: its reply -/
  | rwinAns (refused : Bool) (data : Nat)
  /-- 4 HELLO: node ID, serial, sending port, post_src (R235) -/
  | hello (node serial port postSrc : Nat)
  /-- 5 PROBE -/
  | probe
  /-- 6 PROBE_ANS: node, serial, role, post_src, the four STF_PORTn_NBR values -/
  | probeAns (node serial role postSrc : Nat) (nbrs : List Word)
  /-- 7 ROLL -/
  | roll
  /-- 8 ROLL_ANS (Table STF-6): serial, owner serial, node ID, flags, arrival port, hold_code, activated set, prepared set -/
  | rollAns (serial owner node flags port hold activated prepared : Nat)
  /-- 9 ASSIGN_MEMBER: post, member, Manager node and serial, path b -/
  | assignMember (post member mgr serial : Nat) (pathB : Bool)
  /-- 10 ASSIGN_POST: target serial, post number -/
  | assignPost (serial post : Nat)
  /-- 11 LEAVING: member, meter time -/
  | leaving (member mt : Nat)
  /-- a payload whose length does not fit its kind, or a reserved kind (R227) -/
  | bad (kind : Nat)
deriving DecidableEq, Repr, Inhabited

/-- The kind of a frame (Table STF-4). -/
def Body.kind : Body → Nat
  | .msg _ => 0 | .ans _ _ => 1 | .rwinReq _ _ _ _ _ => 2 | .rwinAns _ _ => 3 | .hello _ _ _ _ => 4 | .probe => 5
  | .probeAns _ _ _ _ _ => 6 | .roll => 7 | .rollAns _ _ _ _ _ _ _ _ => 8 | .assignMember _ _ _ _ _ => 9 | .assignPost _ _ => 10
  | .leaving _ _ => 11 | .bad k => k

/-- A Starling frame (Table STF-3). The route is the list of its elements; the two checks stand for the CRC fields as they arrive
(assumption 8). -/
structure Frame where
  /-- the flag no_ans -/
  noAns : Bool := false
  /-- the flag lane S -/
  laneS : Bool := false
  /-- the flag rtx -/
  rtx : Bool := false
  /-- the flag site scope -/
  site : Bool := false
  /-- links crossed -/
  hops : Nat := 0
  /-- route pointer -/
  rp : Nat := 0
  dst : Nat := 0
  src : Nat := 0
  queue : Nat := 0
  seq : Nat := 0
  msgLen : Nat := 0
  segOff : Nat := 0
  route : List Nat := []
  /-- hcrc passes -/
  hcrcOk : Bool := true
  /-- the frame CRC passes -/
  fcrcOk : Bool := true
  body : Body := .probe
deriving DecidableEq, Repr, Inhabited

/-- Every field of a frame's contents lies within the bits Table STF-4 gives it. -/
def Body.ok : Body → Bool
  | .msg l => l.length ≤ 512
  | .ans o q => o < 256 && q < 65536
  | .rwinReq _ t o n d => t < 4 && o < 2 ^ 29 && (n = 1 || n = 2 || n = 4) && d < 2 ^ 32
  | .rwinAns _ d => d < 2 ^ 32
  | .hello n s p o => n < 65536 && s < 2 ^ 64 && p < 4 && o < 4
  | .probe => true
  | .probeAns n s r o l => n < 65536 && s < 2 ^ 64 && r < 4 && o < 4 && l.length = 4
  | .roll => true
  | .rollAns s o n f p h a b => s < 2 ^ 64 && o < 2 ^ 64 && n < 65536 && f < 256 && p < 4 && h < 65536 && a < 2 ^ 32 && b < 2 ^ 32
  | .assignMember p m g s _ => p < 4096 && m < 16 && g < 65536 && s < 2 ^ 64
  | .assignPost s p => s < 2 ^ 64 && p < 4096
  | .leaving m t => m < 16 && t < 2 ^ 64
  | .bad k => k < 16

/-- Every field of a frame lies within the bits Table STF-3 gives it. -/
def Frame.ok (f : Frame) : Bool :=
  f.hops < 16 && f.rp < 16 && f.dst < 65536 && f.src < 65536 && f.queue < 65536 && f.seq < 65536 && f.msgLen < 65536 && f.segOff < 65536 &&
  f.route.length ≤ 8 && f.route.all (· < 4) && f.body.ok

/-- Payload bytes of a frame, for its credit units (R222): the byte count of a MSG segment, 8 for ANS, and for the kinds whose payload the
spec does not lay out the count their fields take (assumption 8). -/
def Frame.payloadLen (f : Frame) : Nat :=
  match f.body with
  | .msg l => l.length
  | .ans _ _ => 8
  | .rollAns _ _ _ _ _ _ _ _ => 32
  | _ => 32

/-- Credit units of a frame: 64 frame bytes each, header and CRC included (R222). -/
def Frame.units (f : Frame) : Nat := (20 + f.payloadLen + 4 + 63) / 64

/-- A frame as the host sends it (Tables HSP-1 and HSP-2, R170). -/
structure HostFrame where
  /-- HSP_SCK was high when HSP_CS_N fell (R167) -/
  mode3 : Bool := false
  op : Nat
  alanes : Nat
  dlanes : Nat
  addr : Nat
  ctl : Nat
  /-- the units of a write frame; none in a read or STATUS frame -/
  units : List Nat := []
  crc : Nat
deriving DecidableEq, Repr

/-- Bits of a unit, u (R170). -/
def HostFrame.bits (f : HostFrame) : Nat := f.ctl % 32 + 1
/-- Units of a frame (R170). -/
def HostFrame.count (f : HostFrame) : Nat := f.ctl / 32 % 128 + 1
/-- The alive counter of a frame (R170). -/
def HostFrame.alive (f : HostFrame) : Nat := f.ctl / 4096 % 16

/-- Every part of a frame lies within its bits. -/
def HostFrame.ok (f : HostFrame) : Bool :=
  f.op < 16 && f.alanes < 4 && f.dlanes < 4 && f.addr < 2 ^ 32 && f.ctl < 2 ^ 16 && f.units.all (· < 2 ^ f.bits) && f.crc < 2 ^ 16

/-- How far a frame had come when HSP_CS_N rose early (R184). -/
inductive HostCut where
  /-- before the request CRC was complete; the whole units of a write frame received, 0 in every other phase -/
  | request (units : Nat)
  /-- in the reply of a read or STATUS frame: the whole units sent, and how many units were ready at their launch -/
  | reply (sent ready : Nat)
deriving DecidableEq, Repr

/-- Whose memory-port transaction timed out (R209, Table QE-7). -/
inductive XmpUser where
  /-- a window load of core c at an address -/
  | load (c : Nat) (addr : Word)
  /-- a descriptor or ring burst of a queue -/
  | queue (q : Nat)
  /-- copy channel n -/
  | copy (n : Nat)
  /-- the command engine -/
  | command
deriving DecidableEq, Repr

/-- A message queue carried on lane S (R223). -/
def laneSQueue (q : Nat) : Bool := (0x8 ≤ q && q ≤ 0x1F) || (0x40 ≤ q && q ≤ 0x7F)

/-- The frame travels on lane S (R223). -/
def Frame.onLaneS (f : Frame) : Bool :=
  match f.body with
  | .msg _ => laneSQueue f.queue
  | .ans _ q => laneSQueue q
  | b => decide (4 ≤ b.kind ∧ b.kind ≤ 11)

end Sys2Proof
end

