-- ==== Sys2Proof/Syntax.lean ====
section
/-! DEFINITION. The commands of the block: one constructor per row of spec/opcode_table.json, with the row's operands.
A core's instruction names the core and its register numbers and immediates; a register row names the initiator and the
value written; an event row carries what the outside world or the analog side contributes to the event. -/

namespace Sys2Proof

/-- A command of the block, one constructor per row of the opcode table, in the table's order. -/
inductive Instr where
  /-- REGISTER_WRITE (R5): A write to a register that has no row of its own acts on each field by its access code, judges RWS fields against their seal switch and logs CONFIG entries. -/
  | registerWrite (who : Init) (addr : Nat) (v : Word)
  /-- POR_RELEASE (R88): VDD33 stays above 2.85 V for 1 ms, power-on reset releases and Dawn starts, waiting at step 3 for VSUP_MON. -/
  | porRelease
  /-- BROWNOUT_RESET (R88): VDD33 falls below 2.75 V for at least 1 µs and the chip is reset exactly as at power-on reset. -/
  | brownoutReset
  /-- DAWN_SUPPLY_READY (R90): VSUP_MON has stayed above the clear level for clear_delay, so Dawn runs steps 4 to 6 and waits for the 25 MHz oscillator. -/
  | dawnSupplyReady (otpOk : Bool) (calBad : Nat) (sensorBad : Nat)
  /-- XTAL_MT_STARTED (R90): 25,000 consecutive good 25 MHz edges arrive in Dawn, so meter time is loaded and committed, wall time mirrored, the edge placer calibrated and the strap read. -/
  | xtalMtStarted (taps : List Nat) (strap : Nat)
  /-- XTAL_START_TIMEOUT (R47): Dawn step 7 does not complete within 5 ms, so Dawn stops in the hold with TMK_XTAL_MT_FAIL. -/
  | xtalStartTimeout
  /-- DAWN_SEAL_SAMPLE (R92): A Dawn seal-scan sample is taken every 500 µs, and once three agree the reading is accepted and Dawn continues to save recovery and boot verification. -/
  | dawnSealSample (sw : Nat) (loop : Bool)
  /-- DAWN_SEAL_TIMEOUT (R92): The Dawn seal samples do not agree within 2 ms, so every switch is taken as off and the loop as open for the powered side. -/
  | dawnSealTimeout
  /-- BOOT_VERIFY_DONE (R94): Verification of the active slot completes, and on success Dawn copies the safety image, loads the sealed set and starts the SFC and CC0. -/
  | bootVerifyDone
  /-- EXT_RESET (R98): RESET_N held low for at least 10 µs causes a reset save and then a reset of kind EXT that runs Dawn. -/
  | extReset
  /-- DSK_RESET (R456): A write to DSK_RESET takes the first or second key of the software reset sequence, and a complete sequence within 1 ms starts a reset save and a SW reset. -/
  | dskReset (who : Init) (v : Word)
  /-- RESET_SAVE_DONE (R98): The reset save completes and the requested reset takes effect, running Dawn from step 2. -/
  | resetSaveDone
  /-- DUSK_WARNING (R101): VSUP_MON stays below the threshold for the deglitch time, so the warning asserts, outputs stop, STOP_DUSK is broadcast and EVT_DUSK is delivered. -/
  | duskWarning
  /-- DUSK_WARNING_CLEAR (R105): VSUP_MON rises above the clear level and the warning clears, while a save already started still completes and Dawn follows. -/
  | duskWarningClear
  /-- DUSK_FREEZE (R102): 100 µs after the outputs stop, the accumulators freeze and the save body and commit word are written to the older Dusk bank. -/
  | duskFreeze
  /-- DUSK_SAVE_DONE (R105): The Dusk save commit completes, Nightjar is handed over to its own supply and, with VDD33 still up, a DUSK reset runs Dawn. -/
  | duskSaveDone (vddUp : Bool)
  /-- CHECKPOINT (R104): Every checkpoint period of meter time, a snapshot of the save image is written to the next checkpoint slot without stopping accumulation. -/
  | checkpoint
  /-- CHECKPOINT_DONE (R104): A checkpoint write and read-back completes, or fails with DSK_CKPT_FAIL. -/
  | checkpointDone (good : Bool)
  /-- OPCTL_WRITE (R29): A write to TMK_OPCTL.op_req starts an operating-point change, or is refused or ignored. -/
  | opctlWrite (who : Init) (v : Word)
  /-- OP_CHANGE_DONE (R29): VCORE reaches the target and the lines are recalibrated, so op_now updates, op_busy clears and EVT_OP_DONE is delivered. -/
  | opChangeDone (taps : List Nat)
  /-- OP_CHANGE_TIMEOUT (R29): An operating-point change has not completed within 100 µs, so TMK_OP_FAIL is raised. -/
  | opChangeTimeout (reached : Nat)
  /-- MT_FLOOR_COMMIT (R34): The high word of meter time increases, and the new value is written to the next rotating floor slot in Nightjar NV. -/
  | mtFloorCommit
  /-- MT_LO_READ (R33): A read of TMK_MT_LO returns the low word and latches the high word for that reader. -/
  | mtLoRead (who : Init)
  /-- WALL_SEC_READ (R35): A read of TMK_WALL_SEC returns the seconds and latches TMK_WALL_SUB for that reader. -/
  | wallSecRead (who : Init)
  /-- WALL_SET (R36): A write to TMK_WALL_SET sets wall time and judges the step as small or large against the limit and the bucket. -/
  | wallSet (who : Init) (v : Word)
  /-- BUCKET_DRAIN (R37): Every 3,600 s of meter time the step bucket drains by 1 s, not below 0. -/
  | bucketDrain
  /-- CMP_ARM (R40): A write to TMK_CMPn_HI captures the whole target and arms the compare unit when en is 1. -/
  | cmpArm (who : Init) (n : Nat) (v : Word)
  /-- CMP_FIRE (R40): Meter time reaches the armed target, so the unit sets fired, clears en and delivers EVT_TMK_CMPn to its cores. -/
  | cmpFire (n : Nat)
  /-- ICG_CTRL_WRITE (R41): A write to TMK_ICG_CTRL enables generators or clears enables, which is ignored while the owning subsystem is active. -/
  | icgCtrlWrite (who : Init) (v : Word)
  /-- ICG_LOCK (R41): An enabled interface clock generator reaches lock and reports locked. -/
  | icgLock (n : Nat)
  /-- EP_CALIBRATE (R42): A delay line is recalibrated against one tick, giving taps_per_tick or TMK_EP_CAL_FAIL. -/
  | epCalibrate (out : Nat) (taps : Nat)
  /-- WEAR_MEASURE (R43): Every 10 s each wear monitor counts its ring laps, reports wear and raises the warn or limit condition. -/
  | wearMeasure (mon : Nat) (wear : Nat) (tj : Int)
  /-- XTAL_MT_LOST (R44): No 25 MHz edge arrives for 1 µs, so meter time freezes, generators stop and EVT_XTAL_FAIL is delivered. -/
  | xtalMtLost
  /-- XTAL_MT_RESUME (R44): After 25,000 good edges meter time resumes from its frozen value and the enabled generators restart. -/
  | xtalMtResume
  /-- WT_XTAL_CHECK (R45): The 32.768 kHz edge watchdog expires or the crystal ratio is out of range over 1 s, so TMK_XTAL_WT_FAIL is raised. -/
  | wtXtalCheck (edgeLost : Bool) (ppm : Int)
  /-- ADD (R77): rd takes ra + rb, wrapping. -/
  | add (c : Nat) (rd : Nat) (ra : Nat) (rb : Nat)
  /-- SUB (R77): rd takes ra − rb, wrapping. -/
  | sub (c : Nat) (rd : Nat) (ra : Nat) (rb : Nat)
  /-- AND (R77): rd takes the bitwise AND of ra and rb. -/
  | and (c : Nat) (rd : Nat) (ra : Nat) (rb : Nat)
  /-- OR (R77): rd takes the bitwise OR of ra and rb. -/
  | or (c : Nat) (rd : Nat) (ra : Nat) (rb : Nat)
  /-- XOR (R77): rd takes the bitwise XOR of ra and rb. -/
  | xor (c : Nat) (rd : Nat) (ra : Nat) (rb : Nat)
  /-- SLL (R77): rd takes ra shifted left by rb[4:0]. -/
  | sll (c : Nat) (rd : Nat) (ra : Nat) (rb : Nat)
  /-- SRL (R77): rd takes ra shifted right by rb[4:0] with zero fill. -/
  | srl (c : Nat) (rd : Nat) (ra : Nat) (rb : Nat)
  /-- SRA (R77): rd takes ra shifted right by rb[4:0] with sign fill. -/
  | sra (c : Nat) (rd : Nat) (ra : Nat) (rb : Nat)
  /-- ROTL (R77): rd takes ra rotated left by rb[4:0]. -/
  | rotl (c : Nat) (rd : Nat) (ra : Nat) (rb : Nat)
  /-- SLLI (R77): rd takes ra shifted left by an immediate amount. -/
  | slli (c : Nat) (rd : Nat) (ra : Nat) (n : Nat)
  /-- SRLI (R77): rd takes ra shifted right by an immediate amount with zero fill. -/
  | srli (c : Nat) (rd : Nat) (ra : Nat) (n : Nat)
  /-- SRAI (R77): rd takes ra shifted right by an immediate amount with sign fill. -/
  | srai (c : Nat) (rd : Nat) (ra : Nat) (n : Nat)
  /-- SLT (R77): rd takes 1 if ra is less than rb signed, else 0. -/
  | slt (c : Nat) (rd : Nat) (ra : Nat) (rb : Nat)
  /-- SLTU (R77): rd takes 1 if ra is less than rb unsigned, else 0. -/
  | sltu (c : Nat) (rd : Nat) (ra : Nat) (rb : Nat)
  /-- MIN (R77): rd takes the smaller of ra and rb, signed. -/
  | min (c : Nat) (rd : Nat) (ra : Nat) (rb : Nat)
  /-- MAX (R77): rd takes the larger of ra and rb, signed. -/
  | max (c : Nat) (rd : Nat) (ra : Nat) (rb : Nat)
  /-- MINU (R77): rd takes the smaller of ra and rb, unsigned. -/
  | minu (c : Nat) (rd : Nat) (ra : Nat) (rb : Nat)
  /-- MAXU (R77): rd takes the larger of ra and rb, unsigned. -/
  | maxu (c : Nat) (rd : Nat) (ra : Nat) (rb : Nat)
  /-- CLZ (R77): rd takes the number of leading zero bits of ra. -/
  | clz (c : Nat) (rd : Nat) (ra : Nat)
  /-- SEXTB (R77): rd takes the sign extension of ra[7:0]. -/
  | sextb (c : Nat) (rd : Nat) (ra : Nat)
  /-- SEXTH (R77): rd takes the sign extension of ra[15:0]. -/
  | sexth (c : Nat) (rd : Nat) (ra : Nat)
  /-- CSEL (R77): rd takes ra if rc is nonzero, else rb. -/
  | csel (c : Nat) (rd : Nat) (ra : Nat) (rb : Nat) (rc : Nat)
  /-- MUL (R77): rd takes the low 32 bits of ra × rb. -/
  | mul (c : Nat) (rd : Nat) (ra : Nat) (rb : Nat)
  /-- MULH (R77): rd takes the high 32 bits of the signed product. -/
  | mulh (c : Nat) (rd : Nat) (ra : Nat) (rb : Nat)
  /-- MULHU (R77): rd takes the high 32 bits of the unsigned product. -/
  | mulhu (c : Nat) (rd : Nat) (ra : Nat) (rb : Nat)
  /-- DIV (R73): rd takes ra ÷ rb, signed and truncating, or DIVZERO is raised. -/
  | div (c : Nat) (rd : Nat) (ra : Nat) (rb : Nat)
  /-- DIVU (R73): rd takes ra ÷ rb unsigned, or DIVZERO is raised. -/
  | divu (c : Nat) (rd : Nat) (ra : Nat) (rb : Nat)
  /-- REM (R73): rd takes the signed remainder, or DIVZERO is raised. -/
  | rem (c : Nat) (rd : Nat) (ra : Nat) (rb : Nat)
  /-- REMU (R73): rd takes the unsigned remainder, or DIVZERO is raised. -/
  | remu (c : Nat) (rd : Nat) (ra : Nat) (rb : Nat)
  /-- ADD64 (R77): The rd pair takes the ra pair plus the rb pair, wrapping. -/
  | add64 (c : Nat) (rd : Nat) (ra : Nat) (rb : Nat)
  /-- SUB64 (R77): The rd pair takes the ra pair minus the rb pair, wrapping. -/
  | sub64 (c : Nat) (rd : Nat) (ra : Nat) (rb : Nat)
  /-- ADDS64 (R73): The rd pair takes the saturating signed 64-bit sum. -/
  | adds64 (c : Nat) (rd : Nat) (ra : Nat) (rb : Nat)
  /-- SUBS64 (R73): The rd pair takes the saturating signed 64-bit difference. -/
  | subs64 (c : Nat) (rd : Nat) (ra : Nat) (rb : Nat)
  /-- CMP64 (R77): rd takes −1, 0 or 1 as a signed comparison of two pairs. -/
  | cmp64 (c : Nat) (rd : Nat) (ra : Nat) (rb : Nat)
  /-- MAC64 (R73): The rd pair accumulates the signed product, wrapping. -/
  | mac64 (c : Nat) (rd : Nat) (ra : Nat) (rb : Nat)
  /-- MACS64 (R73): The rd pair accumulates the signed product, saturating signed. -/
  | macs64 (c : Nat) (rd : Nat) (ra : Nat) (rb : Nat)
  /-- MACU64 (R73): The rd pair accumulates the unsigned product, saturating unsigned. -/
  | macu64 (c : Nat) (rd : Nat) (ra : Nat) (rb : Nat)
  /-- MULS64Q (R73): The rd pair takes the rounding-shifted product of a pair and a word, saturating. -/
  | muls64q (c : Nat) (rd : Nat) (ra : Nat) (rb : Nat) (sh : Nat)
  /-- DIVR64 (R73): The rd pair takes a pair divided by a word with rounding, or DIVZERO is raised. -/
  | divr64 (c : Nat) (rd : Nat) (ra : Nat) (rb : Nat)
  /-- ADDS (R73): rd takes the saturating signed 32-bit sum. -/
  | adds (c : Nat) (rd : Nat) (ra : Nat) (rb : Nat)
  /-- SUBS (R73): rd takes the saturating signed 32-bit difference. -/
  | subs (c : Nat) (rd : Nat) (ra : Nat) (rb : Nat)
  /-- ADDUS (R73): rd takes the saturating unsigned 32-bit sum. -/
  | addus (c : Nat) (rd : Nat) (ra : Nat) (rb : Nat)
  /-- SUBUS (R73): rd takes the saturating unsigned 32-bit difference. -/
  | subus (c : Nat) (rd : Nat) (ra : Nat) (rb : Nat)
  /-- MULQ (R73): rd takes the rounding-shifted signed product, saturating to 32 bits. -/
  | mulq (c : Nat) (rd : Nat) (ra : Nat) (rb : Nat) (sh : Nat)
  /-- SATS (R77): rd takes ra clamped to a signed range of n bits. -/
  | sats (c : Nat) (rd : Nat) (ra : Nat) (n : Nat)
  /-- ADDI (R77): rd takes ra plus a sign-extended immediate. -/
  | addi (c : Nat) (rd : Nat) (ra : Nat) (imm : BitVec 16)
  /-- ANDI (R77): rd takes ra AND a zero-extended immediate. -/
  | andi (c : Nat) (rd : Nat) (ra : Nat) (imm : BitVec 16)
  /-- ORI (R77): rd takes ra OR a zero-extended immediate. -/
  | ori (c : Nat) (rd : Nat) (ra : Nat) (imm : BitVec 16)
  /-- XORI (R77): rd takes ra XOR a zero-extended immediate. -/
  | xori (c : Nat) (rd : Nat) (ra : Nat) (imm : BitVec 16)
  /-- SLTI (R77): rd takes 1 if ra is below the immediate, signed. -/
  | slti (c : Nat) (rd : Nat) (ra : Nat) (imm : BitVec 16)
  /-- SLTIU (R77): rd takes 1 if ra is below the immediate, unsigned. -/
  | sltiu (c : Nat) (rd : Nat) (ra : Nat) (imm : BitVec 16)
  /-- LUI (R77): rd takes the immediate shifted left by 16. -/
  | lui (c : Nat) (rd : Nat) (imm : BitVec 16)
  /-- AUIPC (R77): rd takes the instruction address plus the immediate shifted left by 16. -/
  | auipc (c : Nat) (rd : Nat) (imm : BitVec 16)
  /-- LW (R77): rd takes a 32-bit word loaded from memory, a register or a remote node. -/
  | lw (c : Nat) (rd : Nat) (ra : Nat) (imm : BitVec 16)
  /-- LH (R77): rd takes a sign-extended halfword loaded from memory. -/
  | lh (c : Nat) (rd : Nat) (ra : Nat) (imm : BitVec 16)
  /-- LHU (R77): rd takes a zero-extended halfword loaded from memory. -/
  | lhu (c : Nat) (rd : Nat) (ra : Nat) (imm : BitVec 16)
  /-- LB (R77): rd takes a sign-extended byte loaded from memory. -/
  | lb (c : Nat) (rd : Nat) (ra : Nat) (imm : BitVec 16)
  /-- LBU (R77): rd takes a zero-extended byte loaded from memory. -/
  | lbu (c : Nat) (rd : Nat) (ra : Nat) (imm : BitVec 16)
  /-- LD (R78): The rd pair takes a 64-bit value loaded from memory. -/
  | ld (c : Nat) (rd : Nat) (ra : Nat) (imm : BitVec 16)
  /-- SW (R77): A 32-bit word is stored to memory, a register or a remote node. -/
  | sw (c : Nat) (rs : Nat) (ra : Nat) (imm : BitVec 16)
  /-- SH (R77): A halfword is stored to memory. -/
  | sh (c : Nat) (rs : Nat) (ra : Nat) (imm : BitVec 16)
  /-- SB (R77): A byte is stored to memory. -/
  | sb (c : Nat) (rs : Nat) (ra : Nat) (imm : BitVec 16)
  /-- SD (R78): A register pair is stored to memory as a 64-bit value. -/
  | sd (c : Nat) (rs : Nat) (ra : Nat) (imm : BitVec 16)
  /-- CAS (R58): A word is compared with rb and swapped with rc indivisibly, and rd takes the old value. -/
  | cas (c : Nat) (rd : Nat) (ra : Nat) (rb : Nat) (rc : Nat)
  /-- SWAP (R58): A word is exchanged with rb indivisibly, and rd takes the old value. -/
  | swap (c : Nat) (rd : Nat) (ra : Nat) (rb : Nat)
  /-- FADD (R58): rb is added to a word indivisibly, and rd takes the old value. -/
  | fadd (c : Nat) (rd : Nat) (ra : Nat) (rb : Nat)
  /-- BEQ (R77): The core branches if ra equals rb. -/
  | beq (c : Nat) (ra : Nat) (rb : Nat) (off : BitVec 16)
  /-- BNE (R77): The core branches if ra differs from rb. -/
  | bne (c : Nat) (ra : Nat) (rb : Nat) (off : BitVec 16)
  /-- BLT (R77): The core branches if ra is less than rb, signed. -/
  | blt (c : Nat) (ra : Nat) (rb : Nat) (off : BitVec 16)
  /-- BGE (R77): The core branches if ra is at least rb, signed. -/
  | bge (c : Nat) (ra : Nat) (rb : Nat) (off : BitVec 16)
  /-- BLTU (R77): The core branches if ra is less than rb, unsigned. -/
  | bltu (c : Nat) (ra : Nat) (rb : Nat) (off : BitVec 16)
  /-- BGEU (R77): The core branches if ra is at least rb, unsigned. -/
  | bgeu (c : Nat) (ra : Nat) (rb : Nat) (off : BitVec 16)
  /-- J (R77): The core jumps by a 26-bit offset. -/
  | j (c : Nat) (off : BitVec 26)
  /-- JAL (R74): g31 takes the return address and the core jumps, the SFC pushing its return stack. -/
  | jal (c : Nat) (off : BitVec 26)
  /-- JALR (R77): rd takes the return address and the core jumps to ra plus an offset. -/
  | jalr (c : Nat) (rd : Nat) (ra : Nat) (imm : BitVec 16)
  /-- RET (R74): The core jumps to g31, the SFC first popping and checking its return stack. -/
  | ret (c : Nat)
  /-- MFCR (R79): rd takes a core control register. -/
  | mfcr (c : Nat) (rd : Nat) (crn : Nat)
  /-- MTCR (R81): A core control register is written within its writable fields. -/
  | mtcr (c : Nat) (crn : Nat) (ra : Nat)
  /-- ERET (R55): The core returns from an exception, restoring the mode and clearing hnd. -/
  | eret (c : Nat)
  /-- FENCE (R51): The core completes once all its earlier accesses are complete and visible. -/
  | fence (c : Nat)
  /-- TRAP (R55): The core raises the TRAP exception. -/
  | trap (c : Nat) (k : BitVec 16)
  /-- SIGCHK (R62): The SFC checks its running signature against a constant, and on a CC core this does nothing. -/
  | sigchk (c : Nat) (k : BitVec 16)
  /-- TMON (R63): The SFC kicks its windowed time monitor. -/
  | tmon (c : Nat)
  /-- STEST (R65): The SFC runs self-test segment n against its OTP reference. -/
  | stest (c : Nat) (n : Nat) (good : Bool)
  /-- RDMT (R80): The rd pair takes all 64 bits of meter time from one instant. -/
  | rdmt (c : Nat) (rd : Nat)
  /-- RDMTL (R80): rd takes the low word of meter time. -/
  | rdmtl (c : Nat) (rd : Nat)
  /-- RDWALL (R80): A pair takes wall seconds, the sub-second count and wall_valid from one instant. -/
  | rdwall (c : Nat) (rd : Nat)
  /-- RDERA (R77): rd takes the era. -/
  | rdera (c : Nat) (rd : Nat)
  /-- WAIT (R53): The core takes the lowest pending line in the mask, or stalls until one becomes pending. -/
  | wait (c : Nat) (rd : Nat) (ra : Nat)
  /-- WAITT (R82): The core waits on a mask until a deadline in meter time. -/
  | waitt (c : Nat) (rd : Nat) (ra : Nat) (rb : Nat)
  /-- POLL (R53): The core takes the lowest pending line in the mask without stalling, or 32. -/
  | poll (c : Nat) (rd : Nat) (ra : Nat)
  /-- SIGNAL (R59): EVT_SIGNAL is set on the other named cores, and EVT_SW on the issuing core if it is named. -/
  | signal (c : Nat) (m : Nat)
  /-- QPUSH (R83): The core appends an entry to a local or remote queue and takes a status. -/
  | qpush (c : Nat) (rd : Nat) (ra : Nat) (rb : Nat)
  /-- QPOP (R83): The core removes the oldest entry of a local queue to memory and takes a status. -/
  | qpop (c : Nat) (rd : Nat) (ra : Nat) (rb : Nat)
  /-- QSTAT (R83): rd takes the state of a local queue. -/
  | qstat (c : Nat) (rd : Nat) (ra : Nat)
  /-- KSUBMIT (R84): The core submits a 64-byte vault command block and takes a ticket, or 0 if refused. -/
  | ksubmit (c : Nat) (rd : Nat) (ra : Nat)
  /-- KPOLL (R84): rd takes the state of a vault ticket, which is released when done or failed. -/
  | kpoll (c : Nat) (rd : Nat) (ra : Nat)
  /-- KRAND (R141): rd takes 32 random bits from the vault's generator, or the core stalls until some are available. -/
  | krand (c : Nat) (rd : Nat)
  /-- KRAND_RESUME (R141): A core stalled in KRAND receives random bits once the noise source has recovered. -/
  | krandResume (c : Nat)
  /-- WAIT_WAKE (R53): A line in the mask of a stalled WAIT or WAITT becomes pending, so the line is cleared and its number returned. -/
  | waitWake (c : Nat)
  /-- WAITT_DEADLINE (R82): Meter time reaches the deadline of a stalled WAITT, which returns 32. -/
  | waittDeadline (c : Nat)
  /-- URGENT_ENTRY (R54): A due urgent line raises URGENT, abandoning abandonable instructions and vectoring to cr_evec + 0x40. -/
  | urgentEntry (c : Nat)
  /-- SFC_TMON_TIMEOUT (R63): No TMON kick arrives by the close of the window, which raises a time-monitor safety fault. -/
  | sfcTmonTimeout
  /-- SFC_TIMEBASE_CHECK (R64): Meter time does not advance while the self-timed counter measures 2 ms, which raises a time-base safety fault. -/
  | sfcTimebaseCheck
  /-- SFC_STEST_PERIOD_END (R65): A self-test period ends, and a fault is raised if not all 16 segments completed. -/
  | sfcStestPeriodEnd
  /-- CPU_WDOG_KICK (R67): A write to CPU_WDOG_KICK with the right key and core number kicks that core's watchdog. -/
  | cpuWdogKick (who : Init) (v : Word)
  /-- CPU_WDOG_EXPIRE (R67): No valid kick arrives within the time-out, so the CC core halts and CPU_WDOG is raised. -/
  | cpuWdogExpire (c : Nat)
  /-- CPU_MBOX_WRITE (R60): A write to CPU_MBOXn appends a word and sets EVT_MBOX, or is dropped when the mailbox is full. -/
  | cpuMboxWrite (who : Init) (n : Nat) (v : Word)
  /-- CPU_MBOX_READ (R60): A read of its own mailbox by core n removes and returns the oldest word. -/
  | cpuMboxRead (who : Init) (n : Nat)
  /-- CPU_START (R87): A write to CPU_START.start starts a halted CC1 to CC3 at CPU_ENTRY at Kernel level. -/
  | cpuStart (who : Init) (v : Word)
  /-- CPU_HALT (R87): A write to CPU_START.halt halts a CC1 to CC3 core and keeps its pending events. -/
  | cpuHalt (who : Init) (v : Word)
  /-- REMOTE_TIMEOUT (R61): A remote-window access gets no reply within 100 µs, so REMOTE is raised. -/
  | remoteTimeout (c : Nat)
  /-- RWIN_REQ (R61): A remote-window access request arrives and is served if remote_in = 1, otherwise refused. -/
  | rwinReq (node : Nat) (store : Bool) (target : Nat) (off : Nat) (size : Nat) (data : Nat)
  /-- RWIN_ANS (R61): The reply to a remote-window access arrives and completes the waiting load or store. -/
  | rwinAns (c : Nat) (refused : Bool) (data : Nat)
  /-- SUPPLY_SELECT (R109): The Nightjar selector switches VNJ to the highest of VBAT, VDD33 and VHARV. -/
  | supplySelect (vdd33 : Nat) (vbat : Nat) (vharv : Nat)
  /-- NJ_POWER_LOST (R111): VNJ falls below 1.8 V and every source is lost, so Wren and the RTC stop. -/
  | njPowerLost
  /-- NJ_RESTART (R111): A source returns after total loss, so Nightjar restarts with wall_valid = 0, sets power_lost and logs SUPPLY code 4. -/
  | njRestart (source : Nat) (torn : Bool) (mv : Nat)
  /-- NJ_FIRST_START (R111): Nightjar starts for the first time after manufacture, copies the seed and writes its initialised mark. -/
  | njFirstStart (source : Nat)
  /-- VBAT_MEASURE (R112): Every 60 s VBAT is measured under load and the low, absent and restored conditions are judged. -/
  | vbatMeasure (mv : Nat)
  /-- RTC_SECOND (R114): Each second the trim deviation is computed and counts are inserted or skipped. -/
  | rtcSecond (temp : Int)
  /-- OSC_STOP (R115): No 32.768 kHz edge arrives for 2 ms, so wall time stops and NJD_OSC_STOP is raised. -/
  | oscStop
  /-- OSC_RESUME (R115): 32.768 kHz edges return, so wall time resumes and TIME code 3 is logged with the stopped duration. -/
  | oscResume (ms : Nat)
  /-- WREN_CYCLE (R117): Each sampling period, Wren samples the tamper sources in its windows. -/
  | wrenCycle (tmp : Nat) (mag : Nat) (lux : Nat) (temp : Nat)
  /-- TAMPER_CLEAR (R119): A write to NJD_TAMPER_CLR clears the latches of sources that are not asserted, and is refused for asserted ones. -/
  | tamperClear (who : Init) (v : Word)
  /-- SEAL_SCAN (R121): Each second the seal window samples the switches and the loop, accepting a change after two agreeing scans. -/
  | sealScan (sw : Nat) (loop : Bool)
  /-- LOG_APP0 (R128): A Kernel write to NJD_LOG_APP0 stages the code and info of a PROGRAM entry. -/
  | logApp0 (who : Init) (v : Word)
  /-- LOG_APP1 (R128): A write to NJD_LOG_APP1 commits a PROGRAM entry and reports the result. -/
  | logApp1 (who : Init) (v : Word)
  /-- GENERATE (R138): The vault generates a new INTERNAL key in an empty slot. -/
  | kvGenerate
  /-- IMPORT_PLAIN (R138): The vault imports a key from a plain buffer. -/
  | kvImportPlain
  /-- IMPORT_WRAPPED (R134): The vault unwraps a KWP blob under an UNWRAP key and creates an IMPORTED key. -/
  | kvImportWrapped
  /-- DERIVE_HKDF (R135): The vault derives a new key by HKDF extract and/or expand. -/
  | kvDeriveHkdf
  /-- AGREE (R138): The vault runs ECDH with a peer point and HKDF-Extract into a new derived secret. -/
  | kvAgree
  /-- TLS12_PRF (R138): The vault derives a new key by the TLS 1.2 PRF. -/
  | kvTls12Prf
  /-- TLS13_KEYS (R138): The vault derives an AEAD write key and IV by HKDF-Expand-Label. -/
  | kvTls13Keys
  /-- SIGN (R141): The vault signs a message or digest with a SIGN key. -/
  | kvSign
  /-- VERIFY (R138): The vault verifies a signature, or fails with KV_AUTH_FAIL. -/
  | kvVerify
  /-- ENCRYPT (R138): The vault encrypts with AES-GCM or AES-CBC. -/
  | kvEncrypt
  /-- DECRYPT (R138): The vault decrypts, writing nothing on a tag mismatch. -/
  | kvDecrypt
  /-- MAC (R138): The vault computes an HMAC or CMAC. -/
  | kvMac
  /-- HASH (R138): The vault computes SHA-256 or SHA-384 of a buffer. -/
  | kvHash
  /-- EXPORT_PUB (R134): The vault returns the public part of an asymmetric key. -/
  | kvExportPub
  /-- EXPORT_WRAPPED (R134): The vault exports a key as a KWP blob under a WRAP key. -/
  | kvExportWrapped
  /-- EXPORT_PLAIN (R134): The vault exports the key material of a PLAIN key and logs ACCESS code 4. -/
  | kvExportPlain
  /-- INVALIDATE (R136): The vault sets a slot INVALID and all its descendants ORPHAN. -/
  | kvInvalidate
  /-- TIGHTEN (R133): The vault clears usage bits of a key and moves its policy toward NEVER. -/
  | kvTighten
  /-- ATTEST (R147): The vault produces a DIK-signed attestation statement for a slot. -/
  | kvAttest
  /-- READ_CERT (R138): The vault returns the factory DIK certificate. -/
  | kvReadCert
  /-- KV_CMD_DONE (R138): A vault command finishes, writing output and out_len, committing any new key, marking the ticket and raising EVT_KV. -/
  | kvCmdDone (good : Bool)
  /-- KV_SWEEP (R137): Every sweep period the vault overwrites INVALID and ORPHAN slots and sets them EMPTY. -/
  | kvSweep (bad : List Nat)
  /-- KV_LC_REQ (R144): A write of a target state and key to KV_LC_REQ stages a lifecycle transition request. -/
  | kvLcReq (who : Init) (v : Word)
  /-- KV_LC_CONFIRM (R144): A confirm write within 1 ms from the same core runs the transition, or refuses it and logs LIFECYCLE code 3. -/
  | kvLcConfirm (who : Init) (v : Word)
  /-- RNG_HEALTH_FAIL (R141): A noise-source health test fails, clearing health_ok and failing random commands. -/
  | rngHealthFail
  /-- RNG_RESTART (R141): 10 ms after a failure the noise source is restarted, up to three times. -/
  | rngRestart (good : Bool)
  /-- KV_SELFTEST_DONE (R150): The start-up known-answer tests complete, setting ready or KV_SELFTEST. -/
  | kvSelftestDone (good : Bool) (noise : Bool)
  /-- TAP_SESSION_OPEN (R146): The TAP controller leaves Test-Logic-Reset, opening a session logged as ACCESS code 1. -/
  | tapSessionOpen
  /-- TAP_DEBUG_HALT (R146): A debug halt of a core through the TAP, where offered, is logged as ACCESS code 2. -/
  | tapDebugHalt (c : Nat)
  /-- TAP_RESET (R98): A reset instruction through the TAP, where offered, runs a reset save and a TAP reset. -/
  | tapReset
  /-- TAP_REFUSED (R146): An instruction that is not offered is decoded as BYPASS, and the first in a session is logged as ACCESS code 3. -/
  | tapRefused
  /-- MANIFEST_ARRIVE (R151): A manifest block unit arrives and is checked for CRC, format, target and set number before its signature is verified. -/
  | manifestArrive
  /-- MANIFEST_VERIFY_DONE (R151): The manifest signature VERIFY completes and the manifest is accepted after the coverage and space checks, or refused. -/
  | manifestVerifyDone
  /-- UPD_BLOCK_ARRIVE (R153): A part block unit arrives, is checked, staged and forwarded to the named Workers, or is dropped. -/
  | updBlockArrive
  /-- PART_DIGEST_DONE (R155): The SHA-384 of a complete part finishes, marking it verified or discarding its blocks. -/
  | partDigestDone (k : Nat)
  /-- BOOT_DIGEST_DONE (R155): The boot digest of a fully verified image is computed, and the Manager may reach STAGED. -/
  | bootDigestDone
  /-- UPD_ACTIVATE (R156): A keyed write to UPD_ACTIVATE in STAGED moves to ACTIVATING and holds while any hold reason applies. -/
  | updActivate (who : Init) (v : Word)
  /-- UPD_ABORT (R158): A keyed write to UPD_ABORT aborts an activation before the flip or discards staging. -/
  | updAbort (who : Init) (v : Word)
  /-- ACTIVATION_RELEASE (R157): The activation hold clears, coverage is checked, the update hold turns on and PREPARE is sent. -/
  | activationRelease (good : Bool) (act : Bool)
  /-- PREPARE (R157): A Worker receives PREPARE, writes its activation record without the activate word and replies PREPARED. -/
  | prepare (good : Bool)
  /-- PREPARED (R157): The Manager receives PREPARED, and when all have arrived it writes its record and flips. -/
  | prepared (good : Bool) (act : Bool)
  /-- COMMIT (R162): A Worker receives COMMIT, writes its activate word, raises counters and replies COMMITTED. -/
  | commit (act : Bool)
  /-- COMMITTED (R157): The Manager receives COMMITTED and resets that Worker with kind FAB, resetting itself once all have committed. -/
  | committed
  /-- DISCARD (R158): A Worker receives DISCARD and invalidates its prepared record. -/
  | discard
  /-- PART_OK (R155): The Manager receives PART_OK from a Worker for its verified parts. -/
  | partOk
  /-- PART_BAD (R155): The Manager receives PART_BAD and the part's blocks are sent again. -/
  | partBad
  /-- IMAGE_BAD (R154): The Manager receives IMAGE_BAD and the manifest enters FAILED. -/
  | imageBad
  /-- PREPARE_TIMEOUT (R157): Not all PREPARED arrive within 200 ms, so the activation aborts with UPD_PREPARE_TIMEOUT. -/
  | prepareTimeout
  /-- COMMIT_TIMEOUT (R160): A Worker has not replied COMMITTED within 200 ms and stays listed as awaiting commit. -/
  | commitTimeout
  /-- REG_READ (R176): A host REG_READ frame reads consecutive registers and returns status, units, VALID and CRC. -/
  | regRead (f : HostFrame) (ready : Nat)
  /-- REG_WRITE (R178): A host REG_WRITE frame is CRC-checked and placed in a write buffer, or ignored as busy. -/
  | regWrite (f : HostFrame)
  /-- WRITE_BUFFER_APPLY (R178): The words of a buffered host write frame are applied in order, each under R5 and the host rules. -/
  | writeBufferApply (n : Nat)
  /-- STR_READ (R182): A host STR_READ frame optionally commits earlier units and delivers buffered outbound stream data. -/
  | strRead (f : HostFrame)
  /-- STR_WRITE (R183): A host STR_WRITE frame appends bits to an inbound stream buffer, or is ignored whole as busy. -/
  | strWrite (f : HostFrame)
  /-- STATUS (R174): A host STATUS frame returns the status header, VALID and CRC. -/
  | status (f : HostFrame)
  /-- SELECT_RELEASE (R184): HSP_CS_N rises before a frame's natural end, discarding incomplete parts and flagging trunc. -/
  | selectRelease (f : HostFrame) (cut : HostCut)
  /-- HOST_ALIVE_TIMEOUT (R186): No frame is accepted for alive_to, so host_alive clears, HSP_HOST_LOST is raised and the alive sequence restarts. -/
  | hostAliveTimeout
  /-- OSTR_FILL (R182): While enabled, an outbound stream removes whole entries from its queue into its buffer as they fit. -/
  | ostrFill (n : Nat)
  /-- ISTR_PUSH (R183): An inbound stream pushes each complete entry to its bound queue once the queue has room. -/
  | istrPush (n : Nat)
  /-- HSP_ATTN_SET (R185): A core write to HSP_ATTN_SET sets program attention causes. -/
  | hspAttnSet (who : Init) (v : Word)
  /-- QE_TABLE_ENABLE (R192): Setting QE_TABLE_CFG.en starts zero-filling the queue table, with queue operations paused. -/
  | qeTableEnable (who : Init) (v : Word)
  /-- TABLE_ZERO_FILL_DONE (R192): The queue-table zero-fill completes and table_busy clears. -/
  | tableZeroFillDone
  /-- QE_LOAD (R192): QE_DESC_CMD LOAD copies the current descriptor of the selected queue into the DESC registers. -/
  | qeLoad (who : Init)
  /-- QE_APPLY (R203): QE_DESC_CMD APPLY writes the staged descriptor fields, refusing invalid fields or regions. -/
  | qeApply (who : Init)
  /-- QE_ENABLE (R192): QE_DESC_CMD ENABLE enables the selected queue. -/
  | qeEnable (who : Init)
  /-- QE_DISABLE (R201): QE_DESC_CMD DISABLE disables the queue and rolls back any open reservation. -/
  | qeDisable (who : Init)
  /-- QE_RESET (R192): QE_DESC_CMD RESET sets the counts of a disabled queue to 0. -/
  | qeReset (who : Init)
  /-- QE_PIN (R205): QE_DESC_CMD PIN pins a descriptor in the cache, up to 64. -/
  | qePin (who : Init)
  /-- QE_UNPIN (R205): QE_DESC_CMD UNPIN releases a pinned descriptor. -/
  | qeUnpin (who : Init)
  /-- PRODUCER_DOORBELL (R197): A write to QE_DB_PROD publishes n entries of a direct-producer queue, or is refused. -/
  | producerDoorbell (who : Init) (v : Word)
  /-- CONSUMER_DOORBELL (R197): A write to QE_DB_CONS consumes n held entries, or is refused. -/
  | consumerDoorbell (who : Init) (v : Word)
  /-- QE_EVT_READ (R202): A core read of QE_EVT removes and returns the oldest notified queue number. -/
  | qeEvtRead (who : Init)
  /-- RESV_TIMEOUT (R201): No byte of a fabric message arrives for resv_to, so its reservation is rolled back. -/
  | resvTimeout (q : Nat)
  /-- FULL_RETRY (R199): 200 µs after a FULL or BUSY answer the sender sends the message again, up to full_retries times. -/
  | fullRetry (seq : Nat)
  /-- ACK_TIMEOUT (R199): No answer arrives within ack_to after link retransmissions, so the outcome is NO_ACK and is reported. -/
  | ackTimeout (seq : Nat)
  /-- COPY_GO (R207): A Kernel write of go starts a copy channel in memory or message mode. -/
  | copyGo (who : Init) (n : Nat) (v : Word)
  /-- COPY_ABORT (R207): A write of abort ends a copy channel at the next 32-byte boundary and rolls back its message. -/
  | copyAbort (who : Init) (n : Nat) (v : Word)
  /-- COPY_DONE (R207): A copy channel completes or ends with error, updating its status and optionally raising EVT_QE. -/
  | copyDone (n : Nat)
  /-- XMP_CTRL_WRITE (R213): A write to XMP_CTRL enables or disables the memory port, which is refused while it is unlocked or in use. -/
  | xmpCtrlWrite (who : Init) (v : Word)
  /-- XMP_COMMAND (R212): A write of XMP_CMD.go sends one xSPI transaction to a chip select. -/
  | xmpCommand (who : Init) (v : Word)
  /-- XMP_CMD_DONE (R212): A command-engine transaction completes or ends with XMP_CMD_ERR. -/
  | xmpCmdDone (good : Bool) (data : List Byte) (cells : List (Nat×Byte))
  /-- XMP_TIMEOUT (R209): No XMP_DQS edge arrives within 16 clocks after the dummy clocks, so the transaction ends with XMP_TIMEOUT. -/
  | xmpTimeout (user : XmpUser)
  /-- POSTED_STORE_DRAIN (R211): A posted window store's burst completes, or fails and is counted as XMP_POST_LOST. -/
  | postedStoreDrain (good : Bool)
  /-- PRESENT_ASSERT (R218): PRESENT_N has been low for 10 ms on a Worker, so its ports may train. -/
  | presentAssert
  /-- TRAIN_ALIGNED (R220): 16 consecutive TRAIN symbols are decoded at one offset, so the port sends train word pairs. -/
  | trainAligned (p : Nat)
  /-- TRAIN_WORDS_EXCHANGED (R220): 8 valid word pairs are received and sent, so the port sends TRAIN_ACK, or waits when the link kind is not allowed. -/
  | trainWordsExchanged (p : Nat) (role : Nat) (rate : Nat) (peerAllows : Bool)
  /-- TRAIN_ACKED (R220): 8 TRAIN_ACK are received and sent, so the port switches to the link rate. -/
  | trainAcked (p : Nat)
  /-- LINK_UP (R220): 16 TRAIN symbols arrive at the link rate, so credits are sent and the port is UP. -/
  | linkUp (p : Nat)
  /-- TRAIN_STEP_TIMEOUT (R220): A training step exceeds its bound, so the port returns to an earlier step or drops to the next lower rate. -/
  | trainStepTimeout (p : Nat)
  /-- TRAIN_RETRY (R220): 1 s after stalling on a disallowed link kind, the port restarts training from step 1. -/
  | trainRetry (p : Nat)
  /-- DISCONNECT (R218): An UP receiver sees no transition for its disconnect time and takes the link down. -/
  | disconnect (p : Nat)
  /-- RETRAIN (R221): A write of retrain takes the port DOWN and restarts training. -/
  | retrain (who : Init) (n : Nat) (v : Word)
  /-- CREDIT_UPDATE (R222): A CRED_B or CRED_S symbol and its count arrive, updating the sender's credit for that lane. -/
  | creditUpdate (p : Nat) (laneS : Bool) (n : Nat)
  /-- CREDIT_REFRESH (R222): The receiver resends its cumulative credit counts at least every 10 µs. -/
  | creditRefresh (p : Nat)
  /-- FRAME_SEND (R222): A waiting frame starts on a port once that port holds its credit units, lane S first. -/
  | frameSend (p : Nat)
  /-- FRAME_FORWARD (R229): An arriving frame not for this node is source-routed, route-inserted or table-routed on, or dropped. -/
  | frameForward (p : Nat) (f : Frame)
  /-- MSG (R228): A MSG frame segment arrives for a local queue, reserving on the first segment and publishing on the last. -/
  | msg (p : Nat) (f : Frame)
  /-- ANS (R233): An ANS frame with a message's outcome arrives, ending its retransmissions and setting the delivery outcome. -/
  | ans (p : Nat) (f : Frame)
  /-- RTX_TIMEOUT (R233): No ANS arrives within rtx_to, so the origin retransmits with rtx set, alternating routes. -/
  | rtxTimeout (seq : Nat)
  /-- HELLO_SEND (R235): A Manager sends HELLO on each UP site port every hello_period. -/
  | helloSend
  /-- HELLO (R235): A HELLO arrives and the neighbour is stored in STF_PORTn_NBR. -/
  | hello (p : Nat) (f : Frame)
  /-- NEIGHBOUR_AGE (R235): A neighbour entry is cleared after age periods without HELLO. -/
  | neighbourAge (p : Nat)
  /-- STF_REQUEST (R236): A program entry in queue 0x000A sends a PROBE or ASSIGN_POST along its route. -/
  | stfRequest
  /-- PROBE (R236): A PROBE reaching the end of its route is answered with PROBE_ANS along the path back. -/
  | probe (p : Nat) (f : Frame)
  /-- PROBE_ANS (R236): A PROBE_ANS arrives and its result is written to queue 0x0009. -/
  | probeAns (p : Nat) (f : Frame)
  /-- PROBE_TIMEOUT (R236): No answer to a PROBE or ASSIGN_POST arrives in 2 ms, so no answer is reported. -/
  | probeTimeout
  /-- ASSIGN_POST (R236): A Manager accepts an ASSIGN_POST for its serial while unnumbered, taking the post number. -/
  | assignPost (p : Nat) (f : Frame)
  /-- POST_WRITE (R225): A write to STF_NODE.post sets the post number once while it is 0, or is refused. -/
  | postWrite (who : Init) (v : Word)
  /-- SWEEP_START (R237): A Manager starts a roll-call sweep of its post tree at the moments R237 sets. -/
  | sweepStart
  /-- SWEEP_NOW (R237): A write of sweep_now starts a sweep. -/
  | sweepNow (who : Init) (v : Word)
  /-- ROLL (R237): A Worker receives ROLL at the end of its route and answers ROLL_ANS. -/
  | roll (p : Nat) (f : Frame)
  /-- ROLL_ANS (R238): A ROLL_ANS arrives during a sweep, recording the Worker and choosing its member number. -/
  | rollAns (p : Nat) (f : Frame)
  /-- ROLL_TIMEOUT (R237): No ROLL_ANS arrives in 2 ms and the sweep continues with the next route. -/
  | rollTimeout
  /-- ASSIGN_MEMBER (R238): A Worker accepts ASSIGN_MEMBER from an allowed owner and takes its node ID and reverse route. -/
  | assignMember (p : Nat) (f : Frame)
  /-- ADMISSION (R240): Once all admission checks hold, the Manager admits the Worker, counts its rating and sends ADMIT. -/
  | admission (m : Nat)
  /-- ADMIT_TIMEOUT (R240): The admission checks are not all met within 300 ms, so STF_ADMIT_FAIL is raised. -/
  | admitTimeout (m : Nat)
  /-- STF_CMD_ADMIT (R240): A program write of STF_CMD code ADMIT permits admission of a member under admit_gate. -/
  | stfCmdAdmit (who : Init) (v : Word)
  /-- STF_CMD_EXPEL (R243): A program write of STF_CMD code EXPEL sends EXPEL to a member. -/
  | stfCmdExpel (who : Init) (v : Word)
  /-- STF_CMD_RESET (R241): A keyed STF_CMD write of code RESET sends a FAB reset command to a member. -/
  | stfCmdReset (who : Init) (v : Word)
  /-- STF_CMD_RELEASE (R356): A program write of STF_CMD code RELEASE sends RELEASE to a member. -/
  | stfCmdRelease (who : Init) (v : Word)
  /-- ADMIT (R240): A Worker receives ADMIT from its owner, sets admitted and releases its gates with setpoint 0. -/
  | admitMsg
  /-- EXPEL (R351): A Worker receives EXPEL, stops in a controlled way, opens its card contactors and becomes HELD. -/
  | expel
  /-- FAB_RESET (R98): A Worker receives the RESET command and runs a reset save and a FAB reset. -/
  | fabReset
  /-- STOP_DUSK (R102): A Worker receives STOP_DUSK and stops its gates in a controlled way. -/
  | stopDusk
  /-- RELEASE (R356): A Worker receives RELEASE from its owner and leaves SS_LOCK for IDLE. -/
  | release
  /-- RT_CLEAR (R229): A write of rt_clear invalidates all routing-table entries and the default. -/
  | rtClear (who : Init) (v : Word)
  /-- HEARTBEAT_SEND (R241): Every 10 ms an assigned Worker sends a heartbeat to its Manager. -/
  | heartbeatSend
  /-- HEARTBEAT (R241): The Manager registers a heartbeat from a member on arrival. -/
  | heartbeat (p : Nat) (f : Frame)
  /-- SETPOINT_SEND (R241): Every 10 ms the Manager sends each member's latest setpoint. -/
  | setpointSend
  /-- SETPOINT_WRITE (R241): A program entry in queue 0x000D updates a member's setpoint and sends it at once. -/
  | setpointWrite
  /-- SETPOINT (R362): A Worker's PWR block consumes a setpoint entry and copies it into PWR_SP_*. -/
  | setpoint
  /-- FAULT_REPORT (R243): The Manager receives a Worker fault report, and one of severity withdraw declares the member lost. -/
  | faultReport (p : Nat) (f : Frame)
  /-- HEARTBEAT_SILENCE (R243): No heartbeat arrives for 30 ms, so the Manager declares the member lost by silence. -/
  | heartbeatSilence (m : Nat)
  /-- LEAVING (R243): A LEAVING frame arrives and the Manager declares the member lost by removal. -/
  | leaving (p : Nat) (f : Frame)
  /-- REMOVAL (R242): PRESENT_N stays high for 1 µs, so the Worker stops its gates, opens its contactors, sends LEAVING and takes its ports down. -/
  | removal
  /-- MANAGER_SILENT (R23): A Worker hears no valid Manager message for 30 ms and makes a controlled stop with its contactors open. -/
  | managerSilent
  /-- MANAGER_FORGET (R239): A Worker hears no valid Manager frame for forget and drops its assignment and owner. -/
  | managerForget
  /-- PILOT_PERIOD (R248): A 25,000-tick pilot period boundary applies the stored duty and starts the next period. -/
  | pilotPeriod
  /-- PILOT_RELEASE (R249): A write of VEH_CTRL.release clears the timer force cause. -/
  | pilotRelease (who : Init) (v : Word)
  /-- CP_SAMPLE (R251): A control-pilot plateau sample is taken and classified into a state band. -/
  | cpSample (high : Bool) (uv : Nat)
  /-- CP_INVALID_TIMEOUT (R253): Every high-plateau sample for inv_ms is invalid, so VEH_CP_INVALID is raised. -/
  | cpInvalidTimeout
  /-- PP_SAMPLE (R254): Every 1 ms PP_SENSE is converted and, after five agreeing samples, a proximity code is accepted. -/
  | ppSample (code : Nat)
  /-- ASM_TRANSACTION (R257): The ASM takes the next queued transaction once the result queue has room and runs it on the wire. -/
  | asmTransaction
  /-- ASM_TRANSACTION_DONE (R257): An ASM transaction completes and its result message is published. -/
  | asmTransactionDone (rd : List Byte)
  /-- ASM_INTERRUPT (R258): ASM_INT_N goes low with int_en set, setting asm_int and running the template transaction next. -/
  | asmInterrupt (low : Bool)
  /-- ASM_DISABLE (R256): Clearing VEH_ASM_CTRL.en ends the current transaction with status 1. -/
  | asmDisable (who : Init) (v : Word)
  /-- VEH_TMR_START (R259): A write of start loads a sequence timer and starts it. -/
  | vehTmrStart (who : Init) (n : Nat) (v : Word)
  /-- VEH_TMR_STOP (R259): A write of stop stops a sequence timer without expiry. -/
  | vehTmrStop (who : Init) (n : Nat) (v : Word)
  /-- VEH_TMR_EXPIRE (R259): A sequence timer expires, setting its event and activating its force action. -/
  | vehTmrExpire (n : Nat)
  /-- SLAC_WRITE (R259): A write to VEH_SLAC that changes the state to MATCHED or FAILED sets the slac event. -/
  | slacWrite (who : Init) (v : Word)
  /-- RBN_MODE_WRITE (R265): A write to RBN_CTRL.mode selects IDLE, DETECT or READER, turning the field on or off, or is refused. -/
  | rbnModeWrite (who : Init) (v : Word) (ext : Nat) (cur : Nat)
  /-- EXT_FIELD_RECHECK (R266): Every 10 ms the external field is checked again, and the field turns on once it has been below the threshold for 10 ms. -/
  | extFieldRecheck (ext : Nat) (cur : Nat)
  /-- GUARD_END (R265): The reader guard time ends, so waiting transactions may run. -/
  | guardEnd
  /-- READER_TRANSACTION (R267): Robin takes the next reader transaction and sends its frame. -/
  | readerTransaction
  /-- READER_TRANSACTION_DONE (R267): An answer is received or the timeout ends, and the result message is written. -/
  | readerTransactionDone (status : Nat) (lastBits : Nat) (coll : Nat) (rx : List Byte)
  /-- DETECT_PING (R269): In DETECT mode an 8 µs ping is sent every period and judged against the reference. -/
  | detectPing (ext : Nat) (spoilt : Bool) (amp : Nat) (phase : Nat) (cur : Nat)
  /-- DETECT_CALIBRATE (R270): A write of calibrate averages 16 pings into the reference. -/
  | detectCalibrate (who : Init) (v : Word) (amp : Nat) (phase : Nat)
  /-- FIELD_APPEAR (R271): An external field appears and the tag engine renews its UID and becomes ready for activation. -/
  | fieldAppear (uid : Nat) (h : Nat)
  /-- TAG_ACTIVATION (R271): A reader activates the tag engine as an ISO/IEC 14443-4 type A card. -/
  | tagActivation
  /-- FIELD_LOST (R271): The carrier is absent for 50 µs, so the tag session ends and field locks release. -/
  | fieldLost
  /-- DESELECT (R274): An S(DESELECT) ends the tag session and releases field locks and deferred writes. -/
  | deselect
  /-- SELECT_BY_NAME (R272): SELECT by name selects the NDEF or readout application, or answers 6A82. -/
  | selectByName (aid : List Byte)
  /-- SELECT_FILE (R279): SELECT by file identifier selects a file, fixing the save candidate for the energy file. -/
  | selectFile (fid : Nat)
  /-- READ_BINARY (R273): READ BINARY returns file bytes, truncated at the end with 6282. -/
  | readBinary (p1 : Nat) (p2 : Nat) (le : Nat) (wtx : Nat) (nvErr : Bool)
  /-- READ_BINARY_ODD (R273): READ BINARY odd instruction reads at offsets above 32,767. -/
  | readBinaryOdd (off : Nat) (le : Nat) (wtx : Nat) (nvErr : Bool)
  /-- UPDATE_BINARY (R273): UPDATE BINARY writes to the NDEF file when allowed, taking field locks. -/
  | updateBinary (p1 : Nat) (p2 : Nat) (data : List Byte) (wtx : Nat)
  /-- TAG_WRITE (R276): A wire WRITE to tag memory applies at once, or is deferred while the field holds the page. -/
  | tagWrite
  /-- TAG_READ (R275): A wire READ of tag memory is served at once. -/
  | tagRead
  /-- TAG_LOCK (R277): A wire LOCK takes wire locks on free pages, answering DONE or BUSY. -/
  | tagLock
  /-- TAG_UNLOCK (R277): A wire UNLOCK ends wire locks. -/
  | tagUnlock
  /-- WIRE_LOCK_EXPIRE (R277): A wire lock ends after lock_ms. -/
  | wireLockExpire (page : Nat)
  /-- HARVEST_ON (R280): VHARV has stayed at or above 3.3 V for 1 ms, so VHARV_OUT switches on. -/
  | harvestOn (mv : Nat)
  /-- HARVEST_OFF (R280): VHARV falls below 3.1 V, so VHARV_OUT switches off. -/
  | harvestOff (mv : Nat)
  /-- HARVEST_OVERLOAD (R280): A load held at the current limit for 1 ms switches VHARV_OUT off for 100 ms. -/
  | harvestOverload
  /-- HARVEST_OVL_END (R280): The 100 ms overload off-time ends. -/
  | harvestOvlEnd
  /-- TRIP (R293): A source passes its deglitch, forcing its mapped groups off and latching them in LOCKED_ACTIVE. -/
  | trip (n : Nat)
  /-- SOURCE_DEASSERT (R293): A source deasserts, moving groups with no asserted cause to LOCKED_CLEAR. -/
  | sourceDeassert (n : Nat)
  /-- SAF_REL_REQ (R296): A keyed write to SAF_REL_REQ stages a LOCK_CMD release of a group mask. -/
  | safRelReq (who : Init) (v : Word)
  /-- SAF_REL_CONFIRM (R295): A confirm write within 1 ms releases eligible groups and refuses the others. -/
  | safRelConfirm (who : Init) (v : Word)
  /-- SAFE_RESET_RISE (R296): An accepted rising edge of SAFE_RESET is judged for idle time and quiet causes. -/
  | safeResetRise
  /-- SAFE_RESET_FALL (R296): An accepted falling edge ends a pulse and releases eligible LOCK_EDGE groups. -/
  | safeResetFall
  /-- RESET_JAM (R296): SAFE_RESET is held high beyond 2 s, so jam is set and SAF_RESET_JAM is raised. -/
  | resetJam
  /-- OUTPUT_STUCK (R291): An output readback mismatches for over 200 ns, so its stuck bit is set and source 55 asserts. -/
  | outputStuck (n : Nat) (present : Bool)
  /-- VCORE_LOW_HOLD (R292): VCORE stays below 0.50 V for 200 ns, so the hold circuit forces every output low. -/
  | vcoreLowHold
  /-- VCORE_HOLD_RELEASE (R292): VCORE has been above 0.52 V for 10 µs, so source 56 asserts, all groups lock and the hold releases. -/
  | vcoreHoldRelease
  /-- THERMAL_SAMPLE (R297): Every 10 ms each thermal channel is sampled and its warning and trip pairs and sensor checks are judged. -/
  | thermalSample (n : Nat) (code : Nat) (temp : Int)
  /-- COMMIT_DONE (R300): A sealed-set commit completes, applying the staged SAF values, or fails with SAF_PARAM_NV. -/
  | commitDone (good : Bool)
  /-- RELOAD (R300): SAF_PARAM_CMD op RELOAD discards the staged values. -/
  | reload (who : Init) (v : Word)
  /-- SAF_TEST (R302): A keyed write to SAF_TEST injects a source at its input stage while its groups are off. -/
  | safTest (who : Init) (v : Word)
  /-- TEST_INJECTION_DONE (R302): A test injection ends and its result is written, with SAF_TEST_FAIL on failure. -/
  | testInjectionDone (seen : Nat) (lat : Nat)
  /-- DAC_READBACK (R302): Every 100 ms each comparator level DAC is read back, and a deviation asserts its source. -/
  | dacReadback (c : Nat) (rb : Nat)
  /-- SFC_TRIP_WRITE (R284): An SFC write to SAF_SFC_TRIP asserts or deasserts SFC trip lines. -/
  | sfcTripWrite (who : Init) (v : Word)
  /-- RDC_UPDATE (R309): Every 10 ms the residual-current values update and source 32 is judged. -/
  | rdcUpdate (dc100 : Int) (dc20 : Int) (ac : Nat)
  /-- FG_HALF_CYCLE (R311): Each excitation half-cycle is checked for saturation and excitation current. -/
  | fgHalfCycle (sat : Bool) (peak : Nat) (inWindow : Bool)
  /-- FG_TEST (R312): EFM_CMD op FG_TEST drives the test winding for 300 ms and checks the residual channel. -/
  | fgTest (who : Init) (v : Word)
  /-- FG_TEST_END (R312): A fluxgate test ends with pass or fail and its result is written. -/
  | fgTestEnd (compared : Bool)
  /-- FG_TEST_BLANK_END (R312): 200 ms after a fluxgate test, a trip row that still holds latches source 32. -/
  | fgTestBlankEnd
  /-- RCD_AUX_SAMPLE (R314): Every 10 ms RCD_AUX is sampled and source 33 causes are judged. -/
  | rcdAuxSample (closed : Bool)
  /-- RCD_TEST (R315): EFM_CMD op RCD_TEST drives the external device's test input. -/
  | rcdTest (who : Init) (v : Word)
  /-- RCD_TEST_END (R315): RCD_AUX is accepted open or 300 ms passes, ending the RCD test. -/
  | rcdTestEnd
  /-- INS_HALF_PERIOD (R316): Each injection half-period gives an insulation reading and the warning and source 34 are judged. -/
  | insHalfPeriod (v : Nat) (w : Nat)
  /-- INS_STALE (R319): No valid insulation reading for ins_stale with a contactor on raises EFM_INS_STALE and asserts source 35. -/
  | insStale
  /-- EFM_CTRL_WRITE (R321): A write to the EFM enables sets or clears monitors, or is refused. -/
  | efmCtrlWrite (who : Init) (v : Word)
  /-- EFM_SETTINGS_WRITE (R322): An RWS EFM write updates the settings record with read-back, or is refused. -/
  | efmSettingsWrite (who : Init) (a : Nat) (v : Word) (good : Bool)
  /-- ENVELOPE_SEND (R330): Every period a producer entry sends its envelope, twice in twin mode, and increments seq. -/
  | envelopeSend (c : Nat)
  /-- ENVELOPE (R333): A consumer judges an arriving envelope: check error, stale, accept or sequence fault. -/
  | envelope (c : Nat)
  /-- TWIN_SKEW_TIMEOUT (R335): The second twin copy does not arrive within skew, so the consumer enters SAFE with TWIN_MISSING. -/
  | twinSkewTimeout (c : Nat)
  /-- CONNECTION_TIMEOUT (R334): A RUN consumer has no acceptance for window, so it enters SAFE with TIMEOUT. -/
  | connectionTimeout (c : Nat)
  /-- PAYLOAD_COMMIT (R331): An SFC write to SAF_SC_TX3 commits four payload words for the selected producer. -/
  | payloadCommit (who : Init) (v : Word)
  /-- SAF_SC_CMD (R339): A keyed SAF_SC_CMD REARM moves a SAFE consumer to REARM. -/
  | safScCmd (who : Init) (v : Word)
  /-- PWM_PERIOD_BOUNDARY (R345): A PWM period boundary applies pending loads, advances the soft-start ceiling and judges soft-start progress. -/
  | pwmPeriodBoundary
  /-- PWM_LOAD (R347): A write of PWR_RUN.load marks staged timing pending, or is refused. -/
  | pwmLoad (who : Init) (v : Word)
  /-- GO (R350): A write of go = 1 starts the power stage in SOFTSTART or RUN, or is refused. -/
  | go (who : Init) (v : Word)
  /-- STOP (R351): A write of go = 0 starts a controlled stop. -/
  | stop (who : Init) (v : Word)
  /-- CURRENT_LIMIT (R348): A limit comparator asserts after blanking and ends the guarded gate at once. -/
  | currentLimit (n : Nat) (high : Bool) (pos : Nat)
  /-- ADC_TRIGGER (R349): A sample-unit trigger fires and converts its masked inputs, or is skipped as overrun. -/
  | adcTrigger (t : Nat)
  /-- ADC_SEQUENCE_DONE (R349): A conversion sequence completes and all its results are written together. -/
  | adcSequenceDone (codes : List Nat)
  /-- BACKOFF_END (R355): The backoff time ends and SOFTSTART restarts with the ceiling at 0. -/
  | backoffEnd
  /-- SS_RELEASE (R356): A keyed write to PWR_SS_RETRY.release releases SS_LOCK to IDLE. -/
  | ssRelease (who : Init) (v : Word)
  /-- CTR_CLOSE (R357): PWR_CTR_CMD close commands a contactor closed, or refuses it. -/
  | ctrClose (who : Init) (v : Word)
  /-- CTR_OPEN (R357): PWR_CTR_CMD open commands a contactor open. -/
  | ctrOpen (who : Init) (v : Word)
  /-- CTR_FB_SAMPLE (R358): Feedback is sampled every 1 ms and accepted after 3 equal samples, confirming CLOSED or OPEN or revealing faults. -/
  | ctrFbSample (n : Nat) (level : Bool)
  /-- CTR_CLOSE_TIMEOUT (R359): A close is not confirmed within fb_close, so PWR_CTR_FB is raised and the contactor opened. -/
  | ctrCloseTimeout (n : Nat)
  /-- WELD_WINDOW_END (R360): The weld window after an open ends and a weld is judged by feedback or voltage. -/
  | weldWindowEnd (n : Nat)
  /-- WELD_RECHECK (R360): Every 100 ms a WELDED contactor is checked again, returning to OPEN after two failed checks. -/
  | weldRecheck (n : Nat)
  /-- CTR_VOLTAGE_SAMPLE (R361): Every 100 µs contactor voltages are converted for close and precharge checks. -/
  | ctrVoltageSample (codes : List Nat)
  /-- PRECHARGE_START (R361): pc_start closes the precharge contactor and starts a precharge. -/
  | prechargeStart (who : Init) (v : Word)
  /-- PRECHARGE_TIMEOUT (R361): No voltage match within pc_tmax fails the precharge, opening both contactors. -/
  | prechargeTimeout
  /-- PRECHARGE_OVERLAP_END (R361): After pc_overlap the precharge contactor opens with its weld check. -/
  | prechargeOverlapEnd
  /-- PRECHARGE_ABORT (R361): pc_abort ends a precharge as failed and opens both contactors. -/
  | prechargeAbort (who : Init) (v : Word)
  /-- MTR_SAMPLE (R368): Every 3,125 ticks each enabled channel yields a calibrated sample and clips are judged. -/
  | mtrSample (u : List Int) (dc : List Int) (v90 : List Int) (bad : Nat)
  /-- ACCUMULATION_STEP (R463): At each 25,000-tick boundary the sets accumulate and the billing, demand and prepayment work of the boundary is done. -/
  | accumulationStep
  /-- MTR_SECOND (R370): Each second the element means, effective calibration and temperature update. -/
  | mtrSecond (temp : Int) (mhz : Nat)
  /-- MTR_CTRL_WRITE (R368): A write to MTR_CTRL enables channels or sets, or is refused, logging METRO code 2 on set changes. -/
  | mtrCtrlWrite (who : Init) (v : Word) (good : Bool)
  /-- MTR_USER_WRITE (R372): An RWS MTR write updates the user-layer copy with read-back and logs METRO code 1, or is refused. -/
  | mtrUserWrite (who : Init) (a : Nat) (v : Word) (good : Bool)
  /-- CLEAR (R376): A keyed MTR_CMD op CLEAR zeroes the accumulators of the named sets when allowed. -/
  | clear (who : Init) (v : Word)
  /-- PULSE_EMIT (R378): A pending energy pulse is emitted on MTR_PULSE once the previous pulse and low time end. -/
  | pulseEmit
  /-- MTR_SNAP (R379): A write of MTR_SNAP.take copies all accumulators into the writer's snapshot bank. -/
  | mtrSnap (who : Init) (v : Word)
  /-- MTR_CAP_TRIG (R382): A capture trigger starts a one-shot capture with its pre-trigger history. -/
  | mtrCapTrig (who : Init) (v : Word)
  /-- CAPTURE_RESUME (R382): A capture queue entry frees after drops, so the unit writes a resume header and continues. -/
  | captureResume (u : Nat)
  /-- SESSION_OPEN (R393): BIL_SES_CMD op OPEN opens a session at the next step boundary, or is refused. -/
  | sessionOpen (who : Init) (v : Word)
  /-- SESSION_CLOSE (R393): BIL_SES_CMD op CLOSE with a program reason closes the session at the next step boundary. -/
  | sessionClose (who : Init) (v : Word)
  /-- SESSION_AMOUNT (R395): BIL_SES_CMD op AMOUNT completes a closed session record with the staged amount. -/
  | sessionAmount (who : Init) (v : Word)
  /-- SESSION_CLOSING_TIMEOUT (R394): 1 s after a device closure cause, a CLOSING session closes. -/
  | sessionClosingTimeout
  /-- AMOUNT_TIMEOUT (R395): amount_to passes without an amount, so the record is completed with the absent amount. -/
  | amountTimeout (slot : Nat)
  /-- RECORD_SIGNED (R397): The SIGN of a closed record completes or fails, and the record becomes SIGNED or stays unsigned. -/
  | recordSigned (slot : Nat)
  /-- SIGN_RETRY (R397): Every 10 s an unsigned record is submitted for signing again. -/
  | signRetry (slot : Nat)
  /-- RECORD_PUBLISH (R399): A signed record is appended to queue 0x0038 once it has room. -/
  | recordPublish
  /-- BIL_MD_CMD (R403): A keyed BIL_MD_CMD resets the named demand registers. -/
  | bilMdCmd (who : Init) (v : Word)
  /-- TOPUP (R406): A write of BIL_PP_TOPUP_SEQ adds a top-up to the credit, or is refused. -/
  | topup (who : Init) (v : Word)
  /-- PP_FB_TIMEOUT (R405): The disconnecting contactor does not read open within 100 ms, so BIL_PP_FB is raised. -/
  | ppFbTimeout
  /-- VANA_LOW (R430): VANA stays below 2.95 V for 10 µs, so vana_ok clears and SYS_VANA_LOW is raised. -/
  | vanaLow
  /-- VANA_OK (R430): VANA stays above 3.05 V for 1 ms, so vana_ok is set again. -/
  | vanaOk
  /-- BUCK_LIMIT (R431): The buck stays at its peak current limit for 100 µs, raising SYS_BUCK_LIMIT. -/
  | buckLimit
  /-- LIFE_MINUTE (R442): Each minute of meter time the highest TH0 reading bins the minute into the life counters. -/
  | lifeMinute
  /-- LIFE_STORE (R449): Every 60 powered minutes the life counters are stored and the profile and MRAM rate checks run. -/
  | lifeStore
  /-- PARAM_COMMIT (R300): A keyed write of SAF_PARAM_CMD with op COMMIT is judged, and if accepted starts writing the older sealed copy with every output held off and commit_busy set. -/
  | paramCommit (who : Init) (v : Word)
  /-- SYMBOL_ERROR (R221): A Starling receiver decodes a symbol with wrong parity or an undefined code, which ends a frame in progress and counts toward the 4 errors in 1 ms that take the link DOWN. -/
  | symbolError (p : Nat) (laneS : Bool) (units : Nat)
  /-- TRAIN_FAIL (R220): A port that sees the peer's TRAIN is not UP within 20 ms, so STF_TRAIN_FAIL is raised while training continues. -/
  | trainFail (p : Nat)
  /-- ICG_LOCK_LOST (R321): An enabled interface clock generator loses lock while the crystal runs, so locked clears and EFM_CLK or MTR_CLK is raised with source 35 asserted. -/
  | icgLockLost (n : Nat)
  /-- TAP_SESSION_END (R146): The TAP controller returns to Test-Logic-Reset, ending the session, so KV_TAP.session clears and the next session is logged afresh with its own first refusal. -/
  | tapSessionEnd
deriving DecidableEq, Repr

end Sys2Proof
end

