-- ==== Sys2Proof/Decode.lean ====
section
/-! DEFINITION. Words that spell commands. Every row of spec/opcode_table.json has an empty list of bits: no word spells a command of this
block. (The instruction words of its cores carry fields in R73 to R85, but a row of the table names the core and the operands.) -/

namespace Sys2Proof

/-- The command a word spells by the table's bits: none, since the table gives no row bits. -/
def decodeTableWord (_nbits _w : Nat) : Option Instr := none

end Sys2Proof
end

