-- ==== Sys2Proof/Config.lean ====
section
/-! DEFINITION. What one implementation fixes and the spec does not: uninterpreted constants. No definition has a body, so no proof can
use a value of it. The cryptographic functions are those of the standards the spec names (FIPS 180-4, FIPS 197, FIPS 186-5, SP 800-56A,
RFC 8032, RFC 5869, Table SYS-7); the model does not define them (assumption 1). -/

namespace Sys2Proof.Config

/-- A value the spec leaves open; the argument is State.free, which every use advances (assumption 2). -/
opaque freeValue : Nat → Nat

/-- SHA-256 of a byte string (FIPS 180-4). -/
opaque sha256 : List Byte → List Byte

/-- SHA-384 of a byte string (FIPS 180-4). -/
opaque sha384 : List Byte → List Byte

/-- The functions of the key vault's standards (Table KV-4, R134, R141). -/
inductive Std where
  /-- key material of an algorithm from the generator's output -/
  | keyGen
  /-- the public part of a key, in the encoding of EXPORT_PUB -/
  | publicPart
  /-- a signature; its test; whether a public part is on its curve -/
  | sign | verify | onCurve
  /-- AES-GCM and its inverse, whose test is the tag -/
  | gcm | gcmOpen
  /-- AES-CBC and its inverse -/
  | cbc | cbcOpen
  | hmac | cmac
  /-- AES key wrap with padding and its inverse, whose test is the integrity value -/
  | wrap | unwrap
  | hkdf | ecdh | tls12Prf | tls13Keys
deriving DecidableEq, Repr

/-- The bytes one of these functions gives for its arguments (assumption 1). -/
opaque std : Std → List (List Byte) → List Byte

/-- The test one of these functions makes of its arguments (assumption 1). -/
opaque stdOk : Std → List (List Byte) → Bool

/-- The cores to which a block without an event mask delivers its line, where the spec does not name them: a mask of CC0 to CC3 and the
SFC for each line of Table CPU-4 (assumption 9). -/
opaque eventCores : Nat → Nat

end Sys2Proof.Config
end

