-- ==== Sys2Proof/Machine/Fields.lean ====
section
/-! DEFINITION. The register fields, one definition per field of the spec's field tables (the table and the chapter's own words in each docstring), and the register addresses.
A register that exists n times has a field with the argument n; a field repeated inside one word has an argument too. -/

namespace Sys2Proof.Machine

/-- A field of a register: the register's address and the field's bit range [hi:lo], inclusive (R5, Table SYS-3). -/
structure Field where
  addr : Nat
  hi : Nat
  lo : Nat
deriving DecidableEq, Repr

/-! Register addresses (22_register_index.md). -/
namespace Reg
def SYS_ID : Nat := 0x40000000
def SYS_ROLE : Nat := 0x40000004
def SYS_POST_STATUS : Nat := 0x40000008
def SYS_SUPPLY : Nat := 0x4000000C
def SYS_LIFE_SEL : Nat := 0x40000010
def SYS_LIFE_MIN : Nat := 0x40000014
def SYS_MRAM_WR : Nat := 0x40000018
def TMK_CTRL : Nat := 0x40001000
def TMK_STATUS : Nat := 0x40001004
def TMK_MT_LO : Nat := 0x40001008
def TMK_MT_HI : Nat := 0x4000100C
def TMK_WALL_SEC : Nat := 0x40001010
def TMK_WALL_SUB : Nat := 0x40001014
def TMK_WALL_SET : Nat := 0x40001018
def TMK_STEP_CFG : Nat := 0x4000101C
def TMK_LAST_STEP : Nat := 0x40001020
def TMK_ERA : Nat := 0x40001024
def TMK_OPCTL : Nat := 0x40001028
def TMK_ICG_CTRL : Nat := 0x4000102C
def TMK_EP_CAL : Nat := 0x40001030
def TMK_WEAR : Nat := 0x40001034
def TMK_CMP0_LO : Nat := 0x40001040
def TMK_CMP0_HI : Nat := 0x40001044
def TMK_CMP1_LO : Nat := 0x40001048
def TMK_CMP1_HI : Nat := 0x4000104C
def TMK_CMP2_LO : Nat := 0x40001050
def TMK_CMP2_HI : Nat := 0x40001054
def TMK_CMP3_LO : Nat := 0x40001058
def TMK_CMP3_HI : Nat := 0x4000105C
def TMK_CMP4_LO : Nat := 0x40001060
def TMK_CMP4_HI : Nat := 0x40001064
def TMK_CMP5_LO : Nat := 0x40001068
def TMK_CMP5_HI : Nat := 0x4000106C
def TMK_CMP6_LO : Nat := 0x40001070
def TMK_CMP6_HI : Nat := 0x40001074
def TMK_CMP7_LO : Nat := 0x40001078
def TMK_CMP7_HI : Nat := 0x4000107C
def HSP_CTRL : Nat := 0x40002000
def HSP_STATUS : Nat := 0x40002004
def HSP_CFG : Nat := 0x40002008
def HSP_ATTN : Nat := 0x4000200C
def HSP_ATTN_EN : Nat := 0x40002010
def HSP_ATTN_SET : Nat := 0x40002014
def HSP_CNT_GOOD : Nat := 0x40002018
def HSP_CNT_BAD : Nat := 0x4000201C
def HSP_CNT_MISC : Nat := 0x40002020
def HSP_FAULT : Nat := 0x40002024
def HSP_OSTR0_CFG : Nat := 0x40002040
def HSP_OSTR1_CFG : Nat := 0x40002044
def HSP_OSTR2_CFG : Nat := 0x40002048
def HSP_OSTR3_CFG : Nat := 0x4000204C
def HSP_OSTR4_CFG : Nat := 0x40002050
def HSP_OSTR5_CFG : Nat := 0x40002054
def HSP_OSTR6_CFG : Nat := 0x40002058
def HSP_OSTR7_CFG : Nat := 0x4000205C
def HSP_ISTR0_CFG : Nat := 0x40002060
def HSP_ISTR1_CFG : Nat := 0x40002064
def HSP_ISTR2_CFG : Nat := 0x40002068
def HSP_ISTR3_CFG : Nat := 0x4000206C
def QE_CTRL : Nat := 0x40003000
def QE_STATUS : Nat := 0x40003004
def QE_TABLE_CFG : Nat := 0x40003008
def QE_CFG : Nat := 0x4000300C
def QE_DESC_SEL : Nat := 0x40003010
def QE_DESC_BASE : Nat := 0x40003014
def QE_DESC_CTRL : Nat := 0x40003018
def QE_DESC_NOTIFY : Nat := 0x4000301C
def QE_DESC_PROD : Nat := 0x40003020
def QE_DESC_RESV : Nat := 0x40003024
def QE_DESC_CONS : Nat := 0x40003028
def QE_DESC_CNT : Nat := 0x4000302C
def QE_DESC_CMD : Nat := 0x40003030
def QE_DB_PROD : Nat := 0x40003034
def QE_DB_CONS : Nat := 0x40003038
def QE_EVT : Nat := 0x4000303C
def QE_REP_CFG : Nat := 0x40003040
def QE_CNT_TX : Nat := 0x40003044
def QE_CNT_RX : Nat := 0x40003048
def QE_CNT_MISC : Nat := 0x4000304C
def QE_CACHE : Nat := 0x40003050
def QE_FAULT : Nat := 0x40003054
def QE_CPY0_SRC : Nat := 0x40003080
def QE_CPY0_DST : Nat := 0x40003084
def QE_CPY0_CTRL : Nat := 0x40003088
def QE_CPY0_STATUS : Nat := 0x4000308C
def QE_CPY1_SRC : Nat := 0x40003090
def QE_CPY1_DST : Nat := 0x40003094
def QE_CPY1_CTRL : Nat := 0x40003098
def QE_CPY1_STATUS : Nat := 0x4000309C
def XMP_CTRL : Nat := 0x40004000
def XMP_STATUS : Nat := 0x40004004
def XMP_CS0_CFG : Nat := 0x40004008
def XMP_CS0_OPS : Nat := 0x4000400C
def XMP_CS1_CFG : Nat := 0x40004010
def XMP_CS1_OPS : Nat := 0x40004014
def XMP_CMD : Nat := 0x40004018
def XMP_CMD_ADDR : Nat := 0x4000401C
def XMP_CMD_BUF : Nat := 0x40004020
def XMP_CMD_STATUS : Nat := 0x40004024
def XMP_CNT : Nat := 0x40004028
def XMP_FAULT : Nat := 0x4000402C
def STF_CTRL : Nat := 0x40005000
def STF_STATUS : Nat := 0x40005004
def STF_NODE : Nat := 0x40005008
def STF_CFG : Nat := 0x4000500C
def STF_SITE_CFG : Nat := 0x40005010
def STF_DEFAULT : Nat := 0x40005014
def STF_RT_SEL : Nat := 0x40005018
def STF_RT_ENTRY : Nat := 0x4000501C
def STF_PORT0_CFG : Nat := 0x40005020
def STF_PORT1_CFG : Nat := 0x40005024
def STF_PORT2_CFG : Nat := 0x40005028
def STF_PORT3_CFG : Nat := 0x4000502C
def STF_PORT0_STATUS : Nat := 0x40005030
def STF_PORT1_STATUS : Nat := 0x40005034
def STF_PORT2_STATUS : Nat := 0x40005038
def STF_PORT3_STATUS : Nat := 0x4000503C
def STF_PORT0_NBR : Nat := 0x40005040
def STF_PORT1_NBR : Nat := 0x40005044
def STF_PORT2_NBR : Nat := 0x40005048
def STF_PORT3_NBR : Nat := 0x4000504C
def STF_PORT0_ERR : Nat := 0x40005050
def STF_PORT1_ERR : Nat := 0x40005054
def STF_PORT2_ERR : Nat := 0x40005058
def STF_PORT3_ERR : Nat := 0x4000505C
def STF_MEMBER_SEL : Nat := 0x40005060
def STF_MEMBER_STATE : Nat := 0x40005064
def STF_MEMBER_PATH : Nat := 0x40005068
def STF_MEMBER_RATING : Nat := 0x4000506C
def STF_MEMBER_SER_LO : Nat := 0x40005070
def STF_MEMBER_SER_HI : Nat := 0x40005074
def STF_MEMBERS : Nat := 0x40005078
def STF_CAPACITY : Nat := 0x4000507C
def STF_LOSS : Nat := 0x40005080
def STF_CMD : Nat := 0x40005084
def STF_MGR : Nat := 0x40005088
def STF_CNT_FRAMES : Nat := 0x4000508C
def STF_CNT_DROP : Nat := 0x40005090
def STF_CNT_RTX : Nat := 0x40005094
def STF_SWEEP : Nat := 0x40005098
def STF_FAULT : Nat := 0x4000509C
def SAF_CTRL : Nat := 0x40006000
def SAF_STATUS : Nat := 0x40006004
def SAF_EVT : Nat := 0x40006008
def SAF_GRP_STATE : Nat := 0x4000600C
def SAF_GRP_MODE : Nat := 0x40006010
def SAF_REL_REQ : Nat := 0x40006014
def SAF_REL_CONFIRM : Nat := 0x40006018
def SAF_REL_RESULT : Nat := 0x4000601C
def SAF_CAUSE_SEL : Nat := 0x40006020
def SAF_CAUSE_LO : Nat := 0x40006024
def SAF_CAUSE_HI : Nat := 0x40006028
def SAF_SRC_LO : Nat := 0x4000602C
def SAF_SRC_HI : Nat := 0x40006030
def SAF_MAP_SEL : Nat := 0x40006034
def SAF_MAP : Nat := 0x40006038
def SAF_SFC_TRIP : Nat := 0x4000603C
def SAF_CMP_SEL : Nat := 0x40006040
def SAF_CMP_LVL : Nat := 0x40006044
def SAF_RESET_IN : Nat := 0x40006048
def SAF_TEST : Nat := 0x4000604C
def SAF_TEST_RESULT : Nat := 0x40006050
def SAF_PARAM_CMD : Nat := 0x40006054
def SAF_PARAM_STATUS : Nat := 0x40006058
def SAF_CNT : Nat := 0x4000605C
def SAF_DIAG : Nat := 0x40006060
def SAF_LAST_TRIP : Nat := 0x40006064
def SAF_FAULT : Nat := 0x40006068
def SAF_TH0_LVL : Nat := 0x40006080
def SAF_TH0_CFG : Nat := 0x40006084
def SAF_TH0_STAT : Nat := 0x40006088
def SAF_TH1_LVL : Nat := 0x4000608C
def SAF_TH1_CFG : Nat := 0x40006090
def SAF_TH1_STAT : Nat := 0x40006094
def SAF_TH2_LVL : Nat := 0x40006098
def SAF_TH2_CFG : Nat := 0x4000609C
def SAF_TH2_STAT : Nat := 0x400060A0
def SAF_TH3_LVL : Nat := 0x400060A4
def SAF_TH3_CFG : Nat := 0x400060A8
def SAF_TH3_STAT : Nat := 0x400060AC
def SAF_DIGEST0 : Nat := 0x400060C0
def SAF_DIGEST1 : Nat := 0x400060C4
def SAF_DIGEST2 : Nat := 0x400060C8
def SAF_DIGEST3 : Nat := 0x400060CC
def SAF_DIGEST4 : Nat := 0x400060D0
def SAF_DIGEST5 : Nat := 0x400060D4
def SAF_DIGEST6 : Nat := 0x400060D8
def SAF_DIGEST7 : Nat := 0x400060DC
def SAF_SC_SEL : Nat := 0x40006100
def SAF_SC_ID : Nat := 0x40006104
def SAF_SC_CFG : Nat := 0x40006108
def SAF_SC_TIME : Nat := 0x4000610C
def SAF_SC_LINK : Nat := 0x40006110
def SAF_SC_ROUTE : Nat := 0x40006114
def SAF_SC_STATE : Nat := 0x40006118
def SAF_SC_CNT : Nat := 0x4000611C
def SAF_SC_CMD : Nat := 0x40006124
def SAF_SC_TXSEL : Nat := 0x4000612C
def SAF_SC_TX0 : Nat := 0x40006130
def SAF_SC_TX1 : Nat := 0x40006134
def SAF_SC_TX2 : Nat := 0x40006138
def SAF_SC_TX3 : Nat := 0x4000613C
def SAF_SC_RX0 : Nat := 0x40006140
def SAF_SC_RX1 : Nat := 0x40006144
def SAF_SC_RX2 : Nat := 0x40006148
def SAF_SC_RX3 : Nat := 0x4000614C
def SAF_SC_RUN_LO : Nat := 0x40006150
def SAF_SC_RUN_HI : Nat := 0x40006154
def SAF_SC_SAFE_LO : Nat := 0x40006158
def SAF_SC_SAFE_HI : Nat := 0x4000615C
def SAF_SC_STATUS : Nat := 0x40006160
def EFM_CTRL : Nat := 0x40007000
def EFM_STATUS : Nat := 0x40007004
def EFM_EVT : Nat := 0x40007008
def EFM_RDC_CFG : Nat := 0x4000700C
def EFM_RDC_DC : Nat := 0x40007010
def EFM_RDC_AC : Nat := 0x40007014
def EFM_RDC_PEAK : Nat := 0x40007018
def EFM_FG_CFG : Nat := 0x4000701C
def EFM_FG_STAT : Nat := 0x40007020
def EFM_RAC_CFG : Nat := 0x40007024
def EFM_RCD : Nat := 0x40007028
def EFM_INS_CFG : Nat := 0x4000702C
def EFM_INS_LVL : Nat := 0x40007030
def EFM_INS_NET : Nat := 0x40007034
def EFM_INS_SCALE : Nat := 0x40007038
def EFM_INS_CTRL : Nat := 0x4000703C
def EFM_INS_R : Nat := 0x40007040
def EFM_INS_RAW : Nat := 0x40007044
def EFM_INS_STAT : Nat := 0x40007048
def EFM_CMD : Nat := 0x4000704C
def EFM_TEST_RESULT : Nat := 0x40007050
def EFM_CNT : Nat := 0x40007054
def EFM_NV : Nat := 0x40007058
def EFM_FAULT : Nat := 0x4000705C
def VEH_CTRL : Nat := 0x40008000
def VEH_STATUS : Nat := 0x40008004
def VEH_CP_PWM : Nat := 0x40008008
def VEH_CP_CFG : Nat := 0x4000800C
def VEH_CP_STATE : Nat := 0x40008010
def VEH_CP_TIME : Nat := 0x40008014
def VEH_CP_LEVEL : Nat := 0x40008018
def VEH_CP_CAL : Nat := 0x4000801C
def VEH_PP_CFG : Nat := 0x40008020
def VEH_PP_STATE : Nat := 0x40008024
def VEH_ASM_CTRL : Nat := 0x40008028
def VEH_ASM_STATUS : Nat := 0x4000802C
def VEH_ASM_INT : Nat := 0x40008030
def VEH_SLAC : Nat := 0x40008034
def VEH_EVT : Nat := 0x40008038
def VEH_FAULT : Nat := 0x4000803C
def VEH_TMR0 : Nat := 0x40008040
def VEH_TMR1 : Nat := 0x40008044
def VEH_TMR2 : Nat := 0x40008048
def VEH_TMR3 : Nat := 0x4000804C
def VEH_TMR4 : Nat := 0x40008050
def VEH_TMR5 : Nat := 0x40008054
def VEH_TMR6 : Nat := 0x40008058
def VEH_TMR7 : Nat := 0x4000805C
def PWR_CTRL : Nat := 0x40009000
def PWR_STATUS : Nat := 0x40009004
def PWR_EVT : Nat := 0x40009008
def PWR_RUN : Nat := 0x4000900C
def PWR_PERIOD : Nat := 0x40009010
def PWR_BLANK : Nat := 0x40009014
def PWR_LIM_SEL : Nat := 0x40009018
def PWR_LIM_LVL : Nat := 0x4000901C
def PWR_CH0_ON : Nat := 0x40009020
def PWR_CH0_OFF : Nat := 0x40009024
def PWR_CH0_DT : Nat := 0x40009028
def PWR_CH1_ON : Nat := 0x40009030
def PWR_CH1_OFF : Nat := 0x40009034
def PWR_CH1_DT : Nat := 0x40009038
def PWR_CH2_ON : Nat := 0x40009040
def PWR_CH2_OFF : Nat := 0x40009044
def PWR_CH2_DT : Nat := 0x40009048
def PWR_CH3_ON : Nat := 0x40009050
def PWR_CH3_OFF : Nat := 0x40009054
def PWR_CH3_DT : Nat := 0x40009058
def PWR_CH4_ON : Nat := 0x40009060
def PWR_CH4_OFF : Nat := 0x40009064
def PWR_CH4_DT : Nat := 0x40009068
def PWR_CH5_ON : Nat := 0x40009070
def PWR_CH5_OFF : Nat := 0x40009074
def PWR_CH5_DT : Nat := 0x40009078
def PWR_TRIG0 : Nat := 0x40009080
def PWR_TRIG1 : Nat := 0x40009084
def PWR_TRIG_MASK : Nat := 0x40009088
def PWR_ADC0 : Nat := 0x40009090
def PWR_ADC1 : Nat := 0x40009094
def PWR_ADC2 : Nat := 0x40009098
def PWR_ADC3 : Nat := 0x4000909C
def PWR_ADC4 : Nat := 0x400090A0
def PWR_ADC5 : Nat := 0x400090A4
def PWR_ADC6 : Nat := 0x400090A8
def PWR_ADC7 : Nat := 0x400090AC
def PWR_SS_CFG : Nat := 0x400090B0
def PWR_SS_TARGET : Nat := 0x400090B4
def PWR_SS_RETRY : Nat := 0x400090B8
def PWR_CTR_CMD : Nat := 0x400090C0
def PWR_CTR_STATUS : Nat := 0x400090C4
def PWR_CTR_CFG : Nat := 0x400090C8
def PWR_CTR_MAP : Nat := 0x400090CC
def PWR_CTR_MODE : Nat := 0x400090D0
def PWR_PC_CFG : Nat := 0x400090D4
def PWR_SP_POWER : Nat := 0x400090E0
def PWR_SP_LIMITS : Nat := 0x400090E4
def PWR_SP_INFO : Nat := 0x400090E8
def PWR_TELEM : Nat := 0x400090EC
def PWR_CNT : Nat := 0x400090F0
def PWR_FAULT : Nat := 0x400090F4
def MTR_CTRL : Nat := 0x4000A000
def MTR_STATUS : Nat := 0x4000A004
def MTR_EVT : Nat := 0x4000A008
def MTR_CMD : Nat := 0x4000A00C
def MTR_CH_CFG : Nat := 0x4000A010
def MTR_ELEM : Nat := 0x4000A014
def MTR_SET_MAP : Nat := 0x4000A018
def MTR_NL : Nat := 0x4000A01C
def MTR_SET0_NOM : Nat := 0x4000A020
def MTR_SET1_NOM : Nat := 0x4000A024
def MTR_SET2_NOM : Nat := 0x4000A028
def MTR_SET3_NOM : Nat := 0x4000A02C
def MTR_CAL_SEL : Nat := 0x4000A030
def MTR_FCAL_GAIN : Nat := 0x4000A034
def MTR_FCAL_OFS : Nat := 0x4000A038
def MTR_FCAL_DLY_TC : Nat := 0x4000A03C
def MTR_CH0_VAL : Nat := 0x4000A040
def MTR_CH1_VAL : Nat := 0x4000A044
def MTR_CH2_VAL : Nat := 0x4000A048
def MTR_CH3_VAL : Nat := 0x4000A04C
def MTR_CH4_VAL : Nat := 0x4000A050
def MTR_CH5_VAL : Nat := 0x4000A054
def MTR_CH6_VAL : Nat := 0x4000A058
def MTR_CH7_VAL : Nat := 0x4000A05C
def MTR_EL0_P : Nat := 0x4000A060
def MTR_EL1_P : Nat := 0x4000A064
def MTR_EL2_P : Nat := 0x4000A068
def MTR_EL3_P : Nat := 0x4000A06C
def MTR_EL0_Q : Nat := 0x4000A070
def MTR_EL1_Q : Nat := 0x4000A074
def MTR_EL2_Q : Nat := 0x4000A078
def MTR_EL3_Q : Nat := 0x4000A07C
def MTR_FREQ : Nat := 0x4000A080
def MTR_SNAP : Nat := 0x4000A084
def MTR_SNAP_MT_LO : Nat := 0x4000A088
def MTR_SNAP_MT_HI : Nat := 0x4000A08C
def MTR_ACC_SEL : Nat := 0x4000A090
def MTR_ACC_LO : Nat := 0x4000A094
def MTR_ACC_HI : Nat := 0x4000A098
def MTR_PULSE_CFG : Nat := 0x4000A09C
def MTR_CAP0_CFG : Nat := 0x4000A0A0
def MTR_CAP0_STATUS : Nat := 0x4000A0A4
def MTR_CAP1_CFG : Nat := 0x4000A0A8
def MTR_CAP1_STATUS : Nat := 0x4000A0AC
def MTR_CAP_TRIG : Nat := 0x4000A0B0
def MTR_CLIP : Nat := 0x4000A0B4
def MTR_TEMP : Nat := 0x4000A0B8
def MTR_CNT : Nat := 0x4000A0BC
def MTR_UCAL_GAIN : Nat := 0x4000A0C0
def MTR_UCAL_OFS : Nat := 0x4000A0C4
def MTR_UCAL_DLY : Nat := 0x4000A0C8
def MTR_UCAL_SCALE : Nat := 0x4000A0CC
def MTR_EFF_GAIN : Nat := 0x4000A0D0
def MTR_EFF_OFS : Nat := 0x4000A0D4
def MTR_UCAL_STATUS : Nat := 0x4000A0D8
def MTR_FAULT : Nat := 0x4000A0DC
def MTR_EFF_DELAY : Nat := 0x4000A0E0
def BIL_CTRL : Nat := 0x4000B000
def BIL_STATUS : Nat := 0x4000B004
def BIL_EVT : Nat := 0x4000B008
def BIL_SIGN_KEY : Nat := 0x4000B00C
def BIL_INT_CFG : Nat := 0x4000B010
def BIL_RATE : Nat := 0x4000B014
def BIL_SW_SEL : Nat := 0x4000B018
def BIL_SW_TIME : Nat := 0x4000B01C
def BIL_SW_RATE : Nat := 0x4000B020
def BIL_INT_NUM : Nat := 0x4000B024
def BIL_INT_START_LO : Nat := 0x4000B028
def BIL_INT_START_HI : Nat := 0x4000B02C
def BIL_INT_END_LO : Nat := 0x4000B030
def BIL_INT_END_HI : Nat := 0x4000B034
def BIL_INT_FLAGS : Nat := 0x4000B038
def BIL_SES_CMD : Nat := 0x4000B03C
def BIL_SES_CFG : Nat := 0x4000B040
def BIL_SES_NUM : Nat := 0x4000B044
def BIL_SES_STATE : Nat := 0x4000B048
def BIL_SES_START_LO : Nat := 0x4000B04C
def BIL_SES_START_HI : Nat := 0x4000B050
def BIL_SES_AMT_LO : Nat := 0x4000B054
def BIL_SES_AMT_HI : Nat := 0x4000B058
def BIL_MD_SEL : Nat := 0x4000B05C
def BIL_MD_CFG : Nat := 0x4000B060
def BIL_MD_MAX : Nat := 0x4000B064
def BIL_MD_MAX_TIME : Nat := 0x4000B068
def BIL_MD_PREV : Nat := 0x4000B06C
def BIL_MD_NOW : Nat := 0x4000B070
def BIL_MD_CMD : Nat := 0x4000B074
def BIL_PP_CFG : Nat := 0x4000B078
def BIL_PP_CREDIT_LO : Nat := 0x4000B07C
def BIL_PP_CREDIT_HI : Nat := 0x4000B080
def BIL_PP_WARN : Nat := 0x4000B084
def BIL_PP_TOPUP_LO : Nat := 0x4000B088
def BIL_PP_TOPUP_HI : Nat := 0x4000B08C
def BIL_PP_TOPUP_SEQ : Nat := 0x4000B090
def BIL_PP_PRICE_SEL : Nat := 0x4000B094
def BIL_PP_PRICE : Nat := 0x4000B098
def BIL_PP_STATUS : Nat := 0x4000B09C
def BIL_REC_NEXT : Nat := 0x4000B0A0
def BIL_REC_LAST : Nat := 0x4000B0A4
def BIL_STORE : Nat := 0x4000B0A8
def BIL_PSTATE_SEL : Nat := 0x4000B0AC
def BIL_PSTATE : Nat := 0x4000B0B0
def BIL_CNT : Nat := 0x4000B0B4
def BIL_FAULT : Nat := 0x4000B0B8
def NJD_STATUS : Nat := 0x4000C000
def NJD_VBAT : Nat := 0x4000C004
def NJD_RTC_TRIM : Nat := 0x4000C008
def NJD_RTC_TCOMP : Nat := 0x4000C00C
def NJD_RTC_EFF : Nat := 0x4000C010
def NJD_STEP_CNT : Nat := 0x4000C014
def NJD_WREN_CFG : Nat := 0x4000C018
def NJD_TMP_CFG : Nat := 0x4000C01C
def NJD_MAG_CFG : Nat := 0x4000C020
def NJD_LIGHT_CFG : Nat := 0x4000C024
def NJD_DTEMP_CFG : Nat := 0x4000C028
def NJD_TAMPER_STATUS : Nat := 0x4000C02C
def NJD_TAMPER_CLR : Nat := 0x4000C030
def NJD_SENSE : Nat := 0x4000C034
def NJD_SEAL : Nat := 0x4000C03C
def NJD_SEAL_CNT : Nat := 0x4000C040
def NJD_LOG_COUNT : Nat := 0x4000C044
def NJD_LOG_HEAD : Nat := 0x4000C048
def NJD_LOG_SEED : Nat := 0x4000C04C
def NJD_LOG_IDX : Nat := 0x4000C050
def NJD_LOG_D0 : Nat := 0x4000C054
def NJD_LOG_D1 : Nat := 0x4000C058
def NJD_LOG_D2 : Nat := 0x4000C05C
def NJD_LOG_D3 : Nat := 0x4000C060
def NJD_LOG_APP0 : Nat := 0x4000C064
def NJD_LOG_APP1 : Nat := 0x4000C068
def NJD_OVF_SEL : Nat := 0x4000C06C
def NJD_OVF_CNT : Nat := 0x4000C070
def NJD_FAULT : Nat := 0x4000C074
def KV_CTRL : Nat := 0x4000D000
def KV_STATUS : Nat := 0x4000D004
def KV_LC : Nat := 0x4000D008
def KV_LC_REQ : Nat := 0x4000D00C
def KV_LC_CONFIRM : Nat := 0x4000D010
def KV_LC_RESULT : Nat := 0x4000D014
def KV_SLOT_SEL : Nat := 0x4000D018
def KV_SLOT_ATTR : Nat := 0x4000D01C
def KV_SLOT_USE : Nat := 0x4000D020
def KV_SLOT_TREE : Nat := 0x4000D024
def KV_SLOT_LABEL : Nat := 0x4000D028
def KV_COUNT : Nat := 0x4000D02C
def KV_SWEEP : Nat := 0x4000D030
def KV_TICKETS : Nat := 0x4000D034
def KV_REFUSE : Nat := 0x4000D038
def KV_TAP : Nat := 0x4000D03C
def KV_SERIAL_LO : Nat := 0x4000D040
def KV_SERIAL_HI : Nat := 0x4000D044
def KV_RNG : Nat := 0x4000D048
def KV_SIGN_CNT : Nat := 0x4000D04C
def KV_FAULT : Nat := 0x4000D050
def KV_DIK_ID0 : Nat := 0x4000D060
def KV_DIK_ID1 : Nat := 0x4000D064
def KV_DIK_ID2 : Nat := 0x4000D068
def KV_DIK_ID3 : Nat := 0x4000D06C
def KV_DIK_ID4 : Nat := 0x4000D070
def KV_DIK_ID5 : Nat := 0x4000D074
def KV_DIK_ID6 : Nat := 0x4000D078
def KV_DIK_ID7 : Nat := 0x4000D07C
def UPD_CTRL : Nat := 0x4000E000
def UPD_STATUS : Nat := 0x4000E004
def UPD_ANCHOR : Nat := 0x4000E008
def UPD_STAGE_BASE : Nat := 0x4000E00C
def UPD_STAGE_SIZE : Nat := 0x4000E010
def UPD_SET : Nat := 0x4000E014
def UPD_PART_DONE : Nat := 0x4000E018
def UPD_PART_SEL : Nat := 0x4000E01C
def UPD_PART_INFO : Nat := 0x4000E020
def UPD_MEMBERS : Nat := 0x4000E024
def UPD_ACTIVATE : Nat := 0x4000E028
def UPD_ABORT : Nat := 0x4000E02C
def UPD_RESULT : Nat := 0x4000E030
def UPD_CTR_SEL : Nat := 0x4000E034
def UPD_CTR : Nat := 0x4000E038
def UPD_REC : Nat := 0x4000E03C
def UPD_COUNT : Nat := 0x4000E040
def UPD_FAULT : Nat := 0x4000E044
def RBN_CTRL : Nat := 0x4000F000
def RBN_STATUS : Nat := 0x4000F004
def RBN_EVT : Nat := 0x4000F008
def RBN_RD_CFG : Nat := 0x4000F00C
def RBN_RD_STATUS : Nat := 0x4000F010
def RBN_DET_CFG : Nat := 0x4000F014
def RBN_DET_THR : Nat := 0x4000F018
def RBN_DET_REF : Nat := 0x4000F01C
def RBN_DET_LAST : Nat := 0x4000F020
def RBN_EXT_THR : Nat := 0x4000F024
def RBN_CAL : Nat := 0x4000F028
def RBN_TAG_CFG : Nat := 0x4000F02C
def RBN_TAG_STATUS : Nat := 0x4000F030
def RBN_UID : Nat := 0x4000F034
def RBN_LOCK_FIELD : Nat := 0x4000F038
def RBN_LOCK_WIRE : Nat := 0x4000F03C
def RBN_DEFER : Nat := 0x4000F040
def RBN_DEAD_CFG : Nat := 0x4000F044
def RBN_HARV_CFG : Nat := 0x4000F048
def RBN_HARV_STATUS : Nat := 0x4000F04C
def RBN_FIELD : Nat := 0x4000F050
def RBN_CNT_RD : Nat := 0x4000F054
def RBN_CNT_TAG : Nat := 0x4000F058
def RBN_CNT_DET : Nat := 0x4000F05C
def RBN_FAULT : Nat := 0x4000F060
def CPU_CTRL : Nat := 0x40010000
def CPU_STATUS : Nat := 0x40010004
def CPU_ENTRY : Nat := 0x40010008
def CPU_START : Nat := 0x4001000C
def CPU_FAULT : Nat := 0x40010010
def CPU_WDOG_CFG : Nat := 0x40010014
def CPU_WDOG_KICK : Nat := 0x40010018
def CPU_MBOX0 : Nat := 0x40010020
def CPU_MBOX1 : Nat := 0x40010024
def CPU_MBOX2 : Nat := 0x40010028
def CPU_MBOX3 : Nat := 0x4001002C
def CPU_MBOX4 : Nat := 0x40010030
def CPU_MBOX_STATUS : Nat := 0x40010034
def CPU_RWIN0 : Nat := 0x40010040
def CPU_RWIN1 : Nat := 0x40010044
def CPU_RWIN2 : Nat := 0x40010048
def CPU_RWIN3 : Nat := 0x4001004C
def CPU_SFC_CTRL : Nat := 0x40010050
def CPU_SFC_TMON : Nat := 0x40010054
def CPU_SFC_STATUS : Nat := 0x40010058
def DSK_CTRL : Nat := 0x40011000
def DSK_STATUS : Nat := 0x40011004
def DSK_CAUSE : Nat := 0x40011008
def DSK_RESET : Nat := 0x4001100C
def DSK_DAWN_STATUS : Nat := 0x40011010
def DSK_DAWN_TIME : Nat := 0x40011014
def DSK_BOOT : Nat := 0x40011018
def DSK_ACTIVE_SET : Nat := 0x4001101C
def DSK_WARN_CFG : Nat := 0x40011020
def DSK_SAVE_SEQ : Nat := 0x40011024
def DSK_SAVE_MT_LO : Nat := 0x40011028
def DSK_SAVE_MT_HI : Nat := 0x4001102C
def DSK_CKPT_CFG : Nat := 0x40011030
def DSK_HOLDUP : Nat := 0x40011034
def DSK_COUNT : Nat := 0x40011038
def DSK_FAULT : Nat := 0x4001103C
end Reg

/-! Fields. -/
namespace F
/-- Table SYS-16: 0b01 Manager, 0b10 Worker. Other codes are not reported; an invalid strap is handled in "Dawn, Dusk and resets" -/
def SYS_ROLE_role : Field := ⟨0x40000004, 1, 0⟩
/-- Table SYS-16: 1 while role is Manager and workers_admitted = 0 -/
def SYS_ROLE_solo : Field := ⟨0x40000004, 2, 2⟩
/-- Table SYS-16: Worker: 1 once its Manager has admitted it. Manager: always 1 -/
def SYS_ROLE_admitted : Field := ⟨0x40000004, 3, 3⟩
/-- Table SYS-16: Manager: number of admitted Workers, 0 to 15. Worker: 0 -/
def SYS_ROLE_workers_admitted : Field := ⟨0x40000004, 11, 8⟩
/-- Table SYS-16: Copy of the node ID assigned as in "Starling fabric, hierarchy and hot plug"; 0x0000 until assigned -/
def SYS_ROLE_node_id : Field := ⟨0x40000004, 31, 16⟩
/-- Table SYS-17: 1 while any output group of this chip is in lockout -/
def SYS_POST_STATUS_lockout_any : Field := ⟨0x40000008, 0, 0⟩
/-- Table SYS-17: 1 while a post-critical safety connection holds post-wide lockout -/
def SYS_POST_STATUS_post_lockout : Field := ⟨0x40000008, 1, 1⟩
/-- Table SYS-17: State of CONFIG_EN at the last seal scan -/
def SYS_POST_STATUS_config_en : Field := ⟨0x40000008, 2, 2⟩
/-- Table SYS-17: State of METRO_EN at the last seal scan -/
def SYS_POST_STATUS_metro_en : Field := ⟨0x40000008, 3, 3⟩
/-- Table SYS-17: 1 if SEAL_LOOP was continuous at the last seal scan -/
def SYS_POST_STATUS_seal_loop_ok : Field := ⟨0x40000008, 4, 4⟩
/-- Table SYS-17: 1 while valid host frames arrive within the time-out defined in "Host serial port" -/
def SYS_POST_STATUS_host_alive : Field := ⟨0x40000008, 5, 5⟩
/-- Table SYS-17: Manager: 1 while at least one port is trained to a peer Manager. Worker: 0 -/
def SYS_POST_STATUS_site_link : Field := ⟨0x40000008, 6, 6⟩
/-- Table SYS-17: 1 while the Dusk warning is asserted -/
def SYS_POST_STATUS_dusk_warn : Field := ⟨0x40000008, 7, 7⟩
/-- Table SYS-17: 1 while a verified manifest awaits activation -/
def SYS_POST_STATUS_update_staged : Field := ⟨0x40000008, 8, 8⟩
/-- Table SYS-17: Set on each Worker loss (R24). Writing 1 clears it -/
def SYS_POST_STATUS_worker_lost : Field := ⟨0x40000008, 9, 9⟩
/-- Table SYS-17: Member number of the most recent Worker loss -/
def SYS_POST_STATUS_lost_member : Field := ⟨0x40000008, 15, 12⟩
/-- Table TMK-10: 1 runs the wear monitors (R43) -/
def TMK_CTRL_wear_en : Field := ⟨0x40001000, 0, 0⟩
/-- Table TMK-10: 1 runs the crystal ratio check (R45) -/
def TMK_CTRL_ratio_en : Field := ⟨0x40001000, 1, 1⟩
/-- Table TMK-11: 1 while the 25.000 MHz crystal is absent -/
def TMK_STATUS_xtal_mt_lost : Field := ⟨0x40001004, 0, 0⟩
/-- Table TMK-11: Set by R44 -/
def TMK_STATUS_xtal_mt_fail : Field := ⟨0x40001004, 1, 1⟩
/-- Table TMK-11: Set by R45 -/
def TMK_STATUS_xtal_wt_fail : Field := ⟨0x40001004, 2, 2⟩
/-- Table TMK-11: 1 during an operating-point change -/
def TMK_STATUS_op_busy : Field := ⟨0x40001004, 3, 3⟩
/-- Table TMK-11: Set by R30 -/
def TMK_STATUS_op_refused : Field := ⟨0x40001004, 4, 4⟩
/-- Table TMK-11: Set by TMK_OP_FAIL -/
def TMK_STATUS_op_fail : Field := ⟨0x40001004, 5, 5⟩
/-- Table TMK-11: Set by TMK_EP_CAL_FAIL -/
def TMK_STATUS_ep_cal_fail : Field := ⟨0x40001004, 6, 6⟩
/-- Table TMK-11: Set by R43 -/
def TMK_STATUS_wear_warn : Field := ⟨0x40001004, 7, 7⟩
/-- Table TMK-11: Set by R43 -/
def TMK_STATUS_wear_limit : Field := ⟨0x40001004, 8, 8⟩
/-- Table TMK-11: Set by R46 -/
def TMK_STATUS_mt_untrusted : Field := ⟨0x40001004, 9, 9⟩
/-- Table TMK-11: Set by R38 -/
def TMK_STATUS_step_large : Field := ⟨0x40001004, 10, 10⟩
/-- Table TMK-11: TMK_WALL_SET write ignored during Dusk warning -/
def TMK_STATUS_set_refused : Field := ⟨0x40001004, 11, 11⟩
/-- Table TMK-11: TMK_STEP_CFG write ignored with METRO_EN off -/
def TMK_STATUS_cfg_refused : Field := ⟨0x40001004, 12, 12⟩
/-- Table TMK-12: Meter time [31:0]; the read latches mt_hi (R33) -/
def TMK_MT_LO_mt_lo : Field := ⟨0x40001008, 31, 0⟩
/-- Table TMK-12: Latched meter time [63:32] -/
def TMK_MT_HI_mt_hi : Field := ⟨0x4000100C, 31, 0⟩
/-- Table TMK-12: Wall-time seconds (R35); the read latches TMK_WALL_SUB -/
def TMK_WALL_SEC_wall_sec : Field := ⟨0x40001010, 31, 0⟩
/-- Table TMK-12: Latched sub-second count, in 1/32,768 s -/
def TMK_WALL_SUB_wall_sub : Field := ⟨0x40001014, 14, 0⟩
/-- Table TMK-12: R35 -/
def TMK_WALL_SUB_wall_valid : Field := ⟨0x40001014, 15, 15⟩
/-- Table TMK-12: Write sets wall time (R36 to R38) -/
def TMK_WALL_SET_set_sec : Field := ⟨0x40001018, 31, 0⟩
/-- Table TMK-13: Step limit in s, 1 to 300; held in Nightjar NV -/
def TMK_STEP_CFG_limit_s : Field := ⟨0x4000101C, 8, 0⟩
/-- Table TMK-13: Step budget in s, limit_s to 480; held in Nightjar NV -/
def TMK_STEP_CFG_budget_s : Field := ⟨0x4000101C, 24, 16⟩
/-- Table TMK-13: Signed step of the last large step in s, clamped to ±(2^31 − 1), or 0x8000_0000 (R38) -/
def TMK_LAST_STEP_last_step : Field := ⟨0x40001020, 31, 0⟩
/-- Table TMK-13: R39 -/
def TMK_ERA_era : Field := ⟨0x40001024, 31, 0⟩
/-- Table TMK-14: Requested point: 0b00 OP0, 0b01 OP1, 0b10 OP2, 0b11 OP3 (R29, R30) -/
def TMK_OPCTL_op_req : Field := ⟨0x40001028, 1, 0⟩
/-- Table TMK-14: Point last reached -/
def TMK_OPCTL_op_now : Field := ⟨0x40001028, 5, 4⟩
/-- Table TMK-15: ICG-X enable (R41) -/
def TMK_ICG_CTRL_x_en : Field := ⟨0x4000102C, 0, 0⟩
/-- Table TMK-15: ICG-M enable -/
def TMK_ICG_CTRL_m_en : Field := ⟨0x4000102C, 1, 1⟩
/-- Table TMK-15: ICG-R enable -/
def TMK_ICG_CTRL_r_en : Field := ⟨0x4000102C, 2, 2⟩
/-- Table TMK-15: ICG-A enable -/
def TMK_ICG_CTRL_a_en : Field := ⟨0x4000102C, 3, 3⟩
/-- Table TMK-15: 0b00 50, 0b01 100, 0b10 133.333, 0b11 166.667 MHz; a write while x_en = 1 is ignored -/
def TMK_ICG_CTRL_x_freq : Field := ⟨0x4000102C, 5, 4⟩
/-- Table TMK-15: 0b00 3.125, 0b01 6.25, 0b10 12.5, 0b11 25 MHz; a write while a_en = 1 is ignored -/
def TMK_ICG_CTRL_a_freq : Field := ⟨0x4000102C, 7, 6⟩
/-- Table TMK-15: One bit per generator in the order X, M, R, A; 1 when the generator is locked -/
def TMK_ICG_CTRL_locked : Field := ⟨0x4000102C, 11, 8⟩
/-- Table TMK-16: Most recent count of the line for gate output 0 -/
def TMK_EP_CAL_taps_per_tick : Field := ⟨0x40001030, 11, 0⟩
/-- Table TMK-16: 1 while any line is being calibrated -/
def TMK_EP_CAL_cal_busy : Field := ⟨0x40001030, 12, 12⟩
/-- Table TMK-16: Recalibration interval in units of 100 µs, 1 to 50; other values are ignored -/
def TMK_EP_CAL_cal_interval : Field := ⟨0x40001030, 21, 16⟩
/-- Table TMK-16: Monitor to report, 0 to 7 -/
def TMK_WEAR_sel : Field := ⟨0x40001034, 2, 0⟩
/-- Table TMK-16: 1 once the selected monitor has a measurement since Dawn -/
def TMK_WEAR_valid : Field := ⟨0x40001034, 3, 3⟩
/-- Table TMK-16: Wear of the selected monitor, in 0.01 % units -/
def TMK_WEAR_wear : Field := ⟨0x40001034, 15, 4⟩
/-- Table TMK-17: Target [31:0] -/
def TMK_CMPn_LO_target_lo (n : Nat) : Field := ⟨0x40001040 + 8 * n, 31, 0⟩
/-- Table TMK-17: Target [55:32]; the write arms the unit when en = 1 (R40) -/
def TMK_CMPn_HI_target_hi (n : Nat) : Field := ⟨0x40001044 + 8 * n, 23, 0⟩
/-- Table TMK-17: 1 armed; cleared when the unit fires -/
def TMK_CMPn_HI_en (n : Nat) : Field := ⟨0x40001044 + 8 * n, 24, 24⟩
/-- Table TMK-17: Bits 25 to 28 select CC0 to CC3; bit 29 selects the SFC -/
def TMK_CMPn_HI_core_mask (n : Nat) : Field := ⟨0x40001044 + 8 * n, 29, 25⟩
/-- Table TMK-17: Set when the unit fires -/
def TMK_CMPn_HI_fired (n : Nat) : Field := ⟨0x40001044 + 8 * n, 30, 30⟩
/-- Table CPU-12: 1 lets CC cores write the SFC mailbox and signal the SFC; loaded at Dawn step 15 (R68) -/
def CPU_CTRL_cc_to_sfc : Field := ⟨0x40010000, 0, 0⟩
/-- Table CPU-12: 1 serves remote-window accesses from other nodes -/
def CPU_CTRL_remote_in : Field := ⟨0x40010000, 1, 1⟩
/-- Table CPU-12: One bit per CC core; 1 running -/
def CPU_STATUS_cc_running : Field := ⟨0x40010004, 3, 0⟩
/-- Table CPU-12: 0 after a safety fault -/
def CPU_STATUS_sfc_running : Field := ⟨0x40010004, 4, 4⟩
/-- Table CPU-12: Sender of the last EVT_SIGNAL to the reading core -/
def CPU_STATUS_last_signaller : Field := ⟨0x40010004, 7, 5⟩
/-- Table CPU-12: Corrected SECDED errors, saturating at 255 -/
def CPU_STATUS_ecc_corr : Field := ⟨0x40010004, 15, 8⟩
/-- Table CPU-12: Ignored watchdog kicks, saturating at 255 -/
def CPU_STATUS_bad_kick : Field := ⟨0x40010004, 23, 16⟩
/-- Table CPU-12: Start address for CPU_START; bits [1:0] read 0 -/
def CPU_ENTRY_entry : Field := ⟨0x40010008, 31, 0⟩
/-- Table CPU-12: 1 starts that halted core (CC1 to CC3) at entry, at Kernel level -/
def CPU_START_start : Field := ⟨0x4001000C, 3, 1⟩
/-- Table CPU-12: 1 halts that core (CC1 to CC3); its pending events are kept -/
def CPU_START_halt : Field := ⟨0x4001000C, 7, 5⟩
/-- Table CPU-12: Most recent CPU fault code -/
def CPU_FAULT_code : Field := ⟨0x40010010, 15, 0⟩
/-- Table CPU-12: Core that raised it, as cr_coreid -/
def CPU_FAULT_core : Field := ⟨0x40010010, 18, 16⟩
/-- Table CPU-12: Set with each fault -/
def CPU_FAULT_valid : Field := ⟨0x40010010, 31, 31⟩
/-- Table CPU-13: One bit per CC core; once 1, stays 1 until Dawn (R67) -/
def CPU_WDOG_CFG_en : Field := ⟨0x40010014, 3, 0⟩
/-- Table CPU-13: Time-out in units of 100 µs, 1 to 4,095; 0 is ignored -/
def CPU_WDOG_CFG_timeout : Field := ⟨0x40010014, 19, 8⟩
/-- Table CPU-13: Kicking core number -/
def CPU_WDOG_KICK_core : Field := ⟨0x40010018, 1, 0⟩
/-- Table CPU-13: 0xA5 -/
def CPU_WDOG_KICK_key : Field := ⟨0x40010018, 15, 8⟩
/-- Table CPU-13: Write appends; read by core n removes (R60) -/
def CPU_MBOXn_word (n : Nat) : Field := ⟨0x40010020 + 4 * n, 31, 0⟩
/-- Table CPU-13: Bit n: mailbox n empty -/
def CPU_MBOX_STATUS_empty : Field := ⟨0x40010034, 4, 0⟩
/-- Table CPU-13: Bit n: a write to mailbox n was dropped -/
def CPU_MBOX_STATUS_ovf : Field := ⟨0x40010034, 9, 5⟩
/-- Table CPU-13: 3 bits per mailbox: words held, 0 to 7; a full mailbox has empty = 0 and count = 0, with full shown in [29:25] -/
def CPU_MBOX_STATUS_count : Field := ⟨0x40010034, 24, 10⟩
/-- Table CPU-13: Bit n: mailbox n holds 8 words -/
def CPU_MBOX_STATUS_full : Field := ⟨0x40010034, 29, 25⟩
/-- Table CPU-13: 1 enables window n -/
def CPU_RWINn_en (n : Nat) : Field := ⟨0x40010040 + 4 * n, 0, 0⟩
/-- Table CPU-13: 1 permits Task access -/
def CPU_RWINn_task_ok (n : Nat) : Field := ⟨0x40010040 + 4 * n, 1, 1⟩
/-- Table CPU-13: 1 permits stores -/
def CPU_RWINn_write_ok (n : Nat) : Field := ⟨0x40010040 + 4 * n, 2, 2⟩
/-- Table CPU-13: 0b00 remote system SRAM, 0b01 remote memory-port window; other codes disable the window -/
def CPU_RWINn_target (n : Nat) : Field := ⟨0x40010040 + 4 * n, 5, 4⟩
/-- Table CPU-13: Remote node ID; 0x0000 and 0xFFFF disable the window -/
def CPU_RWINn_node (n : Nat) : Field := ⟨0x40010040 + 4 * n, 31, 16⟩
/-- Table CPU-14: Code limit in 4 KiB units -/
def CPU_SFC_CTRL_code_limit : Field := ⟨0x40010050, 5, 0⟩
/-- Table CPU-14: R62; 0 is ignored -/
def CPU_SFC_CTRL_sig_gap : Field := ⟨0x40010050, 15, 8⟩
/-- Table CPU-14: R65, in ms; values below 10 are ignored -/
def CPU_SFC_CTRL_stest_period : Field := ⟨0x40010050, 23, 16⟩
/-- Table CPU-14: R63, in 10 µs units -/
def CPU_SFC_TMON_open : Field := ⟨0x40010054, 15, 0⟩
/-- Table CPU-14: R63; a write with close ≤ open is ignored -/
def CPU_SFC_TMON_close : Field := ⟨0x40010054, 31, 16⟩
/-- Table CPU-14: 1 after a safety fault -/
def CPU_SFC_STATUS_faulted : Field := ⟨0x40010058, 0, 0⟩
/-- Table CPU-14: 1 exception, 2 signature, 3 time monitor, 4 time base, 5 self-test -/
def CPU_SFC_STATUS_cause : Field := ⟨0x40010058, 3, 1⟩
/-- Table CPU-14: A write to CPU_SFC_CTRL or CPU_SFC_TMON was ignored -/
def CPU_SFC_STATUS_cfg_refused : Field := ⟨0x40010058, 4, 4⟩
/-- Table CPU-14: Bit n: segment n done in the current self-test period -/
def CPU_SFC_STATUS_seg_done : Field := ⟨0x40010058, 31, 16⟩
/-- Table DSK-12: R104 -/
def DSK_CTRL_ckpt_en : Field := ⟨0x40011000, 0, 0⟩
/-- Table DSK-12: Manager: 1 sends STOP_DUSK at step 3 -/
def DSK_CTRL_stop_bcast : Field := ⟨0x40011000, 1, 1⟩
/-- Table DSK-12: Warning asserted -/
def DSK_STATUS_warn : Field := ⟨0x40011004, 0, 0⟩
/-- Table DSK-12: VSUP_MON above the clear level -/
def DSK_STATUS_vsup_ok : Field := ⟨0x40011004, 1, 1⟩
/-- Table DSK-12: Dusk or reset save in progress -/
def DSK_STATUS_saving : Field := ⟨0x40011004, 2, 2⟩
/-- Table DSK-12: Checkpoint being written -/
def DSK_STATUS_ckpt_busy : Field := ⟨0x40011004, 3, 3⟩
/-- Table DSK-12: 1 if the last Dawn recovered from a checkpoint -/
def DSK_STATUS_from_ckpt : Field := ⟨0x40011004, 4, 4⟩
/-- Table DSK-12: R93 -/
def DSK_STATUS_gap : Field := ⟨0x40011004, 5, 5⟩
/-- Table DSK-12: Code of Table DSK-4 -/
def DSK_CAUSE_cause : Field := ⟨0x40011008, 2, 0⟩
/-- Table DSK-12: 1 if a Dusk save preceded this Dawn -/
def DSK_CAUSE_warned : Field := ⟨0x40011008, 3, 3⟩
/-- Table DSK-12: R98, Table DSK-4; ignored during Dusk -/
def DSK_RESET_key : Field := ⟨0x4001100C, 15, 0⟩
/-- Table DSK-12: Last completed step of Table DSK-1 -/
def DSK_DAWN_STATUS_step : Field := ⟨0x40011010, 4, 0⟩
/-- Table DSK-12: Dawn complete -/
def DSK_DAWN_STATUS_done : Field := ⟨0x40011010, 5, 5⟩
/-- Table DSK-12: Dawn hold (R97) -/
def DSK_DAWN_STATUS_hold : Field := ⟨0x40011010, 6, 6⟩
/-- Table DSK-12: Fault that caused the hold -/
def DSK_DAWN_STATUS_hold_code : Field := ⟨0x40011010, 31, 16⟩
/-- Table DSK-12: Meter time from step 8 to step 17, in µs -/
def DSK_DAWN_TIME_dawn_us : Field := ⟨0x40011014, 31, 0⟩
/-- Table DSK-12: 0 slot A, 1 slot B -/
def DSK_BOOT_slot : Field := ⟨0x40011018, 0, 0⟩
/-- Table DSK-12: From the header -/
def DSK_BOOT_ctr_index : Field := ⟨0x40011018, 12, 8⟩
/-- Table DSK-12: version [15:0] from the header -/
def DSK_BOOT_version_lo : Field := ⟨0x40011018, 31, 16⟩
/-- Table DSK-12: Active-set number -/
def DSK_ACTIVE_SET_active_set : Field := ⟨0x4001101C, 31, 0⟩
/-- Table DSK-12: In ms, 20 to 1,000; held in Nightjar NV; other values ignored -/
def DSK_WARN_CFG_clear_delay : Field := ⟨0x40011020, 9, 0⟩
/-- Table DSK-12: Sequence number of the candidate recovered -/
def DSK_SAVE_SEQ_seq : Field := ⟨0x40011024, 31, 0⟩
/-- Table DSK-12: Freeze meter time [31:0] of that candidate -/
def DSK_SAVE_MT_LO_mt_lo : Field := ⟨0x40011028, 31, 0⟩
/-- Table DSK-12: Freeze meter time [63:32] -/
def DSK_SAVE_MT_HI_mt_hi : Field := ⟨0x4001102C, 31, 0⟩
/-- Table DSK-12: In s, 1 to 60; held in Nightjar NV; other values ignored -/
def DSK_CKPT_CFG_period : Field := ⟨0x40011030, 5, 0⟩
/-- Table DSK-12: Last measured hold-up, 1/32,768 s units -/
def DSK_HOLDUP_holdup : Field := ⟨0x40011034, 15, 0⟩
/-- Table DSK-12: 1 once a hold-up has been measured -/
def DSK_HOLDUP_valid : Field := ⟨0x40011034, 16, 16⟩
/-- Table DSK-12: 1 if below 2 ms -/
def DSK_HOLDUP_short : Field := ⟨0x40011034, 17, 17⟩
/-- Table DSK-12: Dusk saves completed, saturating -/
def DSK_COUNT_dusks : Field := ⟨0x40011038, 15, 0⟩
/-- Table DSK-12: DSK_CKPT_FAIL count, saturating -/
def DSK_COUNT_ckpt_fail : Field := ⟨0x40011038, 31, 16⟩
/-- Table DSK-12: Most recent fault of Table DSK-9 -/
def DSK_FAULT_code : Field := ⟨0x4001103C, 15, 0⟩
/-- Table DSK-12: Set with each fault -/
def DSK_FAULT_valid : Field := ⟨0x4001103C, 31, 31⟩
/-- Table NJD-11: 0b00 VDD33, 0b01 VBAT, 0b10 VHARV -/
def NJD_STATUS_source : Field := ⟨0x4000C000, 1, 0⟩
/-- Table NJD-11: R112 -/
def NJD_STATUS_vbat_low : Field := ⟨0x4000C000, 2, 2⟩
/-- Table NJD-11: R112 -/
def NJD_STATUS_vbat_absent : Field := ⟨0x4000C000, 3, 3⟩
/-- Table NJD-11: R118 -/
def NJD_STATUS_tamper_new : Field := ⟨0x4000C000, 4, 4⟩
/-- Table NJD-11: R121 -/
def NJD_STATUS_seal_change : Field := ⟨0x4000C000, 5, 5⟩
/-- Table NJD-11: Refused RWS write -/
def NJD_STATUS_cfg_refused : Field := ⟨0x4000C000, 6, 6⟩
/-- Table NJD-11: R119 -/
def NJD_STATUS_clr_refused : Field := ⟨0x4000C000, 7, 7⟩
/-- Table NJD-11: R115 -/
def NJD_STATUS_osc_stop : Field := ⟨0x4000C000, 8, 8⟩
/-- Table NJD-11: R126 -/
def NJD_STATUS_nv_fail : Field := ⟨0x4000C000, 9, 9⟩
/-- Table NJD-11: R111 -/
def NJD_STATUS_power_lost : Field := ⟨0x4000C000, 10, 10⟩
/-- Table NJD-11: Last VBAT measurement, mV -/
def NJD_VBAT_mv : Field := ⟨0x4000C004, 11, 0⟩
/-- Table NJD-11: 1 once measured since the last restart -/
def NJD_VBAT_valid : Field := ⟨0x4000C004, 12, 12⟩
/-- Table NJD-11: Signed, 0.01 ppm, −30,000 to 30,000 (R114) -/
def NJD_RTC_TRIM_offset : Field := ⟨0x4000C008, 15, 0⟩
/-- Table NJD-11: Signed, 0.001 ppm/K² -/
def NJD_RTC_TCOMP_k : Field := ⟨0x4000C00C, 7, 0⟩
/-- Table NJD-11: Signed, °C -/
def NJD_RTC_TCOMP_t0 : Field := ⟨0x4000C00C, 15, 8⟩
/-- Table NJD-11: 1 applies the curve term -/
def NJD_RTC_TCOMP_tcomp_en : Field := ⟨0x4000C00C, 16, 16⟩
/-- Table NJD-11: Signed correction c of the last second -/
def NJD_RTC_EFF_corr : Field := ⟨0x4000C010, 15, 0⟩
/-- Table NJD-11: Die temperature used, code as NJD_DTEMP_CFG -/
def NJD_RTC_EFF_temp : Field := ⟨0x4000C010, 23, 16⟩
/-- Table NJD-11: R116 -/
def NJD_STEP_CNT_small_count : Field := ⟨0x4000C014, 15, 0⟩
/-- Table NJD-11: R116 -/
def NJD_STEP_CNT_small_sum_s : Field := ⟨0x4000C014, 31, 16⟩
/-- Table NJD-11: 0b00 1 s, 0b01 100 ms, 0b10 10 ms; 0b11 ignored -/
def NJD_WREN_CFG_period_pwr : Field := ⟨0x4000C018, 1, 0⟩
/-- Table NJD-11: 1 to 8; others ignored -/
def NJD_WREN_CFG_assert_cnt : Field := ⟨0x4000C018, 7, 4⟩
/-- Table NJD-11: 1 to 15; 0 ignored -/
def NJD_WREN_CFG_clear_cnt : Field := ⟨0x4000C018, 11, 8⟩
/-- Table NJD-11: Input n: 0b00 off, 0b01 passive, 0b10 active; 0b11 ignored -/
def NJD_TMP_CFG_mode (j : Nat) : Field := ⟨0x4000C01C, 4 * j + 1, 4 * j + 0⟩
/-- Table NJD-11: Normal level of input n -/
def NJD_TMP_CFG_normal (j : Nat) : Field := ⟨0x4000C01C, 4 * j + 2, 4 * j + 2⟩
/-- Table NJD-11: mT, 5 to 255 -/
def NJD_MAG_CFG_thr : Field := ⟨0x4000C020, 7, 0⟩
/-- Table NJD-11: Source enable -/
def NJD_MAG_CFG_en : Field := ⟨0x4000C020, 8, 8⟩
/-- Table NJD-11: lux, 1 to 255 -/
def NJD_LIGHT_CFG_thr : Field := ⟨0x4000C024, 7, 0⟩
/-- Table NJD-11: Source enable -/
def NJD_LIGHT_CFG_en : Field := ⟨0x4000C024, 8, 8⟩
/-- Table NJD-11: Code = °C + 64; default −50 °C -/
def NJD_DTEMP_CFG_low : Field := ⟨0x4000C028, 7, 0⟩
/-- Table NJD-11: Code = °C + 64; default +135 °C; a write with high ≤ low is ignored -/
def NJD_DTEMP_CFG_high : Field := ⟨0x4000C028, 15, 8⟩
/-- Table NJD-11: Source enable -/
def NJD_DTEMP_CFG_en : Field := ⟨0x4000C028, 16, 16⟩
/-- Table NJD-11: [3:0] TMP_IN, [4] magnetic, [5] light, [6] die temperature, [7] seal loop -/
def NJD_TAMPER_STATUS_latch : Field := ⟨0x4000C02C, 7, 0⟩
/-- Table NJD-11: Same order; 1 while asserted or while the loop is open -/
def NJD_TAMPER_STATUS_live : Field := ⟨0x4000C02C, 15, 8⟩
/-- Table NJD-11: Assertions and loop openings, saturating -/
def NJD_TAMPER_STATUS_count : Field := ⟨0x4000C02C, 31, 16⟩
/-- Table NJD-11: 1 clears that latch (R119); reads 0 -/
def NJD_TAMPER_CLR_clr : Field := ⟨0x4000C030, 7, 0⟩
/-- Table NJD-11: Last reading, mT -/
def NJD_SENSE_mag : Field := ⟨0x4000C034, 7, 0⟩
/-- Table NJD-11: Last reading, lux, saturating -/
def NJD_SENSE_light : Field := ⟨0x4000C034, 15, 8⟩
/-- Table NJD-11: Last reading, code as NJD_DTEMP_CFG -/
def NJD_SENSE_dtemp : Field := ⟨0x4000C034, 23, 16⟩
/-- Table NJD-11: Last levels of TMP_IN[3:0] -/
def NJD_SENSE_tmp : Field := ⟨0x4000C034, 27, 24⟩
/-- Table NJD-11: Accepted switches, 1 on -/
def NJD_SEAL_sw : Field := ⟨0x4000C03C, 7, 0⟩
/-- Table NJD-11: Accepted loop state -/
def NJD_SEAL_loop_ok : Field := ⟨0x4000C03C, 8, 8⟩
/-- Table NJD-11: Last scan of the switches -/
def NJD_SEAL_raw : Field := ⟨0x4000C03C, 23, 16⟩
/-- Table NJD-11: Last scan of the loop -/
def NJD_SEAL_loop_raw : Field := ⟨0x4000C03C, 24, 24⟩
/-- Table NJD-11: Accepted switch changes, saturating -/
def NJD_SEAL_CNT_changes : Field := ⟨0x4000C040, 15, 0⟩
/-- Table NJD-11: Accepted loop openings, saturating -/
def NJD_SEAL_CNT_loop_opens : Field := ⟨0x4000C040, 31, 16⟩
/-- Table NJD-11: Slots written, 0 to 4,096 -/
def NJD_LOG_COUNT_count : Field := ⟨0x4000C044, 12, 0⟩
/-- Table NJD-11: R124 -/
def NJD_LOG_COUNT_main_full : Field := ⟨0x4000C044, 13, 13⟩
/-- Table NJD-11: R123 -/
def NJD_LOG_HEAD_head : Field := ⟨0x4000C048, 31, 0⟩
/-- Table NJD-11: R123 -/
def NJD_LOG_SEED_seed : Field := ⟨0x4000C04C, 31, 0⟩
/-- Table NJD-11: Slot selected -/
def NJD_LOG_IDX_idx : Field := ⟨0x4000C050, 11, 0⟩
/-- Table NJD-11: R127 -/
def NJD_LOG_IDX_valid : Field := ⟨0x4000C050, 16, 16⟩
/-- Table NJD-11: R126 -/
def NJD_LOG_IDX_bad : Field := ⟨0x4000C050, 17, 17⟩
/-- Table NJD-11: Word n of the selected slot -/
def NJD_LOG_Dn_word (n : Nat) : Field := ⟨0x4000C054 + 4 * n, 31, 0⟩
/-- Table NJD-11: R128 -/
def NJD_LOG_APP0_info : Field := ⟨0x4000C064, 15, 0⟩
/-- Table NJD-11: R128 -/
def NJD_LOG_APP0_code : Field := ⟨0x4000C064, 23, 16⟩
/-- Table NJD-11: R128 -/
def NJD_LOG_APP0_result : Field := ⟨0x4000C064, 26, 24⟩
/-- Table NJD-11: Commits the entry (R128) -/
def NJD_LOG_APP1_data : Field := ⟨0x4000C068, 31, 0⟩
/-- Table NJD-11: Counter selected -/
def NJD_OVF_SEL_class : Field := ⟨0x4000C06C, 3, 0⟩
/-- Table NJD-11: Selected class counter -/
def NJD_OVF_CNT_count : Field := ⟨0x4000C070, 31, 0⟩
/-- Table NJD-11: Most recent fault of Table NJD-9 -/
def NJD_FAULT_code : Field := ⟨0x4000C074, 15, 0⟩
/-- Table NJD-11: Set with each fault -/
def NJD_FAULT_valid : Field := ⟨0x4000C074, 31, 31⟩
/-- Table KV-14: In 100 ms units, 1 to 100; other values ignored -/
def KV_CTRL_sweep_period : Field := ⟨0x4000D000, 6, 0⟩
/-- Table KV-14: Self-tests passed (R150) -/
def KV_STATUS_ready : Field := ⟨0x4000D004, 0, 0⟩
/-- Table KV-14: A command is running -/
def KV_STATUS_busy : Field := ⟨0x4000D004, 1, 1⟩
/-- Table KV-14: Transition in progress -/
def KV_STATUS_lc_busy : Field := ⟨0x4000D004, 2, 2⟩
/-- Table KV-14: KV_SELFTEST -/
def KV_STATUS_selftest_fail : Field := ⟨0x4000D004, 3, 3⟩
/-- Table KV-14: A KSUBMIT was refused -/
def KV_STATUS_refused : Field := ⟨0x4000D004, 4, 4⟩
/-- Table KV-14: Commands queued -/
def KV_STATUS_queued : Field := ⟨0x4000D004, 15, 8⟩
/-- Table KV-14: Lifecycle state -/
def KV_LC_state : Field := ⟨0x4000D008, 2, 0⟩
/-- Table KV-14: Transition pending -/
def KV_LC_pending : Field := ⟨0x4000D008, 3, 3⟩
/-- Table KV-14: Pending target -/
def KV_LC_target : Field := ⟨0x4000D008, 6, 4⟩
/-- Table KV-14: [8] PROVISIONED, [9] DEPLOYED, [10] RETIRED -/
def KV_LC_fuses : Field := ⟨0x4000D008, 10, 8⟩
/-- Table KV-14: Entries into SERVICE, saturating -/
def KV_LC_service_entries : Field := ⟨0x4000D008, 31, 16⟩
/-- Table KV-14: R144 -/
def KV_LC_REQ_target : Field := ⟨0x4000D00C, 2, 0⟩
/-- Table KV-14: 0xC3 -/
def KV_LC_REQ_key : Field := ⟨0x4000D00C, 15, 8⟩
/-- Table KV-14: 0x3CC3 -/
def KV_LC_CONFIRM_key : Field := ⟨0x4000D010, 15, 0⟩
/-- Table KV-14: 0 none, 1 done, 2 not in Table KV-6, 3 seal switch off, 4 outputs active, 5 confirm late or from another core, 6 in progress -/
def KV_LC_RESULT_result : Field := ⟨0x4000D014, 3, 0⟩
/-- Table KV-14: Slot shown by the next four registers -/
def KV_SLOT_SEL_slot : Field := ⟨0x4000D018, 7, 0⟩
/-- Table KV-14: Table KV-2 -/
def KV_SLOT_ATTR_state : Field := ⟨0x4000D01C, 1, 0⟩
/-- Table KV-14: Table KV-2 -/
def KV_SLOT_ATTR_origin : Field := ⟨0x4000D01C, 3, 2⟩
/-- Table KV-14: Table KV-2 -/
def KV_SLOT_ATTR_policy : Field := ⟨0x4000D01C, 5, 4⟩
/-- Table KV-14: Table KV-2 -/
def KV_SLOT_ATTR_class : Field := ⟨0x4000D01C, 8, 6⟩
/-- Table KV-14: Table KV-2 -/
def KV_SLOT_ATTR_alg : Field := ⟨0x4000D01C, 23, 16⟩
/-- Table KV-14: Table KV-2 -/
def KV_SLOT_USE_usage : Field := ⟨0x4000D020, 9, 0⟩
/-- Table KV-14: 0xFF for a root -/
def KV_SLOT_TREE_parent : Field := ⟨0x4000D024, 7, 0⟩
/-- Table KV-14: 0 to 3 -/
def KV_SLOT_TREE_depth : Field := ⟨0x4000D024, 9, 8⟩
/-- Table KV-14: Times this slot has been filled, saturating -/
def KV_SLOT_TREE_generation : Field := ⟨0x4000D024, 31, 16⟩
/-- Table KV-14: From the creating command -/
def KV_SLOT_LABEL_label : Field := ⟨0x4000D028, 31, 0⟩
/-- Table KV-14: ACTIVE slots -/
def KV_COUNT_active : Field := ⟨0x4000D02C, 8, 0⟩
/-- Table KV-14: Slots awaiting the sweep -/
def KV_COUNT_awaiting : Field := ⟨0x4000D02C, 24, 16⟩
/-- Table KV-14: Slots wiped, saturating -/
def KV_SWEEP_wiped : Field := ⟨0x4000D030, 15, 0⟩
/-- Table KV-14: 5 bits each, outstanding tickets of CC0, CC1, CC2, CC3 and the update engine -/
def KV_TICKETS_out : Field := ⟨0x4000D034, 24, 0⟩
/-- Table KV-14: 1 tickets exhausted, 2 transition or Dusk, 3 reserved opcode or nonzero reserved field -/
def KV_REFUSE_reason : Field := ⟨0x4000D038, 3, 0⟩
/-- Table KV-14: Submitter, as cr_coreid; 5 update engine -/
def KV_REFUSE_core : Field := ⟨0x4000D038, 6, 4⟩
/-- Table KV-14: Table KV-8 -/
def KV_TAP_level : Field := ⟨0x4000D03C, 2, 0⟩
/-- Table KV-14: TAP session open -/
def KV_TAP_session : Field := ⟨0x4000D03C, 3, 3⟩
/-- Table KV-14: Sessions opened, saturating -/
def KV_TAP_sessions : Field := ⟨0x4000D03C, 31, 16⟩
/-- Table KV-14: 64-bit device serial -/
def KV_SERIAL_LO_serial : Field := ⟨0x4000D040, 31, 0⟩
/-- Table KV-14: 64-bit device serial -/
def KV_SERIAL_HI_serial : Field := ⟨0x4000D044, 31, 0⟩
/-- Table KV-14: R141 -/
def KV_RNG_health_ok : Field := ⟨0x4000D048, 0, 0⟩
/-- Table KV-14: Restarts since Dawn -/
def KV_RNG_restarts : Field := ⟨0x4000D048, 9, 8⟩
/-- Table KV-14: Signatures made by NV keys, saturating -/
def KV_SIGN_CNT_signs : Field := ⟨0x4000D04C, 31, 0⟩
/-- Table KV-14: Most recent fault of R149 -/
def KV_FAULT_code : Field := ⟨0x4000D050, 15, 0⟩
/-- Table KV-14: Set with each fault -/
def KV_FAULT_valid : Field := ⟨0x4000D050, 31, 31⟩
/-- Table KV-14: Bytes 4n to 4n + 3 of the DIK identifier -/
def KV_DIK_IDn_id (n : Nat) : Field := ⟨0x4000D060 + 4 * n, 31, 0⟩
/-- Table UPD-12: 0 refuses every manifest with UPD_MAN_TARGET -/
def UPD_CTRL_en : Field := ⟨0x4000E000, 0, 0⟩
/-- Table UPD-12: 0 IDLE, 1 RECEIVING, 2 STAGED, 3 ACTIVATING, 4 FLIPPED, 5 FAILED, 6 PREPARED (Worker only) -/
def UPD_STATUS_state : Field := ⟨0x4000E004, 2, 0⟩
/-- Table UPD-12: The staged manifest is a restage manifest -/
def UPD_STATUS_restage : Field := ⟨0x4000E004, 3, 3⟩
/-- Table UPD-12: R156 reasons: [4] contactor, [5] gate, [6] session, [7] lifecycle, [8] Dusk, [9] admission -/
def UPD_STATUS_held : Field := ⟨0x4000E004, 9, 4⟩
/-- Table UPD-12: Update hold of Table UPD-5, step 1 -/
def UPD_STATUS_hold_on : Field := ⟨0x4000E004, 10, 10⟩
/-- Table UPD-12: Parts in the staged manifest -/
def UPD_STATUS_part_count : Field := ⟨0x4000E004, 29, 24⟩
/-- Table UPD-12: Trust-anchor slot; 0xFF none -/
def UPD_ANCHOR_slot : Field := ⟨0x4000E008, 7, 0⟩
/-- Table UPD-12: Offset in the memory-port window, 4 KiB units; base of the staging area of R151 check 7 and R155 -/
def UPD_STAGE_BASE_base : Field := ⟨0x4000E00C, 27, 12⟩
/-- Table UPD-12: 4 KiB units, 0 to 65,536 -/
def UPD_STAGE_SIZE_size : Field := ⟨0x4000E010, 16, 0⟩
/-- Table UPD-12: set_number of the staged manifest -/
def UPD_SET_set : Field := ⟨0x4000E014, 31, 0⟩
/-- Table UPD-12: Bit p: part p verified on every admitted member it names -/
def UPD_PART_DONE_done : Field := ⟨0x4000E018, 31, 0⟩
/-- Table UPD-12: Part shown in UPD_PART_INFO -/
def UPD_PART_SEL_part : Field := ⟨0x4000E01C, 4, 0⟩
/-- Table UPD-12: Member shown -/
def UPD_PART_SEL_member : Field := ⟨0x4000E01C, 11, 8⟩
/-- Table UPD-12: Blocks held -/
def UPD_PART_INFO_held : Field := ⟨0x4000E020, 9, 0⟩
/-- Table UPD-12: Lowest missing index -/
def UPD_PART_INFO_first_missing : Field := ⟨0x4000E020, 25, 16⟩
/-- Table UPD-12: All blocks held -/
def UPD_PART_INFO_complete : Field := ⟨0x4000E020, 26, 26⟩
/-- Table UPD-12: Digest matched -/
def UPD_PART_INFO_verified : Field := ⟨0x4000E020, 27, 27⟩
/-- Table UPD-12: Last digest mismatched -/
def UPD_PART_INFO_bad : Field := ⟨0x4000E020, 28, 28⟩
/-- Table UPD-12: Members named by the manifest -/
def UPD_MEMBERS_named : Field := ⟨0x4000E024, 15, 0⟩
/-- Table UPD-12: Members with all parts verified -/
def UPD_MEMBERS_ready : Field := ⟨0x4000E024, 31, 16⟩
/-- Table UPD-12: 0xAC71 (R156) -/
def UPD_ACTIVATE_key : Field := ⟨0x4000E028, 15, 0⟩
/-- Table UPD-12: set_number [15:0] -/
def UPD_ACTIVATE_set_lo : Field := ⟨0x4000E028, 31, 16⟩
/-- Table UPD-12: 0x5AB0: abort (R158). In IDLE, RECEIVING, STAGED or FAILED it discards all staging -/
def UPD_ABORT_key : Field := ⟨0x4000E02C, 15, 0⟩
/-- Table UPD-12: 0 none, 1 accepted, 2 refused, 3 staged, 4 held, 5 activation refused, 6 aborted, 7 flipped, 8 late commit, 9 restaged member, 10 member not admitted -/
def UPD_RESULT_outcome : Field := ⟨0x4000E030, 7, 0⟩
/-- Table UPD-12: Fault code low byte -/
def UPD_RESULT_cause : Field := ⟨0x4000E030, 15, 8⟩
/-- Table UPD-12: Member mask involved -/
def UPD_RESULT_members : Field := ⟨0x4000E030, 31, 16⟩
/-- Table UPD-12: Counter shown -/
def UPD_CTR_SEL_index : Field := ⟨0x4000E034, 4, 0⟩
/-- Table UPD-12: Selected counter of this chip -/
def UPD_CTR_value : Field := ⟨0x4000E038, 31, 0⟩
/-- Table UPD-12: Sequence number of the booted record -/
def UPD_REC_seq : Field := ⟨0x4000E03C, 31, 0⟩
/-- Table UPD-12: Saturating (R153) -/
def UPD_COUNT_crc_bad : Field := ⟨0x4000E040, 15, 0⟩
/-- Table UPD-12: Saturating (R153) -/
def UPD_COUNT_dropped : Field := ⟨0x4000E040, 31, 16⟩
/-- Table UPD-12: Most recent code of Table UPD-10 -/
def UPD_FAULT_code : Field := ⟨0x4000E044, 15, 0⟩
/-- Table UPD-12: Set with each fault -/
def UPD_FAULT_valid : Field := ⟨0x4000E044, 31, 31⟩
/-- Table HSP-9: R173 -/
def HSP_CTRL_seq_strict : Field := ⟨0x40002000, 0, 0⟩
/-- Table HSP-9: Copy of SYS_POST_STATUS.host_alive -/
def HSP_STATUS_host_alive : Field := ⟨0x40002004, 0, 0⟩
/-- Table HSP-9: A frame was ignored -/
def HSP_STATUS_bad : Field := ⟨0x40002004, 1, 1⟩
/-- Table HSP-9: A frame was truncated -/
def HSP_STATUS_trunc : Field := ⟨0x40002004, 2, 2⟩
/-- Table HSP-9: Sequence error or repeat -/
def HSP_STATUS_seq : Field := ⟨0x40002004, 3, 3⟩
/-- Table HSP-9: A refused word (R176) -/
def HSP_STATUS_reg_err : Field := ⟨0x40002004, 4, 4⟩
/-- Table HSP-9: A host write was ignored (R176) -/
def HSP_STATUS_wr_ign : Field := ⟨0x40002004, 5, 5⟩
/-- Table HSP-9: A frame was ignored as busy -/
def HSP_STATUS_busy : Field := ⟨0x40002004, 6, 6⟩
/-- Table HSP-9: 1 if the last frame began in mode 3 -/
def HSP_STATUS_mode3 : Field := ⟨0x40002004, 7, 7⟩
/-- Table HSP-9: Alive value a (R173) -/
def HSP_STATUS_last_alive : Field := ⟨0x40002004, 11, 8⟩
/-- Table HSP-9: Opcode of the last accepted frame -/
def HSP_STATUS_last_op : Field := ⟨0x40002004, 15, 12⟩
/-- Table HSP-9: D, 2 to 31; other values ignored; takes effect from the next frame -/
def HSP_CFG_dummy : Field := ⟨0x40002008, 4, 0⟩
/-- Table HSP-9: ms, 10 to 65,535; other values ignored -/
def HSP_CFG_alive_to : Field := ⟨0x40002008, 31, 16⟩
/-- Table HSP-9: Bit n: outbound stream n non-empty -/
def HSP_ATTN_ostr : Field := ⟨0x4000200C, 7, 0⟩
/-- Table HSP-9: R185 -/
def HSP_ATTN_worker_lost : Field := ⟨0x4000200C, 8, 8⟩
/-- Table HSP-9: R185 -/
def HSP_ATTN_update : Field := ⟨0x4000200C, 9, 9⟩
/-- Table HSP-9: R185 -/
def HSP_ATTN_fault : Field := ⟨0x4000200C, 10, 10⟩
/-- Table HSP-9: R185 -/
def HSP_ATTN_dusk : Field := ⟨0x4000200C, 11, 11⟩
/-- Table HSP-9: Dawn hold -/
def HSP_ATTN_hold : Field := ⟨0x4000200C, 12, 12⟩
/-- Table HSP-9: Program causes -/
def HSP_ATTN_sw : Field := ⟨0x4000200C, 23, 16⟩
/-- Table HSP-9: Bit positions as HSP_ATTN; reserved positions read 0 -/
def HSP_ATTN_EN_en : Field := ⟨0x40002010, 23, 0⟩
/-- Table HSP-9: 1 sets that program cause; cores only -/
def HSP_ATTN_SET_sw : Field := ⟨0x40002014, 23, 16⟩
/-- Table HSP-9: Accepted frames, wrapping -/
def HSP_CNT_GOOD_accepted : Field := ⟨0x40002018, 31, 0⟩
/-- Table HSP-9: Request CRC failures, saturating -/
def HSP_CNT_BAD_crc : Field := ⟨0x4000201C, 15, 0⟩
/-- Table HSP-9: Malformed frames, saturating -/
def HSP_CNT_BAD_format : Field := ⟨0x4000201C, 31, 16⟩
/-- Table HSP-9: Truncated frames, saturating -/
def HSP_CNT_MISC_trunc : Field := ⟨0x40002020, 7, 0⟩
/-- Table HSP-9: Sequence errors and repeats, saturating -/
def HSP_CNT_MISC_seq : Field := ⟨0x40002020, 15, 8⟩
/-- Table HSP-9: Busy-ignored frames, saturating -/
def HSP_CNT_MISC_busy : Field := ⟨0x40002020, 23, 16⟩
/-- Table HSP-9: Refused words, saturating -/
def HSP_CNT_MISC_reg_err : Field := ⟨0x40002020, 31, 24⟩
/-- Table HSP-9: Most recent code of Table HSP-7 -/
def HSP_FAULT_code : Field := ⟨0x40002024, 15, 0⟩
/-- Table HSP-9: Set with each fault -/
def HSP_FAULT_valid : Field := ⟨0x40002024, 31, 31⟩
/-- Table HSP-9: Bound local queue -/
def HSP_OSTRn_CFG_queue (n : Nat) : Field := ⟨0x40002040 + 4 * n, 15, 0⟩
/-- Table HSP-9: R182 -/
def HSP_OSTRn_CFG_en (n : Nat) : Field := ⟨0x40002040 + 4 * n, 16, 16⟩
/-- Table HSP-9: Bytes buffered, 0 to 1,024 -/
def HSP_OSTRn_CFG_level (n : Nat) : Field := ⟨0x40002040 + 4 * n, 30, 20⟩
/-- Table HSP-9: A delivery awaits commit -/
def HSP_OSTRn_CFG_pending (n : Nat) : Field := ⟨0x40002040 + 4 * n, 31, 31⟩
/-- Table HSP-9: Bound local queue -/
def HSP_ISTRn_CFG_queue (n : Nat) : Field := ⟨0x40002060 + 4 * n, 15, 0⟩
/-- Table HSP-9: Inbound stream enable; a frame to a disabled stream is ignored as busy -/
def HSP_ISTRn_CFG_en (n : Nat) : Field := ⟨0x40002060 + 4 * n, 16, 16⟩
/-- Table HSP-9: Free bytes in the buffer -/
def HSP_ISTRn_CFG_space (n : Nat) : Field := ⟨0x40002060 + 4 * n, 30, 20⟩
/-- Table QE-9: 0 stops new remote transmissions; remote QPUSH returns NO_ROUTE -/
def QE_CTRL_tx_en : Field := ⟨0x40003000, 0, 0⟩
/-- Table QE-9: R192 -/
def QE_STATUS_table_busy : Field := ⟨0x40003004, 0, 0⟩
/-- Table QE-9: R197 -/
def QE_STATUS_db_refused : Field := ⟨0x40003004, 1, 1⟩
/-- Table QE-9: R202 -/
def QE_STATUS_evt_ovf : Field := ⟨0x40003004, 2, 2⟩
/-- Table QE-9: R204 -/
def QE_STATUS_hold_table : Field := ⟨0x40003004, 3, 3⟩
/-- Table QE-9: Messages in the transmit buffer -/
def QE_STATUS_tx_held : Field := ⟨0x40003004, 15, 8⟩
/-- Table QE-9: R192; a write of 0 is ignored while any queue is enabled -/
def QE_TABLE_CFG_en : Field := ⟨0x40003008, 0, 0⟩
/-- Table QE-9: 8 to 16; writes while en = 1 are ignored -/
def QE_TABLE_CFG_k : Field := ⟨0x40003008, 4, 1⟩
/-- Table QE-9: Table address [31:13]; aligned to the table size -/
def QE_TABLE_CFG_base : Field := ⟨0x40003008, 31, 13⟩
/-- Table QE-9: R199 -/
def QE_CFG_full_retries : Field := ⟨0x4000300C, 3, 0⟩
/-- Table QE-9: ms, 1 to 255 -/
def QE_CFG_ack_to : Field := ⟨0x4000300C, 15, 8⟩
/-- Table QE-9: 10 ms units, 1 to 255 -/
def QE_CFG_resv_to : Field := ⟨0x4000300C, 23, 16⟩
/-- Table QE-9: Queue for the DESC registers and QE_DESC_CMD -/
def QE_DESC_SEL_queue : Field := ⟨0x40003010, 15, 0⟩
/-- Table QE-9: Staged ring address -/
def QE_DESC_BASE_base : Field := ⟨0x40003014, 31, 6⟩
/-- Table QE-9: Queue enabled -/
def QE_DESC_CTRL_en : Field := ⟨0x40003018, 0, 0⟩
/-- Table QE-9: 0b00 16, 0b01 32, 0b10 64 bytes; 0b11 reserved -/
def QE_DESC_CTRL_esize : Field := ⟨0x40003018, 2, 1⟩
/-- Table QE-9: 1 to 15 -/
def QE_DESC_CTRL_log2_depth : Field := ⟨0x40003018, 7, 3⟩
/-- Table QE-9: span − 1 -/
def QE_DESC_CTRL_span_m1 : Field := ⟨0x40003018, 14, 8⟩
/-- Table QE-9: R196 -/
def QE_DESC_CTRL_task_ok : Field := ⟨0x40003018, 15, 15⟩
/-- Table QE-9: Accept from the fabric -/
def QE_DESC_CTRL_remote_ok : Field := ⟨0x40003018, 16, 16⟩
/-- Table QE-9: Accept only from nodes of this post -/
def QE_DESC_CTRL_post_only : Field := ⟨0x40003018, 17, 17⟩
/-- Table QE-9: Producer doorbell path -/
def QE_DESC_CTRL_prod_direct : Field := ⟨0x40003018, 18, 18⟩
/-- Table QE-9: Consumed by a stream or block -/
def QE_DESC_CTRL_cons_engine : Field := ⟨0x40003018, 19, 19⟩
/-- Table QE-9: Rollback or zero-fill in progress -/
def QE_DESC_CTRL_paused : Field := ⟨0x40003018, 20, 20⟩
/-- Table QE-9: CC0 to CC3 (R202) -/
def QE_DESC_CTRL_evt_mask : Field := ⟨0x40003018, 25, 22⟩
/-- Table QE-9: Table QE-1 -/
def QE_DESC_NOTIFY_notify : Field := ⟨0x4000301C, 15, 0⟩
/-- Table QE-9: Table QE-1 -/
def QE_DESC_NOTIFY_src : Field := ⟨0x4000301C, 31, 16⟩
/-- Table QE-9: From the last LOAD -/
def QE_DESC_PROD_count : Field := ⟨0x40003020, 31, 0⟩
/-- Table QE-9: From the last LOAD -/
def QE_DESC_RESV_count : Field := ⟨0x40003024, 31, 0⟩
/-- Table QE-9: From the last LOAD -/
def QE_DESC_CONS_count : Field := ⟨0x40003028, 31, 0⟩
/-- Table QE-9: From the last LOAD -/
def QE_DESC_CNT_refused : Field := ⟨0x4000302C, 15, 0⟩
/-- Table QE-9: From the last LOAD -/
def QE_DESC_CNT_rollbacks : Field := ⟨0x4000302C, 31, 16⟩
/-- Table QE-9: 1 LOAD, 2 APPLY, 3 ENABLE, 4 DISABLE, 5 RESET (counts to 0; disabled only), 6 PIN, 7 UNPIN -/
def QE_DESC_CMD_cmd : Field := ⟨0x40003030, 2, 0⟩
/-- Table QE-9: 0 done, 1 queue does not exist, 2 invalid fields or region (R203, R206), 3 enabled, 4 pin limit -/
def QE_DESC_CMD_result : Field := ⟨0x40003030, 26, 24⟩
/-- Table QE-9: R197 -/
def QE_DB_PROD_queue : Field := ⟨0x40003034, 15, 0⟩
/-- Table QE-9: R197 -/
def QE_DB_CONS_queue : Field := ⟨0x40003038, 15, 0⟩
/-- Table QE-9: 1 to 255 -/
def QE_DB_PROD_n : Field := ⟨0x40003034, 23, 16⟩
/-- Table QE-9: 1 to 255 -/
def QE_DB_CONS_n : Field := ⟨0x40003038, 23, 16⟩
/-- Table QE-9: R202; a read removes -/
def QE_EVT_queue : Field := ⟨0x4000303C, 31, 0⟩
/-- Table QE-9: R200 -/
def QE_REP_CFG_all : Field := ⟨0x40003040, 0, 0⟩
/-- Table QE-9: Remote messages sent, received; wrapping -/
def QE_CNT_TX_messages : Field := ⟨0x40003044, 31, 0⟩
/-- Table QE-9: Remote messages sent, received; wrapping -/
def QE_CNT_RX_messages : Field := ⟨0x40003048, 31, 0⟩
/-- Table QE-9: Saturating -/
def QE_CNT_MISC_db_refused : Field := ⟨0x4000304C, 7, 0⟩
/-- Table QE-9: Saturating -/
def QE_CNT_MISC_rep_lost : Field := ⟨0x4000304C, 15, 8⟩
/-- Table QE-9: Saturating -/
def QE_CNT_MISC_rollbacks : Field := ⟨0x4000304C, 23, 16⟩
/-- Table QE-9: Saturating -/
def QE_CNT_MISC_lost_refused : Field := ⟨0x4000304C, 31, 24⟩
/-- Table QE-9: Saturating -/
def QE_CACHE_hits : Field := ⟨0x40003050, 15, 0⟩
/-- Table QE-9: Saturating -/
def QE_CACHE_misses : Field := ⟨0x40003050, 30, 16⟩
/-- Table QE-9: Low byte of the most recent QE fault code; the code is 0x0300 + cause -/
def QE_FAULT_cause : Field := ⟨0x40003054, 7, 0⟩
/-- Table QE-9: Queue involved, 0x0000 to 0xFFFF -/
def QE_FAULT_queue : Field := ⟨0x40003054, 23, 8⟩
/-- Table QE-9: Set with each fault -/
def QE_FAULT_valid : Field := ⟨0x40003054, 31, 31⟩
/-- Table QE-9: Source address -/
def QE_CPYn_SRC_src (n : Nat) : Field := ⟨0x40003080 + 16 * n, 31, 2⟩
/-- Table QE-9: Memory mode: address. Message mode: node [31:16], queue [15:0] -/
def QE_CPYn_DST_dst (n : Nat) : Field := ⟨0x40003084 + 16 * n, 31, 0⟩
/-- Table QE-9: Bytes (R207), up to 16,777,216 -/
def QE_CPYn_CTRL_len (n : Nat) : Field := ⟨0x40003088 + 16 * n, 24, 0⟩
/-- Table QE-9: 0 memory, 1 message -/
def QE_CPYn_CTRL_mode (n : Nat) : Field := ⟨0x40003088 + 16 * n, 25, 25⟩
/-- Table QE-9: Starts the channel; ignored while busy -/
def QE_CPYn_CTRL_go (n : Nat) : Field := ⟨0x40003088 + 16 * n, 26, 26⟩
/-- Table QE-9: R207 -/
def QE_CPYn_CTRL_abort (n : Nat) : Field := ⟨0x40003088 + 16 * n, 27, 27⟩
/-- Table QE-9: 1 raises EVT_QE at completion -/
def QE_CPYn_CTRL_evt (n : Nat) : Field := ⟨0x40003088 + 16 * n, 28, 28⟩
/-- Table QE-9: 0 idle, 1 busy, 2 done, 3 error -/
def QE_CPYn_STATUS_state (n : Nat) : Field := ⟨0x4000308C + 16 * n, 1, 0⟩
/-- Table QE-9: Table QE-3 outcome, or 0x10 region, 0x11 overlap, 0x12 aborted -/
def QE_CPYn_STATUS_cause (n : Nat) : Field := ⟨0x4000308C + 16 * n, 15, 8⟩
/-- Table STF-14: R236 -/
def STF_CTRL_assign_ok : Field := ⟨0x40005000, 0, 0⟩
/-- Table STF-14: R240 -/
def STF_CTRL_admit_gate : Field := ⟨0x40005000, 1, 1⟩
/-- Table STF-14: 1 invalidates all table entries and the default -/
def STF_CTRL_rt_clear : Field := ⟨0x40005000, 2, 2⟩
/-- Table STF-14: 1 starts a sweep (R237) -/
def STF_CTRL_sweep_now : Field := ⟨0x40005000, 3, 3⟩
/-- Table STF-14: R235 -/
def STF_CTRL_hello_en : Field := ⟨0x40005000, 4, 4⟩
/-- Table STF-14: Copy of SYS_POST_STATUS.site_link -/
def STF_STATUS_site_link : Field := ⟨0x40005004, 0, 0⟩
/-- Table STF-14: Worker: assigned to a Manager -/
def STF_STATUS_has_owner : Field := ⟨0x40005004, 1, 1⟩
/-- Table STF-14: 0 none, 1 sealed set or write, 2 seed -/
def STF_STATUS_post_src : Field := ⟨0x40005004, 3, 2⟩
/-- Table STF-14: R225 -/
def STF_STATUS_post_refused : Field := ⟨0x40005004, 4, 4⟩
/-- Table STF-14: A Worker of another owner was found -/
def STF_STATUS_foreign : Field := ⟨0x40005004, 5, 5⟩
/-- Table STF-14: R226 -/
def STF_STATUS_dup_node : Field := ⟨0x40005004, 6, 6⟩
/-- Table STF-14: R224 -/
def STF_NODE_node_id : Field := ⟨0x40005008, 15, 0⟩
/-- Table STF-14: Post number -/
def STF_NODE_post : Field := ⟨0x40005008, 27, 16⟩
/-- Table STF-14: 250 µs units, 1 to 8 -/
def STF_CFG_rtx_to : Field := ⟨0x4000500C, 3, 0⟩
/-- Table STF-14: R233 -/
def STF_CFG_rtx_max : Field := ⟨0x4000500C, 5, 4⟩
/-- Table STF-14: 100 ms units, 10 to 255 (R239) -/
def STF_CFG_forget : Field := ⟨0x4000500C, 15, 8⟩
/-- Table STF-14: 100 ms units, 1 to 100 -/
def STF_SITE_CFG_hello_period : Field := ⟨0x40005010, 6, 0⟩
/-- Table STF-14: 2 to 15 -/
def STF_SITE_CFG_age : Field := ⟨0x40005010, 11, 8⟩
/-- Table STF-14: Default route -/
def STF_DEFAULT_port : Field := ⟨0x40005014, 1, 0⟩
/-- Table STF-14: Default route -/
def STF_DEFAULT_valid : Field := ⟨0x40005014, 2, 2⟩
/-- Table STF-14: Alternate -/
def STF_DEFAULT_alt : Field := ⟨0x40005014, 5, 4⟩
/-- Table STF-14: Alternate -/
def STF_DEFAULT_alt_valid : Field := ⟨0x40005014, 6, 6⟩
/-- Table STF-14: Entry selected -/
def STF_RT_SEL_index : Field := ⟨0x40005018, 8, 0⟩
/-- Table STF-14: Post range; a write updates the selected entry whole -/
def STF_RT_ENTRY_lo : Field := ⟨0x4000501C, 11, 0⟩
/-- Table STF-14: Post range; a write updates the selected entry whole -/
def STF_RT_ENTRY_hi : Field := ⟨0x4000501C, 23, 12⟩
/-- Table STF-14: Ports -/
def STF_RT_ENTRY_port : Field := ⟨0x4000501C, 25, 24⟩
/-- Table STF-14: Ports -/
def STF_RT_ENTRY_alt : Field := ⟨0x4000501C, 27, 26⟩
/-- Table STF-14: R229, R231 -/
def STF_RT_ENTRY_valid : Field := ⟨0x4000501C, 28, 28⟩
/-- Table STF-14: R229, R231 -/
def STF_RT_ENTRY_alt_valid : Field := ⟨0x4000501C, 29, 29⟩
/-- Table STF-14: Rate code -/
def STF_PORTn_CFG_max_rate (n : Nat) : Field := ⟨0x40005020 + 4 * n, 1, 0⟩
/-- Table STF-14: Port enable -/
def STF_PORTn_CFG_en (n : Nat) : Field := ⟨0x40005020 + 4 * n, 2, 2⟩
/-- Table STF-14: R220 -/
def STF_PORTn_CFG_post_ok (n : Nat) : Field := ⟨0x40005020 + 4 * n, 3, 3⟩
/-- Table STF-14: R220 -/
def STF_PORTn_CFG_site_ok (n : Nat) : Field := ⟨0x40005020 + 4 * n, 4, 4⟩
/-- Table STF-14: R216 -/
def STF_PORTn_CFG_term (n : Nat) : Field := ⟨0x40005020 + 4 * n, 5, 5⟩
/-- Table STF-14: R221 -/
def STF_PORTn_CFG_retrain (n : Nat) : Field := ⟨0x40005020 + 4 * n, 6, 6⟩
/-- Table STF-14: 0 OFF, 1 ALIGN, 2 TRAIN, 3 UP -/
def STF_PORTn_STATUS_state (n : Nat) : Field := ⟨0x40005030 + 4 * n, 2, 0⟩
/-- Table STF-14: Rate code in use -/
def STF_PORTn_STATUS_rate (n : Nat) : Field := ⟨0x40005030 + 4 * n, 4, 3⟩
/-- Table STF-14: 0 post, 1 site -/
def STF_PORTn_STATUS_kind (n : Nat) : Field := ⟨0x40005030 + 4 * n, 5, 5⟩
/-- Table STF-14: Train-word role -/
def STF_PORTn_STATUS_peer_role (n : Nat) : Field := ⟨0x40005030 + 4 * n, 7, 6⟩
/-- Table STF-14: Saturating -/
def STF_PORTn_STATUS_downs (n : Nat) : Field := ⟨0x40005030 + 4 * n, 15, 8⟩
/-- Table STF-14: R235 -/
def STF_PORTn_NBR_node (n : Nat) : Field := ⟨0x40005040 + 4 * n, 15, 0⟩
/-- Table STF-14: R235 -/
def STF_PORTn_NBR_port (n : Nat) : Field := ⟨0x40005040 + 4 * n, 17, 16⟩
/-- Table STF-14: R235 -/
def STF_PORTn_NBR_valid (n : Nat) : Field := ⟨0x40005040 + 4 * n, 18, 18⟩
/-- Table STF-14: R221, R227; saturating -/
def STF_PORTn_ERR_symbol (n : Nat) : Field := ⟨0x40005050 + 4 * n, 7, 0⟩
/-- Table STF-14: R221, R227; saturating -/
def STF_PORTn_ERR_hcrc (n : Nat) : Field := ⟨0x40005050 + 4 * n, 15, 8⟩
/-- Table STF-14: R221, R227; saturating -/
def STF_PORTn_ERR_fcrc (n : Nat) : Field := ⟨0x40005050 + 4 * n, 23, 16⟩
/-- Table STF-14: R221, R227; saturating -/
def STF_PORTn_ERR_len (n : Nat) : Field := ⟨0x40005050 + 4 * n, 31, 24⟩
/-- Table STF-14: 1 to 15 -/
def STF_MEMBER_SEL_member : Field := ⟨0x40005060, 3, 0⟩
/-- Table STF-14: 0 free, 1 assigned, 2 admitting, 3 admitted, 4 withdrawn, 5 lost, 6 hold -/
def STF_MEMBER_STATE_state : Field := ⟨0x40005064, 2, 0⟩
/-- Table STF-14: R238; writable while state is 0 -/
def STF_MEMBER_STATE_pinned : Field := ⟨0x40005064, 3, 3⟩
/-- Table STF-14: 1 silence, 2 fault, 3 removal -/
def STF_MEMBER_STATE_cause : Field := ⟨0x40005064, 6, 4⟩
/-- Table STF-14: Path lengths; len_b = 0 means no path_b -/
def STF_MEMBER_STATE_len_a : Field := ⟨0x40005064, 11, 8⟩
/-- Table STF-14: Path lengths; len_b = 0 means no path_b -/
def STF_MEMBER_STATE_len_b : Field := ⟨0x40005064, 15, 12⟩
/-- Table STF-14: From heartbeats -/
def STF_MEMBER_STATE_last_fault : Field := ⟨0x40005064, 31, 16⟩
/-- Table STF-14: Route elements -/
def STF_MEMBER_PATH_path_a : Field := ⟨0x40005068, 15, 0⟩
/-- Table STF-14: Route elements -/
def STF_MEMBER_PATH_path_b : Field := ⟨0x40005068, 31, 16⟩
/-- Table STF-14: 100 W units -/
def STF_MEMBER_RATING_rating : Field := ⟨0x4000506C, 15, 0⟩
/-- Table STF-14: Member serial -/
def STF_MEMBER_SER_LO_serial : Field := ⟨0x40005070, 31, 0⟩
/-- Table STF-14: Member serial -/
def STF_MEMBER_SER_HI_serial : Field := ⟨0x40005074, 31, 0⟩
/-- Table STF-14: Bitmaps by member -/
def STF_MEMBERS_assigned : Field := ⟨0x40005078, 15, 1⟩
/-- Table STF-14: Bitmaps by member -/
def STF_MEMBERS_admitted : Field := ⟨0x40005078, 31, 17⟩
/-- Table STF-14: Sum of ratings of admitted members not lost -/
def STF_CAPACITY_capacity : Field := ⟨0x4000507C, 15, 0⟩
/-- Table STF-14: Last loss (R243) -/
def STF_LOSS_member : Field := ⟨0x40005080, 3, 0⟩
/-- Table STF-14: Last loss (R243) -/
def STF_LOSS_cause : Field := ⟨0x40005080, 6, 4⟩
/-- Table STF-14: STF_CAPACITY after the loss -/
def STF_LOSS_capacity : Field := ⟨0x40005080, 31, 16⟩
/-- Table STF-14: Target -/
def STF_CMD_member : Field := ⟨0x40005084, 3, 0⟩
/-- Table STF-14: 1 ADMIT, 2 EXPEL, 3 RESET, 4 RELEASE -/
def STF_CMD_code : Field := ⟨0x40005084, 7, 4⟩
/-- Table STF-14: 0x5A17 for RESET; otherwise 0 -/
def STF_CMD_key : Field := ⟨0x40005084, 31, 16⟩
/-- Table STF-14: Worker: Manager node -/
def STF_MGR_owner : Field := ⟨0x40005088, 15, 0⟩
/-- Table STF-14: rev_b held -/
def STF_MGR_rev_b : Field := ⟨0x40005088, 16, 16⟩
/-- Table STF-14: Since the last valid Manager frame, saturating -/
def STF_MGR_silent_ms : Field := ⟨0x40005088, 31, 20⟩
/-- Table STF-14: Saturating -/
def STF_CNT_FRAMES_tx : Field := ⟨0x4000508C, 15, 0⟩
/-- Table STF-14: Saturating -/
def STF_CNT_FRAMES_rx : Field := ⟨0x4000508C, 31, 16⟩
/-- Table STF-14: Saturating -/
def STF_CNT_DROP_hop : Field := ⟨0x40005090, 7, 0⟩
/-- Table STF-14: Saturating -/
def STF_CNT_DROP_no_route : Field := ⟨0x40005090, 15, 8⟩
/-- Table STF-14: Saturating -/
def STF_CNT_DROP_dup : Field := ⟨0x40005090, 23, 16⟩
/-- Table STF-14: Saturating -/
def STF_CNT_DROP_foreign : Field := ⟨0x40005090, 31, 24⟩
/-- Table STF-14: Saturating -/
def STF_CNT_RTX_rtx : Field := ⟨0x40005094, 15, 0⟩
/-- Table STF-14: Saturating -/
def STF_CNT_RTX_no_ack : Field := ⟨0x40005094, 31, 16⟩
/-- Table STF-14: Saturating -/
def STF_SWEEP_sweeps : Field := ⟨0x40005098, 15, 0⟩
/-- Table STF-14: Duration of the last sweep -/
def STF_SWEEP_last_ms : Field := ⟨0x40005098, 23, 16⟩
/-- Table STF-14: Sweep running -/
def STF_SWEEP_busy : Field := ⟨0x40005098, 24, 24⟩
/-- Table STF-14: Most recent code of Table STF-12 -/
def STF_FAULT_code : Field := ⟨0x4000509C, 15, 0⟩
/-- Table STF-14: Set with each fault -/
def STF_FAULT_valid : Field := ⟨0x4000509C, 31, 31⟩
/-- Table VEH-11: R249 -/
def VEH_CTRL_release : Field := ⟨0x40008000, 0, 0⟩
/-- Table VEH-11: R249 -/
def VEH_CTRL_trip_f : Field := ⟨0x40008000, 1, 1⟩
/-- Table VEH-11: CC0 to CC3 in [7:4], SFC in [8] -/
def VEH_CTRL_evt_mask : Field := ⟨0x40008000, 8, 4⟩
/-- Table VEH-11: R249 -/
def VEH_STATUS_forced : Field := ⟨0x40008004, 0, 0⟩
/-- Table VEH-11: [1] timer, [2] lockout, [3] Dusk -/
def VEH_STATUS_cause : Field := ⟨0x40008004, 3, 1⟩
/-- Table VEH-11: Refused RWS or en write -/
def VEH_STATUS_cfg_refused : Field := ⟨0x40008004, 4, 4⟩
/-- Table VEH-11: Pulse running -/
def VEH_STATUS_pwm_on : Field := ⟨0x40008004, 5, 5⟩
/-- Table VEH-11: R248; values above 1,000 ignored -/
def VEH_CP_PWM_duty : Field := ⟨0x40008008, 9, 0⟩
/-- Table VEH-11: Duty of the current period -/
def VEH_CP_PWM_duty_now : Field := ⟨0x40008008, 25, 16⟩
/-- Table VEH-11: µs, 10 to 60 -/
def VEH_CP_CFG_delay : Field := ⟨0x4000800C, 5, 0⟩
/-- Table VEH-11: 1 to 15 -/
def VEH_CP_CFG_deb : Field := ⟨0x4000800C, 11, 8⟩
/-- Table VEH-11: ms, 1 to 255 -/
def VEH_CP_CFG_inv_ms : Field := ⟨0x4000800C, 23, 16⟩
/-- Table VEH-11: Table VEH-1 code; 0 none yet -/
def VEH_CP_STATE_state : Field := ⟨0x40008010, 2, 0⟩
/-- Table VEH-11: R252 -/
def VEH_CP_STATE_pwm : Field := ⟨0x40008010, 3, 3⟩
/-- Table VEH-11: Previous state -/
def VEH_CP_STATE_prev : Field := ⟨0x40008010, 6, 4⟩
/-- Table VEH-11: Accepted changes, saturating -/
def VEH_CP_STATE_changes : Field := ⟨0x40008010, 31, 16⟩
/-- Table VEH-11: R252 -/
def VEH_CP_TIME_mt : Field := ⟨0x40008014, 31, 0⟩
/-- Table VEH-11: Signed, pilot side -/
def VEH_CP_LEVEL_high_mv : Field := ⟨0x40008018, 15, 0⟩
/-- Table VEH-11: Signed, pilot side -/
def VEH_CP_LEVEL_low_mv : Field := ⟨0x40008018, 31, 16⟩
/-- Table VEH-11: Signed, 0.01 %, −1,000 to 1,000 -/
def VEH_CP_CAL_gain : Field := ⟨0x4000801C, 15, 0⟩
/-- Table VEH-11: Signed, mV, −2,000 to 2,000 -/
def VEH_CP_CAL_offset : Field := ⟨0x4000801C, 31, 16⟩
/-- Table VEH-11: Ω, 330 to 4,700 -/
def VEH_PP_CFG_r_pu : Field := ⟨0x40008020, 12, 0⟩
/-- Table VEH-11: R254 -/
def VEH_PP_CFG_en : Field := ⟨0x40008020, 16, 16⟩
/-- Table VEH-11: Table VEH-3 -/
def VEH_PP_STATE_code : Field := ⟨0x40008024, 2, 0⟩
/-- Table VEH-11: Saturating -/
def VEH_PP_STATE_changes : Field := ⟨0x40008024, 15, 8⟩
/-- Table VEH-11: Last Rc, saturating at 65,535 -/
def VEH_PP_STATE_ohms : Field := ⟨0x40008024, 31, 16⟩
/-- Table VEH-11: R256 -/
def VEH_ASM_CTRL_en : Field := ⟨0x40008028, 0, 0⟩
/-- Table VEH-11: 0 mode 0, 1 mode 3 -/
def VEH_ASM_CTRL_mode3 : Field := ⟨0x40008028, 1, 1⟩
/-- Table VEH-11: Level on ASM_RST_N -/
def VEH_ASM_CTRL_rst : Field := ⟨0x40008028, 2, 2⟩
/-- Table VEH-11: R258 -/
def VEH_ASM_CTRL_int_en : Field := ⟨0x40008028, 3, 3⟩
/-- Table VEH-11: Ticks, 1 to 255 -/
def VEH_ASM_CTRL_gap : Field := ⟨0x40008028, 15, 8⟩
/-- Table VEH-11: 0 to 4 -/
def VEH_ASM_CTRL_int_wr_len : Field := ⟨0x40008028, 18, 16⟩
/-- Table VEH-11: 0 to 2,048 -/
def VEH_ASM_CTRL_int_rd_len : Field := ⟨0x40008028, 31, 20⟩
/-- Table VEH-11: Transaction in progress -/
def VEH_ASM_STATUS_busy : Field := ⟨0x4000802C, 0, 0⟩
/-- Table VEH-11: Level of ASM_INT_N -/
def VEH_ASM_STATUS_int : Field := ⟨0x4000802C, 1, 1⟩
/-- Table VEH-11: Transactions completed, wrapping -/
def VEH_ASM_STATUS_done : Field := ⟨0x4000802C, 31, 16⟩
/-- Table VEH-11: Template bytes, byte 0 in [7:0] -/
def VEH_ASM_INT_bytes : Field := ⟨0x40008030, 31, 0⟩
/-- Table VEH-11: 0 IDLE, 1 WAITING, 2 MATCHING, 3 MATCHED, 4 FAILED -/
def VEH_SLAC_state : Field := ⟨0x40008034, 2, 0⟩
/-- Table VEH-11: Program's count -/
def VEH_SLAC_attempts : Field := ⟨0x40008034, 15, 8⟩
/-- Table VEH-11: R252 -/
def VEH_EVT_cp_state : Field := ⟨0x40008038, 0, 0⟩
/-- Table VEH-11: R253 -/
def VEH_EVT_cp_fault : Field := ⟨0x40008038, 1, 1⟩
/-- Table VEH-11: R254 -/
def VEH_EVT_pp_change : Field := ⟨0x40008038, 2, 2⟩
/-- Table VEH-11: R254 -/
def VEH_EVT_pp_fault : Field := ⟨0x40008038, 3, 3⟩
/-- Table VEH-11: R257 -/
def VEH_EVT_asm_done : Field := ⟨0x40008038, 4, 4⟩
/-- Table VEH-11: R258 -/
def VEH_EVT_asm_int : Field := ⟨0x40008038, 5, 5⟩
/-- Table VEH-11: Bit 6 + n: timer n expired (R259) -/
def VEH_EVT_tmr : Field := ⟨0x40008038, 13, 6⟩
/-- Table VEH-11: R259 -/
def VEH_EVT_slac : Field := ⟨0x40008038, 14, 14⟩
/-- Table VEH-11: Most recent code of Table VEH-4 -/
def VEH_FAULT_code : Field := ⟨0x4000803C, 15, 0⟩
/-- Table VEH-11: Set with each fault -/
def VEH_FAULT_valid : Field := ⟨0x4000803C, 31, 31⟩
/-- Table VEH-11: 1 to 1,048,575; 0 makes start ignored -/
def VEH_TMRn_ms (n : Nat) : Field := ⟨0x40008040 + 4 * n, 19, 0⟩
/-- Table VEH-11: 0 none, 1 steady high, 2 steady low; 3 ignored -/
def VEH_TMRn_action (n : Nat) : Field := ⟨0x40008040 + 4 * n, 21, 20⟩
/-- Table VEH-11: R259 -/
def VEH_TMRn_start (n : Nat) : Field := ⟨0x40008040 + 4 * n, 22, 22⟩
/-- Table VEH-11: R259 -/
def VEH_TMRn_stop (n : Nat) : Field := ⟨0x40008040 + 4 * n, 23, 23⟩
/-- Table VEH-11: Timer running -/
def VEH_TMRn_running (n : Nat) : Field := ⟨0x40008040 + 4 * n, 24, 24⟩
/-- Table RBN-12: 0 IDLE, 1 DETECT, 2 READER; 3 ignored (R265) -/
def RBN_CTRL_mode : Field := ⟨0x4000F000, 1, 0⟩
/-- Table RBN-12: R269 -/
def RBN_CTRL_auto_field : Field := ⟨0x4000F000, 2, 2⟩
/-- Table RBN-12: CC0 to CC3 -/
def RBN_CTRL_evt_mask : Field := ⟨0x4000F000, 7, 4⟩
/-- Table RBN-12: Mode in effect -/
def RBN_STATUS_mode_now : Field := ⟨0x4000F004, 1, 0⟩
/-- Table RBN-12: Own field on -/
def RBN_STATUS_field_on : Field := ⟨0x4000F004, 2, 2⟩
/-- Table RBN-12: R266 -/
def RBN_STATUS_ext_field : Field := ⟨0x4000F004, 3, 3⟩
/-- Table RBN-12: Guard time running -/
def RBN_STATUS_guard : Field := ⟨0x4000F004, 4, 4⟩
/-- Table RBN-12: Refused mode or RWS write -/
def RBN_STATUS_cfg_refused : Field := ⟨0x4000F004, 5, 5⟩
/-- Table RBN-12: R269 -/
def RBN_EVT_detect : Field := ⟨0x4000F008, 0, 0⟩
/-- Table RBN-12: R267 -/
def RBN_EVT_rd_done : Field := ⟨0x4000F008, 1, 1⟩
/-- Table RBN-12: An entry was written to queue 0x008C -/
def RBN_EVT_tag_evt : Field := ⟨0x4000F008, 2, 2⟩
/-- Table RBN-12: R266 -/
def RBN_EVT_ext_field : Field := ⟨0x4000F008, 3, 3⟩
/-- Table RBN-12: R280 -/
def RBN_EVT_harv_ovl : Field := ⟨0x4000F008, 4, 4⟩
/-- Table RBN-12: ms, 1 to 7 -/
def RBN_RD_CFG_guard_ms : Field := ⟨0x4000F00C, 2, 0⟩
/-- Table RBN-12: %, 8 to 14 -/
def RBN_RD_CFG_mod_b : Field := ⟨0x4000F00C, 11, 8⟩
/-- Table RBN-12: ISO/IEC 15693 at 100 % ASK -/
def RBN_RD_CFG_v_100 : Field := ⟨0x4000F00C, 12, 12⟩
/-- Table RBN-12: Transaction running -/
def RBN_RD_STATUS_busy : Field := ⟨0x4000F010, 0, 0⟩
/-- Table RBN-12: Last status (Table RBN-2) -/
def RBN_RD_STATUS_last : Field := ⟨0x4000F010, 15, 8⟩
/-- Table RBN-12: Transactions, wrapping -/
def RBN_RD_STATUS_done : Field := ⟨0x4000F010, 31, 16⟩
/-- Table RBN-12: 10 ms units, 5 to 100 -/
def RBN_DET_CFG_period : Field := ⟨0x4000F014, 6, 0⟩
/-- Table RBN-12: 1 to 15 -/
def RBN_DET_CFG_det_cnt : Field := ⟨0x4000F014, 11, 8⟩
/-- Table RBN-12: R270 -/
def RBN_DET_CFG_calibrate : Field := ⟨0x4000F014, 12, 12⟩
/-- Table RBN-12: Codes; 0.1° -/
def RBN_DET_THR_amp : Field := ⟨0x4000F018, 11, 0⟩
/-- Table RBN-12: Codes; 0.1° -/
def RBN_DET_THR_phase : Field := ⟨0x4000F018, 27, 16⟩
/-- Table RBN-12: R270 -/
def RBN_DET_REF_amp : Field := ⟨0x4000F01C, 11, 0⟩
/-- Table RBN-12: R270 -/
def RBN_DET_REF_phase : Field := ⟨0x4000F01C, 27, 16⟩
/-- Table RBN-12: Last ping -/
def RBN_DET_LAST_amp : Field := ⟨0x4000F020, 11, 0⟩
/-- Table RBN-12: Last ping -/
def RBN_DET_LAST_phase : Field := ⟨0x4000F020, 27, 16⟩
/-- Table RBN-12: 0.01 A/m, 5 to 255 -/
def RBN_EXT_THR_thr : Field := ⟨0x4000F024, 7, 0⟩
/-- Table RBN-12: 2 mA units; a write with i_max ≤ i_min is ignored -/
def RBN_CAL_i_min : Field := ⟨0x4000F028, 7, 0⟩
/-- Table RBN-12: 2 mA units; a write with i_max ≤ i_min is ignored -/
def RBN_CAL_i_max : Field := ⟨0x4000F028, 15, 8⟩
/-- Table RBN-12: R272 -/
def RBN_TAG_CFG_en : Field := ⟨0x4000F02C, 0, 0⟩
/-- Table RBN-12: R272 -/
def RBN_TAG_CFG_field_wr : Field := ⟨0x4000F02C, 1, 1⟩
/-- Table RBN-12: 1 to 32 -/
def RBN_TAG_CFG_ndef_pages : Field := ⟨0x4000F02C, 7, 2⟩
/-- Table RBN-12: 1 to 15 -/
def RBN_TAG_CFG_wtx_max : Field := ⟨0x4000F02C, 11, 8⟩
/-- Table RBN-12: 10 ms units, 1 to 255 -/
def RBN_TAG_CFG_lock_ms : Field := ⟨0x4000F02C, 23, 16⟩
/-- Table RBN-12: External field present -/
def RBN_TAG_STATUS_field : Field := ⟨0x4000F030, 0, 0⟩
/-- Table RBN-12: ISO-DEP session open -/
def RBN_TAG_STATUS_active : Field := ⟨0x4000F030, 1, 1⟩
/-- Table RBN-12: 0 none, 1 NDEF, 2 readout -/
def RBN_TAG_STATUS_app : Field := ⟨0x4000F030, 3, 2⟩
/-- Table RBN-12: Saturating -/
def RBN_TAG_STATUS_sessions : Field := ⟨0x4000F030, 31, 16⟩
/-- Table RBN-12: UID bytes 0 to 3, byte 0 in [7:0] -/
def RBN_UID_uid : Field := ⟨0x4000F034, 31, 0⟩
/-- Table RBN-12: R274 -/
def RBN_LOCK_FIELD_pages : Field := ⟨0x4000F038, 31, 0⟩
/-- Table RBN-12: R277 -/
def RBN_LOCK_WIRE_pages : Field := ⟨0x4000F03C, 31, 0⟩
/-- Table RBN-12: Deferral buffer use -/
def RBN_DEFER_bytes : Field := ⟨0x4000F040, 11, 0⟩
/-- Table RBN-12: Deferred writes held -/
def RBN_DEFER_writes : Field := ⟨0x4000F040, 23, 16⟩
/-- Table RBN-12: R278 -/
def RBN_DEAD_CFG_dead_en : Field := ⟨0x4000F044, 0, 0⟩
/-- Table RBN-12: R280 -/
def RBN_HARV_CFG_out_en : Field := ⟨0x4000F048, 0, 0⟩
/-- Table RBN-12: mV -/
def RBN_HARV_STATUS_vharv : Field := ⟨0x4000F04C, 11, 0⟩
/-- Table RBN-12: VHARV_OUT on -/
def RBN_HARV_STATUS_out_on : Field := ⟨0x4000F04C, 12, 12⟩
/-- Table RBN-12: R280 -/
def RBN_HARV_STATUS_ovl : Field := ⟨0x4000F04C, 13, 13⟩
/-- Table RBN-12: External field, 0.1 A/m units, ±30 % -/
def RBN_FIELD_h : Field := ⟨0x4000F050, 7, 0⟩
/-- Table RBN-12: Saturating -/
def RBN_CNT_RD_ok : Field := ⟨0x4000F054, 15, 0⟩
/-- Table RBN-12: Saturating -/
def RBN_CNT_RD_err : Field := ⟨0x4000F054, 31, 16⟩
/-- Table RBN-12: Saturating -/
def RBN_CNT_TAG_apdus : Field := ⟨0x4000F058, 15, 0⟩
/-- Table RBN-12: Saturating -/
def RBN_CNT_TAG_wtx : Field := ⟨0x4000F058, 31, 16⟩
/-- Table RBN-12: Saturating -/
def RBN_CNT_DET_pings : Field := ⟨0x4000F05C, 15, 0⟩
/-- Table RBN-12: Saturating -/
def RBN_CNT_DET_detects : Field := ⟨0x4000F05C, 31, 16⟩
/-- Table RBN-12: Most recent code of Table RBN-10 -/
def RBN_FAULT_code : Field := ⟨0x4000F060, 15, 0⟩
/-- Table RBN-12: Set with each fault -/
def RBN_FAULT_valid : Field := ⟨0x4000F060, 31, 31⟩
/-- Table SAF-12: CC0 to CC3; the SFC always receives EVT_SAF -/
def SAF_CTRL_evt_mask : Field := ⟨0x40006000, 3, 0⟩
/-- Table SAF-12: Any group locked -/
def SAF_STATUS_lockout_any : Field := ⟨0x40006004, 0, 0⟩
/-- Table SAF-12: R294 -/
def SAF_STATUS_trip_dead : Field := ⟨0x40006004, 1, 1⟩
/-- Table SAF-12: R295 -/
def SAF_STATUS_clear_refused : Field := ⟨0x40006004, 2, 2⟩
/-- Table SAF-12: R296 -/
def SAF_STATUS_jam : Field := ⟨0x40006004, 3, 3⟩
/-- Table SAF-12: R300 -/
def SAF_STATUS_commit_busy : Field := ⟨0x40006004, 4, 4⟩
/-- Table SAF-12: R302 -/
def SAF_STATUS_test_busy : Field := ⟨0x40006004, 5, 5⟩
/-- Table SAF-12: R298 -/
def SAF_STATUS_chatter_any : Field := ⟨0x40006004, 6, 6⟩
/-- Table SAF-12: R292 -/
def SAF_STATUS_vcore_hold : Field := ⟨0x40006004, 7, 7⟩
/-- Table SAF-12: R290 -/
def SAF_STATUS_last_src : Field := ⟨0x40006004, 21, 16⟩
/-- Table SAF-12: Bits 0 to 8 in that order; each sets EVT_SAF -/
def SAF_EVT_trip : Field := ⟨0x40006008, 0, 0⟩
/-- Table SAF-12: Bits 0 to 8 in that order; each sets EVT_SAF -/
def SAF_EVT_release : Field := ⟨0x40006008, 1, 1⟩
/-- Table SAF-12: Bits 0 to 8 in that order; each sets EVT_SAF -/
def SAF_EVT_refused : Field := ⟨0x40006008, 2, 2⟩
/-- Table SAF-12: Bits 0 to 8 in that order; each sets EVT_SAF -/
def SAF_EVT_chatter : Field := ⟨0x40006008, 3, 3⟩
/-- Table SAF-12: Bits 0 to 8 in that order; each sets EVT_SAF -/
def SAF_EVT_therm : Field := ⟨0x40006008, 4, 4⟩
/-- Table SAF-12: Bits 0 to 8 in that order; each sets EVT_SAF -/
def SAF_EVT_jam : Field := ⟨0x40006008, 5, 5⟩
/-- Table SAF-12: Bits 0 to 8 in that order; each sets EVT_SAF -/
def SAF_EVT_test : Field := ⟨0x40006008, 6, 6⟩
/-- Table SAF-12: Bits 0 to 8 in that order; each sets EVT_SAF -/
def SAF_EVT_commit : Field := ⟨0x40006008, 7, 7⟩
/-- Table SAF-12: Bits 0 to 8 in that order; each sets EVT_SAF -/
def SAF_EVT_fault : Field := ⟨0x40006008, 8, 8⟩
/-- Table SAF-12: 2 bits per group: 0 ARMED, 1 LOCKED_ACTIVE, 2 LOCKED_CLEAR -/
def SAF_GRP_STATE_state : Field := ⟨0x4000600C, 19, 0⟩
/-- Table SAF-12: Bit g: 0 LOCK_CMD, 1 LOCK_EDGE -/
def SAF_GRP_MODE_mode : Field := ⟨0x40006010, 9, 0⟩
/-- Table SAF-12: R296 -/
def SAF_REL_REQ_groups : Field := ⟨0x40006014, 9, 0⟩
/-- Table SAF-12: 0xC1EA -/
def SAF_REL_REQ_key : Field := ⟨0x40006014, 31, 16⟩
/-- Table SAF-12: 0x3E15 -/
def SAF_REL_CONFIRM_key : Field := ⟨0x40006018, 15, 0⟩
/-- Table SAF-12: Last release -/
def SAF_REL_RESULT_released : Field := ⟨0x4000601C, 9, 0⟩
/-- Table SAF-12: Last refusal -/
def SAF_REL_RESULT_refused : Field := ⟨0x4000601C, 25, 16⟩
/-- Table SAF-12: Lowest refused group: 1 cause not quiet, 2 wrong mode, 3 not LOCKED_CLEAR, 4 confirm late or from another core, 5 reset input not idle or pulse length, 6 meter time frozen, 7 jam -/
def SAF_REL_RESULT_reason : Field := ⟨0x4000601C, 28, 26⟩
/-- Table SAF-12: 1 CMD, 2 EDGE -/
def SAF_REL_RESULT_via : Field := ⟨0x4000601C, 30, 29⟩
/-- Table SAF-12: 0 to 9 -/
def SAF_CAUSE_SEL_group : Field := ⟨0x40006020, 3, 0⟩
/-- Table SAF-12: Cause set of the selected group, sources 0 to 31 and 32 to 63 -/
def SAF_CAUSE_LO_causes : Field := ⟨0x40006024, 31, 0⟩
/-- Table SAF-12: Cause set of the selected group, sources 0 to 31 and 32 to 63 -/
def SAF_CAUSE_HI_causes : Field := ⟨0x40006028, 31, 0⟩
/-- Table SAF-12: Sources asserted after deglitch -/
def SAF_SRC_LO_live : Field := ⟨0x4000602C, 31, 0⟩
/-- Table SAF-12: Sources asserted after deglitch -/
def SAF_SRC_HI_live : Field := ⟨0x40006030, 31, 0⟩
/-- Table SAF-12: Source shown in SAF_MAP -/
def SAF_MAP_SEL_source : Field := ⟨0x40006034, 5, 0⟩
/-- Table SAF-12: R286; fixed for sources 54 to 56 -/
def SAF_MAP_groups : Field := ⟨0x40006038, 9, 0⟩
/-- Table SAF-12: R287; 250 to 255 ignored; for sources 32 to 63 reads 0 and writes are ignored -/
def SAF_MAP_dg : Field := ⟨0x40006038, 19, 12⟩
/-- Table SAF-12: TRIP_IN only: 1 asserts on low. For other sources it reads 0 and writes to it are ignored -/
def SAF_MAP_pol : Field := ⟨0x40006038, 20, 20⟩
/-- Table SAF-12: 1 for sources 54 to 56 -/
def SAF_MAP_fixed : Field := ⟨0x40006038, 31, 31⟩
/-- Table SAF-12: Sources 40 to 43 -/
def SAF_SFC_TRIP_line : Field := ⟨0x4000603C, 3, 0⟩
/-- Table SAF-12: 0 to 11 CMP_I, 12 to 15 CMP_V -/
def SAF_CMP_SEL_cmp : Field := ⟨0x40006040, 3, 0⟩
/-- Table SAF-12: 2 mV units, 0 to 1,000 -/
def SAF_CMP_LVL_level : Field := ⟨0x40006044, 9, 0⟩
/-- Table SAF-12: DAC readback, 2 mV units -/
def SAF_CMP_LVL_rb : Field := ⟨0x40006044, 25, 16⟩
/-- Table SAF-12: Accepted level -/
def SAF_RESET_IN_level : Field := ⟨0x40006048, 0, 0⟩
/-- Table SAF-12: Low for 50 ms or more -/
def SAF_RESET_IN_idle_ok : Field := ⟨0x40006048, 1, 1⟩
/-- Table SAF-12: Last pulse, ms, saturating -/
def SAF_RESET_IN_pulse_ms : Field := ⟨0x40006048, 15, 4⟩
/-- Table SAF-12: Accepted rising edges, saturating -/
def SAF_RESET_IN_edges : Field := ⟨0x40006048, 31, 16⟩
/-- Table SAF-12: R302 -/
def SAF_TEST_source : Field := ⟨0x4000604C, 5, 0⟩
/-- Table SAF-12: 0x7E -/
def SAF_TEST_key : Field := ⟨0x4000604C, 15, 8⟩
/-- Table SAF-12: 0 idle, 1 busy, 2 pass, 3 fail -/
def SAF_TEST_RESULT_state : Field := ⟨0x40006050, 1, 0⟩
/-- Table SAF-12: Measured latency -/
def SAF_TEST_RESULT_lat_ns : Field := ⟨0x40006050, 15, 8⟩
/-- Table SAF-12: Groups that responded -/
def SAF_TEST_RESULT_seen : Field := ⟨0x40006050, 25, 16⟩
/-- Table SAF-12: Source tested -/
def SAF_TEST_RESULT_source : Field := ⟨0x40006050, 31, 26⟩
/-- Table SAF-12: 1 COMMIT, 2 RELOAD -/
def SAF_PARAM_CMD_op : Field := ⟨0x40006054, 1, 0⟩
/-- Table SAF-12: 0x5EA1 -/
def SAF_PARAM_CMD_key : Field := ⟨0x40006054, 31, 16⟩
/-- Table SAF-12: Effective set valid and bound -/
def SAF_PARAM_STATUS_valid : Field := ⟨0x40006058, 0, 0⟩
/-- Table SAF-12: Copy valid -/
def SAF_PARAM_STATUS_copy_a : Field := ⟨0x40006058, 1, 1⟩
/-- Table SAF-12: Copy valid -/
def SAF_PARAM_STATUS_copy_b : Field := ⟨0x40006058, 2, 2⟩
/-- Table SAF-12: Staged values differ from effective ones -/
def SAF_PARAM_STATUS_dirty : Field := ⟨0x40006058, 3, 3⟩
/-- Table SAF-12: Refused RWS write -/
def SAF_PARAM_STATUS_cfg_refused : Field := ⟨0x40006058, 4, 4⟩
/-- Table SAF-12: Code the effective set is bound to -/
def SAF_PARAM_STATUS_seal_code : Field := ⟨0x40006058, 11, 8⟩
/-- Table SAF-12: 1 done, 2 CONFIG_EN off, 3 outputs on, 4 busy, 5 Dusk, 6 NV fail, 7 connection table invalid (R327) -/
def SAF_PARAM_STATUS_result : Field := ⟨0x40006058, 14, 12⟩
/-- Table SAF-12: Saturating -/
def SAF_PARAM_STATUS_commits : Field := ⟨0x40006058, 31, 16⟩
/-- Table SAF-12: Source latches, saturating -/
def SAF_CNT_trips : Field := ⟨0x4000605C, 15, 0⟩
/-- Table SAF-12: R295, saturating -/
def SAF_CNT_releases : Field := ⟨0x4000605C, 31, 16⟩
/-- Table SAF-12: GATE_H0 to 5, GATE_L0 to 5, CTR_OUT0 to 3; a 1 written while the mismatch persists is ignored (R291) -/
def SAF_DIAG_stuck : Field := ⟨0x40006060, 15, 0⟩
/-- Table SAF-12: Comparators 0 to 15 -/
def SAF_DIAG_dac_bad : Field := ⟨0x40006060, 31, 16⟩
/-- Table SAF-12: Meter time [31:0] of the last latch -/
def SAF_LAST_TRIP_mt : Field := ⟨0x40006064, 31, 0⟩
/-- Table SAF-12: Most recent code of Table SAF-9 -/
def SAF_FAULT_code : Field := ⟨0x40006068, 15, 0⟩
/-- Table SAF-12: Set with each fault -/
def SAF_FAULT_valid : Field := ⟨0x40006068, 31, 31⟩
/-- Table SAF-12: Code = °C + 64 -/
def SAF_THn_LVL_warn_set (n : Nat) : Field := ⟨0x40006080 + 12 * n, 7, 0⟩
/-- Table SAF-12: Code = °C + 64 -/
def SAF_THn_LVL_warn_clr (n : Nat) : Field := ⟨0x40006080 + 12 * n, 15, 8⟩
/-- Table SAF-12: Code = °C + 64; a write with a clear level at or above its set level is ignored whole -/
def SAF_THn_LVL_trip_set (n : Nat) : Field := ⟨0x40006080 + 12 * n, 23, 16⟩
/-- Table SAF-12: Code = °C + 64; a write with a clear level at or above its set level is ignored whole -/
def SAF_THn_LVL_trip_clr (n : Nat) : Field := ⟨0x40006080 + 12 * n, 31, 24⟩
/-- Table SAF-12: 10 ms units, 1 to 1,000 -/
def SAF_THn_CFG_dwell_warn (n : Nat) : Field := ⟨0x40006084 + 12 * n, 9, 0⟩
/-- Table SAF-12: 10 ms units, 1 to 1,000 -/
def SAF_THn_CFG_dwell_trip (n : Nat) : Field := ⟨0x40006084 + 12 * n, 19, 10⟩
/-- Table SAF-12: Channel enable -/
def SAF_THn_CFG_en (n : Nat) : Field := ⟨0x40006084 + 12 * n, 20, 20⟩
/-- Table SAF-12: 5 K units; ignored for n = 0 -/
def SAF_THn_CFG_beta (n : Nat) : Field := ⟨0x40006084 + 12 * n, 31, 21⟩
/-- Table SAF-12: Last reading, code = °C + 64 -/
def SAF_THn_STAT_temp (n : Nat) : Field := ⟨0x40006088 + 12 * n, 7, 0⟩
/-- Table SAF-12: Warning asserted -/
def SAF_THn_STAT_warn (n : Nat) : Field := ⟨0x40006088 + 12 * n, 8, 8⟩
/-- Table SAF-12: Source 36 + n asserted -/
def SAF_THn_STAT_trip (n : Nat) : Field := ⟨0x40006088 + 12 * n, 9, 9⟩
/-- Table SAF-12: R298 -/
def SAF_THn_STAT_chatter (n : Nat) : Field := ⟨0x40006088 + 12 * n, 10, 10⟩
/-- Table SAF-12: R297 -/
def SAF_THn_STAT_sensor_bad (n : Nat) : Field := ⟨0x40006088 + 12 * n, 11, 11⟩
/-- Table SAF-12: Warning changes in the last 3,600 s -/
def SAF_THn_STAT_changes (n : Nat) : Field := ⟨0x40006088 + 12 * n, 23, 16⟩
/-- Table SAF-12: Bytes 4n to 4n + 3 of the effective set's digest -/
def SAF_DIGESTn_digest (n : Nat) : Field := ⟨0x400060C0 + 4 * n, 31, 0⟩
/-- Table EFM-7: R321 -/
def EFM_CTRL_rdc_en : Field := ⟨0x40007000, 0, 0⟩
/-- Table EFM-7: R321 -/
def EFM_CTRL_rac_en : Field := ⟨0x40007000, 1, 1⟩
/-- Table EFM-7: R321 -/
def EFM_CTRL_ins_en : Field := ⟨0x40007000, 2, 2⟩
/-- Table EFM-7: CC0 to CC3 in [7:4], SFC in [8] -/
def EFM_CTRL_evt_mask : Field := ⟨0x40007000, 8, 4⟩
/-- Table EFM-7: Sources 32 to 35 asserted -/
def EFM_STATUS_src : Field := ⟨0x40007004, 3, 0⟩
/-- Table EFM-7: Insulation warning -/
def EFM_STATUS_warn : Field := ⟨0x40007004, 4, 4⟩
/-- Table EFM-7: R321, R322 -/
def EFM_STATUS_cfg_refused : Field := ⟨0x40007004, 5, 5⟩
/-- Table EFM-7: R322 -/
def EFM_STATUS_cfg_default : Field := ⟨0x40007004, 6, 6⟩
/-- Table EFM-7: A test is running -/
def EFM_STATUS_test_busy : Field := ⟨0x40007004, 7, 7⟩
/-- Table EFM-7: Bits 0 to 5 in that order; ins is set by each valid reading; each delivers EVT_EFM -/
def EFM_EVT_trip : Field := ⟨0x40007008, 0, 0⟩
/-- Table EFM-7: Bits 0 to 5 in that order; ins is set by each valid reading; each delivers EVT_EFM -/
def EFM_EVT_warn : Field := ⟨0x40007008, 1, 1⟩
/-- Table EFM-7: Bits 0 to 5 in that order; ins is set by each valid reading; each delivers EVT_EFM -/
def EFM_EVT_test : Field := ⟨0x40007008, 2, 2⟩
/-- Table EFM-7: Bits 0 to 5 in that order; ins is set by each valid reading; each delivers EVT_EFM -/
def EFM_EVT_rcd : Field := ⟨0x40007008, 3, 3⟩
/-- Table EFM-7: Bits 0 to 5 in that order; ins is set by each valid reading; each delivers EVT_EFM -/
def EFM_EVT_fault : Field := ⟨0x40007008, 4, 4⟩
/-- Table EFM-7: Bits 0 to 5 in that order; ins is set by each valid reading; each delivers EVT_EFM -/
def EFM_EVT_ins : Field := ⟨0x40007008, 5, 5⟩
/-- Table EFM-7: 0.1 mA, 35 to 55 -/
def EFM_RDC_CFG_rdc_thr : Field := ⟨0x4000700C, 5, 0⟩
/-- Table EFM-7: 10 ms, 10 to 500 -/
def EFM_RDC_CFG_rdc_dwell : Field := ⟨0x4000700C, 17, 8⟩
/-- Table EFM-7: Signed, 10 µA -/
def EFM_RDC_DC_dc100 : Field := ⟨0x40007010, 15, 0⟩
/-- Table EFM-7: Signed, 10 µA -/
def EFM_RDC_DC_dc20 : Field := ⟨0x40007010, 31, 16⟩
/-- Table EFM-7: 10 µA RMS -/
def EFM_RDC_AC_ac : Field := ⟨0x40007014, 15, 0⟩
/-- Table EFM-7: Largest -/
def EFM_RDC_PEAK_peak : Field := ⟨0x40007018, 15, 0⟩
/-- Table EFM-7: Test-winding turns, 1 to 100 -/
def EFM_FG_CFG_n_test : Field := ⟨0x4000701C, 7, 0⟩
/-- Table EFM-7: Excitation peak, 0.01 mA -/
def EFM_FG_STAT_i_exc : Field := ⟨0x40007020, 11, 0⟩
/-- Table EFM-7: R311 -/
def EFM_FG_STAT_sat_ok : Field := ⟨0x40007020, 12, 12⟩
/-- Table EFM-7: mA, 10 to 100 -/
def EFM_RAC_CFG_rac_thr : Field := ⟨0x40007024, 6, 0⟩
/-- Table EFM-7: 10 ms, 10 to 100 -/
def EFM_RAC_CFG_rac_time : Field := ⟨0x40007024, 15, 8⟩
/-- Table EFM-7: Accepted RCD_AUX level -/
def EFM_RCD_aux_closed : Field := ⟨0x40007028, 0, 0⟩
/-- Table EFM-7: R315 -/
def EFM_RCD_rcd_open : Field := ⟨0x40007028, 1, 1⟩
/-- Table EFM-7: Passed RCD tests, saturating -/
def EFM_RCD_tests : Field := ⟨0x40007028, 15, 8⟩
/-- Table EFM-7: 0.1 Hz, 1 to 100 -/
def EFM_INS_CFG_f_ins : Field := ⟨0x4000702C, 6, 0⟩
/-- Table EFM-7: 1 to 8 -/
def EFM_INS_CFG_ins_cnt : Field := ⟨0x4000702C, 10, 8⟩
/-- Table EFM-7: V, 50 to 1,500 -/
def EFM_INS_CFG_v_rated : Field := ⟨0x4000702C, 21, 11⟩
/-- Table EFM-7: s, 1 to 60 -/
def EFM_INS_CFG_ins_stale : Field := ⟨0x4000702C, 27, 22⟩
/-- Table EFM-7: Ω/V; a write with fault ≥ warn is ignored whole -/
def EFM_INS_LVL_warn_opv : Field := ⟨0x40007030, 9, 0⟩
/-- Table EFM-7: Ω/V; a write with fault ≥ warn is ignored whole -/
def EFM_INS_LVL_fault_opv : Field := ⟨0x40007030, 24, 16⟩
/-- Table EFM-7: kΩ -/
def EFM_INS_NET_r_c : Field := ⟨0x40007034, 15, 0⟩
/-- Table EFM-7: Ω -/
def EFM_INS_NET_r_m : Field := ⟨0x40007034, 31, 16⟩
/-- Table EFM-7: V, 10 to 100 -/
def EFM_INS_SCALE_u_inj : Field := ⟨0x40007038, 6, 0⟩
/-- Table EFM-7: V/V -/
def EFM_INS_SCALE_g_inj : Field := ⟨0x40007038, 15, 8⟩
/-- Table EFM-7: V/V -/
def EFM_INS_SCALE_g_ufb : Field := ⟨0x40007038, 27, 16⟩
/-- Table EFM-7: R319 -/
def EFM_INS_CTRL_hold : Field := ⟨0x4000703C, 0, 0⟩
/-- Table EFM-7: 100 Ω units; 0x1_FFFF over range -/
def EFM_INS_R_r : Field := ⟨0x40007040, 16, 0⟩
/-- Table EFM-7: R316 -/
def EFM_INS_R_valid : Field := ⟨0x40007040, 17, 17⟩
/-- Table EFM-7: R316 -/
def EFM_INS_R_under : Field := ⟨0x40007040, 18, 18⟩
/-- Table EFM-7: Last ΔU, 10 mV -/
def EFM_INS_RAW_du : Field := ⟨0x40007044, 15, 0⟩
/-- Table EFM-7: Last ΔI, 0.1 µA, saturating -/
def EFM_INS_RAW_di : Field := ⟨0x40007044, 31, 16⟩
/-- Table EFM-7: Since restart, saturating -/
def EFM_INS_STAT_readings : Field := ⟨0x40007048, 7, 0⟩
/-- Table EFM-7: Since the last valid reading, saturating -/
def EFM_INS_STAT_age_ms : Field := ⟨0x40007048, 31, 16⟩
/-- Table EFM-7: 1 FG_TEST, 2 RCD_TEST -/
def EFM_CMD_op : Field := ⟨0x4000704C, 1, 0⟩
/-- Table EFM-7: 0x3F6A -/
def EFM_CMD_key : Field := ⟨0x4000704C, 31, 16⟩
/-- Table EFM-7: 0 idle, 1 busy, 2 pass, 3 fail, 4 refused, 5 ended by Dusk -/
def EFM_TEST_RESULT_state : Field := ⟨0x40007050, 2, 0⟩
/-- Table EFM-7: 0 FG_TEST, 1 RCD_TEST -/
def EFM_TEST_RESULT_which : Field := ⟨0x40007050, 3, 3⟩
/-- Table EFM-7: FG: measured current in 10 µA units; RCD: trip time in ms -/
def EFM_TEST_RESULT_value : Field := ⟨0x40007050, 31, 16⟩
/-- Table EFM-7: Saturating -/
def EFM_CNT_rdc_trips : Field := ⟨0x40007054, 15, 0⟩
/-- Table EFM-7: Saturating -/
def EFM_CNT_ins_faults : Field := ⟨0x40007054, 31, 16⟩
/-- Table EFM-7: Copy valid (R322) -/
def EFM_NV_copy_a : Field := ⟨0x40007058, 1, 1⟩
/-- Table EFM-7: Copy valid (R322) -/
def EFM_NV_copy_b : Field := ⟨0x40007058, 2, 2⟩
/-- Table EFM-7: Saturating -/
def EFM_NV_writes : Field := ⟨0x40007058, 31, 16⟩
/-- Table EFM-7: Most recent code of Table EFM-5 -/
def EFM_FAULT_code : Field := ⟨0x4000705C, 15, 0⟩
/-- Table EFM-7: Set with each fault -/
def EFM_FAULT_valid : Field := ⟨0x4000705C, 31, 31⟩
/-- Table SAF-20: Entry shown -/
def SAF_SC_SEL_conn : Field := ⟨0x40006100, 5, 0⟩
/-- Table SAF-20: R329 -/
def SAF_SC_ID_identity : Field := ⟨0x40006104, 31, 0⟩
/-- Table SAF-20: Entry enable -/
def SAF_SC_CFG_en : Field := ⟨0x40006108, 0, 0⟩
/-- Table SAF-20: 0 consumer, 1 producer -/
def SAF_SC_CFG_dir : Field := ⟨0x40006108, 1, 1⟩
/-- Table SAF-20: R335 -/
def SAF_SC_CFG_twin : Field := ⟨0x40006108, 2, 2⟩
/-- Table SAF-20: R337 -/
def SAF_SC_CFG_post_critical : Field := ⟨0x40006108, 3, 3⟩
/-- Table SAF-20: FSR line 0 to 7; 15 none -/
def SAF_SC_CFG_line : Field := ⟨0x40006108, 7, 4⟩
/-- Table SAF-20: Peer's entry -/
def SAF_SC_CFG_peer_conn : Field := ⟨0x40006108, 13, 8⟩
/-- Table SAF-20: Peer node; post 0 means this post (R327) -/
def SAF_SC_CFG_peer : Field := ⟨0x40006108, 31, 16⟩
/-- Table SAF-20: ms -/
def SAF_SC_TIME_period : Field := ⟨0x4000610C, 7, 0⟩
/-- Table SAF-20: ms -/
def SAF_SC_TIME_window : Field := ⟨0x4000610C, 15, 8⟩
/-- Table SAF-20: 10 µs units -/
def SAF_SC_TIME_skew : Field := ⟨0x4000610C, 24, 16⟩
/-- Table SAF-20: R333 -/
def SAF_SC_TIME_gap_max : Field := ⟨0x4000610C, 27, 25⟩
/-- Table SAF-20: R340 -/
def SAF_SC_TIME_err_max : Field := ⟨0x4000610C, 31, 28⟩
/-- Table SAF-20: R327 -/
def SAF_SC_LINK_pair : Field := ⟨0x40006110, 5, 0⟩
/-- Table SAF-20: R327 -/
def SAF_SC_LINK_pair_en : Field := ⟨0x40006110, 6, 6⟩
/-- Table SAF-20: Site route lengths -/
def SAF_SC_LINK_len_a : Field := ⟨0x40006110, 11, 8⟩
/-- Table SAF-20: Site route lengths -/
def SAF_SC_LINK_len_b : Field := ⟨0x40006110, 15, 12⟩
/-- Table SAF-20: Site routes, as Table STF-3 -/
def SAF_SC_ROUTE_route_a : Field := ⟨0x40006114, 15, 0⟩
/-- Table SAF-20: Site routes, as Table STF-3 -/
def SAF_SC_ROUTE_route_b : Field := ⟨0x40006114, 31, 16⟩
/-- Table SAF-20: 0 IDLE, 1 OPENING, 2 RUN, 3 SAFE, 4 REARM -/
def SAF_SC_STATE_state : Field := ⟨0x40006118, 2, 0⟩
/-- Table SAF-20: 1 TIMEOUT, 2 SEQUENCE, 3 TWIN_MISSING, 4 MISMATCH, 5 ERR_RATE, 6 TIMEBASE -/
def SAF_SC_STATE_cause : Field := ⟨0x40006118, 6, 4⟩
/-- Table SAF-20: Last accepted; line asserted by this entry -/
def SAF_SC_STATE_demand : Field := ⟨0x40006118, 7, 7⟩
/-- Table SAF-20: Last accepted; line asserted by this entry -/
def SAF_SC_STATE_peer_ok : Field := ⟨0x40006118, 8, 8⟩
/-- Table SAF-20: Last accepted; line asserted by this entry -/
def SAF_SC_STATE_line_on : Field := ⟨0x40006118, 9, 9⟩
/-- Table SAF-20: R333 -/
def SAF_SC_STATE_last_seq : Field := ⟨0x40006118, 31, 16⟩
/-- Table SAF-20: Saturating -/
def SAF_SC_CNT_chk_err : Field := ⟨0x4000611C, 7, 0⟩
/-- Table SAF-20: Saturating -/
def SAF_SC_CNT_skipped : Field := ⟨0x4000611C, 15, 8⟩
/-- Table SAF-20: Saturating -/
def SAF_SC_CNT_stale : Field := ⟨0x4000611C, 23, 16⟩
/-- Table SAF-20: Saturating -/
def SAF_SC_CNT_safe_entries : Field := ⟨0x4000611C, 31, 24⟩
/-- Table SAF-20: R339 -/
def SAF_SC_CMD_conn : Field := ⟨0x40006124, 5, 0⟩
/-- Table SAF-20: 1 REARM -/
def SAF_SC_CMD_op : Field := ⟨0x40006124, 7, 6⟩
/-- Table SAF-20: 0x5C0A -/
def SAF_SC_CMD_key : Field := ⟨0x40006124, 31, 16⟩
/-- Table SAF-20: Producer for TX -/
def SAF_SC_TXSEL_conn : Field := ⟨0x4000612C, 5, 0⟩
/-- Table SAF-20: Payload bytes 4n to 4n + 3; TX3 commits (R331) -/
def SAF_SC_TXn_payload (n : Nat) : Field := ⟨0x40006130 + 4 * n, 31, 0⟩
/-- Table SAF-20: Last accepted payload, bytes 4n to 4n + 3 -/
def SAF_SC_RXn_payload (n : Nat) : Field := ⟨0x40006140 + 4 * n, 31, 0⟩
/-- Table SAF-20: Bit c: entry c in RUN -/
def SAF_SC_RUN_LO_run : Field := ⟨0x40006150, 31, 0⟩
/-- Table SAF-20: Bit c: entry c in RUN -/
def SAF_SC_RUN_HI_run : Field := ⟨0x40006154, 31, 0⟩
/-- Table SAF-20: Bit c: entry c in SAFE or REARM -/
def SAF_SC_SAFE_LO_safe : Field := ⟨0x40006158, 31, 0⟩
/-- Table SAF-20: Bit c: entry c in SAFE or REARM -/
def SAF_SC_SAFE_HI_safe : Field := ⟨0x4000615C, 31, 0⟩
/-- Table SAF-20: R337 -/
def SAF_SC_STATUS_post_lockout : Field := ⟨0x40006160, 0, 0⟩
/-- Table SAF-20: R339 -/
def SAF_SC_STATUS_cmd_refused : Field := ⟨0x40006160, 1, 1⟩
/-- Table SAF-20: FSR lines asserted -/
def SAF_SC_STATUS_lines : Field := ⟨0x40006160, 15, 8⟩
/-- Table PWR-10: CC0 to CC3; the SFC receives EVT_PWR while [4] = 1 -/
def PWR_CTRL_evt_mask : Field := ⟨0x40009000, 3, 0⟩
/-- Table PWR-10:  -/
def PWR_CTRL_sfc_evt : Field := ⟨0x40009000, 4, 4⟩
/-- Table PWR-10: Bit 8 + b enables delivery of EVT_PWR for PWR_EVT bit b. A disabled bit is still set in PWR_EVT, but setting it delivers no EVT_PWR -/
def PWR_CTRL_evt_en : Field := ⟨0x40009000, 14, 8⟩
/-- Table PWR-10: Table PWR-1 -/
def PWR_STATUS_state : Field := ⟨0x40009004, 2, 0⟩
/-- Table PWR-10: Last stop cause, Table PWR-2 -/
def PWR_STATUS_cause : Field := ⟨0x40009004, 6, 3⟩
/-- Table PWR-10: R350 -/
def PWR_STATUS_run_refused : Field := ⟨0x40009004, 7, 7⟩
/-- Table PWR-10: Condition number of R350 -/
def PWR_STATUS_refuse : Field := ⟨0x40009004, 10, 8⟩
/-- Table PWR-10: R347 -/
def PWR_STATUS_load_pending : Field := ⟨0x40009004, 11, 11⟩
/-- Table PWR-10: R347 -/
def PWR_STATUS_load_refused : Field := ⟨0x40009004, 12, 12⟩
/-- Table PWR-10: R348, saturating -/
def PWR_STATUS_lim_run : Field := ⟨0x40009004, 23, 16⟩
/-- Table PWR-10: Bits 0 to 6 in that order -/
def PWR_EVT_state : Field := ⟨0x40009008, 0, 0⟩
/-- Table PWR-10: Bits 0 to 6 in that order -/
def PWR_EVT_setpoint : Field := ⟨0x40009008, 1, 1⟩
/-- Table PWR-10: Bits 0 to 6 in that order -/
def PWR_EVT_trig0 : Field := ⟨0x40009008, 2, 2⟩
/-- Table PWR-10: Bits 0 to 6 in that order -/
def PWR_EVT_trig1 : Field := ⟨0x40009008, 3, 3⟩
/-- Table PWR-10: Bits 0 to 6 in that order -/
def PWR_EVT_ctr : Field := ⟨0x40009008, 4, 4⟩
/-- Table PWR-10: Bits 0 to 6 in that order -/
def PWR_EVT_fault : Field := ⟨0x40009008, 5, 5⟩
/-- Table PWR-10: Bits 0 to 6 in that order -/
def PWR_EVT_limit : Field := ⟨0x40009008, 6, 6⟩
/-- Table PWR-10: 1 starts (R350); 0 stops (R351) -/
def PWR_RUN_go : Field := ⟨0x4000900C, 0, 0⟩
/-- Table PWR-10: Channels taking part; ignored unless IDLE or HELD -/
def PWR_RUN_ch_en : Field := ⟨0x4000900C, 13, 8⟩
/-- Table PWR-10: R347 -/
def PWR_RUN_load : Field := ⟨0x4000900C, 16, 16⟩
/-- Table PWR-10: Ticks, 10 to 65,535; staged -/
def PWR_PERIOD_period : Field := ⟨0x40009010, 15, 0⟩
/-- Table PWR-10: 40 ns units, channel n -/
def PWR_BLANK_blank (j : Nat) : Field := ⟨0x40009014, 5 * j + 4, 5 * j + 0⟩
/-- Table PWR-10: CS_IN shown in PWR_LIM_LVL -/
def PWR_LIM_SEL_cs : Field := ⟨0x40009018, 3, 0⟩
/-- Table PWR-10: 2 mV units -/
def PWR_LIM_LVL_level : Field := ⟨0x4000901C, 9, 0⟩
/-- Table PWR-10: DAC readback -/
def PWR_LIM_LVL_rb : Field := ⟨0x4000901C, 25, 16⟩
/-- Table PWR-10: 100 ps units; staged -/
def PWR_CHn_ON_t_on (n : Nat) : Field := ⟨0x40009020 + 16 * n, 24, 0⟩
/-- Table PWR-10: R346 -/
def PWR_CHn_ON_low_off (n : Nat) : Field := ⟨0x40009020 + 16 * n, 25, 25⟩
/-- Table PWR-10: R348 -/
def PWR_CHn_ON_cs_h (n : Nat) : Field := ⟨0x40009020 + 16 * n, 31, 28⟩
/-- Table PWR-10: Staged -/
def PWR_CHn_OFF_t_off (n : Nat) : Field := ⟨0x40009024 + 16 * n, 24, 0⟩
/-- Table PWR-10: R348 -/
def PWR_CHn_OFF_cs_l (n : Nat) : Field := ⟨0x40009024 + 16 * n, 31, 28⟩
/-- Table PWR-10: 100 ps units; staged -/
def PWR_CHn_DT_dt_h (n : Nat) : Field := ⟨0x40009028 + 16 * n, 15, 0⟩
/-- Table PWR-10: 100 ps units; staged -/
def PWR_CHn_DT_dt_l (n : Nat) : Field := ⟨0x40009028 + 16 * n, 31, 16⟩
/-- Table PWR-10: 100 ps units -/
def PWR_TRIGn_pos (n : Nat) : Field := ⟨0x40009080 + 4 * n, 24, 0⟩
/-- Table PWR-10: Trigger enable -/
def PWR_TRIGn_en (n : Nat) : Field := ⟨0x40009080 + 4 * n, 31, 31⟩
/-- Table PWR-10: Inputs per trigger (R349) -/
def PWR_TRIG_MASK_mask0 : Field := ⟨0x40009088, 15, 0⟩
/-- Table PWR-10: Inputs per trigger (R349) -/
def PWR_TRIG_MASK_mask1 : Field := ⟨0x40009088, 31, 16⟩
/-- Table PWR-10: Inputs 2n, 2n + 1 -/
def PWR_ADCn_in_lo (n : Nat) : Field := ⟨0x40009090 + 4 * n, 11, 0⟩
/-- Table PWR-10: Inputs 2n, 2n + 1 -/
def PWR_ADCn_in_hi (n : Nat) : Field := ⟨0x40009090 + 4 * n, 27, 16⟩
/-- Table PWR-10: 1 to 90 -/
def PWR_SS_CFG_vmin_pct : Field := ⟨0x400090B0, 7, 0⟩
/-- Table PWR-10: ms; a write above tmax is ignored -/
def PWR_SS_CFG_ramp : Field := ⟨0x400090B0, 15, 8⟩
/-- Table PWR-10: ms -/
def PWR_SS_CFG_tmax : Field := ⟨0x400090B0, 31, 16⟩
/-- Table PWR-10: Code -/
def PWR_SS_TARGET_target : Field := ⟨0x400090B4, 11, 0⟩
/-- Table PWR-10: Input -/
def PWR_SS_TARGET_vch : Field := ⟨0x400090B4, 15, 12⟩
/-- Table PWR-10: R350, R353 -/
def PWR_SS_TARGET_ss_en : Field := ⟨0x400090B4, 31, 31⟩
/-- Table PWR-10: 0 to 6; 7 ignored -/
def PWR_SS_RETRY_retries : Field := ⟨0x400090B8, 2, 0⟩
/-- Table PWR-10: k -/
def PWR_SS_RETRY_attempt : Field := ⟨0x400090B8, 6, 4⟩
/-- Table PWR-10: Seconds left in BACKOFF -/
def PWR_SS_RETRY_backoff_s : Field := ⟨0x400090B8, 15, 8⟩
/-- Table PWR-10: 0x5C1E (R356) -/
def PWR_SS_RETRY_release : Field := ⟨0x400090B8, 31, 16⟩
/-- Table PWR-10: R357 -/
def PWR_CTR_CMD_close : Field := ⟨0x400090C0, 3, 0⟩
/-- Table PWR-10: R357 -/
def PWR_CTR_CMD_open : Field := ⟨0x400090C0, 7, 4⟩
/-- Table PWR-10: R361 -/
def PWR_CTR_CMD_pc_start : Field := ⟨0x400090C0, 8, 8⟩
/-- Table PWR-10: R361 -/
def PWR_CTR_CMD_pc_abort : Field := ⟨0x400090C0, 9, 9⟩
/-- Table PWR-10: 0 OPEN, 1 CLOSING, 2 CLOSED, 3 OPENING, 4 WELDED, 5 FB_FAULT -/
def PWR_CTR_STATUS_state (j : Nat) : Field := ⟨0x400090C4, 4 * j + 3, 4 * j + 0⟩
/-- Table PWR-10: 0 idle, 1 precharging, 2 main closing, 3 overlap, 4 done, 5 failed -/
def PWR_CTR_STATUS_pc : Field := ⟨0x400090C4, 18, 16⟩
/-- Table PWR-10: R357 -/
def PWR_CTR_STATUS_ctr_refused : Field := ⟨0x400090C4, 19, 19⟩
/-- Table PWR-10: 1 locked, 2 state, 3 precharge, 4 Dusk, hold or removal, 5 role, 6 voltage, 7 commit; for the lowest-numbered refused contactor (R357) -/
def PWR_CTR_STATUS_reason : Field := ⟨0x400090C4, 23, 20⟩
/-- Table PWR-10: Accepted feedback, 1 closed -/
def PWR_CTR_STATUS_fb : Field := ⟨0x400090C4, 27, 24⟩
/-- Table PWR-10: 10 ms units, 1 to 50 -/
def PWR_CTR_CFG_fb_close : Field := ⟨0x400090C8, 5, 0⟩
/-- Table PWR-10: 10 ms units, 1 to 50 -/
def PWR_CTR_CFG_fb_open : Field := ⟨0x400090C8, 11, 6⟩
/-- Table PWR-10: 10 ms units, 1 to 50 -/
def PWR_CTR_CFG_weld_win : Field := ⟨0x400090C8, 17, 12⟩
/-- Table PWR-10: 100 ms units, 1 to 255 -/
def PWR_CTR_CFG_pc_tmax : Field := ⟨0x400090C8, 25, 18⟩
/-- Table PWR-10: 10 ms units, 1 to 63 -/
def PWR_CTR_CFG_pc_overlap : Field := ⟨0x400090C8, 31, 26⟩
/-- Table PWR-10: Inputs for contactor n -/
def PWR_CTR_MAP_ch_a (j : Nat) : Field := ⟨0x400090CC, 8 * j + 3, 8 * j + 0⟩
/-- Table PWR-10: Inputs for contactor n -/
def PWR_CTR_MAP_ch_b (j : Nat) : Field := ⟨0x400090CC, 8 * j + 7, 8 * j + 4⟩
/-- Table PWR-10: Bit order low to high; fb_pol 1 = closed reads low -/
def PWR_CTR_MODE_fb_en (j : Nat) : Field := ⟨0x400090D0, 4 * j + 0, 4 * j + 0⟩
/-- Table PWR-10: Bit order low to high; fb_pol 1 = closed reads low -/
def PWR_CTR_MODE_fb_pol (j : Nat) : Field := ⟨0x400090D0, 4 * j + 1, 4 * j + 1⟩
/-- Table PWR-10: Bit order low to high; fb_pol 1 = closed reads low -/
def PWR_CTR_MODE_weld_volt (j : Nat) : Field := ⟨0x400090D0, 4 * j + 2, 4 * j + 2⟩
/-- Table PWR-10: Bit order low to high; fb_pol 1 = closed reads low -/
def PWR_CTR_MODE_close_chk (j : Nat) : Field := ⟨0x400090D0, 4 * j + 3, 4 * j + 3⟩
/-- Table PWR-10: Code -/
def PWR_CTR_MODE_weld_vmin : Field := ⟨0x400090D0, 27, 16⟩
/-- Table PWR-10: Contactors -/
def PWR_PC_CFG_pc : Field := ⟨0x400090D4, 1, 0⟩
/-- Table PWR-10: Contactors -/
def PWR_PC_CFG_main : Field := ⟨0x400090D4, 3, 2⟩
/-- Table PWR-10: Code -/
def PWR_PC_CFG_dv : Field := ⟨0x400090D4, 15, 4⟩
/-- Table PWR-10: Code -/
def PWR_PC_CFG_weld_dv : Field := ⟨0x400090D4, 27, 16⟩
/-- Table PWR-10: W, signed -/
def PWR_SP_POWER_power : Field := ⟨0x400090E0, 31, 0⟩
/-- Table PWR-10: 0.1 V, 0.1 A -/
def PWR_SP_LIMITS_v_target : Field := ⟨0x400090E4, 15, 0⟩
/-- Table PWR-10: 0.1 V, 0.1 A -/
def PWR_SP_LIMITS_i_max : Field := ⟨0x400090E4, 31, 16⟩
/-- Table PWR-10: Table PWR-4 -/
def PWR_SP_INFO_seq : Field := ⟨0x400090E8, 15, 0⟩
/-- Table PWR-10: Table PWR-4 -/
def PWR_SP_INFO_flags : Field := ⟨0x400090E8, 23, 16⟩
/-- Table PWR-10: Since the last entry, saturating -/
def PWR_SP_INFO_age_ms : Field := ⟨0x400090E8, 31, 24⟩
/-- Table PWR-10: Card power, W, signed (R363) -/
def PWR_TELEM_power : Field := ⟨0x400090EC, 31, 0⟩
/-- Table PWR-10: Saturating -/
def PWR_CNT_ss_shorts : Field := ⟨0x400090F0, 7, 0⟩
/-- Table PWR-10: Saturating -/
def PWR_CNT_adc_ovr : Field := ⟨0x400090F0, 15, 8⟩
/-- Table PWR-10: Saturating -/
def PWR_CNT_stops : Field := ⟨0x400090F0, 31, 16⟩
/-- Table PWR-10: Most recent code of Table PWR-8 -/
def PWR_FAULT_code : Field := ⟨0x400090F4, 15, 0⟩
/-- Table PWR-10: Set with each fault -/
def PWR_FAULT_valid : Field := ⟨0x400090F4, 31, 31⟩
/-- Table MTR-11: R368 -/
def MTR_CTRL_ch_en : Field := ⟨0x4000A000, 7, 0⟩
/-- Table MTR-11: R376 -/
def MTR_CTRL_set_en : Field := ⟨0x4000A000, 11, 8⟩
/-- Table MTR-11: Bit n: set n, 0 ABSOLUTE, 1 SIGNED (R375) -/
def MTR_CTRL_accum_mode : Field := ⟨0x4000A000, 15, 12⟩
/-- Table MTR-11: CC0 to CC3 -/
def MTR_CTRL_evt_mask : Field := ⟨0x4000A000, 19, 16⟩
/-- Table MTR-11: Channel settled and not failed -/
def MTR_STATUS_ch_ok : Field := ⟨0x4000A004, 7, 0⟩
/-- Table MTR-11: R374 -/
def MTR_STATUS_nl : Field := ⟨0x4000A004, 11, 8⟩
/-- Table MTR-11: R368, R372, R376 -/
def MTR_STATUS_cfg_refused : Field := ⟨0x4000A004, 12, 12⟩
/-- Table MTR-11: R371 -/
def MTR_STATUS_user_default : Field := ⟨0x4000A004, 13, 13⟩
/-- Table MTR-11: Freeze taken (R380) -/
def MTR_STATUS_frozen : Field := ⟨0x4000A004, 14, 14⟩
/-- Table MTR-11: Bits 0 to 4 in that order; second is set each second when ELn values update; each sets EVT_MTR -/
def MTR_EVT_second : Field := ⟨0x4000A008, 0, 0⟩
/-- Table MTR-11: Bits 0 to 4 in that order; second is set each second when ELn values update; each sets EVT_MTR -/
def MTR_EVT_clip : Field := ⟨0x4000A008, 1, 1⟩
/-- Table MTR-11: Bits 0 to 4 in that order; second is set each second when ELn values update; each sets EVT_MTR -/
def MTR_EVT_cal : Field := ⟨0x4000A008, 2, 2⟩
/-- Table MTR-11: Bits 0 to 4 in that order; second is set each second when ELn values update; each sets EVT_MTR -/
def MTR_EVT_cap : Field := ⟨0x4000A008, 3, 3⟩
/-- Table MTR-11: Bits 0 to 4 in that order; second is set each second when ELn values update; each sets EVT_MTR -/
def MTR_EVT_fault : Field := ⟨0x4000A008, 4, 4⟩
/-- Table MTR-11: 1 CLEAR -/
def MTR_CMD_op : Field := ⟨0x4000A00C, 1, 0⟩
/-- Table MTR-11: Set mask -/
def MTR_CMD_sets : Field := ⟨0x4000A00C, 11, 8⟩
/-- Table MTR-11: 0xC1A4 (R376) -/
def MTR_CMD_key : Field := ⟨0x4000A00C, 31, 16⟩
/-- Table MTR-11: 0 voltage, 1 current -/
def MTR_CH_CFG_type (j : Nat) : Field := ⟨0x4000A010, 4 * j + 0, 4 * j + 0⟩
/-- Table MTR-11: R369 -/
def MTR_CH_CFG_hpf (j : Nat) : Field := ⟨0x4000A010, 4 * j + 1, 4 * j + 1⟩
/-- Table MTR-11: R369 -/
def MTR_CH_CFG_inv (j : Nat) : Field := ⟨0x4000A010, 4 * j + 2, 4 * j + 2⟩
/-- Table MTR-11: Voltage channel of element n -/
def MTR_ELEM_v (j : Nat) : Field := ⟨0x4000A014, 8 * j + 2, 8 * j + 0⟩
/-- Table MTR-11: Current channel of element n -/
def MTR_ELEM_i (j : Nat) : Field := ⟨0x4000A014, 8 * j + 5, 8 * j + 3⟩
/-- Table MTR-11: Element in use -/
def MTR_ELEM_en (j : Nat) : Field := ⟨0x4000A014, 8 * j + 6, 8 * j + 6⟩
/-- Table MTR-11: Elements of set n -/
def MTR_SET_MAP_el (j : Nat) : Field := ⟨0x4000A018, 4 * j + 3, 4 * j + 0⟩
/-- Table MTR-11: 10 ppm units (R374) -/
def MTR_NL_nl (j : Nat) : Field := ⟨0x4000A01C, 8 * j + 7, 8 * j + 0⟩
/-- Table MTR-11: 0.1 V -/
def MTR_SETn_NOM_un (n : Nat) : Field := ⟨0x4000A020 + 4 * n, 15, 0⟩
/-- Table MTR-11: 0.1 A -/
def MTR_SETn_NOM_in (n : Nat) : Field := ⟨0x4000A020 + 4 * n, 31, 16⟩
/-- Table MTR-11: Channel for the CAL and EFF registers -/
def MTR_CAL_SEL_ch : Field := ⟨0x4000A030, 2, 0⟩
/-- Table MTR-11: Signed ppm -/
def MTR_FCAL_GAIN_g_f : Field := ⟨0x4000A034, 15, 0⟩
/-- Table MTR-11: Signed codes -/
def MTR_FCAL_OFS_o_f : Field := ⟨0x4000A038, 23, 0⟩
/-- Table MTR-11: Signed ns -/
def MTR_FCAL_DLY_TC_d_f : Field := ⟨0x4000A03C, 15, 0⟩
/-- Table MTR-11: Signed, 0.1 ppm/K; 0.001 ppm/K² -/
def MTR_FCAL_DLY_TC_tc1 : Field := ⟨0x4000A03C, 23, 16⟩
/-- Table MTR-11: Signed, 0.1 ppm/K; 0.001 ppm/K² -/
def MTR_FCAL_DLY_TC_tc2 : Field := ⟨0x4000A03C, 31, 24⟩
/-- Table MTR-11: Signed ppm -/
def MTR_UCAL_GAIN_g_u : Field := ⟨0x4000A0C0, 15, 0⟩
/-- Table MTR-11: Signed codes -/
def MTR_UCAL_OFS_o_u : Field := ⟨0x4000A0C4, 15, 0⟩
/-- Table MTR-11: Signed ns; d_f + d_u beyond ±32,767 is ignored -/
def MTR_UCAL_DLY_d_u : Field := ⟨0x4000A0C8, 15, 0⟩
/-- Table MTR-11: 0.001 units per volt; 0 ignored -/
def MTR_UCAL_SCALE_k : Field := ⟨0x4000A0CC, 31, 0⟩
/-- Table MTR-11: Combined factor − 1, signed, 0.01 ppm (R370) -/
def MTR_EFF_GAIN_gain : Field := ⟨0x4000A0D0, 31, 0⟩
/-- Table MTR-11: Signed codes, input-referred -/
def MTR_EFF_OFS_ofs : Field := ⟨0x4000A0D4, 23, 0⟩
/-- Table MTR-11: Signed ns -/
def MTR_EFF_DELAY_dly : Field := ⟨0x4000A0E0, 15, 0⟩
/-- Table MTR-11: Copy valid -/
def MTR_UCAL_STATUS_copy_a : Field := ⟨0x4000A0D8, 0, 0⟩
/-- Table MTR-11: Copy valid -/
def MTR_UCAL_STATUS_copy_b : Field := ⟨0x4000A0D8, 1, 1⟩
/-- Table MTR-11: Accepted writes, saturating -/
def MTR_UCAL_STATUS_writes : Field := ⟨0x4000A0D8, 31, 16⟩
/-- Table MTR-11: Signed, 0.001 units: 1 s RMS if hpf = 1, else 1 s mean -/
def MTR_CHn_VAL_val (n : Nat) : Field := ⟨0x4000A040 + 4 * n, 31, 0⟩
/-- Table MTR-11: Signed W, var; 1 s mean -/
def MTR_ELn_P_p (n : Nat) : Field := ⟨0x4000A060 + 4 * n, 31, 0⟩
/-- Table MTR-11: Signed W, var; 1 s mean -/
def MTR_ELn_Q_q (n : Nat) : Field := ⟨0x4000A070 + 4 * n, 31, 0⟩
/-- Table MTR-11: Line frequency, mHz -/
def MTR_FREQ_mhz : Field := ⟨0x4000A080, 15, 0⟩
/-- Table MTR-11: Voltage channel measured -/
def MTR_FREQ_ch : Field := ⟨0x4000A080, 18, 16⟩
/-- Table MTR-11: R379 -/
def MTR_SNAP_take : Field := ⟨0x4000A084, 0, 0⟩
/-- Table MTR-11: Snapshots in the reader's bank, wrapping -/
def MTR_SNAP_seq : Field := ⟨0x4000A084, 31, 16⟩
/-- Table MTR-11: Meter time of the snapshot's last step -/
def MTR_SNAP_MT_LO_mt : Field := ⟨0x4000A088, 31, 0⟩
/-- Table MTR-11: Meter time of the snapshot's last step -/
def MTR_SNAP_MT_HI_mt : Field := ⟨0x4000A08C, 31, 0⟩
/-- Table MTR-11: 8 × set + a (Table MTR-2) -/
def MTR_ACC_SEL_acc : Field := ⟨0x4000A090, 4, 0⟩
/-- Table MTR-11: Bits [31:0], [63:32] from the reader's bank -/
def MTR_ACC_LO_value : Field := ⟨0x4000A094, 31, 0⟩
/-- Table MTR-11: Bits [31:0], [63:32] from the reader's bank -/
def MTR_ACC_HI_value : Field := ⟨0x4000A098, 31, 0⟩
/-- Table MTR-11: R378 -/
def MTR_PULSE_CFG_set : Field := ⟨0x4000A09C, 1, 0⟩
/-- Table MTR-11: R378 -/
def MTR_PULSE_CFG_dir : Field := ⟨0x4000A09C, 2, 2⟩
/-- Table MTR-11: R378 -/
def MTR_PULSE_CFG_en : Field := ⟨0x4000A09C, 3, 3⟩
/-- Table MTR-11: Impulses per kWh, 1 to 100,000 -/
def MTR_PULSE_CFG_const : Field := ⟨0x4000A09C, 24, 8⟩
/-- Table MTR-11: Channels -/
def MTR_CAPu_CFG_mask (n : Nat) : Field := ⟨0x4000A0A0 + 8 * n, 7, 0⟩
/-- Table MTR-11: 0 off, 1 continuous, 2 one-shot -/
def MTR_CAPu_CFG_mode (n : Nat) : Field := ⟨0x4000A0A0 + 8 * n, 9, 8⟩
/-- Table MTR-11: 0 command, 1 trip, 2 clip -/
def MTR_CAPu_CFG_trig (n : Nat) : Field := ⟨0x4000A0A0 + 8 * n, 11, 10⟩
/-- Table MTR-11: 0 to 256 frames -/
def MTR_CAPu_CFG_pre (n : Nat) : Field := ⟨0x4000A0A0 + 8 * n, 20, 12⟩
/-- Table MTR-11: 64-frame units, 1 to 2,047; writes while not off are ignored -/
def MTR_CAPu_CFG_post (n : Nat) : Field := ⟨0x4000A0A0 + 8 * n, 31, 21⟩
/-- Table MTR-11: 0 off, 1 armed, 2 running, 3 done -/
def MTR_CAPu_STATUS_state (n : Nat) : Field := ⟨0x4000A0A4 + 8 * n, 1, 0⟩
/-- Table MTR-11: Frames dropped, saturating -/
def MTR_CAPu_STATUS_dropped (n : Nat) : Field := ⟨0x4000A0A4 + 8 * n, 31, 16⟩
/-- Table MTR-11: Bit u triggers unit u -/
def MTR_CAP_TRIG_unit : Field := ⟨0x4000A0B0, 1, 0⟩
/-- Table MTR-11: Channel clipping now -/
def MTR_CLIP_live : Field := ⟨0x4000A0B4, 7, 0⟩
/-- Table MTR-11: Clip since last clear -/
def MTR_CLIP_seen : Field := ⟨0x4000A0B4, 15, 8⟩
/-- Table MTR-11: Clip periods, saturating -/
def MTR_CLIP_count : Field := ⟨0x4000A0B4, 31, 16⟩
/-- Table MTR-11: Code = °C + 64 -/
def MTR_TEMP_t : Field := ⟨0x4000A0B8, 7, 0⟩
/-- Table MTR-11: Saturating -/
def MTR_CNT_pulse_lost : Field := ⟨0x4000A0BC, 15, 0⟩
/-- Table MTR-11: Saturating -/
def MTR_CNT_gap_steps : Field := ⟨0x4000A0BC, 31, 16⟩
/-- Table MTR-11: Most recent code of Table MTR-9 -/
def MTR_FAULT_code : Field := ⟨0x4000A0DC, 15, 0⟩
/-- Table MTR-11: Set with each fault -/
def MTR_FAULT_valid : Field := ⟨0x4000A0DC, 31, 31⟩
/-- Table BIL-9: R389 -/
def BIL_CTRL_en : Field := ⟨0x4000B000, 0, 0⟩
/-- Table BIL-9: Billed register set -/
def BIL_CTRL_set : Field := ⟨0x4000B000, 2, 1⟩
/-- Table BIL-9: CC0 to CC3 for EVT_BIL -/
def BIL_CTRL_evt_mask : Field := ⟨0x4000B000, 6, 3⟩
/-- Table BIL-9: 0 to 4 (R395) -/
def BIL_CTRL_decimals : Field := ⟨0x4000B000, 9, 7⟩
/-- Table BIL-9: Record states -/
def BIL_STATUS_int_open : Field := ⟨0x4000B004, 0, 0⟩
/-- Table BIL-9: Record states -/
def BIL_STATUS_ses_open : Field := ⟨0x4000B004, 1, 1⟩
/-- Table BIL-9: Record states -/
def BIL_STATUS_closing : Field := ⟨0x4000B004, 2, 2⟩
/-- Table BIL-9: R400 -/
def BIL_STATUS_store_full : Field := ⟨0x4000B004, 3, 3⟩
/-- Table BIL-9: Refused RWS or en write -/
def BIL_STATUS_cfg_refused : Field := ⟨0x4000B004, 4, 4⟩
/-- Table BIL-9: R393, R406 -/
def BIL_STATUS_cmd_refused : Field := ⟨0x4000B004, 5, 5⟩
/-- Table BIL-9: Last refusal: 1 recording not possible, 2 no slot, 3 lifecycle, 4 session open, 5 wrong key or op, 6 top-up sequence or amount -/
def BIL_STATUS_reason : Field := ⟨0x4000B004, 11, 8⟩
/-- Table BIL-9: UNSIGNED slots -/
def BIL_STATUS_unsigned : Field := ⟨0x4000B004, 19, 16⟩
/-- Table BIL-9: Bits 0 to 8 in that order; each sets EVT_BIL -/
def BIL_EVT_closed : Field := ⟨0x4000B008, 0, 0⟩
/-- Table BIL-9: Bits 0 to 8 in that order; each sets EVT_BIL -/
def BIL_EVT_signed : Field := ⟨0x4000B008, 1, 1⟩
/-- Table BIL-9: Bits 0 to 8 in that order; each sets EVT_BIL -/
def BIL_EVT_rate : Field := ⟨0x4000B008, 2, 2⟩
/-- Table BIL-9: Bits 0 to 8 in that order; each sets EVT_BIL -/
def BIL_EVT_step : Field := ⟨0x4000B008, 3, 3⟩
/-- Table BIL-9: Bits 0 to 8 in that order; each sets EVT_BIL -/
def BIL_EVT_md_new : Field := ⟨0x4000B008, 4, 4⟩
/-- Table BIL-9: Bits 0 to 8 in that order; each sets EVT_BIL -/
def BIL_EVT_credit_low : Field := ⟨0x4000B008, 5, 5⟩
/-- Table BIL-9: Bits 0 to 8 in that order; each sets EVT_BIL -/
def BIL_EVT_exhausted : Field := ⟨0x4000B008, 6, 6⟩
/-- Table BIL-9: Bits 0 to 8 in that order; each sets EVT_BIL -/
def BIL_EVT_amount : Field := ⟨0x4000B008, 7, 7⟩
/-- Table BIL-9: Bits 0 to 8 in that order; each sets EVT_BIL -/
def BIL_EVT_fault : Field := ⟨0x4000B008, 8, 8⟩
/-- Table BIL-9: R397; 0xFF none -/
def BIL_SIGN_KEY_slot : Field := ⟨0x4000B00C, 7, 0⟩
/-- Table BIL-9: Non-divisors of 1,440 ignored -/
def BIL_INT_CFG_len_min : Field := ⟨0x4000B010, 5, 0⟩
/-- Table BIL-9: Signed minutes -/
def BIL_INT_CFG_offset_min : Field := ⟨0x4000B010, 27, 16⟩
/-- Table BIL-9: In effect (R391) -/
def BIL_RATE_rate : Field := ⟨0x4000B014, 3, 0⟩
/-- Table BIL-9: R391 -/
def BIL_RATE_default : Field := ⟨0x4000B014, 11, 8⟩
/-- Table BIL-9: R391 -/
def BIL_RATE_override : Field := ⟨0x4000B014, 16, 16⟩
/-- Table BIL-9: R391 -/
def BIL_RATE_ovr_rate : Field := ⟨0x4000B014, 23, 20⟩
/-- Table BIL-9: Entry shown -/
def BIL_SW_SEL_entry : Field := ⟨0x4000B018, 3, 0⟩
/-- Table BIL-9: Wall seconds; 0 unused -/
def BIL_SW_TIME_time : Field := ⟨0x4000B01C, 31, 0⟩
/-- Table BIL-9: Rate of the entry -/
def BIL_SW_RATE_rate : Field := ⟨0x4000B020, 3, 0⟩
/-- Table BIL-9: Open interval's record number -/
def BIL_INT_NUM_num : Field := ⟨0x4000B024, 31, 0⟩
/-- Table BIL-9: Start meter time -/
def BIL_INT_START_LO_mt : Field := ⟨0x4000B028, 31, 0⟩
/-- Table BIL-9: Start meter time -/
def BIL_INT_START_HI_mt : Field := ⟨0x4000B02C, 31, 0⟩
/-- Table BIL-9: Planned end (R390) -/
def BIL_INT_END_LO_mt : Field := ⟨0x4000B030, 31, 0⟩
/-- Table BIL-9: Planned end (R390) -/
def BIL_INT_END_HI_mt : Field := ⟨0x4000B034, 31, 0⟩
/-- Table BIL-9: As Table BIL-1, so far -/
def BIL_INT_FLAGS_flags : Field := ⟨0x4000B038, 7, 0⟩
/-- Table BIL-9: Interval rate -/
def BIL_INT_FLAGS_rate : Field := ⟨0x4000B038, 11, 8⟩
/-- Table BIL-9: 1 OPEN, 2 CLOSE, 3 AMOUNT -/
def BIL_SES_CMD_op : Field := ⟨0x4000B03C, 1, 0⟩
/-- Table BIL-9: CLOSE: 0x10 to 0xFF -/
def BIL_SES_CMD_reason : Field := ⟨0x4000B03C, 15, 8⟩
/-- Table BIL-9: 0xB11E -/
def BIL_SES_CMD_key : Field := ⟨0x4000B03C, 31, 16⟩
/-- Table BIL-9: R394; ignored while a session is open -/
def BIL_SES_CFG_groups : Field := ⟨0x4000B040, 9, 0⟩
/-- Table BIL-9: R394 -/
def BIL_SES_CFG_ctr : Field := ⟨0x4000B040, 13, 10⟩
/-- Table BIL-9: 100 ms units, 1 to 255 -/
def BIL_SES_CFG_amount_to : Field := ⟨0x4000B040, 23, 16⟩
/-- Table BIL-9: Session record number -/
def BIL_SES_NUM_num : Field := ⟨0x4000B044, 31, 0⟩
/-- Table BIL-9: 0 none, 1 opening, 2 open, 3 closing, 4 awaiting amount -/
def BIL_SES_STATE_state : Field := ⟨0x4000B048, 2, 0⟩
/-- Table BIL-9: Closure reason -/
def BIL_SES_STATE_reason : Field := ⟨0x4000B048, 15, 8⟩
/-- Table BIL-9: As Table BIL-1 -/
def BIL_SES_STATE_flags : Field := ⟨0x4000B048, 23, 16⟩
/-- Table BIL-9: Session start -/
def BIL_SES_START_LO_mt : Field := ⟨0x4000B04C, 31, 0⟩
/-- Table BIL-9: Session start -/
def BIL_SES_START_HI_mt : Field := ⟨0x4000B050, 31, 0⟩
/-- Table BIL-9: Staged amount (R395) -/
def BIL_SES_AMT_LO_amount : Field := ⟨0x4000B054, 31, 0⟩
/-- Table BIL-9: Staged amount (R395) -/
def BIL_SES_AMT_HI_amount : Field := ⟨0x4000B058, 31, 0⟩
/-- Table BIL-9: Register shown -/
def BIL_MD_SEL_reg : Field := ⟨0x4000B05C, 2, 0⟩
/-- Table BIL-9: Register enable -/
def BIL_MD_CFG_en : Field := ⟨0x4000B060, 0, 0⟩
/-- Table BIL-9: R401 -/
def BIL_MD_CFG_sliding : Field := ⟨0x4000B060, 1, 1⟩
/-- Table BIL-9: 0 import, 1 export -/
def BIL_MD_CFG_export : Field := ⟨0x4000B060, 2, 2⟩
/-- Table BIL-9: Minutes, 1 to 60 -/
def BIL_MD_CFG_w : Field := ⟨0x4000B060, 9, 4⟩
/-- Table BIL-9: 1 to 15 (R401) -/
def BIL_MD_CFG_n : Field := ⟨0x4000B060, 13, 10⟩
/-- Table BIL-9: W -/
def BIL_MD_MAX_max : Field := ⟨0x4000B064, 31, 0⟩
/-- Table BIL-9: Wall seconds of the maximum -/
def BIL_MD_MAX_TIME_time : Field := ⟨0x4000B068, 31, 0⟩
/-- Table BIL-9: R403 -/
def BIL_MD_PREV_prev : Field := ⟨0x4000B06C, 31, 0⟩
/-- Table BIL-9: Last demand, W -/
def BIL_MD_NOW_d : Field := ⟨0x4000B070, 31, 0⟩
/-- Table BIL-9: R403 -/
def BIL_MD_CMD_regs : Field := ⟨0x4000B074, 7, 0⟩
/-- Table BIL-9: 0xDE5E -/
def BIL_MD_CMD_key : Field := ⟨0x4000B074, 31, 16⟩
/-- Table BIL-9: R404 -/
def BIL_PP_CFG_en : Field := ⟨0x4000B078, 0, 0⟩
/-- Table BIL-9: 0 energy, 1 currency -/
def BIL_PP_CFG_currency : Field := ⟨0x4000B078, 1, 1⟩
/-- Table BIL-9: Disconnecting contactor -/
def BIL_PP_CFG_ctr : Field := ⟨0x4000B078, 3, 2⟩
/-- Table BIL-9: Signed -/
def BIL_PP_CREDIT_LO_credit : Field := ⟨0x4000B07C, 31, 0⟩
/-- Table BIL-9: Signed -/
def BIL_PP_CREDIT_HI_credit : Field := ⟨0x4000B080, 31, 0⟩
/-- Table BIL-9: Low-credit level -/
def BIL_PP_WARN_warn : Field := ⟨0x4000B084, 31, 0⟩
/-- Table BIL-9: R406 -/
def BIL_PP_TOPUP_LO_amount : Field := ⟨0x4000B088, 31, 0⟩
/-- Table BIL-9: R406 -/
def BIL_PP_TOPUP_HI_amount : Field := ⟨0x4000B08C, 31, 0⟩
/-- Table BIL-9: Commits (R406) -/
def BIL_PP_TOPUP_SEQ_seq : Field := ⟨0x4000B090, 31, 0⟩
/-- Table BIL-9: Price shown -/
def BIL_PP_PRICE_SEL_rate : Field := ⟨0x4000B094, 3, 0⟩
/-- Table BIL-9: 10^−4 minor units per kWh -/
def BIL_PP_PRICE_price : Field := ⟨0x4000B098, 31, 0⟩
/-- Table BIL-9: R404, R405 -/
def BIL_PP_STATUS_exhausted : Field := ⟨0x4000B09C, 0, 0⟩
/-- Table BIL-9: R404, R405 -/
def BIL_PP_STATUS_low : Field := ⟨0x4000B09C, 1, 1⟩
/-- Table BIL-9: Saturating -/
def BIL_PP_STATUS_fb_faults : Field := ⟨0x4000B09C, 15, 8⟩
/-- Table BIL-9: Saturating -/
def BIL_PP_STATUS_disconnects : Field := ⟨0x4000B09C, 31, 16⟩
/-- Table BIL-9: Next record number -/
def BIL_REC_NEXT_num : Field := ⟨0x4000B0A0, 31, 0⟩
/-- Table BIL-9: Highest signed record -/
def BIL_REC_LAST_num : Field := ⟨0x4000B0A4, 31, 0⟩
/-- Table BIL-9: 3 bits per slot: 0 FREE, 1 RESERVED, 2 UNSIGNED, 3 SIGNED, 4 PUBLISHED, 5 bad -/
def BIL_STORE_slots : Field := ⟨0x4000B0A8, 23, 0⟩
/-- Table BIL-9: Word shown -/
def BIL_PSTATE_SEL_word : Field := ⟨0x4000B0AC, 2, 0⟩
/-- Table BIL-9: Program's tariff state -/
def BIL_PSTATE_value : Field := ⟨0x4000B0B0, 31, 0⟩
/-- Table BIL-9: Records signed, saturating -/
def BIL_CNT_signed : Field := ⟨0x4000B0B4, 15, 0⟩
/-- Table BIL-9: Saturating -/
def BIL_CNT_sign_fail : Field := ⟨0x4000B0B4, 23, 16⟩
/-- Table BIL-9: R400, saturating -/
def BIL_CNT_lost : Field := ⟨0x4000B0B4, 31, 24⟩
/-- Table BIL-9: Most recent code of Table BIL-6 -/
def BIL_FAULT_code : Field := ⟨0x4000B0B8, 15, 0⟩
/-- Table BIL-9: Set with each fault -/
def BIL_FAULT_valid : Field := ⟨0x4000B0B8, 31, 31⟩
/-- Table SYS-32: R430. Set once VANA has been above 3.05 V for 1 ms after POR -/
def SYS_SUPPLY_vana_ok : Field := ⟨0x4000000C, 0, 0⟩
/-- Table SYS-32: R430 -/
def SYS_SUPPLY_vana_low : Field := ⟨0x4000000C, 1, 1⟩
/-- Table SYS-32: R431 -/
def SYS_SUPPLY_buck_limit : Field := ⟨0x4000000C, 2, 2⟩
/-- Table SYS-32: 1 from Dawn step 4 on -/
def SYS_SUPPLY_buck_run : Field := ⟨0x4000000C, 3, 3⟩
/-- Table SYS-32: VANA in 20 mV units, ±2 codes -/
def SYS_SUPPLY_vana : Field := ⟨0x4000000C, 15, 8⟩
/-- Table SYS-32: VDD33 in 20 mV units, ±2 codes -/
def SYS_SUPPLY_vdd33 : Field := ⟨0x4000000C, 23, 16⟩
/-- Table SYS-47: Counter shown, 0 to 8; 9 to 15 ignored -/
def SYS_LIFE_SEL_bin : Field := ⟨0x40000010, 3, 0⟩
/-- Table SYS-47: R450 -/
def SYS_LIFE_SEL_valid : Field := ⟨0x40000010, 8, 8⟩
/-- Table SYS-47: R449 -/
def SYS_LIFE_SEL_profile : Field := ⟨0x40000010, 9, 9⟩
/-- Table SYS-47: R449 -/
def SYS_LIFE_SEL_mram_rate : Field := ⟨0x40000010, 10, 10⟩
/-- Table SYS-47: Selected counter (R442), saturating -/
def SYS_LIFE_MIN_minutes : Field := ⟨0x40000014, 31, 0⟩
/-- Table SYS-47: MRAM word writes in units of 2^20 (R446), saturating -/
def SYS_MRAM_WR_units : Field := ⟨0x40000018, 31, 0⟩
/-- Table XMP-2: R213 -/
def XMP_CTRL_en : Field := ⟨0x40004000, 0, 0⟩
/-- Table XMP-2: Level driven on XMP_RST_N -/
def XMP_CTRL_rst : Field := ⟨0x40004000, 1, 1⟩
/-- Table XMP-2: A transaction is in progress -/
def XMP_STATUS_busy : Field := ⟨0x40004004, 0, 0⟩
/-- Table XMP-2: An en write was ignored (R213) -/
def XMP_STATUS_en_refused : Field := ⟨0x40004004, 1, 1⟩
/-- Table XMP-2: Posted stores buffered -/
def XMP_STATUS_posted : Field := ⟨0x40004004, 5, 2⟩
/-- Table XMP-2: 0b00 none, 0b01 PSRAM, 0b10 NOR -/
def XMP_CSn_CFG_type (n : Nat) : Field := ⟨0x40004008 + 8 * n, 1, 0⟩
/-- Table XMP-2: 2^size MiB, size 0 to 8 -/
def XMP_CSn_CFG_size (n : Nat) : Field := ⟨0x40004008 + 8 * n, 5, 2⟩
/-- Table XMP-2: 4 to 31 -/
def XMP_CSn_CFG_rd_dummy (n : Nat) : Field := ⟨0x40004008 + 8 * n, 12, 8⟩
/-- Table XMP-2: 0 to 31 -/
def XMP_CSn_CFG_wr_lat (n : Nat) : Field := ⟨0x40004008 + 8 * n, 20, 16⟩
/-- Table XMP-2: Read opcode -/
def XMP_CSn_OPS_rd_op (n : Nat) : Field := ⟨0x4000400C + 8 * n, 7, 0⟩
/-- Table XMP-2: Write opcode (PSRAM) -/
def XMP_CSn_OPS_wr_op (n : Nat) : Field := ⟨0x4000400C + 8 * n, 15, 8⟩
/-- Table XMP-2: Opcode -/
def XMP_CMD_op : Field := ⟨0x40004018, 7, 0⟩
/-- Table XMP-2: Chip select -/
def XMP_CMD_cs : Field := ⟨0x40004018, 8, 8⟩
/-- Table XMP-2: Send the address phase -/
def XMP_CMD_addr_en : Field := ⟨0x40004018, 9, 9⟩
/-- Table XMP-2: 0 read into the buffer, 1 write from it -/
def XMP_CMD_dir : Field := ⟨0x40004018, 10, 10⟩
/-- Table XMP-2: 0 to 31 -/
def XMP_CMD_dummy : Field := ⟨0x40004018, 15, 11⟩
/-- Table XMP-2: 0 to 256 bytes -/
def XMP_CMD_len : Field := ⟨0x40004018, 24, 16⟩
/-- Table XMP-2: Starts the command -/
def XMP_CMD_go : Field := ⟨0x40004018, 31, 31⟩
/-- Table XMP-2: Device address -/
def XMP_CMD_ADDR_addr : Field := ⟨0x4000401C, 31, 0⟩
/-- Table XMP-2: System SRAM buffer -/
def XMP_CMD_BUF_buf : Field := ⟨0x40004020, 31, 2⟩
/-- Table XMP-2: 0 idle, 1 busy, 2 done, 3 error -/
def XMP_CMD_STATUS_state : Field := ⟨0x40004024, 1, 0⟩
/-- Table XMP-2: Saturating -/
def XMP_CNT_timeouts : Field := ⟨0x40004028, 15, 0⟩
/-- Table XMP-2: Saturating -/
def XMP_CNT_post_lost : Field := ⟨0x40004028, 31, 16⟩
/-- Table XMP-2: Most recent XMP code -/
def XMP_FAULT_code : Field := ⟨0x4000402C, 15, 0⟩
/-- Table XMP-2: Set with each fault -/
def XMP_FAULT_valid : Field := ⟨0x4000402C, 31, 31⟩
/-- R457: SYS_ID.stepping. -/
def SYS_ID_stepping : Field := ⟨0x40000000, 7, 0⟩
/-- R457: SYS_ID.part. -/
def SYS_ID_part : Field := ⟨0x40000000, 31, 16⟩
end F

end Sys2Proof.Machine
end

