-- ==== Sys2Proof/Machine/Store.lean ====
section
/-! DEFINITION. Sparse stores of words: the representation of the register file and of every addressed memory.
A store is a list of (address, word) pairs in one canonical form: addresses strictly rising, no entry equal to 0, and an
unlisted address reads 0. Equal stores are equal lists. -/

namespace Sys2Proof.Machine

/-- The word at an address; an unlisted address reads 0. -/
def Store.get {n : Nat} : List (Nat × BitVec n) → Nat → BitVec n
  | [], _ => 0
  | (k, v) :: t, a => if k = a then v else Store.get t a

/-- Insertion of a nonzero word at its place in the rising order. -/
def Store.insert {n : Nat} : List (Nat × BitVec n) → Nat → BitVec n → List (Nat × BitVec n)
  | [], a, v => [(a, v)]
  | (k, w) :: t, a, v =>
    if a < k then (a, v) :: (k, w) :: t
    else if a = k then (a, v) :: t
    else (k, w) :: Store.insert t a v

/-- The store with the word at an address replaced; writing 0 removes the entry. -/
def Store.set {n : Nat} (l : List (Nat × BitVec n)) (a : Nat) (v : BitVec n) : List (Nat × BitVec n) :=
  if v = 0 then l.filter (fun p => p.1 ≠ a) else Store.insert l a v

/-- The canonical form: addresses strictly rising above a bound, no entry 0. -/
def Store.wfFrom {n : Nat} : Option Nat → List (Nat × BitVec n) → Bool
  | _, [] => true
  | b, (k, v) :: t => (match b with | none => true | some m => decide (m < k)) && decide (v ≠ 0) && Store.wfFrom (some k) t

/-- The canonical form of a whole store. -/
def Store.wf {n : Nat} (l : List (Nat × BitVec n)) : Bool := Store.wfFrom none l

/-- The bits [hi:lo] of a word, as a number. -/
def getBits (w : Word) (hi lo : Nat) : Nat := ((w >>> lo) &&& ((1#32 <<< (hi + 1 - lo)) - 1#32)).toNat

/-- The word with its bits [hi:lo] replaced by the low bits of a number. -/
def putBits (w : Word) (hi lo v : Nat) : Word :=
  let m : Word := ((1#32 <<< (hi + 1 - lo)) - 1#32) <<< lo
  (w &&& ~~~m) ||| ((w32 v <<< lo) &&& m)

/-- `n` bytes of a byte store from an address upward, the first the least significant (00_scope.md, Numbers, units and names). -/
def Store.bytes (l : List (Nat × Byte)) (a : Nat) : Nat → List Byte
  | 0 => []
  | n + 1 => Store.get l a :: Store.bytes l (a + 1) n

/-- Bytes written from an address upward. -/
def Store.setBytes (l : List (Nat × Byte)) (a : Nat) : List Byte → List (Nat × Byte)
  | [] => l
  | b :: bs => Store.setBytes (Store.set l a b) (a + 1) bs

/-- A list of bytes read as a little-endian number. -/
def leNat : List Byte → Nat
  | [] => 0
  | b :: bs => b.toNat + 256 * leNat bs

/-- The `n` little-endian bytes of a number. -/
def leBytes : Nat → Nat → List Byte
  | 0, _ => []
  | n + 1, v => BitVec.ofNat 8 v :: leBytes n (v / 256)

/-- One bit of the reflected CRC-32C register (R153). -/
def crcBit (c : Word) : Word := if c.getLsbD 0 then (c >>> 1) ^^^ 0x82F63B78#32 else c >>> 1

/-- One byte of the CRC-32C register (R153). -/
def crcByte (c : Word) (b : Byte) : Word := (List.range 8).foldl (fun r _ => crcBit r) (c ^^^ b.setWidth 32)

/-- CRC-32C with an initial register value: reflected, final XOR 0xFFFF_FFFF (R153, R329). -/
def crc32c (init : Word) (l : List Byte) : Word := (l.foldl crcByte init) ^^^ 0xFFFFFFFF#32

/-- One element of a list replaced, nothing where the index is outside it. -/
def upd {α : Type} (l : List α) (i : Nat) (f : α → α) : List α :=
  match l, i with
  | [], _ => []
  | a :: t, 0 => f a :: t
  | a :: t, i + 1 => a :: upd t i f

/-- Addition that stops at a greatest value (a saturating counter). -/
def satAdd (a b top : Nat) : Nat := min (a + b) top

/-- A number's low bits read as a two's complement number of `n` bits. -/
def sgn (n v : Nat) : Int := (BitVec.ofNat n v).toInt

/-- The two's complement code of an integer on `n` bits. -/
def unsgn (n : Nat) (i : Int) : Nat := (BitVec.ofInt n i).toNat

end Sys2Proof.Machine
end

