-- ==== Sys2Proof/Machine/State.lean ====
section
/-! DEFINITION. The state of the block: every piece of state the spec gives the GNS-7420, as plain data, and State.reset.
The register words stand in one register file, State.regs, keyed by address (R5, 22_register_index.md); what stands behind
selectors, in nonvolatile memories, in queues and in engines has its own structure, one per block. Each field's default is its
value in State.reset. -/

namespace Sys2Proof.Machine

/-! ## Timekeeper (02_time_without_a_clock.md) -/

/-- State of the Timekeeper behind its registers. -/
structure Tmk where
  /-- Meter time, a 64-bit count of 40 ns ticks (R32); reset 0 until Dawn step 8 loads it (R34). -/
  mt : Nat := 0
  /-- 1 while meter time counts: from Dawn step 8, not while the crystal is lost (R32, R44); reset false. -/
  mtRun : Bool := false
  /-- TMK_MT_HI's latch of each reader, CC0 to CC3, SFC, host, 32 bits each (R33); reset 0. -/
  mtHi : List Word := [0, 0, 0, 0, 0, 0]
  /-- TMK_WALL_SUB's latch of each reader, 16 bits each (R35); reset 0. -/
  wallSub : List Nat := [0, 0, 0, 0, 0, 0]
  /-- The captured 64-bit target of each compare unit (R40); reset 0. -/
  cmpTarget : List Nat := [0, 0, 0, 0, 0, 0, 0, 0]
  /-- The operating point a change in progress goes to, 0 to 3 (R29); none at reset. -/
  opTarget : Option Nat := none
  /-- taps_per_tick of the two lines of each of the 12 gate outputs, line 0 first (R42); reset 0. -/
  epTaps : List (Nat × Nat) := List.replicate 12 (0, 0)
  /-- Which line of each output serves its edges (R42); reset line 0. -/
  epEdge : List Bool := List.replicate 12 false
  /-- A role swap waits for the next PWM period boundary, per output (R42); reset false. -/
  epSwap : List Bool := List.replicate 12 false
  /-- Wear of the eight monitors in 0.01 %, none before a measurement since Dawn (R43); reset none. -/
  wear : List (Option Nat) := List.replicate 8 none
  /-- TMK_WEAR_WARN raised since Dawn (R43). -/
  wearWarned : Bool := false
  /-- TMK_WEAR_LIMIT raised since Dawn (R43). -/
  wearLimited : Bool := false
  /-- Monitor 5 has reached 6.00 % in this power cycle (R43). -/
  mon5Warned : Bool := false
  /-- Monitor 5 has reached 10.00 % in this power cycle (R43). -/
  mon5Limited : Bool := false
  /-- Meter time of the last second of bucket drain, in ticks toward 3,600 s (R37); reset 0. -/
  drainFrom : Nat := 0
deriving DecidableEq, Repr

/-! ## Cores (03_gcis_programming_model.md, 04_gcis_instruction_set.md) -/

/-- Why a core is stalled inside an instruction (R53, R82, R61, Table CPU-26). -/
inductive Stall where
  /-- not stalled -/
  | none
  /-- WAIT with a mask, to a destination register (R53) -/
  | wait (mask : Word) (rd : Nat)
  /-- WAITT with a mask and a deadline, to a destination register (R82) -/
  | waitt (mask : Word) (rd : Nat) (deadline : Nat)
  /-- KRAND until the generator is available (R141) -/
  | krand (rd : Nat)
  /-- a load of 1, 2 or 4 bytes through the remote window until its answer (R61): destination, address, size, sign extension, issue meter time -/
  | remoteLoad (rd : Nat) (addr : Word) (size : Nat) (signed : Bool) (since : Nat)
  /-- a store through the remote window until its answer (R61): address, issue meter time -/
  | remoteStore (addr : Word) (since : Nat)
  /-- an LD through the remote window (R78): destination pair, address, the low word once it has arrived, meter time of the access under way -/
  | remoteLd (rd : Nat) (addr : Word) (low : Option Word) (since : Nat)
  /-- an SD through the remote window whose low word is under way (R78): address, high word, issue meter time -/
  | remoteSd (addr : Word) (high : Word) (since : Nat)
deriving DecidableEq, Repr

/-- One core (Table CPU-1): its registers (R71), its control registers (Table CPU-3) and its stall. -/
structure Core where
  /-- Executes instructions; reset false until Dawn steps 16 and 17 or CPU_START (R68). -/
  running : Bool := false
  /-- Has been started since Dawn (R87); reset false. -/
  started : Bool := false
  /-- g0 to g31, 32 bits each (R71, R87); reset 0. -/
  g : List Word := List.replicate 32 0
  /-- The address of the next instruction, 32 bits (R69); reset 0 (assumption 4). -/
  pc : Word := 0
  /-- cr_status.mode, 1 Task (Table CPU-3); reset 0. -/
  task : Bool := false
  /-- cr_status.hnd; reset 0. -/
  hnd : Bool := false
  /-- cr_status.prev_mode; reset 0. -/
  prevTask : Bool := false
  /-- cr_status.urg_en; reset 0, on the SFC 1. -/
  urgEn : Bool := false
  /-- cr_epc, 32 bits; reset 0. -/
  epc : Word := 0
  /-- cr_cause, 32 bits; reset 0. -/
  cause : Word := 0
  /-- cr_badaddr, 32 bits; reset 0. -/
  badaddr : Word := 0
  /-- cr_evec, 32 bits; reset 0. -/
  evec : Word := 0
  /-- cr_urgent, 32 bits; reset 0, on the SFC bit 17 (R68). -/
  urgent : Word := 0
  /-- cr_pend, 32 bits; reset 0. -/
  pend : Word := 0
  /-- cr_tblk, 32 bits; reset 0. -/
  tblk : Word := 0
  /-- cr_sig, 32 bits (R62); reset 0. -/
  sig : Word := 0
  /-- cr_tregion0 to cr_tregion7: base and limit words (Table CPU-3); reset 0. -/
  treg : List Word := List.replicate 16 0
  /-- The stall the core is in; reset none. -/
  stall : Stall := .none
  /-- Sender of the last EVT_SIGNAL to this core (CPU_STATUS.last_signaller, R59); reset 0. -/
  lastSignaller : Nat := 0
deriving DecidableEq, Repr, Inhabited

/-- The reset core with its SFC differences (R68, Table CPU-3). -/
def Core.reset (n : Nat) : Core :=
  if n = 4 then { urgEn := true, urgent := 0x00020000#32 } else {}

/-- State of the five cores and of what they share. -/
structure Cpu where
  /-- CC0 to CC3 and the SFC (Table CPU-1). -/
  cores : List Core := [Core.reset 0, Core.reset 1, Core.reset 2, Core.reset 3, Core.reset 4]
  /-- The words held by the five mailboxes, oldest first, at most 8 each (R60); reset empty. -/
  mbox : List (List Word) := [[], [], [], [], []]
  /-- Meter time of each CC core's last valid watchdog kick or enable (R67); reset 0. -/
  wdFrom : List Nat := [0, 0, 0, 0]
  /-- The SFC's return stack, top first, at most 8 addresses (R74); reset empty. -/
  retStack : List Word := []
  /-- Instructions the SFC has executed since its last SIGCHK (R62); reset 0. -/
  sigCount : Nat := 0
  /-- Meter time of the last TMON, or of the SFC's start (R63); reset 0. -/
  tmonFrom : Nat := 0
  /-- Meter time at which the current self-test period began (R65); reset 0. -/
  stestFrom : Nat := 0
  /-- Meter time at the last time-base check (R64); none at reset. -/
  tbSeen : Option Nat := none
  /-- The 64-bit words of system and safety SRAM, by address, whose check finds an error that cannot be corrected (R78, Table CPU-5); reset none. -/
  eccBad : List Nat := []
  /-- As `eccBad`, an error of one bit, corrected at each access (CPU_STATUS.ecc_corr); reset none. -/
  eccOne : List Nat := []
deriving DecidableEq, Repr

/-! ## Dawn and Dusk (05_dawn_dusk_reset.md) -/

/-- A Dusk bank or a checkpoint slot: the 512 bytes of a save image (Table DSK-3) and the 8-byte commit word. -/
structure SaveImg where
  bytes : List Byte
  commit : Nat
deriving DecidableEq, Repr, Inhabited

/-- A Dusk save or a reset save in progress. -/
structure Saving where
  /-- the reset that follows: 2 DUSK, or the code of Table DSK-4 of a reset save -/
  kind : Nat
  /-- meter time of Dusk step 3 -/
  from_ : Nat
  /-- the bank that holds the body, once it is written -/
  bank : Option Nat := none
deriving DecidableEq, Repr

/-- State of Dawn and Dusk behind their registers. -/
structure Dsk where
  /-- The two Dusk banks and the eight checkpoint slots, in Nightjar NV; reset empty. -/
  banks : List (Option SaveImg) := [none, none]
  ckpts : List (Option SaveImg) := List.replicate 8 none
  /-- The checkpoint slot written next, in Nightjar NV (R104); reset 0. -/
  ckptNext : Nat := 0
  /-- The image of the checkpoint being written; reset none. -/
  ckpt : Option (List Byte) := none
  /-- A Dusk save or reset save has taken its number and its commit word is not written, in Nightjar NV (Table DSK-9); reset false. -/
  begun : Bool := false
  /-- The POWER entry of this Dawn is written (R93, Table DSK-8); reset false. -/
  powerLogged : Bool := false
  /-- The faults found in this Dawn, reported once CC0 runs (R107). -/
  found : List Nat := []
  /-- A hold-up below 2 ms was measured, to be reported at the next Dawn, in Nightjar NV (Table DSK-9); reset false. -/
  shortDue : Bool := false
  /-- Meter time of the last checkpoint, or of Dawn's end (R104). -/
  ckptAt : Nat := 0
  /-- The save in progress; reset none. -/
  saving : Option Saving := none
  /-- The first key of the software reset sequence: its writer and meter time (R456); reset none. -/
  swKey : Option (Init × Nat) := none
  /-- Meter time of Dawn step 8. -/
  dawnFrom : Nat := 0
  /-- The powered side has no supply: VDD33 below BOR after a Dusk save; reset false. -/
  off : Bool := false
  /-- A Dusk save has completed since the last Dawn (DSK_CAUSE.warned), in Nightjar NV; reset false. -/
  warned : Bool := false
deriving DecidableEq, Repr
/-! ## Nightjar (06_nightjar_tamper.md) -/

/-- One written slot of the log (Table NJD-4): 16 bytes, with the mark of a bad slot (R126). -/
structure LogEntry where
  /-- hdr[3:0], the class (Table NJD-5) -/
  cls : Nat
  /-- hdr[4], a continuation -/
  cont : Bool
  /-- hdr[5], wall_valid was 0 -/
  wtInv : Bool
  /-- hdr[6], VBAT or VHARV was the source -/
  unpowered : Bool
  code : Nat
  info : Nat
  wall : Word
  data : Word
  tag : Word
  /-- the slot's bit of the bad-slot bitmap (R126) -/
  bad : Bool
deriving DecidableEq, Repr, Inhabited

/-- State of the Nightjar domain behind its registers; it survives every reset (R98) and, but for what R111 names, every supply loss. -/
structure Nj where
  /-- Every source is lost: VNJ below 1.8 V (R111); reset false. -/
  vnjLost : Bool := false
  /-- NJD_POWER_LOST is to be reported at the next Dawn (Table NJD-9); reset false. -/
  reportLost : Bool := false
  /-- The initialised mark of the first start (R111); reset false. -/
  initialised : Bool := false
  /-- The Nightjar domain is isolated from the powered side (R106); reset true until Dawn step 4. -/
  isolated : Bool := true
  /-- The 16 meter-time floor slots: the high word held, none if invalid (R34); reset none. -/
  floors : List (Option Nat) := List.replicate 16 none
  /-- The floor slot the next commit uses (R34); reset 0. -/
  floorNext : Nat := 0
  /-- The floor-held mark (R34); reset false. -/
  floorHeld : Bool := false
  /-- Wall time in seconds, 32 bits (R35); reset 0. -/
  wallSec : Nat := 0
  /-- Wall time's sub-second count, 15 bits (R35); reset 0. -/
  wallSub : Nat := 0
  /-- wall_valid (R35); reset false. -/
  wallValid : Bool := false
  /-- The step bucket in milliseconds (R37); reset 0. -/
  bucketMs : Nat := 0
  /-- The trim accumulator (R114); reset 0. -/
  rtcAcc : Int := 0
  /-- The 32.768 kHz oscillator is stopped (R115); reset false. -/
  oscStopped : Bool := false
  /-- Consecutive abnormal samples of each tamper source 0 to 6 (R118); reset 0. -/
  abnormal : List Nat := List.replicate 7 0
  /-- Consecutive normal samples of each tamper source (R118); reset 0. -/
  normal : List Nat := List.replicate 7 0
  /-- The powered side's gating follows the Dawn fallback: all switches off, the loop open (R92, R121); reset false. -/
  sealFallback : Bool := false
  /-- A seal scan has been taken since the last start, so the raw values are a previous scan (R121); reset false. -/
  sealScanned : Bool := false
  /-- Consecutive Dawn seal samples, newest first: switches and loop (R92); reset empty. -/
  dawnSeal : List (Nat × Bool) := []
  /-- The written log slots, slot 0 first (R124); reset empty. -/
  log : List LogEntry := []
  /-- The 16 class counters, 32 bits each (R124); reset 0. -/
  clsCount : List Nat := List.replicate 16 0
  /-- Classes that counted since the previous summary, one bit each (R125); reset 0. -/
  sumMask : Nat := 0
  /-- An NJD_LOG_APP0 write stands since the last commit (R128); reset false. -/
  app0 : Bool := false
  /-- The factory identity fuses: the log seed of the die, 32 bits (R123); reset 0 (assumption 5). -/
  seedFuse : Word := 0
  /-- Log slots whose cells fail read-back (R126), the model's own description of the die; reset none (assumption 6). -/
  badCells : List Nat := []
  /-- The save sequence number, 32 bits (R103); reset 0. -/
  saveSeq : Nat := 0
  /-- A hold-up measurement runs since this count of 1/32,768 s (R106); none at reset. -/
  holdupFrom : Option Nat := none
deriving DecidableEq, Repr

/-! ## Key vault (07_key_vault.md) -/

/-- A key slot (Tables KV-1, KV-2). -/
structure KvKey where
  /-- 0 EMPTY, 1 ACTIVE, 2 INVALID, 3 ORPHAN -/
  state : Nat := 0
  alg : Nat := 0
  origin : Nat := 0
  policy : Nat := 0
  cls : Nat := 0
  usage : Nat := 0
  parent : Nat := 0
  depth : Nat := 0
  /-- times the slot has been filled, 16 bits, saturating -/
  gen : Nat := 0
  label : Nat := 0
  /-- the secret key material; empty for a public-only key -/
  mat : List Byte := []
  /-- the public part in the encoding of EXPORT_PUB; empty for a symmetric key -/
  pub : List Byte := []
deriving DecidableEq, Repr, Inhabited

/-- What a submission through the update engine's port is for (R138, R397, R151). -/
inductive KvJob where
  /-- the signature of a record slot -/
  | record (slot : Nat)
  /-- the signature of a manifest -/
  | manifest
  /-- the retained manifest, verified again for a member (R161) -/
  | retained (member : Nat)
deriving DecidableEq, Repr

/-- A ticket (R84, R138). -/
structure KvTicket where
  id : Nat
  /-- 0 to 3 CC0 to CC3, 5 the update engine's port -/
  owner : Nat
  /-- the 64-byte command block as taken, and its address -/
  block : List Byte
  addr : Nat
  /-- what a port submission is for, with its input and auxiliary bytes -/
  job : Option (KvJob × List Byte × List Byte) := none
  /-- 1 queued, 2 running, 3 done, 4 failed -/
  phase : Nat := 1
  /-- the fault code of a failed ticket -/
  code : Nat := 0
  /-- the output of a port submission -/
  out : List Byte := []
deriving DecidableEq, Repr

/-- What a started command does when it completes (R138). -/
inductive KvEffect where
  | failed (code : Nat)
  /-- the output, a new key, and whether an NV key signed -/
  | done (out : List Byte) (key : Option (Nat × KvKey)) (signs : Bool)
  /-- EXPORT_PLAIN of a secret (R134) -/
  | exported (out : List Byte) (slot : Nat)
  /-- INVALIDATE (R136) -/
  | invalidated (slot : Nat)
  /-- TIGHTEN (R133) -/
  | tightened (slot usage policy : Nat)
deriving DecidableEq, Repr

/-- State of the key vault behind its registers. -/
structure Kv where
  /-- The 256 slots (Table KV-1); slots 0 and 1 as the factory leaves them (R150), their material a stand-in (assumption 5). -/
  slots : List KvKey :=
    [{ state := 1, alg := 0x11, usage := 0x200, parent := 0xFF, gen := 1 }, { state := 1, alg := 2, usage := 0x20, parent := 0xFF, gen := 1 }]
      ++ List.replicate 254 default
  /-- The outstanding tickets, in the order of acceptance (R138); reset none. -/
  tickets : List KvTicket := []
  /-- The running command: its ticket and what it does at its end; reset none. -/
  running : Option (Nat × KvEffect) := none
  /-- The lifecycle state in KV NV (R143); a new die is in PROVISIONED (R150). -/
  nvState : Nat := 1
  /-- The pending transition in KV NV, from and to (R145); reset none. -/
  nvPending : Option (Nat × Nat) := none
  /-- The OTP fuses PROVISIONED, DEPLOYED, RETIRED, one bit each (R143); a new die has burnt the first (R150). -/
  fuses : Nat := 1
  /-- Entries into SERVICE, in KV NV; reset 0. -/
  service : Nat := 0
  /-- Slots wiped, in KV NV; reset 0. -/
  wiped : Nat := 0
  /-- Signatures by NV keys, in KV NV; reset 0. -/
  signs : Nat := 0
  /-- TAP sessions opened, in KV NV; reset 0. -/
  sessions : Nat := 0
  /-- The OTP serial; reset 0 (assumption 5). -/
  serial : Nat := 0
  /-- The factory DIK certificate, at most 1,024 bytes; reset empty (assumption 5). -/
  cert : List Byte := []
  /-- KV NV is loaded at this Dawn (R452); reset false. -/
  loaded : Bool := false
  /-- The lifecycle request: target, core, meter time (R144); reset none. -/
  lcReq : Option (Nat × Nat × Nat) := none
  /-- An accepted transition waits for the running command, from and to (R145); reset none. -/
  lcNext : Option (Nat × Nat) := none
  /-- Meter time of the noise source's last failure or failed restart, while it is failed (R141); reset none. -/
  rngAt : Option Nat := none
  /-- Restarts tried since the last failure of a working source (R141); reset 0. -/
  rngTries : Nat := 0
  /-- The level the open TAP session keeps (Table KV-11); reset 0. -/
  tapLevel : Nat := 0
  /-- A refusal has been logged in the TAP session (R146); reset false. -/
  tapRefused : Bool := false
deriving DecidableEq, Repr

/-! ## Update engine (08_update_manifests.md) -/

/-- An activation record (Table UPD-6); the three checks stand for its CRC, commit word and activate word. -/
structure ActRec where
  seq : Nat
  set : Nat
  /-- 0 A, 1 B -/
  slot : Nat
  /-- boot digests of slots A and B, 48 bytes each -/
  digA : List Byte
  digB : List Byte
  /-- anti-rollback counters 0 to 31 -/
  ctrs : List Nat
  crcOk : Bool := true
  committed : Bool := true
  activated : Bool := false
deriving DecidableEq, Repr, Inhabited

/-- A part entry of a manifest (Table UPD-2). -/
structure ManPart where
  mask : Nat
  ctr : Nat
  off : Nat
  len : Nat
  floor : Nat
  digest : List Byte
deriving DecidableEq, Repr, Inhabited

/-- A manifest (Table UPD-1): its 4,096 data bytes and what they say. -/
structure Manifest where
  data : List Byte
  set : Nat
  parts : List ManPart
deriving DecidableEq, Repr, Inhabited

/-- A part being staged. -/
structure Staged where
  /-- indices of the blocks held, rising -/
  held : List Nat := []
  verified : Bool := false
  /-- the last digest did not match -/
  bad : Bool := false
deriving DecidableEq, Repr, Inhabited

/-- Where a member stands that joins late (R160, R161). -/
inductive Late where
  /-- the retained manifest is verified again -/
  | verifying
  /-- its parts are sent -/
  | staging
  /-- PREPARE is sent -/
  | preparing
  /-- COMMIT is sent; restaged says that this follows a restage -/
  | committing (restaged : Bool)
deriving DecidableEq, Repr

/-- State of the update engine behind its registers. -/
structure Upd where
  /-- The activation records, banks A and B, in Nightjar NV (R159); a new die holds one activated record (R165), whose set and digests are stand-ins
  (assumption 5). -/
  banks : List (Option ActRec) :=
    [some { seq := 1, set := 1, slot := 0, digA := List.replicate 48 0, digB := List.replicate 48 0, ctrs := List.replicate 32 0, activated := true },
     none]
  /-- The manifest whose signature is being verified (R151); reset none. -/
  checking : Option Manifest := none
  /-- The staged manifest; reset none. -/
  man : Option Manifest := none
  /-- Its parts, in part order. -/
  parts : List Staged := []
  /-- The boot digest computed over the staged image (R155); reset none. -/
  boot : Option (List Byte) := none
  /-- Parts each member has reported with PART_OK, a bit map by member 0 to 15 (R155). -/
  ready : List Nat := List.replicate 16 0
  /-- Blocks to be forwarded: member, part (0xFF the manifest), index; oldest first. -/
  outbox : List (Nat × Nat × Nat) := []
  /-- Workers sent PREPARE that have not answered, Workers that have prepared, Workers sent COMMIT that have not answered (Table UPD-5). -/
  waitPrep : Nat := 0
  prepared : Nat := 0
  waitCommit : Nat := 0
  /-- Meter time of PREPARE, of COMMIT (Table UPD-5). -/
  sentAt : Nat := 0
  /-- Workers awaiting commit (R160). -/
  awaiting : Nat := 0
  /-- The manifest of the active set retained in the staging area (R161); reset none. -/
  retained : Option Manifest := none
  /-- Members that join late (R160, R161). -/
  late : List (Nat × Late) := []
deriving DecidableEq, Repr
/-! ## Host port (09_host_serial_port.md) -/

/-- A write frame in a write buffer (R178). -/
structure HspWrite where
  addr : Nat
  /-- its unit length in bits -/
  bits : Nat
  words : List Word
  /-- a word already applied was refused or ignored in part -/
  err : Bool := false
deriving DecidableEq, Repr

/-- The reply the device drove on the data lanes (Table HSP-2). -/
structure HspReply where
  status : Word
  /-- the bits of each unit -/
  bits : Nat
  units : List Nat
  valid : Nat
  crc : Nat
  /-- the reply reached its natural end; where it did not, `units` are the whole units sent (R184) -/
  whole : Bool := true
deriving DecidableEq, Repr

/-- One outbound stream (R182). -/
structure OutStream where
  /-- the buffered bytes, oldest first, at most 1,024 -/
  buf : List Byte := []
  /-- bits of the first byte already discarded -/
  pos : Nat := 0
  /-- bits delivered valid by the previous STR_READ, which a commit discards -/
  delivered : Nat := 0
deriving DecidableEq, Repr, Inhabited

/-- State of the host port behind its registers. -/
structure Hsp where
  /-- Frames ignored since the last accepted one, at most 14 (R173); reset 0. -/
  ignored : Nat := 0
  /-- The next frame is in sequence whatever its alive value (R173, R190); reset true. -/
  restart : Bool := true
  /-- No reply has been sent since Dawn (Table HSP-3); reset true. -/
  fresh : Bool := true
  /-- Meter time of the last accepted frame (R186); reset 0. -/
  heardAt : Nat := 0
  /-- Consecutive frames ignored for CRC or format; 16 also says that HSP_CRC_BURST has been raised since a frame was accepted (Table HSP-7); reset 0. -/
  burst : Nat := 0
  /-- The frames in the two write buffers, oldest first, each with its words not yet applied (R178); reset empty. -/
  writes : List HspWrite := []
  /-- wr_alive, wr_ok and wr_err of the status header (Table HSP-3); reset 0. -/
  wrAlive : Nat := 0
  wrOk : Bool := false
  wrErr : Bool := false
  /-- bad, trunc and seq since the previous reply (Table HSP-3); reset false. -/
  bad : Bool := false
  trunc : Bool := false
  seq : Bool := false
  /-- trunc_units (Table HSP-3); reset 0. -/
  truncUnits : Nat := 0
  /-- The outbound streams 0 to 7; reset empty. -/
  outs : List OutStream := List.replicate 8 {}
  /-- The bits of the inbound streams 0 to 3, oldest first, at most 8,192 each (R183); reset empty. -/
  ins : List (List Bool) := List.replicate 4 []
  /-- The last reply driven on the data lanes; reset none. -/
  reply : Option HspReply := none
deriving DecidableEq, Repr

/-! ## Queues and memory port (10_queues_memory_port.md) -/

/-- A queue's descriptor (Table QE-1). -/
structure Desc where
  /-- ring address, 32 bits -/
  base : Nat := 0
  /-- layout as QE_DESC_CTRL, 32 bits -/
  ctrl : Nat := 0
  /-- published producer count, 32 bits -/
  prod : Word := 0
  /-- reserved producer count, 32 bits -/
  resv : Word := 0
  /-- consumer count, 32 bits -/
  cons : Word := 0
  /-- event level, 16 bits -/
  notify : Nat := 0
  /-- only node accepted, 16 bits -/
  src : Nat := 0
  /-- messages refused, 16 bits, saturating -/
  refused : Nat := 0
  /-- rollbacks, 16 bits, saturating -/
  rollbacks : Nat := 0
  /-- last node accepted, 32 bits -/
  lastSrc : Nat := 0
deriving DecidableEq, Repr, Inhabited

/-- Who holds an open reservation (R195, R201). -/
inductive Writer where
  /-- a fabric sender: node, message sequence number, arrival port -/
  | fabric (src seq port : Nat)
  /-- an inbound stream -/
  | stream (n : Nat)
  /-- a copy channel -/
  | copy (n : Nat)
deriving DecidableEq, Repr

/-- An open reservation of a queue (R195). -/
structure Resv where
  queue : Nat
  who : Writer
  /-- bytes of the message that have arrived -/
  got : Nat
  /-- meter time of the latest byte (R201) -/
  since : Nat
deriving DecidableEq, Repr

/-- One line of the descriptor cache (R205). -/
structure CacheLine where
  queue : Nat
  desc : Desc
  pinned : Bool
deriving DecidableEq, Repr

/-- Who sent a remote message, for its report (R200, R207). -/
inductive TxOrigin where
  /-- core c's QPUSH, with its tx_seq -/
  | core (c txSeq : Nat)
  /-- copy channel n -/
  | copy (n : Nat)
  /-- a block of this chip; no report -/
  | block
deriving DecidableEq, Repr

/-- Where a message of the transmit buffer stands (R199, R233). -/
inductive TxPhase where
  /-- not sent yet, or its next attempt is due -/
  | ready
  /-- sent, the answer is awaited -/
  | sent
  /-- answered FULL or BUSY; sent again after 200 µs -/
  | again
  /-- the link layer has made its last attempt; ack_to runs -/
  | last
deriving DecidableEq, Repr

/-- A message in the transmit buffer (R199). -/
structure TxMsg where
  seq : Nat
  dst : Nat
  queue : Nat
  bytes : List Byte
  origin : TxOrigin
  phase : TxPhase := .ready
  /-- meter time of the phase's beginning -/
  since : Nat := 0
  /-- retransmissions of the link layer for this send (R233) -/
  rtx : Nat := 0
  /-- sends after FULL or BUSY (R199) -/
  fulls : Nat := 0
  /-- attempts made (Table QE-3) -/
  attempts : Nat := 0
deriving DecidableEq, Repr

/-- A copy channel at work (R207). -/
structure CopyRun where
  /-- message mode: the reservation is open, or the message is in the transmit buffer -/
  placed : Bool := false
  /-- a remote message's outcome (Table QE-3) -/
  outcome : Option Nat := none
deriving DecidableEq, Repr

/-- A posted store that waits in the memory port (R211). -/
structure Posted where
  core : Nat
  addr : Nat
  bytes : List Byte
deriving DecidableEq, Repr

/-- State of the queue engine and the memory port behind their registers. -/
structure Qe where
  /-- Descriptor cache, most recently used first, at most 256 lines (R205); reset empty. -/
  cache : List CacheLine := []
  /-- The queues that are enabled, as their descriptors say; reset empty. -/
  enabled : List Nat := []
  /-- Open reservations, at most one a queue (R195); reset empty. -/
  openResv : List Resv := []
  /-- The QE_EVT FIFO, oldest first, at most 16 (R202); reset empty. -/
  evtFifo : List Nat := []
  /-- The transmit buffer, at most 64 messages, in the order they were accepted (R199); reset empty. -/
  tx : List TxMsg := []
  /-- tx_seq of CC0 to CC3 (Table QE-3); reset 0. -/
  txSeq : List Nat := [0, 0, 0, 0]
  /-- The two copy channels at work (R207); reset idle. -/
  copies : List (Option CopyRun) := [none, none]
  /-- Posted stores of the memory port, oldest first, at most 8 (R211); reset empty. -/
  posted : List Posted := []
  /-- A table access in the memory port failed and none has succeeded since (Table QE-7); reset false. -/
  tableDown : Bool := false
deriving DecidableEq, Repr

/-! ## Starling (11_starling_fabric.md) -/

/-- A frame that waits on a port, with the port it arrived on, whose buffer units it still holds (R222). -/
structure Waiting where
  frame : Frame
  from_ : Option Nat
deriving DecidableEq, Repr

/-- State of one port behind its registers. -/
structure Port where
  /-- The training step of Table STF-2, 1 to 5; reset 1. -/
  step : Nat := 1
  /-- Meter time of the step's beginning. -/
  since : Nat := 0
  /-- Meter time since which the peer's TRAIN has been seen in this training (R245); reset none. -/
  peerFrom : Option Nat := none
  /-- STF_TRAIN_FAIL raised in this training. -/
  failed : Bool := false
  /-- Meter time since which the port stays at step 3 because the link kind is not allowed (R220); reset none. -/
  barred : Option Nat := none
  /-- The peer's maximum rate code of its train word. -/
  peerRate : Nat := 0
  /-- Meter times of recent symbol errors, newest first (R221); reset empty. -/
  symErrs : List Nat := []
  /-- Lane-S frames that wait, oldest first (R223); reset empty. -/
  waitS : List Waiting := []
  /-- Lane-B frames that wait, oldest first; reset empty. -/
  waitB : List Waiting := []
  /-- Cumulative credit received, lanes B and S, modulo 256 (R222). -/
  creditB : Nat := 0
  creditS : Nat := 0
  /-- Units sent since UP, modulo 256. -/
  usedB : Nat := 0
  usedS : Nat := 0
  /-- Cumulative units this receiver has freed, its empty buffer first. -/
  freedB : Nat := 64
  freedS : Nat := 16
  /-- Cumulative credit last sent to the peer, modulo 256 (R222). -/
  sentB : Nat := 0
  sentS : Nat := 0
  /-- Units received since UP. -/
  rcvdB : Nat := 0
  rcvdS : Nat := 0
  /-- The frame last put on the wire; reset none. -/
  out : Option Frame := none
  /-- A HELLO has been sent since the port came UP (R235). -/
  greeted : Bool := false
  /-- Meter time of the last HELLO of the neighbour (R235). -/
  helloAt : Nat := 0
  /-- Meter time of the last logged STF_LINK_DOWN (R245); reset none. -/
  downLog : Option Nat := none
deriving DecidableEq, Repr, Inhabited

/-- One entry of the duplicate cache (R234). -/
structure DupEntry where
  src : Nat
  seq : Nat
  /-- a Table QE-3 outcome; a broadcast delivered counts as 0 -/
  outcome : Nat
  mt : Nat
deriving DecidableEq, Repr

/-- One member of a Manager's post behind the STF_MEMBER registers (Table STF-14). -/
structure Member where
  /-- 0 free, 1 assigned, 2 admitting, 3 admitted, 4 withdrawn, 5 lost, 6 hold -/
  state : Nat := 0
  pinned : Bool := false
  /-- path_a as written while pinned, 8 elements of 2 bits (Table STF-14). -/
  pinPath : Nat := 0
  /-- cause of the last loss: 1 silence, 2 fault, 3 removal -/
  cause : Nat := 0
  pathA : List Nat := []
  pathB : List Nat := []
  /-- 100 W units -/
  rating : Nat := 0
  serial : Nat := 0
  lastFault : Nat := 0
  /-- Meter time of the last heartbeat, none before one (R243). -/
  beatAt : Option Nat := none
  /-- Consecutive heartbeats each within 15 ms of the one before (R240). -/
  beats : Nat := 0
  /-- Meter time of the ROLL_ANS from which the 300 ms of admission run (R240); none while none run. -/
  rollAt : Option Nat := none
  /-- Bytes 0x01 and 0x10 of its latest heartbeat (Table STF-8). -/
  beatFlags : Nat := 0
  beatFb : Nat := 0
  /-- The flags of its latest ROLL_ANS (Table STF-6). -/
  flags : Nat := 0
  /-- Its activated and prepared sets of the latest ROLL_ANS. -/
  activated : Nat := 0
  prepared : Nat := 0
  /-- The ADMIT permission of STF_CMD (R240). -/
  permitted : Bool := false
  /-- UPD_NO_IMAGE has been raised for it since it was found (R161, R164). -/
  noImage : Bool := false
  /-- The late-join rule of R161 has been met. -/
  joinOk : Bool := false
  /-- The latest setpoint entry, 32 bytes; empty until a program writes one (R241). -/
  setpoint : List Byte := []
deriving DecidableEq, Repr, Inhabited

/-- A roll-call sweep in progress (R237). -/
structure Sweep where
  depth : Nat
  /-- the routes still to be tried at this depth -/
  paths : List (List Nat)
  /-- the routes of the next depth -/
  next : List (List Nat)
  /-- the members found in this sweep: serial, path_a, arrival port of the ROLL -/
  found : List (Nat × List Nat × Nat)
  /-- the route whose ROLL_ANS is awaited, and the meter time of the ROLL -/
  waiting : Option (List Nat × Nat)
  /-- meter time of the sweep's beginning -/
  from_ : Nat
deriving DecidableEq, Repr

/-- A PROBE or ASSIGN_POST without its answer (R236). -/
structure Probe where
  route : List Nat
  serial : Nat
  since : Nat
deriving DecidableEq, Repr

/-- Who sent the message that stands at a count of an engine's queue (R241). -/
structure MsgFrom where
  queue : Nat
  count : Word
  src : Nat
  bcast : Bool
deriving DecidableEq, Repr

/-- State of the Starling block behind its registers. -/
structure Stf where
  /-- PRESENT_N has been low for 10 ms (R218); reset false. -/
  present : Bool := false
  /-- Ports SP0 to SP3. -/
  ports : List Port := [{}, {}, {}, {}]
  /-- The 512 routing-table entries, as STF_RT_ENTRY words (R229); reset invalid. -/
  rt : List (Nat × Word) := []
  /-- The next message sequence number, 16 bits; reset 0. -/
  seq : Nat := 0
  /-- The duplicate cache, newest first, at most 512 entries (R234); reset empty. -/
  dup : List DupEntry := []
  /-- Members 1 to 15, at index member − 1; reset free. -/
  members : List Member := List.replicate 15 {}
  /-- The number each serial held since the last Dawn (R238); reset empty. -/
  held : List (Nat × Nat) := []
  /-- The sweep in progress (R237); reset none. -/
  sweep : Option Sweep := none
  /-- Probes without their answer (R236); reset none. -/
  probes : List Probe := []
  /-- Worker: the serial of the owner (R238); reset none. -/
  ownerSerial : Option Nat := none
  /-- Worker: the reverse routes to the Manager (R229); reset empty. -/
  revA : List Nat := []
  revB : List Nat := []
  /-- Worker: meter time of the last valid Manager frame (R23, R239); reset 0. -/
  mgrAt : Nat := 0
  /-- Worker: the Manager has fallen silent (R23), until it is heard again; reset false. -/
  mgrSilent : Bool := false
  /-- Worker: the next heartbeat sequence (Table STF-8), 16 bits; reset 0. -/
  beatSeq : Nat := 0
  /-- Worker: the most recent fault code of its SAF, PWR or EFM block (Table STF-8); reset 0. -/
  lastFault : Nat := 0
  /-- The loss of the Manager is to be reported when the link returns (R23). -/
  mgrReport : Bool := false
  /-- The senders of the messages in queues 0x000F, 0x0020 and 0x0021. -/
  from_ : List MsgFrom := []
  /-- The removal of R242 has run and PRESENT_N is still high; reset false. -/
  leaving : Bool := false
deriving DecidableEq, Repr

/-! ## Vehicle interface (12_vehicle_interface.md) -/

/-- What CP_PWM drives (R248, R249). -/
inductive Pilot where
  /-- steady low -/
  | low
  /-- steady high -/
  | high
  /-- the pulse runs -/
  | pulse
deriving DecidableEq, Repr

/-- One sequence timer behind VEH_TMRn (R259). -/
structure SeqTimer where
  /-- Meter time of the start of a running timer. -/
  from_ : Nat := 0
  /-- The ms value loaded at the start. -/
  ms : Nat := 0
  /-- The active force action of an expiry: 0 none, 1 steady high, 2 steady low (R249). -/
  forced : Nat := 0
deriving DecidableEq, Repr, Inhabited

/-- An auxiliary serial transaction on the wire (R257, R258). -/
structure AsmRun where
  /-- its result goes to queue 0x0082 -/
  template : Bool
  /-- the flag evt -/
  evt : Bool
  rdLen : Nat
  tag : Nat
  /-- the bytes put on ASM_MOSI -/
  wr : List Byte
deriving DecidableEq, Repr

/-- State of the vehicle interface behind its registers. -/
structure Veh where
  /-- What CP_PWM drives; reset low (R97, R262). -/
  cp : Pilot := .low
  /-- A release has been written since the latest cause became active (R249); reset false. -/
  released : Bool := false
  /-- The sequence timers. -/
  timers : List SeqTimer := List.replicate 8 {}
  /-- The band of the latest high-plateau samples and how many fell in it consecutively (R252); reset none. -/
  band : Nat := 0
  bandRun : Nat := 0
  /-- Consecutive low-plateau samples above −11.0 V (R253). -/
  diodeRun : Nat := 0
  /-- Consecutive steady-low samples outside the F band (R253). -/
  driverRun : Nat := 0
  /-- Meter time since which every high-plateau sample has been invalid (R253); none after a valid one. -/
  invalidFrom : Option Nat := none
  /-- Pilot faults that have been logged and not cleared (R261): short, diode, driver, invalid. -/
  shortLogged : Bool := false
  diodeLogged : Bool := false
  driverLogged : Bool := false
  invalidLogged : Bool := false
  /-- Proximity faults that have been logged and not cleared (R261). -/
  ppLogged : Bool := false
  /-- The proximity code of the latest samples and how many decoded to it consecutively (R254). -/
  ppBand : Nat := 0
  ppRun : Nat := 0
  /-- The transaction on the wire (R257); reset none. -/
  asm : Option AsmRun := none
  /-- A template transaction waits (R258); reset false. -/
  template : Bool := false
  /-- ASM_CS_N; reset high (R262). -/
  csN : Bool := true
deriving DecidableEq, Repr

/-! ## Contactless, Robin (13_contactless_robin.md) -/

/-- A reader transaction on the air (R267). -/
structure RdTxn where
  /-- its header, Table RBN-1 -/
  head : List Byte
  data : List Byte
deriving DecidableEq, Repr

/-- A wire write kept while the field holds its page (R276). -/
structure Deferred where
  page : Nat
  off : Nat
  bytes : List Byte
  tag : Nat
deriving DecidableEq, Repr

/-- State of Robin behind its registers. The tag engine is in the Nightjar domain. -/
structure Rbn where
  /-- Meter time at which the guard time ends (R265); reset 0. -/
  guardEnd : Nat := 0
  /-- READER waits for an external field to leave: the meter time since which it has been below the threshold (R266); reset none. -/
  extFrom : Option Nat := none
  /-- READER is selected and its field is off because of an external field (R266); reset false. -/
  waiting : Bool := false
  /-- The transaction on the air (R267); reset none. -/
  txn : Option RdTxn := none
  /-- The mode that takes effect after the transaction on the air (R265); reset none. -/
  leave : Option Nat := none
  /-- Consecutive positive pings (R269); reset 0. -/
  positives : Nat := 0
  /-- The stored calibration value, amplitude and phase (R270); reset 0. -/
  cal : Nat × Nat := (0, 0)
  /-- The reference is beyond the drift limits, so RBN_DET_DRIFT has been raised (R270); reset false. -/
  drift : Bool := false
  /-- Tag memory, 8 KiB by address; an unlisted byte is 0 (R282). -/
  tagMem : List Host.Cell := []
  /-- The file selected: 0 none, 1 capability container, 2 NDEF, 3 info, 4 energy, 5 record, 6 log; reset 0. -/
  file : Nat := 0
  /-- The sequence number of the save the SELECT of the energy file fixed (R279); reset none. -/
  energySeq : Option Nat := none
  /-- Pages the field has written since it took them (R274), one bit each; reset 0. -/
  written : Nat := 0
  /-- Wire locks: page, and meter time of the lock (R277); reset none. -/
  wire : List (Nat × Nat) := []
  /-- LOCK commands that wait for release: page mask and tag (R277); reset none. -/
  locks : List (Nat × Nat) := []
  /-- The deferral buffer, oldest first (R276); reset empty. -/
  deferred : List Deferred := []
  /-- Harvest overload: VHARV_OUT is held off (R280); reset false. -/
  ovlOff : Bool := false
  /-- Meter time of the last logged RBN_HARV_OVL (R281); reset none. -/
  ovlLog : Option Nat := none
  /-- Faults raised while the powered side is off, recorded at the next Dawn (R281); reset none. -/
  late : List Nat := []
  /-- The last answer of the tag engine on the air: data and status word; reset empty. -/
  answer : List Byte := []
deriving DecidableEq, Repr

/-! ## Safety functions (14_safety_functions.md, 16_safety_over_fabric.md) -/

/-- The SAF values of a sealed parameter set (Table SAF-5): what is staged, what is effective, what a copy holds. -/
structure SafSet where
  /-- SAF_MAP of sources 0 to 53: groups [9:0], dg [19:12], pol [20] -/
  map : List Word := List.replicate 54 0x000003FF#32
  /-- SAF_GRP_MODE -/
  mode : Nat := 0
  /-- SAF_CMP_LVL of comparators 0 to 15, 2 mV units -/
  cmp : List Nat := List.replicate 16 1000
  /-- SAF_THn_LVL -/
  thLvl : List Word := [0xB5B8A6A9#32, 0x9C9F9295#32, 0x9C9F9295#32, 0x9C9F9295#32]
  /-- SAF_THn_CFG -/
  thCfg : List Word := [0x55F0C832#32, 0x55E0C832#32, 0x55E0C832#32, 0x55E0C832#32]
  /-- The connection table: SAF_SC_ID, CFG, TIME, LINK and ROUTE of the 64 entries (R326) -/
  conn : List (List Word) := List.replicate 64 [0, 0, 0x24321405#32, 0, 0]
deriving DecidableEq, Repr, Inhabited

/-- One sealed copy in KV NV (R299). -/
structure SafCopy where
  /-- the magic and the CRC are correct -/
  sound : Bool
  seq : Nat
  set : SafSet
  /-- the words of the other blocks of Table SAF-5, in table order -/
  others : List Word
  sealCode : Nat
  digest : List Byte
deriving DecidableEq, Repr, Inhabited

/-- A commit that runs (R300): the copy it writes, and how. -/
structure Commit where
  /-- 0 copy A, 1 copy B -/
  slot : Nat
  copy : SafCopy
deriving DecidableEq, Repr

/-- One output group (R293). -/
structure Grp where
  /-- 0 ARMED, 1 LOCKED_ACTIVE, 2 LOCKED_CLEAR -/
  state : Nat := 0
  /-- the cause set, one bit per source -/
  causes : DWord := 0
deriving DecidableEq, Repr, Inhabited

/-- One thermal channel behind its registers (R297, R298). -/
structure Therm where
  /-- Meter time since which every sample meets the pending change of the warning, of the trip; none while none does. -/
  warnFrom : Option Nat := none
  tripFrom : Option Nat := none
  /-- Meter time since which the die reading has differed by more than 8 K (channel 0). -/
  diffFrom : Option Nat := none
  /-- Meter time since which samples have been valid after a sensor fault. -/
  goodFrom : Option Nat := none
  /-- Source asserted by the trip pair; by a sensor fault. -/
  trip : Bool := false
  sensor : Bool := false
  /-- The last reading, in 0.1 °C. -/
  temp : Int := 0
  /-- Meter times of warning changes of the last 3,600 s, newest first. -/
  changes : List Nat := []
  /-- Meter time since which T has stayed below warn_clr during chatter. -/
  coolFrom : Option Nat := none
deriving DecidableEq, Repr, Inhabited

/-- One safety connection behind its registers (Tables SAF-14, SAF-20). -/
structure Conn where
  /-- 0 IDLE, 1 OPENING, 2 RUN, 3 SAFE, 4 REARM -/
  state : Nat := 0
  cause : Nat := 0
  demand : Bool := false
  peerOk : Bool := false
  lastSeq : Nat := 0
  /-- good envelopes counted toward RUN (R333) -/
  count : Nat := 0
  /-- meter time of the last acceptance (R334) -/
  okAt : Nat := 0
  /-- the held first copy of a twin pair and the meter time of its arrival (R335) -/
  held : Option (List Byte × Nat) := none
  chkErr : Nat := 0
  skipped : Nat := 0
  stale : Nat := 0
  safeEntries : Nat := 0
  /-- the last accepted payload, 16 bytes -/
  rx : List Byte := List.replicate 16 0
  /-- meter times of check errors of the last 3,600 s, newest first (R340) -/
  errs : List Nat := []
  /-- producer: the next sequence number -/
  txSeq : Nat := 0
  /-- producer: the last committed payload, 16 bytes -/
  tx : List Byte := List.replicate 16 0
  /-- producer: close has been sent; no envelope until Dawn (R332) -/
  closed : Bool := false
deriving DecidableEq, Repr, Inhabited

/-- State of the safety block behind its registers. -/
structure Saf where
  /-- The ten output groups, G0 first; Nightjar NV keeps them across resets (R99, R306); reset ARMED with no cause. -/
  groups : List Grp := List.replicate 10 {}
  /-- Sources asserted after deglitch (SAF_SRC); reset 0. -/
  live : DWord := 0
  /-- What the balls and comparators 0 to 31 themselves assert; reset 0. -/
  inputs : Word := 0
  /-- Comparators whose level DAC reads back wrong (R302); reset 0. -/
  dacWrong : List Bool := List.replicate 16 false
  /-- The last DAC readback of each comparator, 2 mV units; reset 0. -/
  dacRb : List Nat := List.replicate 16 0
  /-- Meter time of each source's last deassertion (R295); reset 0. -/
  quietFrom : List Nat := List.replicate 64 0
  /-- The staged values (R299). -/
  staged : SafSet := {}
  /-- The effective values (R286, R299). -/
  eff : SafSet := {}
  /-- The sealed copies A and B; reset none: a new die. -/
  copies : List (Option SafCopy) := [none, none]
  /-- The commit that runs (R300); reset none. -/
  commit : Option Commit := none
  /-- The digest of the effective set; reset 0. -/
  digest : List Byte := List.replicate 32 0
  /-- SEAL_CODE has changed since the last Dawn or commit (R301); reset false. -/
  sealChanged : Bool := false
  /-- The staged release: writer, groups, meter time (R296); reset none. -/
  relReq : Option (Nat × Nat × Nat) := none
  /-- SAFE_RESET: meter time since which it has been accepted low (R296), none while high; reset 0. -/
  lowFrom : Option Nat := some 0
  /-- Meter time of the accepted rising edge. -/
  highFrom : Nat := 0
  /-- The rising edge found the input idle (R296). -/
  idleAtRise : Bool := false
  /-- LOCK_EDGE groups for which R295 held at the rising edge. -/
  okAtRise : Nat := 0
  /-- LOCK_EDGE groups that were locked at the rising edge (R296). -/
  seenAtRise : Nat := 0
  /-- Outputs whose readback mismatches now, GATE_H0 to 5, GATE_L0 to 5, CTR_OUT0 to 3 (R291); reset 0. -/
  mismatch : Nat := 0
  /-- The injected source of a running test (R302); reset none. -/
  test : Option Nat := none
  /-- The hold of R292 forces the outputs low; reset false. -/
  hold : Bool := false
  /-- The trip network drives the outputs: from Dawn step 15 (R306); reset false. -/
  armed : Bool := false
  /-- The thermal channels TH0 to TH3. -/
  therm : List Therm := [{}, {}, {}, {}]
  /-- The safety connections 0 to 63. -/
  conns : List Conn := List.replicate 64 {}
  /-- The payload words SAF_SC_TX0 to TX3 as written (R331); reset 0. -/
  txWords : List Word := [0, 0, 0, 0]
deriving DecidableEq, Repr

/-! ## Earth fault and insulation monitoring (15_earth_fault_insulation.md) -/

/-- One copy of a settings record in KV NV (R322, R372): sound says that its CRC is correct. -/
structure NvCopy where
  sound : Bool
  seq : Nat
  words : List Word
deriving DecidableEq, Repr, Inhabited

/-- State of the EFM block behind its registers. -/
structure Efm where
  /-- The settings record's copies A and B in KV NV (R322); reset none. -/
  copies : List (Option NvCopy) := [none, none]
  /-- Writes of the record, in KV NV (EFM_NV.writes); reset 0. -/
  writes : Nat := 0
  /-- Meter time since which |I_dc100| ≥ rdc_thr holds; none while it does not (R309). -/
  rdcFrom : Option Nat := none
  /-- Meter time since which |I_dc100| < rdc_thr − 0.5 mA holds while source 32 is asserted (R309). -/
  rdcLowFrom : Option Nat := none
  /-- A trip row of Table EFM-2 holds at the latest update (R309, R312). -/
  rdcRow : Bool := false
  /-- Consecutive excitation half-cycles without saturation (R311). -/
  fgNoSat : Nat := 0
  /-- Meter time since which half-cycles have been good (R311). -/
  fgGoodFrom : Option Nat := none
  /-- The causes of source 35: channel fault, failed fluxgate test, injection fault, stale insulation, ICG-M (R311, R312, R317, R319, R321). -/
  fgBad : Bool := false
  fgTestBad : Bool := false
  injBad : Bool := false
  stale : Bool := false
  clkBad : Bool := false
  /-- The causes of source 33: tripped, failed to trip, test failed (R314, R315). -/
  rcdTripped : Bool := false
  rcdFailed : Bool := false
  rcdTestBad : Bool := false
  /-- Equal RCD_AUX samples that differ from the accepted level (R314). -/
  auxRun : Nat := 0
  /-- Meter time since which I_ac ≥ rac_thr holds with RCD_AUX closed (R314). -/
  racFrom : Option Nat := none
  /-- The device was opened by a passed RCD_TEST and has not read closed since (R314). -/
  openOk : Bool := false
  /-- The test that runs, 1 FG_TEST, 2 RCD_TEST, and its beginning (R312, R315). -/
  test : Option (Nat × Nat) := none
  /-- Meter time at which the blanking after a fluxgate test ends (R312). -/
  blankTo : Option Nat := none
  /-- The previous half-period's plateaus V and W, in µV (R316). -/
  plateau : Option (Nat × Nat) := none
  /-- The previous reading (R316): Ω as a fraction, its denominator 0 where ΔI was 0. -/
  lastR : Option (Int × Nat) := none
  /-- Consecutive readings toward the warning, its clearing, source 34 and its clearing (R318). -/
  warnRun : Nat := 0
  okRun : Nat := 0
  faultRun : Nat := 0
  clearRun : Nat := 0
  /-- Consecutive half-periods with ΔU off, and good, by R317. -/
  injOff : Nat := 0
  injGood : Nat := 0
  /-- Meter time of the last valid reading, or of the enable (R319). -/
  validAt : Nat := 0
deriving DecidableEq, Repr

/-! ## Power stage (17_power_stage.md) -/

/-- The timing of R346 as the words of PWR_PERIOD, PWR_CHn_ON, PWR_CHn_OFF and PWR_CHn_DT. -/
structure Timing where
  period : Nat := 250
  on : List Word := List.replicate 6 0xF0000000#32
  off : List Word := List.replicate 6 0xF0000000#32
  dt : List Word := List.replicate 6 0x03E803E8#32
deriving DecidableEq, Repr, Inhabited

/-- The two gates of a channel in the current period: rise and fall positions in units of 100 ps, none where the gate stays low (R346). -/
structure Wave where
  high : Option (Nat × Nat) := none
  low : Option (Nat × Nat) := none
deriving DecidableEq, Repr, Inhabited

/-- One contactor behind PWR_CTR_STATUS (R357 to R360). -/
structure Ctr where
  /-- The level commanded on CTR_OUT[n]. -/
  on : Bool := false
  /-- Equal feedback samples, and the level they read, 1 closed. -/
  fbRun : Nat := 0
  fbRaw : Bool := false
  /-- Meter time of the close or open that a time-out or a weld window counts from. -/
  since : Nat := 0
  /-- A weld window runs (R360). -/
  window : Bool := false
  /-- Consecutive weld checks that failed to find the weld again (R360). -/
  clear : Nat := 0
deriving DecidableEq, Repr, Inhabited

/-- A precharge (R361). -/
structure Precharge where
  pc : Nat
  main : Nat
  /-- meter time of step 1 -/
  from_ : Nat
  /-- consecutive matching samples -/
  run : Nat
  /-- meter time at which the main contactor was confirmed -/
  overlapFrom : Nat
deriving DecidableEq, Repr

/-- State of the power stage behind its registers. -/
structure Pwr where
  /-- The effective timing (R347). -/
  eff : Timing := {}
  /-- A pending load and the meter time of its write (R347); reset none. -/
  load : Option (Timing × Nat) := none
  /-- The gates of channels 0 to 5 in the current period; reset low. -/
  wave : List Wave := List.replicate 6 {}
  /-- Meter time of the start of the soft-start attempt (R353). -/
  rampFrom : Nat := 0
  /-- The limit ended a gate in this period (R348). -/
  limited : Bool := false
  /-- Consecutive limited periods with the output below 10 % of target (R354). -/
  lowRun : Nat := 0
  /-- The latest vch result of trigger 0 (R353); reset 0. -/
  sample : Nat := 0
  /-- Meter time from which the backoff runs (R355). -/
  backoffFrom : Nat := 0
  /-- SS_LOCK is stored with the lockout states (R355, R99); reset false. -/
  ssLock : Bool := false
  /-- The trigger whose sequence runs (R349); reset none. -/
  seq : Option Nat := none
  /-- The limit comparators' levels, 2 mV units, and their readbacks (R348). -/
  limLvl : List Nat := List.replicate 12 1000
  limRb : List Nat := List.replicate 12 0
  /-- The four contactors. -/
  ctrs : List Ctr := List.replicate 4 {}
  /-- The latest contactor voltages, inputs 0 to 15 (R361); reset 0. -/
  volts : List Nat := List.replicate 16 0
  /-- The precharge that runs (R361); reset none. -/
  pre : Option Precharge := none
  /-- Meter time of the last setpoint entry (R362); reset 0. -/
  spAt : Nat := 0
deriving DecidableEq, Repr

/-! ## Metrology (18_metrology.md) -/

/-- The factory layer of one channel, from OTP (R369): ppm, codes, ns, 0.1 ppm/K, 0.001 ppm/K². -/
structure FactoryCal where
  gain : Int := 0
  ofs : Int := 0
  dly : Int := 0
  tc1 : Int := 0
  tc2 : Int := 0
  /-- the record passed its check at Dawn step 6 (SYS_CAL_BAD) -/
  ok : Bool := true
deriving DecidableEq, Repr, Inhabited

/-- The user layer of one channel (R369): ppm, codes, ns, 0.001 units per volt. -/
structure UserCal where
  gain : Int := 0
  ofs : Int := 0
  dly : Int := 0
  scale : Nat := 1000
deriving DecidableEq, Repr, Inhabited

/-- One register set's accumulation (R373, R375). The open step is exact, over energyDen (MtrOps.lean); the accumulators are in units of 2^−32 µWh or µvarh. -/
structure MtrSet where
  /-- The eight accumulators, whole part and fraction together. -/
  acc : List Nat := List.replicate 8 0
  /-- The open step: signed sums of p and q, and the samples it holds. -/
  p : Int := 0
  q : Int := 0
  n : Nat := 0
  /-- Accumulates: the set is enabled and its first step has begun (R386). -/
  live : Bool := false
  /-- The active energy of the step that has just closed, after no-load suppression (R374), for demand and prepayment; 0 after the boundary. -/
  lastP : Int := 0
deriving DecidableEq, Repr, Inhabited

/-- One snapshot bank (R379). -/
structure SnapBank where
  vals : List Nat := List.replicate 32 0
  mt : Nat := 0
  /-- snapshots taken, 16 bits, wrapping -/
  seq : Nat := 0
  /-- MTR_ACC_SEL of this bank's readers -/
  sel : Nat := 0
deriving DecidableEq, Repr, Inhabited

/-- One capture unit (R381, R382). -/
structure Capture where
  /-- the last 256 frames, newest first, as lists of sample words without their frame number -/
  hist : List (List Word) := []
  /-- the words of the entry being filled, in order -/
  entry : List Word := []
  /-- frames still to be written in one-shot mode -/
  left : Nat := 0
  /-- the frame number modulo 16 -/
  frame : Nat := 0
  /-- frames dropped since the last header; a resume header is due while it is not 0 -/
  lost : Nat := 0
deriving DecidableEq, Repr, Inhabited

/-- State of the metrology block behind its registers. -/
structure Mtr where
  /-- The factory layer, in OTP; reset 0 (assumption 5). -/
  otp : List FactoryCal := List.replicate 8 {}
  /-- The user layer in force (R369). -/
  user : List UserCal := List.replicate 8 {}
  /-- The user-layer copies A and B in MRAM (R371): sequence number and the words of its registers; reset none. -/
  copies : List (Option NvCopy) := [none, none]
  /-- Meter time at which each channel was enabled, none while disabled (R368). -/
  chFrom : List (Option Nat) := List.replicate 8 none
  /-- Channels whose modulator has failed (MTR_CH_FAIL). -/
  chBad : List Bool := List.replicate 8 false
  /-- The register sets S0 to S3. -/
  sets : List MtrSet := List.replicate 4 {}
  /-- Meter time of the last completed step (R379). -/
  lastStep : Nat := 0
  /-- The latest values x of the channels, in units of 1 ÷ valueDen. -/
  vals : List Int := List.replicate 8 0
  /-- Sums of the running second: x and x² of the channels, p and q of the elements, and the samples. -/
  sumX : List Int := List.replicate 8 0
  sumXX : List Int := List.replicate 8 0
  sumP : List Int := List.replicate 4 0
  sumQ : List Int := List.replicate 4 0
  sumN : Nat := 0
  /-- MTR_EFF_GAIN and MTR_EFF_OFS of each channel as last computed (R370): 0.01 ppm, codes. -/
  eff : List (Int × Int) := List.replicate 8 (0, 0)
  /-- T of R369, °C. -/
  temp : Int := 25
  /-- The pulse output: energy toward the next quantum, pulses held, and the meter time at which the last pulse began (R378). -/
  pulseE : Nat := 0
  pulses : Nat := 0
  pulseAt : Option Nat := none
  /-- The snapshot banks of the host and of the cores. -/
  hostBank : SnapBank := {}
  coreBank : SnapBank := {}
  /-- The capture units. -/
  caps : List Capture := [{}, {}]
  /-- Meter time at which an accumulation gap began, with its sets (Table MTR-8); none. -/
  gapFrom : Option (Nat × Nat) := none
deriving DecidableEq, Repr

/-! ## Billing (19_billing_tariffs.md) -/

/-- An open record, interval or session (Table BIL-3). -/
structure OpenRec where
  num : Nat
  era : Nat
  start : Nat
  /-- interval: the planned end (R390) -/
  planned : Nat := 0
  wall : Nat
  rate : Nat := 0
  /-- the flags of Table BIL-1 so far -/
  flags : Nat
  /-- A+ and A− of the billed set at start -/
  a0 : Nat
  b0 : Nat
  /-- the record slot reserved for it -/
  slot : Nat
  set : Nat
deriving DecidableEq, Repr

/-- One record slot (R398). -/
structure RecSlot where
  /-- 0 FREE, 1 RESERVED, 2 UNSIGNED, 3 SIGNED, 4 PUBLISHED, 5 bad -/
  state : Nat := 0
  num : Nat := 0
  /-- the 96-byte body -/
  body : List Byte := []
  /-- r and s -/
  sig : List Byte := []
  /-- meter time from which an amount is awaited (R395); none -/
  amountFrom : Option Nat := none
  /-- BIL_SIGN_FAIL has been raised for this record (R397) -/
  failed : Bool := false
  /-- meter time of the last signing attempt (R397) -/
  triedAt : Nat := 0
  /-- a SIGN is submitted -/
  signing : Bool := false
deriving DecidableEq, Repr, Inhabited

/-- One demand register behind the BIL_MD registers (R401). -/
structure Demand where
  /-- BIL_MD_CFG -/
  cfg : Nat := 0x4F0
  max : Nat := 0
  maxTime : Nat := 0
  prev : Nat := 0
  prevTime : Nat := 0
  now : Nat := 0
  /-- energy of the open window or subinterval, exact -/
  energy : Nat := 0
  /-- energies of the completed subintervals, newest first -/
  hist : List Nat := []
  /-- planned end of the open window or subinterval; none while it is not running -/
  end_ : Option Nat := none
deriving DecidableEq, Repr, Inhabited

/-- State of the billing block behind its registers. -/
structure Bil where
  /-- The open interval and the open session (Table BIL-3). -/
  interval : Option OpenRec := none
  session : Option OpenRec := none
  /-- The session's device closure: its reason and the meter time of its cause (R394). -/
  closing : Option (Nat × Nat) := none
  /-- The program's close reason, effective at the next step boundary (R393). -/
  closeAt : Option Nat := none
  /-- Workers were admitted when the session opened (R394). -/
  hadWorkers : Bool := false
  /-- The accepted OPEN that starts at the next step boundary, with its reserved slot (R393). -/
  opening : Option Nat := none
  /-- An interval cannot open since it was due: the next one carries gap_before (R389, R400). -/
  gapped : Bool := false
  /-- The interval that opens next carries step_open (R392). -/
  stepOpen : Bool := false
  /-- Large steps since the last step boundary: the wall time before, the meter time, the era after (R392). -/
  steps : List (Nat × Nat × Nat) := []
  /-- DISABLED is due for the open interval at the next step boundary (Table BIL-2). -/
  disable : Bool := false
  /-- BIL_STORE_FULL has been raised and no record has opened since (R400). -/
  fullRaised : Bool := false
  /-- The record slots, in Nightjar NV; reset FREE. -/
  slots : List RecSlot := List.replicate 8 {}
  /-- The next record number, in Nightjar NV; reset 0. -/
  next : Nat := 0
  /-- The end of the previous interval and session records: A+, A−, set, end meter time (Table BIL-1, gap_before). -/
  lastInt : Option (Nat × Nat × Nat × Nat) := none
  lastSes : Option (Nat × Nat × Nat × Nat) := none
  /-- The switch table: time and rate (R391). -/
  switch : List (Nat × Nat) := List.replicate 16 (0, 0)
  /-- The 16 prices (R404). -/
  prices : List Nat := List.replicate 16 0
  /-- The settings record's copies in KV NV (R409); reset none. -/
  copies : List (Option NvCopy) := [none, none]
  /-- The demand registers MD0 to MD7. -/
  demand : List Demand := List.replicate 8 {}
  /-- The credit and its residue of 2^−32 (R404). -/
  credit : Int := 0
  residue : Nat := 0
  /-- The last accepted top-up sequence number (R406). -/
  topSeq : Nat := 0
  /-- Meter time from which the disconnecting contactor's feedback is awaited (R405); none. -/
  fbFrom : Option Nat := none
  /-- The program's tariff state, 8 words (R407). -/
  pstate : List Word := List.replicate 8 0
  /-- A record interval has opened since Dawn (R411); reset false. -/
  begun : Bool := false
  /-- Record slots whose cells fail read-back, the model's own description of the die (assumption 6); reset none. -/
  badSlots : List Nat := []
  /-- No save image was usable at this Dawn (DSK_NO_SAVE, R389). -/
  noSave : Bool := false
deriving DecidableEq, Repr

/-! ## Powered life (21_electrical_life.md) -/

/-- One stored copy of the life counters in KV NV (R442): sound says that its CRC is correct. -/
structure LifeCopy where
  sound : Bool
  seq : Nat
  /-- counters 0 to 8 -/
  minutes : List Nat
  /-- MRAM word writes -/
  writes : Nat
deriving DecidableEq, Repr, Inhabited

/-- The life counters. -/
structure Life where
  /-- Counters 0 to 8, in minutes (R442); reset 0 (assumption 5). -/
  minutes : List Nat := List.replicate 9 0
  /-- 64-bit word writes into MRAM, by any initiator (R446). -/
  writes : Nat := 0
  /-- Copies A and B in KV NV; reset none. -/
  copies : List (Option LifeCopy) := [none, none]
  /-- The highest TH0 reading of the running minute, 0.1 °C; none before one. -/
  peak : Option Int := none
  /-- Meter time at which the running minute began; none before Dawn step 8. -/
  minuteFrom : Option Nat := none
  /-- Minutes counted since the last store. -/
  unstored : Nat := 0
  /-- SYS_PROFILE and SYS_MRAM_RATE have been raised since Dawn (R449). -/
  profiled : Bool := false
  rated : Bool := false
deriving DecidableEq, Repr
/-- The register words that are not 0 after reset (R452, 22_register_index.md and the field tables; a loaded field whose value is stored takes its value at Dawn). -/
def resetWords : List (Nat × Word) :=
  [(0x40000000, 0x74200021#32), (0x40001000, 0x00000003#32), (0x4000101C, 0x003C0014#32), (0x40001028, 0x00000011#32), (0x40001030, 0x000A0000#32), (0x40002008, 0x03E80008#32), (0x40002010, 0x00FF1FFF#32), (0x40002060, 0x40010020#32), (0x40002064, 0x40000000#32), (0x40002068, 0x40000000#32), (0x4000206C, 0x40000000#32), (0x40003000, 0x00000001#32), (0x40003008, 0x00000010#32), (0x4000300C, 0x000A0504#32), (0x40003018, 0x00000008#32), (0x4000301C, 0x00000001#32), (0x4000303C, 0xFFFFFFFF#32), (0x40004000, 0x00000002#32), (0x40004008, 0x00081000#32), (0x4000400C, 0x0000DEEE#32), (0x40004010, 0x00081000#32), (0x40004014, 0x0000DEEE#32), (0x40005000, 0x00000010#32), (0x4000500C, 0x00001E34#32)] ++
  [(0x40005010, 0x0000030A#32), (0x40005020, 0x0000003E#32), (0x40005024, 0x0000003E#32), (0x40005028, 0x0000003E#32), (0x4000502C, 0x0000003E#32), (0x40005030, 0x00000001#32), (0x40005034, 0x00000001#32), (0x40005038, 0x00000001#32), (0x4000503C, 0x00000001#32), (0x40005060, 0x00000001#32), (0x40006000, 0x00000001#32), (0x40006038, 0x000003FF#32), (0x40006044, 0x000003E8#32), (0x40006080, 0xB5B8A6A9#32), (0x40006084, 0x55F0C832#32), (0x4000608C, 0x9C9F9295#32), (0x40006090, 0x55E0C832#32), (0x40006098, 0x9C9F9295#32), (0x4000609C, 0x55E0C832#32), (0x400060A4, 0x9C9F9295#32), (0x400060A8, 0x55E0C832#32), (0x4000610C, 0x24321405#32), (0x40007000, 0x00000110#32), (0x4000700C, 0x0000322D#32)] ++
  [(0x4000701C, 0x0000000A#32), (0x40007024, 0x00001E23#32), (0x4000702C, 0x015F420A#32), (0x40007030, 0x006401F4#32), (0x40007034, 0x07D00064#32), (0x40007038, 0x00643232#32), (0x40008000, 0x00000112#32), (0x40008008, 0x03E803E8#32), (0x4000800C, 0x000A0319#32), (0x40008020, 0x000103E8#32), (0x40008028, 0x00001900#32), (0x4000802C, 0x00000002#32), (0x40009000, 0x00003311#32), (0x40009004, 0x00000006#32), (0x40009010, 0x000000FA#32), (0x40009014, 0x0A5294A5#32), (0x4000901C, 0x000003E8#32), (0x40009020, 0xF0000000#32), (0x40009024, 0xF0000000#32), (0x40009028, 0x03E803E8#32), (0x40009030, 0xF0000000#32), (0x40009034, 0xF0000000#32), (0x40009038, 0x03E803E8#32), (0x40009040, 0xF0000000#32)] ++
  [(0x40009044, 0xF0000000#32), (0x40009048, 0x03E803E8#32), (0x40009050, 0xF0000000#32), (0x40009054, 0xF0000000#32), (0x40009058, 0x03E803E8#32), (0x40009060, 0xF0000000#32), (0x40009064, 0xF0000000#32), (0x40009068, 0x03E803E8#32), (0x40009070, 0xF0000000#32), (0x40009074, 0xF0000000#32), (0x40009078, 0x03E803E8#32), (0x400090B0, 0x00643214#32), (0x400090B4, 0x8000C000#32), (0x400090B8, 0x00000003#32), (0x400090C8, 0x1479428A#32), (0x400090D0, 0x01903333#32), (0x400090D4, 0x00280284#32), (0x4000A000, 0x00010000#32), (0x4000A010, 0x22222222#32), (0x4000A014, 0x3E2C1A08#32), (0x4000A01C, 0x14141414#32), (0x4000A020, 0x014008FC#32), (0x4000A024, 0x014008FC#32), (0x4000A028, 0x014008FC#32)] ++
  [(0x4000A02C, 0x014008FC#32), (0x4000A09C, 0x0003E800#32), (0x4000A0A0, 0x00200000#32), (0x4000A0A8, 0x00200000#32), (0x4000A0CC, 0x000003E8#32), (0x4000B000, 0x00000108#32), (0x4000B00C, 0x000000FF#32), (0x4000B010, 0x0000000F#32), (0x4000B040, 0x00140000#32), (0x4000B060, 0x000004F0#32), (0x4000C00C, 0x000019DE#32), (0x4000C018, 0x00000410#32), (0x4000C020, 0x00000128#32), (0x4000C024, 0x0000010A#32), (0x4000C028, 0x0001C70E#32), (0x4000D000, 0x0000000A#32), (0x4000E000, 0x00000001#32), (0x4000E008, 0x000000FF#32), (0x4000F000, 0x00000014#32), (0x4000F00C, 0x00000A05#32), (0x4000F014, 0x00000119#32), (0x4000F018, 0x00140028#32), (0x4000F024, 0x0000000A#32), (0x4000F028, 0x00007D28#32)] ++
  [(0x4000F02C, 0x00320811#32), (0x4000F044, 0x00000001#32), (0x40010004, 0x00000011#32), (0x40010014, 0x00006400#32), (0x40010034, 0x0000001F#32), (0x40010050, 0x00641000#32), (0x40010054, 0x03E80064#32), (0x40011000, 0x00000003#32), (0x40011020, 0x00000014#32), (0x40011030, 0x0000000A#32)]

/-! ## The whole state -/

/-- The state of the block. -/
structure State where
  /-- The register file: the 32-bit word of each register address (R5); reset values as 22_register_index.md. -/
  regs : List (Nat × Word) := resetWords
  /-- The bytes of MRAM, system SRAM, safety SRAM and the memory-port devices, by address of Table CPU-2; an unlisted byte reads 0. -/
  mem : List Host.Cell := []
  tmk : Tmk := {}
  cpu : Cpu := {}
  nj : Nj := {}
  qe : Qe := {}
  stf : Stf := {}
  veh : Veh := {}
  saf : Saf := {}
  efm : Efm := {}
  pwr : Pwr := {}
  mtr : Mtr := {}
  bil : Bil := {}
  kv : Kv := {}
  update : Upd := {}
  dsk : Dsk := {}
  life : Life := {}
  rbn : Rbn := {}
  hsp : Hsp := {}
  /-- The word the register port returned to the last register read that is a command of its own (R33, R35, R60, R202), the model's own field; reset 0. -/
  readOut : Word := 0
  /-- How many free values have been taken, the model's own field (assumption 2); reset 0. -/
  free : Nat := 0
  /-- The commands that wait, first in first out; reset empty. -/
  pending : List Instr := []
deriving DecidableEq, Repr

/-- The state right after power-on reset has released: Dawn has not passed step 3 (R88, R90), a device that has never run before. -/
def State.reset : State := {}

/-- Faults that stop the block: the spec names none, so no meaning answers with one. -/
inductive Fault where
  /-- Raised by no meaning; the block's faults are registers and log entries (R8). Safe. -/
  | none
deriving DecidableEq, Repr

/-- Refusals. -/
inductive Refusal where
  /-- A command that has no meaning yet, by its mnemonic, answered by `exec` alone. Safe: the model stops. -/
  | notModelled (mnemonic : String)
deriving DecidableEq, Repr

end Sys2Proof.Machine
end

