-- ==== Sys2Proof/Machine/Ops.lean ====
section
/-! DEFINITION. Named operations over the state that every block uses: register fields, event lines, the Nightjar log, fault
registers, seal switches, free values. -/

namespace Sys2Proof.Machine

open Sys2Proof

/-! ## Registers -/

/-- The value of a register field. -/
def State.fld (s : State) (f : Field) : Nat := getBits (Store.get s.regs f.addr) f.hi f.lo

/-- A register field is not 0 (a one-bit field is set). -/
def State.is (s : State) (f : Field) : Bool := decide (s.fld f ≠ 0)

/-- The register file with one field replaced; the other bits of the word stay (R5). -/
def setField (r : List (Nat × Word)) (f : Field) (v : Nat) : List (Nat × Word) :=
  Store.set r f.addr (putBits (Store.get r f.addr) f.hi f.lo v)

/-- The state with one register field replaced. -/
def State.setFld (s : State) (f : Field) (v : Nat) : State := { s with regs := setField s.regs f v }

/-- A one-bit field written from a truth value. -/
def State.setBit (s : State) (f : Field) (b : Bool) : State := s.setFld f (bit b)

/-- The whole word at a register address. -/
def State.word (s : State) (a : Nat) : Word := Store.get s.regs a

/-- The whole word at a register address replaced. -/
def State.setWord (s : State) (a : Nat) (v : Word) : State := { s with regs := Store.set s.regs a v }

/-- A saturating counter field raised. -/
def State.count (s : State) (f : Field) (n : Nat := 1) : State :=
  s.setFld f (satAdd (s.fld f) n (2 ^ (f.hi + 1 - f.lo) - 1))

/-- One bit of a field, by its place in the field. -/
def State.fldBit (s : State) (f : Field) (n : Nat) : Bool := (s.fld f).testBit n

/-- One bit of a field set or cleared, by its place in the field. -/
def State.setFldBit (s : State) (f : Field) (n : Nat) (b : Bool) : State :=
  s.setBit ⟨f.addr, f.lo + n, f.lo + n⟩ b

/-! ## Time -/

/-- Ticks of meter time in a millisecond (R32). -/
def msTicks : Nat := 25000

/-- Ticks of meter time in a second (R32). -/
def secTicks : Nat := 25000000

/-- Ticks of meter time in a microsecond (R32). -/
def usTicks : Nat := 25

/-- Meter time. -/
def State.mt (s : State) : Nat := s.tmk.mt

/-- One tick of meter time, 40 ns, while it runs (R32). -/
def State.tick (s : State) : State := if s.tmk.mtRun then { s with tmk := { s.tmk with mt := (s.tmk.mt + 1) % 2 ^ 64 } } else s

/-! ## Cores and event lines -/

/-- Core `c`; a number above 4 reads a core that never runs. -/
def State.core (s : State) (c : Nat) : Core := s.cpu.cores.getD c default

/-- Core `c` changed. -/
def State.onCore (s : State) (c : Nat) (f : Core → Core) : State :=
  { s with cpu := { s.cpu with cores := upd s.cpu.cores c f } }

/-- Every core. -/
def allCores : List Nat := [0, 1, 2, 3, 4]

/-- CC0 to CC3. -/
def ccCores : List Nat := [0, 1, 2, 3]

/-- The cores whose bit is set in a mask. -/
def maskCores (m : Nat) : List Nat := allCores.filter (fun c => m.testBit c)

/-- The pending bit of an event line set in the named cores (Table CPU-4). -/
def State.deliver (s : State) (line : Nat) (cs : List Nat) : State :=
  cs.foldl (fun t c => t.onCore c (fun k => { k with pend := k.pend ||| (1#32 <<< line) })) s

/-! ## Free values -/

/-- A value the spec leaves open, of `w` bits, and the state that has taken it. -/
def State.takeFree (s : State) (w : Nat) : Nat × State :=
  (Config.freeValue s.free % 2 ^ w, { s with free := s.free + 1 })

/-! ## The Nightjar log (R122 to R126) -/

/-- An event to log: its class, code, info and data, the wall field, and the continuation's meter time. -/
structure LogEvent where
  cls : Nat
  code : Nat
  info : Nat
  data : Nat
  wall : Option Nat := none
  cont : Option Nat := none

/-- Bytes 0x0 to 0xB of an entry (Table NJD-4). -/
def LogEntry.head (e : LogEntry) : List Byte :=
  leBytes 1 (e.cls + 16 * bit e.cont + 32 * bit e.wtInv + 64 * bit e.unpowered) ++ leBytes 1 e.code ++ leBytes 2 e.info ++
  leBytes 4 e.wall.toNat ++ leBytes 4 e.data.toNat

/-- The chain tag of an entry after a previous tag (R123). -/
def chainTag (prev : Word) (e : LogEntry) : Word :=
  w32 (leNat ((Config.sha256 (leBytes 4 prev.toNat ++ e.head)).take 4))

/-- The tag of the latest entry, or the seed before the first (R123). -/
def State.logHead (s : State) : Word :=
  if s.nj.log.all (·.bad) then s.word Reg.NJD_LOG_SEED else s.word Reg.NJD_LOG_HEAD

/-- Slots written, bad ones included (R126). -/
def State.logCount (s : State) : Nat := s.nj.log.length

/-- A slot appended: count and head follow (R124, R127); a bad slot is outside the chain (R126). -/
def State.putSlot (s : State) (e : LogEntry) : State :=
  let tag := chainTag s.logHead e
  let bad := s.nj.badCells.contains s.logCount
  let s1 := { s with nj := { s.nj with log := s.nj.log ++ [{ e with tag := tag, bad := bad }] } }
  let s2 := s1.setFld F.NJD_LOG_COUNT_count s1.logCount
  if bad then s2.setFld F.NJD_STATUS_nv_fail 1 else s2.setWord Reg.NJD_LOG_HEAD tag

/-- One entry written into slots below a limit, with the rewrite of R126; whether it was kept, and how many slots were marked bad. -/
def State.writeEntry (s : State) (e : LogEntry) (limit : Nat) : Nat → Bool × Nat × State
  | 0 => (false, 0, s)
  | fuel + 1 =>
    if s.logCount < limit then
      if s.nj.badCells.contains s.logCount then
        let r := (s.putSlot e).writeEntry e limit fuel
        (r.1, r.2.1 + 1, r.2.2)
      else (true, 0, s.putSlot e)
    else (false, 0, s)

/-- The entry an event makes, at the wall time of the event (R122). -/
def State.entryOf (s : State) (v : LogEvent) : LogEntry :=
  { cls := v.cls, cont := false, wtInv := !s.nj.wallValid, unpowered := decide (s.fld F.NJD_STATUS_source ≠ 0),
    code := v.code, info := v.info % 65536, wall := w32 (v.wall.getD s.nj.wallSec), data := w32 v.data, tag := 0, bad := false }

/-- The continuation of an entry: meter time in wall and data (R122). -/
def contOf (e : LogEntry) (mt : Nat) : LogEntry :=
  { e with cont := true, code := 0, info := 0, wall := w32 (mt / 2 ^ 32), data := w32 mt }

/-- The saturating sum of the sixteen class counters (R125). -/
def State.clsSum (s : State) : Nat := min s.nj.clsCount.sum (2 ^ 32 - 1)

/-- A SUMMARY entry in the next free slot (R125); when the area is used up, counter 15 counts it. -/
def State.logSummary (s : State) : State :=
  let e : LogEntry := { s.entryOf ⟨15, 0, s.nj.sumMask, s.clsSum, none, none⟩ with info := s.nj.sumMask }
  let r := s.writeEntry e 4096 64
  if r.1 then { r.2.2 with nj := { r.2.2.nj with sumMask := 0 } }
  else { s with nj := { s.nj with clsCount := upd s.nj.clsCount 15 (fun n => satAdd n 1 (2 ^ 32 - 1)) } }

/-- The main area cannot take an event of a class: its counter, main_full with the first summary, and the later summaries (R124, R125).
The second component says that main_full was set now. -/
def State.logRefuse (s : State) (cls : Nat) : State × Bool :=
  let before := s.clsSum
  let first := !s.is F.NJD_LOG_COUNT_main_full
  let s1 := { s with nj := { s.nj with clsCount := upd s.nj.clsCount cls (fun n => satAdd n 1 (2 ^ 32 - 1)),
                                       sumMask := s.nj.sumMask ||| (1 <<< cls) } }
  let s2 := if first then (s1.setFld F.NJD_LOG_COUNT_main_full 1).logSummary else s1
  let s3 := if !first && before / 256 ≠ s1.clsSum / 256 then s2.logSummary else s2
  (s3, first)

/-- One event written or counted (R124); how many slots were marked bad, and whether the log filled now. -/
def State.logOne (s : State) (v : LogEvent) : State × Nat × Bool :=
  let need := if v.cont.isSome then 2 else 1
  if s.is F.NJD_LOG_COUNT_main_full || 4032 < s.logCount + need then
    let r := s.logRefuse v.cls
    (r.1, 0, r.2)
  else
    let e := s.entryOf v
    let a := s.writeEntry e 4032 4032
    if a.1 then
      match v.cont with
      | none => (a.2.2, a.2.1, false)
      | some mt =>
        let b := a.2.2.writeEntry (contOf e mt) 4032 4032
        if b.1 then (b.2.2, a.2.1 + b.2.1, false)
        else
          let r := b.2.2.logRefuse v.cls
          (r.1, a.2.1 + b.2.1, r.2)
    else
      let r := a.2.2.logRefuse v.cls
      (r.1, a.2.1, r.2)

/-- The FAULT event of a fault code (Table NJD-5, class 7). -/
def faultEvent (code : Nat) : LogEvent := ⟨7, code / 256, code, 0, none, none⟩

/-- Events logged in order, each followed by the NJD faults its writing raised (R124, R126, Table NJD-9). -/
def State.logRun : Nat → List LogEvent → State → State
  | 0, _, s => s
  | _ + 1, [], s => s
  | fuel + 1, v :: vs, s =>
    let r := s.logOne v
    let fs := List.replicate r.2.1 0x0C05 ++ (if r.2.2 then [0x0C04] else [])
    let s1 := fs.foldl (fun t c => ((t.setFld F.NJD_FAULT_code c).setFld F.NJD_FAULT_valid 1).setFld F.HSP_ATTN_fault 1) r.1
    let s2 := if v.cls = 7 then s1.setFld F.HSP_ATTN_fault 1 else s1
    State.logRun fuel (fs.map faultEvent ++ vs) s2

/-- An event logged, unless every Nightjar source is lost (R111). -/
def State.log (s : State) (v : LogEvent) : State :=
  if s.nj.vnjLost then s else State.logRun 8 [v] s

/-- A CONFIG entry: code 1 a refused write, code 2 an accepted sealed write (R5). -/
def State.logConfig (s : State) (code addr : Nat) : State := s.log ⟨4, code, 0, addr, none, none⟩

/-! ## Faults (R8) -/

/-- A fault raised: the block's fault register where it has one (code in [15:0], valid in bit 31), and a FAULT entry, which sets
the fault cause of HSP_ATTN (R185). -/
def State.fault (s : State) (code : Nat) (reg : Option Nat := none) : State :=
  let s1 := match reg with
    | none => s
    | some a => (s.setFld ⟨a, 15, 0⟩ code).setFld ⟨a, 31, 31⟩ 1
  s1.log (faultEvent code)

/-! ## Seal switches (R120, R121) -/

/-- The powered side sees seal switch `n` on: Nightjar's accepted value, or off under the Dawn fallback (R92, R121). -/
def State.sealOn (s : State) (n : Nat) : Bool := !s.nj.sealFallback && s.fldBit F.NJD_SEAL_sw n

/-- CONFIG_EN (Table NJD-3). -/
def State.configEn (s : State) : Bool := s.sealOn 0
/-- METRO_EN (Table NJD-3). -/
def State.metroEn (s : State) : Bool := s.sealOn 1
/-- SERVICE_EN (Table NJD-3). -/
def State.serviceEn (s : State) : Bool := s.sealOn 2
/-- TAMPER_EN (Table NJD-3). -/
def State.tamperEn (s : State) : Bool := s.sealOn 3
/-- The SEAL_CODE switches (Table NJD-3), 0 under the Dawn fallback. -/
def State.sealCode (s : State) : Nat := if s.nj.sealFallback then 0 else s.fld F.NJD_SEAL_sw / 16

/-! ## Role and phase -/

/-- The chip is a Manager (R1). -/
def State.isManager (s : State) : Bool := s.fld F.SYS_ROLE_role = 1
/-- The chip is a Worker (R1). -/
def State.isWorker (s : State) : Bool := s.fld F.SYS_ROLE_role = 2
/-- Dawn is complete (R90). -/
def State.dawnDone (s : State) : Bool := s.is F.DSK_DAWN_STATUS_done
/-- The chip waits in the Dawn hold (R97). -/
def State.inHold (s : State) : Bool := s.is F.DSK_DAWN_STATUS_hold
/-- Interface clock generator n, 0 ICG-X, 1 ICG-M, 2 ICG-R, 3 ICG-A, reports locked (R41). -/
def State.icgLocked (s : State) (n : Nat) : Bool := s.fldBit F.TMK_ICG_CTRL_locked n
/-- The update hold is in effect (R157). -/
def State.updateHold (s : State) : Bool := s.is F.UPD_STATUS_hold_on

/-- A value the spec gives as a rational number and the block holds as an integer, whose rounding the spec does not state: the number below,
or at a fraction the one above as a free bit says (assumption 12). -/
def State.roundFree (s : State) (num : Int) (den : Nat) : Int × State :=
  if num % den = 0 then (num / den, s)
  else
    let r := s.takeFree 1
    (num / den + r.1, r.2)

/-- 64-bit words of MRAM written are counted (R446). -/
def State.mramWrote (s : State) (n : Nat) : State := { s with life := { s.life with writes := s.life.writes + n } }

/-- The Dusk warning is asserted (R101). -/
def State.duskWarn (s : State) : Bool := s.is F.DSK_STATUS_warn

end Sys2Proof.Machine
end

