-- ==== Sys2Proof/Machine/FrameOps.lean ====
section
/-! DEFINITION. Starling frames leaving this node: lanes (R223), routes (R229, R231), the wait queues of the ports, counters (R226, R229). -/

namespace Sys2Proof.Machine

open Sys2Proof

/-- This chip's node ID (R224). -/
def State.nodeId (s : State) : Nat := s.fld F.STF_NODE_node_id

/-- This chip's post number (R224). -/
def State.postNo (s : State) : Nat := s.fld F.STF_NODE_post

/-- The serial of this die, KV_SERIAL. -/
def State.serial (s : State) : Nat := (s.word Reg.KV_SERIAL_LO).toNat + 2 ^ 32 * (s.word Reg.KV_SERIAL_HI).toNat

/-- Port `p`. -/
def State.sport (s : State) (p : Nat) : Port := s.stf.ports.getD p {}

/-- Port `p` changed. -/
def State.onPort (s : State) (p : Nat) (f : Port → Port) : State :=
  { s with stf := { s.stf with ports := upd s.stf.ports p f } }

/-- The four ports. -/
def allPorts : List Nat := [0, 1, 2, 3]

/-- A port is UP. -/
def State.portUp (s : State) (p : Nat) : Bool := p < 4 && s.fld (F.STF_PORTn_STATUS_state p) = 3
/-- A port is UP on a post link (R220). -/
def State.postUp (s : State) (p : Nat) : Bool := s.portUp p && !s.is (F.STF_PORTn_STATUS_kind p)
/-- A port is UP on a site link (R220). -/
def State.siteUp (s : State) (p : Nat) : Bool := s.portUp p && s.is (F.STF_PORTn_STATUS_kind p)

/-- Member `m` of this Manager's post, 1 to 15. -/
def State.member (s : State) (m : Nat) : Member := if m = 0 then {} else s.stf.members.getD (m - 1) {}

/-- Member `m` changed. -/
def State.onMember (s : State) (m : Nat) (f : Member → Member) : State :=
  if m = 0 then s else { s with stf := { s.stf with members := upd s.stf.members (m - 1) f } }

/-- A routing-table entry as STF_RT_ENTRY (Table STF-14). -/
def State.rtEntry (s : State) (i : Nat) : Word := Store.get s.stf.rt i

/-- The first valid routing-table entry whose range holds a post (R229). -/
def State.rtFind (s : State) (post : Nat) : Option Word :=
  ((List.range 512).find? (fun i =>
    let w := s.rtEntry i
    w.getLsbD 28 && getBits w 11 0 ≤ post && post ≤ getBits w 23 12)).map s.rtEntry

/-- The routes that lead to a node from this one, primary first: the port out and the source route still to follow (R229, R231). -/
def State.routesTo (s : State) (dst : Nat) : List (Nat × List Nat) :=
  let along := fun (r : List Nat) => match r with | [] => [] | p :: _ => [(p, r)]
  if s.isWorker then along s.stf.revA ++ along s.stf.revB
  else if dst / 16 = s.postNo then
    let m := s.member (dst % 16)
    if m.state = 0 then [] else along m.pathA ++ along m.pathB
  else if s.postNo = 0 || dst / 16 = 0 then []
  else
    match s.rtFind (dst / 16) with
    | some w => (getBits w 25 24, []) :: (if w.getLsbD 29 then [(getBits w 27 26, [])] else [])
    | none =>
      if s.is F.STF_DEFAULT_valid then
        (s.fld F.STF_DEFAULT_port, []) :: (if s.is F.STF_DEFAULT_alt_valid then [(s.fld F.STF_DEFAULT_alt, [])] else [])
      else []

/-- The route taken: the first whose port is UP, the alternate first on an alternating attempt (R231, R233). -/
def State.pickRoute (s : State) (rs : List (Nat × List Nat)) (alt : Bool) : Option (Nat × List Nat) :=
  (if alt then rs.reverse else rs).find? (fun r => s.portUp r.1)

/-- A frame joins the wait queue of its lane on a port. -/
def State.queueFrame (s : State) (p : Nat) (f : Frame) (arr : Option Nat) : State :=
  let w : Waiting := ⟨{ f with laneS := f.onLaneS }, arr⟩
  s.onPort p (fun k => if f.onLaneS then { k with waitS := k.waitS ++ [w] } else { k with waitB := k.waitB ++ [w] })

/-- A frame of this node leaves along a route: the first element is this node's own port (R229). -/
def State.sendAlong (s : State) (f : Frame) (r : Nat × List Nat) : State :=
  s.queueFrame r.1 { f with src := s.nodeId, hops := 1, route := r.2, rp := if r.2.isEmpty then 0 else 1 } none

/-- A frame originated here goes to its destination by the primary or the alternate route; whether one was UP (R231, R229). -/
def State.launch (s : State) (f : Frame) (alt : Bool := false) : Bool × State :=
  match s.pickRoute (s.routesTo f.dst) alt with
  | some r => (true, s.sendAlong f r)
  | none => (false, s.count F.STF_CNT_DROP_no_route)

/-- A frame originated here along an explicit source route (R229, R236, R237). -/
def State.sendRoute (s : State) (f : Frame) (route : List Nat) : State :=
  match route with
  | [] => s.count F.STF_CNT_DROP_no_route
  | p :: _ => if s.portUp p then s.sendAlong f (p, route) else s.count F.STF_CNT_DROP_no_route

/-- The next message sequence number of this origin (Table STF-3). -/
def State.newSeq (s : State) : Nat × State :=
  (s.stf.seq, { s with stf := { s.stf with seq := (s.stf.seq + 1) % 2 ^ 16 } })

/-- The segments of a message (R228). -/
def segments (f : Frame) (bytes : List Byte) : List Frame :=
  (List.range ((bytes.length + 511) / 512)).map (fun i =>
    { f with msgLen := bytes.length, segOff := 512 * i, body := .msg ((bytes.drop (512 * i)).take 512) })

/-- A message sent without answer along the primary route: heartbeats, setpoints, fault reports, commands (R241). -/
def State.sendMsg (s : State) (dst queue : Nat) (bytes : List Byte) (noAns : Bool) : State :=
  let r := s.newSeq
  (segments { dst := dst, queue := queue, seq := r.1, noAns := noAns } bytes).foldl (fun t f => (t.launch f).2) r.2

/-- A post or site broadcast originated by a Manager (R232). -/
def State.broadcast (s : State) (site : Bool) (queue : Nat) (bytes : List Byte) : State :=
  if s.isManager then
    let r := s.newSeq
    let ports := allPorts.filter (fun p => if site then s.siteUp p else s.postUp p)
    (segments { dst := 0xFFFF, queue := queue, seq := r.1, noAns := true, site := site } bytes).foldl
      (fun t f => ports.foldl (fun u p => u.queueFrame p { f with src := u.nodeId, hops := 1 } none) t) r.2
  else s

/-- The event of the Starling block: EVT_STF to its fixed cores (Table CPU-4, R221, R235; assumption 9). -/
def State.evtStf (s : State) : State := s.deliver 16 (maskCores (Config.eventCores 16))

end Sys2Proof.Machine
end

