-- ==== Sys2Proof/Machine/QeOps.lean ====
section
/-! DEFINITION. The queue engine: descriptors and their cache (R191 to R193, R205), messages into and out of rings (R194 to R198),
notification (R202), rollback (R201), delivery reports (R200). -/

namespace Sys2Proof.Machine

open Sys2Proof

/-! ## Regions (R206, R208) -/

/-- The bytes lie wholly in system SRAM (Table CPU-2). -/
def inSram (a n : Nat) : Bool := 0x20000000 ≤ a && a + n ≤ 0x20200000

/-- The size of a chip select's region; none has size 0 (R208). -/
def State.csSize (s : State) (n : Nat) : Nat :=
  if s.fld (F.XMP_CSn_CFG_type n) = 0 then 0 else 2 ^ 20 * 2 ^ s.fld (F.XMP_CSn_CFG_size n)

/-- The chip select whose region holds the bytes wholly: select 0 from the window's base, select 1 directly after it (R208); none while
the port is disabled (assumption 10), and none beyond the window of 256 MiB. -/
def State.csOf (s : State) (a n : Nat) : Option Nat :=
  let b1 := 0x60000000 + s.csSize 0
  if !s.is F.XMP_CTRL_en then none
  else if 0x60000000 ≤ a && a + n ≤ b1 then some 0
  else if b1 ≤ a && a + n ≤ b1 + s.csSize 1 && a + n ≤ 0x70000000 then some 1
  else none

/-- The bytes lie wholly in one PSRAM region of the memory port. -/
def State.inPsram (s : State) (a n : Nat) : Bool :=
  match s.csOf a n with
  | some i => s.fld (F.XMP_CSn_CFG_type i) = 1
  | none => false

/-- Where a bus master may read and write (R206). -/
def State.masterOk (s : State) (a n : Nat) : Bool := inSram a n || s.inPsram a n

/-- Memory as its initiators see it: the posted stores of the memory port are in it (R51, R210). -/
def State.view (s : State) : List Host.Cell := s.qe.posted.foldl (fun m p => Store.setBytes m p.addr p.bytes) s.mem

/-- Bytes read by a master. -/
def State.readBytes (s : State) (a n : Nat) : List Byte := Store.bytes s.view a n

/-- Bytes written by a master. -/
def State.writeBytes (s : State) (a : Nat) (l : List Byte) : State := { s with mem := Store.setBytes s.mem a l }

/-! ## Descriptors (Table QE-1) -/

/-- The descriptor as its 32 bytes. -/
def Desc.bytes (d : Desc) : List Byte :=
  leBytes 4 d.base ++ leBytes 4 d.ctrl ++ leBytes 4 d.prod.toNat ++ leBytes 4 d.resv.toNat ++ leBytes 4 d.cons.toNat ++
  leBytes 2 d.notify ++ leBytes 2 d.src ++ leBytes 2 d.refused ++ leBytes 2 d.rollbacks ++ leBytes 4 d.lastSrc

/-- A descriptor from its 32 bytes. -/
def Desc.ofBytes (l : List Byte) : Desc :=
  let at_ := fun (o n : Nat) => leNat ((l.drop o).take n)
  { base := at_ 0 4, ctrl := at_ 4 4, prod := w32 (at_ 8 4), resv := w32 (at_ 12 4), cons := w32 (at_ 16 4), notify := at_ 20 2,
    src := at_ 22 2, refused := at_ 24 2, rollbacks := at_ 26 2, lastSrc := at_ 28 4 }

/-- Bits [hi:lo] of a descriptor's ctrl. -/
def Desc.c (d : Desc) (hi lo : Nat) : Nat := getBits (w32 d.ctrl) hi lo
/-- The queue is enabled. -/
def Desc.en (d : Desc) : Bool := d.ctrl.testBit 0
/-- Entry size in bytes. -/
def Desc.esize (d : Desc) : Nat := 16 * 2 ^ d.c 2 1
/-- Ring depth in entries. -/
def Desc.depth (d : Desc) : Nat := 2 ^ d.c 7 3
/-- Entries of a message. -/
def Desc.span (d : Desc) : Nat := d.c 14 8 + 1
/-- task_ok -/
def Desc.taskOk (d : Desc) : Bool := d.ctrl.testBit 15
/-- remote_ok -/
def Desc.remoteOk (d : Desc) : Bool := d.ctrl.testBit 16
/-- post_only -/
def Desc.postOnly (d : Desc) : Bool := d.ctrl.testBit 17
/-- prod_direct -/
def Desc.prodDirect (d : Desc) : Bool := d.ctrl.testBit 18
/-- cons_engine -/
def Desc.consEngine (d : Desc) : Bool := d.ctrl.testBit 19
/-- Entries held (R193). -/
def Desc.held (d : Desc) : Nat := (d.prod - d.cons).toNat
/-- Entries free (R193). -/
def Desc.free (d : Desc) : Nat := d.depth - (d.resv - d.cons).toNat
/-- The bit en replaced. -/
def Desc.setEn (d : Desc) (b : Bool) : Desc := { d with ctrl := d.ctrl / 2 * 2 + bit b }

/-- An enabled descriptor breaks R193: a reserved encoding, or the order cons ≤ prod ≤ resv ≤ cons + depth. -/
def Desc.bad (d : Desc) : Bool :=
  d.en && (d.c 2 1 = 3 || d.c 7 3 = 0 || 15 < d.c 7 3 || (d.resv - d.cons).toNat < (d.prod - d.cons).toNat ||
    d.depth < (d.resv - d.cons).toNat)

/-- What Table QE-4 and the owning chapters fix of a system queue. -/
structure SysQueue where
  /-- the code of esize -/
  esize : Nat
  span : Nat
  /-- the owning block consumes it -/
  engine : Bool
  remote : Option Bool := none
  direct : Option Bool := none
deriving DecidableEq, Repr

/-- The system queues that exist (Table QE-4; R203, R241, R257, R258, R267, R275, R328, R381, R399). -/
def sysQueue (q : Nat) : Option SysQueue :=
  if 0x1 ≤ q && q ≤ 0x4 then some ⟨0, 1, false, none, none⟩
  else if q = 0x8 || q = 0xB then some ⟨1, 1, false, none, none⟩
  else if q = 0x9 || q = 0x10 then some ⟨2, 1, false, none, none⟩
  else if q = 0xA || q = 0xC || q = 0xD then some ⟨1, 1, true, none, none⟩
  else if q = 0xE then some ⟨0, 1, false, none, none⟩
  else if q = 0xF then some ⟨0, 1, true, none, none⟩
  else if q = 0x20 then some ⟨2, 65, true, none, none⟩
  else if q = 0x21 then some ⟨1, 1, true, none, none⟩
  else if q = 0x30 || q = 0x31 then some ⟨2, 1, false, some false, some false⟩
  else if q = 0x38 then some ⟨1, 5, false, some false, some false⟩
  else if 0x40 ≤ q && q ≤ 0x7F then some ⟨1, 1, true, some true, some false⟩
  else if q = 0x80 then some ⟨2, 33, true, none, none⟩
  else if q = 0x81 || q = 0x82 then some ⟨2, 33, false, none, none⟩
  else if q = 0x88 || q = 0x8A then some ⟨2, 5, true, none, none⟩
  else if q = 0x89 || q = 0x8B then some ⟨2, 5, false, none, none⟩
  else if q = 0x8C then some ⟨0, 1, false, none, none⟩
  else none

/-- The table's base address (R191, R204). -/
def State.tabBase (s : State) : Nat :=
  if s.is F.QE_STATUS_hold_table then 0x201FE000 else 8192 * s.fld F.QE_TABLE_CFG_base

/-- The table's size exponent k (R191, R204). -/
def State.tabK (s : State) : Nat := if s.is F.QE_STATUS_hold_table then 8 else s.fld F.QE_TABLE_CFG_k

/-- A table is in force. -/
def State.tabOn (s : State) : Bool := s.is F.QE_STATUS_hold_table || s.is F.QE_TABLE_CFG_en

/-- The queue exists (R191, Table QE-4). -/
def State.qExists (s : State) (q : Nat) : Bool :=
  s.tabOn && q < 2 ^ s.tabK && (0xFF < q || (sysQueue q).isSome)

/-- A fault of the queue engine, with its queue (Table QE-7, R214). -/
def State.qeFault (s : State) (code q : Nat) : State :=
  (((s.setFld F.QE_FAULT_cause (code % 256)).setFld F.QE_FAULT_queue q).setFld F.QE_FAULT_valid 1).log (faultEvent code)

/-- The queue engine changed. -/
def State.onQe (s : State) (f : Qe → Qe) : State := { s with qe := f s.qe }

/-- The last line of the cache that is not pinned, and the cache without it (R205). -/
def evict : List CacheLine → Option (CacheLine × List CacheLine)
  | [] => none
  | l :: t =>
    match evict t with
    | some (e, r) => some (e, l :: r)
    | none => if l.pinned then none else some (l, t)

/-- A descriptor fetched from the table: a bad one is disabled and its reservation dropped (R193, Table QE-7). -/
def State.qFetched (s : State) (q : Nat) (d : Desc) : Desc × State :=
  if d.bad then
    ({ d.setEn false with resv := d.prod },
     (s.onQe (fun e => { e with openResv := e.openResv.filter (·.queue ≠ q), enabled := e.enabled.filter (· ≠ q) })).qeFault 0x0301 q)
  else (d, s)

/-- A queue's descriptor brought to the front of the cache, written back and fetched as R205 says. -/
def State.qTouch (s : State) (q : Nat) : State :=
  match s.qe.cache.find? (fun l => l.queue = q) with
  | some l =>
    (s.onQe (fun e => { e with cache := l :: e.cache.filter (fun x => x.queue ≠ q) })).count F.QE_CACHE_hits
  | none =>
    let s1 := s.count F.QE_CACHE_misses
    let s2 := if 256 ≤ s1.qe.cache.length then
        match evict s1.qe.cache with
        | some (v, r) => (s1.onQe (fun e => { e with cache := r })).writeBytes (s1.tabBase + 32 * v.queue) v.desc.bytes
        | none => s1
      else s1
    let r := s2.qFetched q (Desc.ofBytes (s2.readBytes (s2.tabBase + 32 * q) 32))
    r.2.onQe (fun e => { e with cache := ⟨q, r.1, false⟩ :: e.cache })

/-- A cached descriptor. -/
def State.qDesc (s : State) (q : Nat) : Desc :=
  match s.qe.cache.find? (fun l => l.queue = q) with
  | some l => l.desc
  | none => {}

/-- A cached descriptor changed. -/
def State.qPut (s : State) (q : Nat) (f : Desc → Desc) : State :=
  s.onQe (fun e => { e with cache := e.cache.map (fun l => if l.queue = q then { l with desc := f l.desc } else l) })

/-! ## Operations on one queue -/

/-- What a path into or out of a queue answers: the status codes of R83, and BUSY of R199. -/
inductive QStat where
  | done | full | empty | noQueue | noRoute | denied | paused | busy
deriving DecidableEq, Repr

/-- The code a core reads (R83). -/
def QStat.code : QStat → Nat
  | .done => 0 | .full => 1 | .empty => 2 | .noQueue => 3 | .noRoute => 4 | .denied => 5 | .paused => 6 | .busy => 1

/-- The outcome code of an answer (Table QE-3, Table STF-4). -/
def QStat.outcome : QStat → Nat
  | .done => 0 | .full => 1 | .empty => 1 | .noQueue => 2 | .noRoute => 4 | .denied => 3 | .paused => 7 | .busy => 7

/-- A queue ready for an operation: PAUSED during a zero-fill, NO_QUEUE where it does not exist or is disabled (R192, R203);
PAUSED after a failed table access, whose retry this one is (Table QE-7). -/
def State.qReady (s : State) (q : Nat) : QStat × State :=
  if s.is F.QE_STATUS_table_busy then (.paused, s)
  else if !s.qExists q then (.noQueue, s)
  else if s.qe.tableDown then (.paused, s.onQe (fun e => { e with tableDown := false }))
  else
    let s1 := s.qTouch q
    if (s1.qDesc q).en then (.done, s1) else (.noQueue, s1)

/-- A queue bound to an enabled outbound stream (R182, R196). -/
def State.boundOut (s : State) (q : Nat) : Bool :=
  (List.range 8).any (fun n => s.is (F.HSP_OSTRn_CFG_en n) && s.fld (F.HSP_OSTRn_CFG_queue n) = q)

/-- The queue is consumed by a stream or a block (Table QE-9). -/
def State.qEngine (s : State) (q : Nat) : Bool := (s.qDesc q).consEngine || s.boundOut q

/-- The message fits: at most span × esize bytes, or zeros beyond (R194). -/
def Desc.accepts (d : Desc) (l : List Byte) : Bool :=
  1 ≤ l.length && l.length ≤ 8192 && (l.drop (d.span * d.esize)).all (· = 0)

/-- The bytes a message leaves in its entries, zero-filled (R194). -/
def Desc.fill (d : Desc) (l : List Byte) : List Byte :=
  let n := d.span * d.esize
  l.take n ++ List.replicate (n - l.length) 0

/-- The address of byte `o` of the entries from a count onward (R193). -/
def Desc.addr (d : Desc) (count : Word) (o : Nat) : Nat :=
  d.base + ((count.toNat % d.depth) * d.esize + o) % (d.depth * d.esize)

/-- Bytes written into the ring from a byte offset of an entry count. -/
def ringWrite (d : Desc) (count : Word) : Nat → List Byte → List Host.Cell → List Host.Cell
  | _, [], m => m
  | o, b :: bs, m => ringWrite d count (o + 1) bs (Store.set m (d.addr count o) b)

/-- Bytes read from the ring. -/
def ringRead (d : Desc) (count : Word) (m : List Host.Cell) : Nat → Nat → List Byte
  | _, 0 => []
  | o, n + 1 => Store.get m (d.addr count o) :: ringRead d count m (o + 1) n

/-- The open reservation of a queue (R195). -/
def State.resvOf (s : State) (q : Nat) : Option Resv := s.qe.openResv.find? (fun r => r.queue = q)

/-- Notify events of a publication (R202). -/
def State.qNotify (s : State) (q before : Nat) : State :=
  let d := s.qDesc q
  let lvl := max 1 d.notify
  if before < lvl && lvl ≤ d.held then
    let s1 := if s.qe.evtFifo.length < 16 then s.onQe (fun e => { e with evtFifo := e.evtFifo ++ [q] }) else s.setFld F.QE_STATUS_evt_ovf 1
    s1.deliver 14 (maskCores (d.c 25 22))
  else s

/-- Reservation of one message's entries (R195). -/
def State.qReserve (s : State) (q : Nat) (who : Writer) : QStat × State :=
  let d := s.qDesc q
  if (s.resvOf q).isSome then (.busy, s)
  else if d.free < d.span then (.full, s)
  else (.done, (s.qPut q (fun d => { d with resv := d.resv + BitVec.ofNat 32 d.span })).onQe
    (fun e => { e with openResv := ⟨q, who, 0, s.mt⟩ :: e.openResv }))

/-- Publication of an open reservation (R195, R202). -/
def State.qPublish (s : State) (q : Nat) : State :=
  let before := (s.qDesc q).held
  ((s.qPut q (fun d => { d with prod := d.resv })).onQe (fun e => { e with openResv := e.openResv.filter (·.queue ≠ q) })).qNotify q before

/-- Bytes of a message written into the reserved entries from a byte offset, as far as they fit (R194, R195). -/
def State.qWrite (s : State) (q off : Nat) (l : List Byte) : State :=
  let d := s.qDesc q
  { s with mem := ringWrite d (d.resv - BitVec.ofNat 32 d.span) off (l.take (d.span * d.esize - off)) s.mem }

/-- A whole message into a ready queue in one step: reservation, bytes, publication (R195). -/
def State.qAppend (s : State) (q : Nat) (l : List Byte) : QStat × State :=
  let d := s.qDesc q
  if !d.accepts l then (.denied, s)
  else
    let r := s.qReserve q (.copy 0)
    if r.1 = .done then (.done, (r.2.qWrite q 0 (d.fill l)).qPublish q) else r

/-- An owning block appends a message to its queue (Table QE-2); whether it was taken. -/
def State.blockPush (s : State) (q : Nat) (l : List Byte) : Bool × State :=
  let r := s.qReady q
  if r.1 = .done then
    let a := r.2.qAppend q l
    (decide (a.1 = .done), a.2)
  else (false, r.2)

/-- A queue has room for one message and no open reservation. -/
def State.qRoom (s : State) (q : Nat) : Bool × State :=
  let r := s.qReady q
  if r.1 = .done then
    let d := r.2.qDesc q
    (decide (d.span ≤ d.free) && (r.2.resvOf q).isNone, r.2)
  else (false, r.2)

/-- The oldest `n` entries of a queue (R198). -/
def State.qFront (s : State) (q n : Nat) : List Byte :=
  let d := s.qDesc q
  ringRead d d.cons s.view 0 (n * d.esize)

/-- `n` entries removed. -/
def State.qDrop (s : State) (q n : Nat) : State := s.qPut q (fun d => { d with cons := d.cons + BitVec.ofNat 32 n })

/-- The owning block takes the oldest message of its queue (Table QE-2). -/
def State.blockTake (s : State) (q : Nat) : Option (List Byte) × State :=
  let r := s.qReady q
  if r.1 = .done then
    let d := r.2.qDesc q
    if d.span ≤ d.held then (some (r.2.qFront q d.span), r.2.qDrop q d.span) else (none, r.2)
  else (none, r.2)

/-- The owning block looks at the oldest message of its queue without taking it. -/
def State.blockPeek (s : State) (q : Nat) : Option (List Byte) × State :=
  let r := s.qReady q
  if r.1 = .done then
    let d := r.2.qDesc q
    if d.span ≤ d.held then (some (r.2.qFront q d.span), r.2) else (none, r.2)
  else (none, r.2)

/-! ## Reports (R200) -/

/-- A delivery report (Table QE-3). -/
def reportBytes (m : TxMsg) (outcome fault mt : Nat) (txSeq : Nat) : List Byte :=
  leBytes 2 m.dst ++ leBytes 2 m.queue ++ leBytes 4 txSeq ++ leBytes 1 outcome ++ leBytes 1 m.attempts ++ leBytes 2 fault ++ leBytes 4 mt

/-- A message of the transmit buffer has its outcome: it leaves the buffer, and its sender hears of it (R200, R207). -/
def State.txDone (s : State) (m : TxMsg) (outcome : Nat) : State :=
  let s1 := s.onQe (fun e => { e with tx := e.tx.filter (fun x => x.seq ≠ m.seq) })
  let s2 := s1.setFld F.QE_STATUS_tx_held s1.qe.tx.length
  match m.origin with
  | .core c n =>
    if outcome = 0 && !s2.is F.QE_REP_CFG_all then s2
    else
      let r := s2.blockPush (1 + c) (reportBytes m outcome 0 s2.mt n)
      if r.1 then r.2 else (r.2.count F.QE_CNT_MISC_rep_lost).qeFault 0x0302 (1 + c)
  | .copy n => s2.onQe (fun e => { e with copies := upd e.copies n (fun o => o.map (fun k => { k with outcome := some outcome })) })
  | .block => s2

/-! ## Rollback (R201) -/

/-- The bytes of a stream's partial message that its buffer still holds are discarded (R201). -/
def State.streamCut (s : State) (n left : Nat) : State :=
  { s with hsp := { s.hsp with ins := upd s.hsp.ins n (fun l => l.drop (8 * left)) } }

/-- A queue's open reservation rolled back; a fabric sender that is alive hears NO_ACK. -/
def State.qRollback (s : State) (q : Nat) (alive : Bool) : State :=
  match s.resvOf q with
  | none => s
  | some r =>
    let s1 := (if (s.qe.cache.any (fun l => l.queue = q)) then s else s.qTouch q).qPut q
      (fun d => { d with resv := d.prod, rollbacks := satAdd d.rollbacks 1 65535 })
    let s2 := (s1.onQe (fun e => { e with openResv := e.openResv.filter (·.queue ≠ q) })).count F.QE_CNT_MISC_rollbacks
    match r.who with
    | .fabric src seq _ => if alive then (s2.launch { dst := src, seq := seq, body := .ans 6 q }).2 else s2
    | .stream n => s2.streamCut n ((s2.qDesc q).span * (s2.qDesc q).esize - r.got)
    | .copy _ => s2

/-- Every open reservation that a writer test names is rolled back. -/
def State.qRollbackAll (s : State) (test : Writer → Bool) (alive : Bool) : State :=
  ((s.qe.openResv.filter (fun r => test r.who)).map (·.queue)).foldl (fun t q => t.qRollback q alive) s

/-! ## The transmit buffer (R199) -/

/-- A remote message accepted for transmission, unless the buffer holds 64 (R199). -/
def State.txAccept (s : State) (dst q : Nat) (l : List Byte) (o : TxOrigin) : Bool × State :=
  if 64 ≤ s.qe.tx.length then (false, s)
  else
    let r := s.newSeq
    let s1 := r.2.onQe (fun e => { e with tx := e.tx ++ [{ seq := r.1, dst := dst, queue := q, bytes := l, origin := o }] })
    (true, s1.setFld F.QE_STATUS_tx_held s1.qe.tx.length)

/-- A message of the buffer changed. -/
def State.onTx (s : State) (seq : Nat) (f : TxMsg → TxMsg) : State :=
  s.onQe (fun e => { e with tx := e.tx.map (fun m => if m.seq = seq then f m else m) })

/-- A message of the buffer waits behind an earlier one to the same node and queue (R199). -/
def State.txBehind (s : State) (m : TxMsg) : Bool :=
  ((s.qe.tx.takeWhile (fun x => x.seq ≠ m.seq)).any (fun x => x.dst = m.dst && x.queue = m.queue))

/-- The destination is a member this Manager has declared lost by removal or silence, or one it does not know (R243, R229). -/
def State.lostMember (s : State) (dst : Nat) : Bool :=
  s.isManager && dst / 16 = s.postNo && (s.member (dst % 16)).state = 5 && (s.member (dst % 16)).cause ≠ 2

/-- One message of the buffer sent now, all its segments along one route (R228, R233); NO_ROUTE, LOST or a lane-S DENIED ends it (R200,
R223, R229). -/
def State.txSend (s : State) (m : TxMsg) (alt : Bool) : State :=
  if m.dst = 0xFFFF then
    let t := s.takeFree 1
    (((t.2.broadcast (decide (t.1 = 1)) m.queue m.bytes).count F.QE_CNT_TX_messages)).txDone { m with origin := .block } 0
  else if laneSQueue m.queue && 64 < m.bytes.length then s.txDone m 3
  else if s.lostMember m.dst then (s.count F.QE_CNT_MISC_lost_refused).txDone m 5
  else
    match s.pickRoute (s.routesTo m.dst) alt with
    | none => (s.count F.STF_CNT_DROP_no_route).txDone { m with attempts := m.attempts + 1 } 4
    | some r =>
      let fs := segments { dst := m.dst, queue := m.queue, seq := m.seq, rtx := decide (0 < m.rtx) } m.bytes
      let s1 := fs.foldl (fun t f => t.sendAlong f r) s
      (s1.onTx m.seq (fun x => { x with phase := .sent, since := s1.mt, attempts := satAdd x.attempts 1 255 })).setWord Reg.QE_CNT_TX
        (s1.word Reg.QE_CNT_TX + (if m.attempts = 0 then 1#32 else 0#32))

/-- Every message of the buffer that is due and waits behind none is sent. -/
def State.txRun (s : State) : State :=
  ((s.qe.tx.filter (fun m => decide (m.phase = .ready))).map (·.seq)).foldl (fun t q =>
    match t.qe.tx.find? (fun m => m.seq = q) with
    | some m => if t.txBehind m then t else t.txSend m false
    | none => t) s

end Sys2Proof.Machine
end

