-- ==== Sys2Proof/Machine/KvOps.lean ====
section
/-! DEFINITION. The key vault's shared operations (07_key_vault.md): slots and the checks on them (R131 to R135, R139), tickets and their
completion (R138, R149), the sweep (R137), submission through the update engine's port. -/

namespace Sys2Proof.Machine

open Sys2Proof

/-- The vault changed. -/
def State.onKv (s : State) (f : Kv → Kv) : State := { s with kv := f s.kv }

/-- The lifecycle state (R143). -/
def State.lc (s : State) : Nat := s.fld F.KV_LC_state

/-- Slot `n`. -/
def State.key (s : State) (n : Nat) : KvKey := s.kv.slots.getD n {}

/-- Slot `n` changed. -/
def State.onKey (s : State) (n : Nat) (f : KvKey → KvKey) : State := s.onKv (fun k => { k with slots := upd k.slots n f })

/-- KV_TAP.level of a lifecycle state (Table KV-8). -/
def tapLevelOf (lc : Nat) : Nat := [4, 3, 0, 2, 1].getD lc 0

/-- The registers that show the vault's nonvolatile values, once they are loaded (R452, Table KV-14). -/
def State.kvShow (s : State) : State :=
  if s.kv.loaded then
    let k := s.kv
    let t := ((((s.setFld F.KV_LC_fuses k.fuses).setFld F.KV_LC_service_entries k.service).setFld F.KV_SWEEP_wiped k.wiped).setFld
      F.KV_SIGN_CNT_signs k.signs).setFld F.KV_TAP_sessions k.sessions
    match k.nvPending with
    | some p => (t.setFld F.KV_LC_pending 1).setFld F.KV_LC_target p.2
    | none => (t.setFld F.KV_LC_pending 0).setFld F.KV_LC_target 0
  else s

/-- A fault of R149 that KV_FAULT records. -/
def State.kvFault (s : State) (code : Nat) : State := s.fault code (some Reg.KV_FAULT)

/-- EVT_KV, to its fixed cores (Table CPU-4; assumption 9). -/
def State.evtKv (s : State) : State := s.deliver 24 (maskCores (Config.eventCores 24))

/-! ## Algorithms (Table KV-2) -/

/-- Bytes of a symmetric key: an AEAD key holds its IV after the AES key; 0 for another algorithm. -/
def symLen (alg : Nat) : Nat :=
  match alg with | 1 => 16 | 2 => 32 | 3 => 28 | 4 => 44 | 8 => 32 | 9 => 48 | _ => 0

/-- Bytes of a curve's secret, 0 for another algorithm. -/
def scalarLen (alg : Nat) : Nat :=
  match alg with | 0x10 => 32 | 0x11 => 48 | 0x12 => 66 | 0x20 => 32 | 0x21 => 57 | _ => 0

/-- Bytes of a public part as EXPORT_PUB encodes it. -/
def pubLen (alg : Nat) : Nat :=
  match alg % 128 with | 0x10 => 65 | 0x11 => 97 | 0x12 => 133 | 0x20 => 32 | 0x21 => 57 | _ => 0

/-- Bytes of a signature. -/
def sigLen (alg : Nat) : Nat :=
  match alg % 128 with | 0x10 => 64 | 0x11 => 96 | 0x12 => 132 | 0x20 => 64 | 0x21 => 114 | _ => 0

/-- A symmetric key or secret. -/
def isSym (alg : Nat) : Bool := symLen alg ≠ 0
/-- A key pair of a curve. -/
def isPairAlg (alg : Nat) : Bool := scalarLen alg ≠ 0
/-- A public-only key. -/
def isPubOnly (alg : Nat) : Bool := 128 ≤ alg && scalarLen (alg - 128) ≠ 0
/-- An AES key. -/
def isAes (alg : Nat) : Bool := 1 ≤ alg && alg ≤ 4

/-- The usage bits an algorithm allows (R133); a public-only key verifies. -/
def usageOf (alg : Nat) : Nat :=
  if isAes alg then 0x19C
  else if alg = 8 || alg = 9 then 0x30
  else if 0x10 ≤ alg && alg ≤ 0x12 then 0x43
  else if alg = 0x20 || alg = 0x21 then 0x03
  else if isPubOnly alg then 0x02
  else 0

/-- Bytes cut or filled with zeros to a length. -/
def fitBytes (n : Nat) (l : List Byte) : List Byte := (l ++ List.replicate n 0).take n

/-! ## Commands (Table KV-3) -/

/-- A command as the block and its buffers give it. -/
structure KvCmd where
  op : Nat
  sa : Nat
  sb : Nat
  fl : Nat
  alg : Nat
  pol : Nat
  cls : Nat
  use : Nat
  inA : Nat
  inL : Nat
  outA : Nat
  outC : Nat
  auxA : Nat
  auxL : Nat
  label : Nat
  port : Bool
  inp : List Byte
  aux : List Byte

/-- A field of a block. -/
def blockAt (b : List Byte) (o n : Nat) : Nat := leNat ((b.drop o).take n)

/-- The command of a ticket. -/
def State.kvCmd (s : State) (t : KvTicket) : KvCmd :=
  let at_ := blockAt t.block
  let na := at_ 4 4
  let c : KvCmd :=
    { op := at_ 0 1, sa := at_ 1 1, sb := at_ 2 1, fl := at_ 3 1, alg := na % 256, pol := na / 256 % 4, cls := na / 1024 % 8,
      use := na / 65536, inA := at_ 8 4, inL := at_ 12 4, outA := at_ 16 4, outC := at_ 20 4, auxA := at_ 24 4, auxL := at_ 28 4,
      label := at_ 32 4, port := t.job.isSome, inp := [], aux := [] }
  match t.job with
  | some (_, i, a) => { c with inp := i, aux := a, inL := i.length, auxL := a.length }
  | none =>
    { c with inp := if inSram c.inA c.inL then s.readBytes c.inA c.inL else [],
             aux := if inSram c.auxA c.auxL then s.readBytes c.auxA c.auxL else [] }

/-- The flags an operation uses (Table KV-4). -/
def flagsOf (op : Nat) : Nat :=
  match op with | 4 => 7 | 8 => 1 | 9 => 3 | 10 => 1 | 11 => 1 | 13 => 1 | _ => 0

/-- No reserved opcode and no nonzero reserved field (Table KV-14, KV_REFUSE). -/
def blockOk (b : List Byte) : Bool :=
  let op := blockAt b 0 1
  1 ≤ op && op ≤ 20 && (blockAt b 3 1) &&& (255 - flagsOf op) = 0 && blockAt b 4 4 / 8192 % 8 = 0 &&
  ((b.drop 0x24).take 24).all (· = 0)

/-! ## Checks when a command starts; each gives the fault codes that hold -/

/-- The code of a condition. -/
def failIf (b : Bool) (code : Nat) : List Nat := if b then [code] else []

/-- The role (R131). -/
def State.kvRole (s : State) (c : KvCmd) : List Nat :=
  failIf (s.isWorker && !(c.op = 0x0D || (c.op = 0x09 && c.fl.testBit 1) || ((c.op = 0x13 || c.op = 0x0E || c.op = 0x14) && c.sa = 0))) 0x0D0C

/-- RETIRED leaves the last row of Table KV-7. -/
def State.kvRetired (s : State) (c : KvCmd) : List Nat :=
  failIf (s.lc = 4 && !([0x09, 0x0D, 0x0E, 0x13, 0x14].contains c.op)) 0x0D0B

/-- Two buffers share a byte. -/
def overlap (a n b m : Nat) : Bool := n ≠ 0 && m ≠ 0 && a < b + m && b < a + n

/-- The buffers (R139); a port submission brings its own. A buffer of length 0 holds no address. -/
def kvBuffers (c : KvCmd) : List Nat :=
  if c.port then []
  else
    let out := fun (a n : Nat) => n ≠ 0 && !inSram a n
    let inPlace := (c.op = 0x0A || c.op = 0x0B) && c.inA = c.outA
    failIf (out c.inA c.inL || out c.outA c.outC || out c.auxA c.auxL || overlap c.inA c.inL c.auxA c.auxL ||
        overlap c.outA c.outC c.auxA c.auxL || (!inPlace && overlap c.inA c.inL c.outA c.outC)) 0x0D06 ++
      failIf (0x100000 < c.inL) 0x0D10

/-- The named slot is ACTIVE (R136). -/
def State.kvActive (s : State) (n : Nat) : List Nat :=
  match (s.key n).state with | 0 => [0x0D01] | 1 => [] | _ => [0x0D02]

/-- The key in an ACTIVE slot has a usage bit, and passes further checks. -/
def State.kvUse (s : State) (n usage : Nat) (more : KvKey → List Nat) : List Nat :=
  let f := s.kvActive n
  if f ≠ [] then f else failIf (!(s.key n).usage.testBit usage) 0x0D03 ++ more (s.key n)

/-- OWNER keys in SERVICE (Table KV-7). -/
def State.kvOwner (s : State) (k : KvKey) : List Nat := failIf (k.cls = 2 && s.lc = 3) 0x0D0B

/-- The random generator is needed (R141). -/
def State.kvRandom (s : State) : List Nat := failIf (!s.is F.KV_RNG_health_ok) 0x0D0D

/-- Classes a lifecycle state lets be created (Table KV-7). -/
def State.classOk (s : State) (cls : Nat) : Bool :=
  match cls with
  | 1 => s.lc = 0
  | 2 => s.lc = 1 || s.lc = 2
  | 3 => s.lc = 3
  | _ => s.lc ≠ 4

/-- The conditions on a new key (R132 to R135, R137, Table KV-7). -/
def State.kvCreate (s : State) (c : KvCmd) (alg cls use : Nat) (parent : Nat) : List Nat :=
  failIf (!(8 ≤ c.sb)) 0x0D10 ++ failIf (!(1 ≤ cls && cls ≤ 4)) 0x0D10 ++ failIf ((cls = 4) != (192 ≤ c.sb)) 0x0D10 ++
  failIf (8 ≤ c.sb && (s.key c.sb).state ≠ 0) 0x0D09 ++
  failIf (!s.classOk cls) 0x0D0B ++
  failIf (!(isSym alg || isPairAlg alg || isPubOnly alg)) 0x0D05 ++
  failIf (use &&& (65535 - usageOf alg) ≠ 0) 0x0D03 ++
  failIf (c.pol = 3) 0x0D10 ++
  (if parent = 0xFF then []
   else failIf (c.sb < 192 && !(1 ≤ parent && parent ≤ 191)) 0x0D10 ++ s.kvActive parent ++
    failIf ((s.key parent).state = 1 && 3 ≤ (s.key parent).depth) 0x0D08)

/-- The output fits its buffer (R139). -/
def kvFits (c : KvCmd) (n : Nat) : List Nat := failIf (c.outC < n) 0x0D07

/-- The key a creating command makes: its place in the tree (R135), the policy of a DERIVED key no looser than its parent's (R134). -/
def State.newKey (s : State) (c : KvCmd) (origin parent alg cls use pol : Nat) (mat pub : List Byte) : KvKey :=
  let p := s.key parent
  { state := 1, alg := alg, origin := origin, policy := if origin = 2 && parent ≠ 0xFF then min pol p.policy else pol, cls := cls, usage := use,
    parent := parent, depth := if parent = 0xFF then 0 else p.depth + 1, gen := satAdd (s.key c.sb).gen 1 65535, label := c.label,
    mat := mat, pub := pub }

/-- One of the fault codes that hold: where several do, the spec does not say which is reported (assumption 17). -/
def State.pickFault (s : State) (l : List Nat) : Option Nat × State :=
  match l.eraseDups with
  | [] => (none, s)
  | [a] => (some a, s)
  | l => let r := s.takeFree 8; (some (l.getD (r.1 % l.length) 0), r.2)

/-- A command's effect: the fault where one of its conditions fails, otherwise what it does. -/
def State.kvGuard (s : State) (fails : List Nat) (f : State → KvEffect × State) : KvEffect × State :=
  let r := s.pickFault fails
  match r.1 with
  | some code => (.failed code, r.2)
  | none => f r.2

/-- Output of the random generator for one use (R141). -/
def State.random (s : State) : List Byte × State := let r := s.takeFree 256; (leBytes 32 r.1, r.2)

/-! ## Tickets -/

/-- A ticket changed. -/
def State.onTicket (s : State) (id : Nat) (f : KvTicket → KvTicket) : State :=
  s.onKv (fun k => { k with tickets := k.tickets.map (fun t => if t.id = id then f t else t) })

/-- The ticket fails. -/
def State.ticketFail (s : State) (id code : Nat) : State := (s.onTicket id (fun t => { t with phase := 4, code := code })).evtKv

/-- Outstanding tickets of an owner. -/
def State.ticketsOf (s : State) (owner : Nat) : Nat := (s.kv.tickets.filter (fun t => t.owner = owner)).length

/-- Every queued ticket fails with KV_LC_ABORT (R145, Table KV-11). -/
def State.kvAbortQueued (s : State) : State :=
  (s.kv.tickets.filter (fun t => t.phase = 1)).foldl (fun u t => u.ticketFail t.id 0x0D0F) s

/-- The vault takes a block, or refuses it with its reason (R84, R138, KV_REFUSE); the ticket number is one that is not outstanding, which the
spec does not choose. -/
def State.kvSubmit (s : State) (owner : Nat) (block : List Byte) (addr : Nat) (job : Option (KvJob × List Byte × List Byte)) : Nat × State :=
  let why :=
    if s.is F.KV_STATUS_lc_busy || s.duskWarn then 2
    else if 16 ≤ s.ticketsOf owner then 1
    else if !blockOk block then 3
    else 0
  if why ≠ 0 then (0, ((s.setFld F.KV_REFUSE_reason why).setFld F.KV_REFUSE_core owner).setFld F.KV_STATUS_refused 1)
  else
    let r := s.takeFree 8
    let ids := ((List.range 255).map (fun i => (r.1 + i) % 255 + 1)).filter (fun i => s.kv.tickets.all (fun t => t.id ≠ i))
    let id := ids.headD 0
    (id, r.2.onKv (fun k => { k with tickets := k.tickets ++ [{ id := id, owner := owner, block := block, addr := addr, job := job }] }))

/-- A submission of the update engine's port (R138): an operation on a slot with its input and auxiliary bytes. -/
def State.kvPort (s : State) (job : KvJob) (op slot : Nat) (inp aux : List Byte) : Nat × State :=
  s.kvSubmit 5 (leBytes 1 op ++ leBytes 1 slot ++ leBytes 18 0 ++ leBytes 4 4096 ++ leBytes 40 0) 0 (some (job, inp, aux))

/-- The port's ticket for a job, if any. -/
def State.kvJob (s : State) (job : KvJob) : Option KvTicket :=
  s.kv.tickets.find? (fun t => match t.job with | some (j, _) => j = job | none => false)

/-- A ticket released. -/
def State.kvRelease (s : State) (id : Nat) : State := s.onKv (fun k => { k with tickets := k.tickets.filter (fun t => t.id ≠ id) })

/-! ## Starting and completing a command (R138) -/

/-- The oldest queued ticket. -/
def State.kvHead (s : State) : Option KvTicket := s.kv.tickets.find? (fun t => t.phase = 1)

/-- A command of one operation starts: it is the oldest queued one, none runs, no transition waits, and the self-tests have ended (R138, R145,
R149, R150). -/
def State.kvBegin (s : State) (op : Nat) (f : KvCmd → State → KvEffect × State) : State :=
  match s.kvHead with
  | none => s
  | some t =>
    let c := s.kvCmd t
    if c.op = op && s.kv.running.isNone && s.kv.lcNext.isNone && (s.is F.KV_STATUS_ready || s.is F.KV_STATUS_selftest_fail) then
      let r := if s.is F.KV_STATUS_selftest_fail then (KvEffect.failed 0x0D11, s) else f c s
      ((r.2.onKv (fun k => { k with running := some (t.id, r.1) })).onTicket t.id (fun u => { u with phase := 2 })).setFld F.KV_STATUS_busy 1
    else s

/-- Slots that descend from a slot: a child's parent is it or one of them, within the depth of a tree; a parent of 0xFF is none, so slot 255 has no
descendants (R135, R136). -/
def State.descendants (s : State) (a : Nat) : List Nat :=
  let kids := fun (ps : List Nat) => (List.range 256).filter (fun n => (s.key n).state ≠ 0 && (s.key n).parent ≠ 0xFF && ps.contains (s.key n).parent && n ≠ a)
  let d1 := kids [a]
  let d2 := kids d1
  let d3 := kids d2
  (d1 ++ d2 ++ d3).eraseDups

/-- A slot overwritten and EMPTY: its generation stays, KV_SWEEP counts it (R137). -/
def State.wipeSlot (s : State) (n : Nat) : State :=
  if (s.key n).state = 0 then s
  else ((s.onKey n (fun k => { gen := k.gen })).onKv (fun k => { k with wiped := satAdd k.wiped 1 65535 })).kvShow

/-- The sweep (R137): every INVALID and ORPHAN slot wiped; a slot that does not read back stays INVALID with KV_NV_FAIL (R149). -/
def State.sweep (s : State) (bad : List Nat) : State :=
  (List.range 256).foldl (fun t n =>
    if 2 ≤ (t.key n).state then
      (if bad.contains n && n < 192 then (t.onKey n (fun k => { k with state := 2 })).kvFault 0x0D0E else t.wipeSlot n)
    else t) s

/-- The completed command's writes: output and out_len in the submitter's block, or the port's own copy. -/
def State.kvOutput (s : State) (t : KvTicket) (out : List Byte) : State :=
  match t.job with
  | some _ => s.onTicket t.id (fun u => { u with out := out })
  | none =>
    let s1 := s.writeBytes (blockAt t.block 16 4) out
    s1.writeBytes (t.addr + 0x3C) (leBytes 4 out.length)

/-- A new key or a changed slot is committed (R140); a slot in KV NV that does not read back is INVALID with KV_NV_FAIL (R149). -/
def State.kvCommit (s : State) (n : Nat) (k : KvKey) (good : Bool) : Bool × State :=
  if good || 192 ≤ n then (true, s.onKey n (fun _ => k))
  else (false, (s.onKey n (fun _ => { k with state := 2 })).kvFault 0x0D0E)

/-- One more signature by an NV key. -/
def State.kvSigned (s : State) : State := (s.onKv (fun k => { k with signs := satAdd k.signs 1 (2 ^ 32 - 1) })).kvShow

/-- What a command does at its end; none where its NV write failed. -/
def State.kvApply (s : State) (t : KvTicket) (e : KvEffect) (good : Bool) : Nat × State :=
  match e with
  | .failed code => (code, s)
  | .done out key signs =>
    match key with
    | none => (0, let u := s.kvOutput t out; if signs then u.kvSigned else u)
    | some (n, k) =>
      let r := s.kvCommit n k good
      if r.1 then (0, r.2.kvOutput t out) else (0x0D0E, r.2)
  | .exported out slot => (0, (s.kvOutput t out).log ⟨12, 4, 0, slot, none, none⟩)
  | .invalidated a =>
    let s1 := (s.descendants a).foldl (fun u n => u.onKey n (fun k => { k with state := 3 })) (s.onKey a (fun k => { k with state := 2 }))
    if good || 192 ≤ a then (0, s1.kvOutput t []) else (0x0D0E, s1.kvFault 0x0D0E)
  | .tightened a use pol =>
    let k := s.key a
    let r := s.kvCommit a { k with usage := k.usage &&& use, policy := min k.policy pol } good
    if r.1 then (0, r.2.kvOutput t []) else (0x0D0E, r.2)

end Sys2Proof.Machine
end

