-- ==== Sys2Proof/Machine/RegTable.lean ====
section
/-! DEFINITION. The writable columns of the register file: for each field of the chapters' field tables its register, its bits, its access
code and the values it accepts (R5, Table SYS-4). A value outside the range a table gives is ignored (assumption 13). -/

namespace Sys2Proof.Machine

open Sys2Proof

/-- The access code of a writable field (Table SYS-4). -/
inductive Acc where
  | rw
  | w1c
  | wo
  /-- takes effect while seal switch sw is on: 0 CONFIG_EN, 1 METRO_EN, 3 TAMPER_EN -/
  | rws (sw : Nat)
deriving DecidableEq, Repr

/-- The values a field accepts. -/
inductive Lim where
  | any
  | within (a b : Nat)
  | signed (a b : Int)
deriving DecidableEq, Repr

/-- One writable field. -/
structure Col where
  reg : Nat
  hi : Nat
  lo : Nat
  acc : Acc
  lim : Lim
deriving DecidableEq, Repr

/-- A value is one the field accepts. -/
def Col.takes (c : Col) (v : Nat) : Bool :=
  match c.lim with
  | .any => true
  | .within a b => a ≤ v && v ≤ b
  | .signed a b => a ≤ sgn (c.hi + 1 - c.lo) v && sgn (c.hi + 1 - c.lo) v ≤ b

/-- Writable fields of SYS. -/
def colsSYS : List Col :=
  [⟨0x40000008, 9, 9, .w1c, .any⟩,
   ⟨0x4000000C, 1, 1, .w1c, .any⟩,
   ⟨0x4000000C, 2, 2, .w1c, .any⟩,
   ⟨0x40000010, 3, 0, .rw, .within 0 8⟩,
   ⟨0x40000010, 9, 9, .w1c, .any⟩,
   ⟨0x40000010, 10, 10, .w1c, .any⟩]

/-- Writable fields of TMK. -/
def colsTMK : List Col :=
  [⟨0x40001000, 0, 0, .rw, .any⟩,
   ⟨0x40001000, 1, 1, .rw, .any⟩,
   ⟨0x40001004, 1, 1, .w1c, .any⟩,
   ⟨0x40001004, 2, 2, .w1c, .any⟩,
   ⟨0x40001004, 4, 4, .w1c, .any⟩,
   ⟨0x40001004, 5, 5, .w1c, .any⟩,
   ⟨0x40001004, 6, 6, .w1c, .any⟩,
   ⟨0x40001004, 7, 7, .w1c, .any⟩,
   ⟨0x40001004, 8, 8, .w1c, .any⟩,
   ⟨0x40001004, 10, 10, .w1c, .any⟩,
   ⟨0x40001004, 11, 11, .w1c, .any⟩,
   ⟨0x40001004, 12, 12, .w1c, .any⟩,
   ⟨0x40001018, 31, 0, .wo, .any⟩,
   ⟨0x4000101C, 8, 0, .rws 1, .within 1 300⟩,
   ⟨0x4000101C, 24, 16, .rws 1, .within 1 480⟩,
   ⟨0x40001028, 1, 0, .rw, .any⟩,
   ⟨0x4000102C, 0, 0, .rw, .any⟩,
   ⟨0x4000102C, 1, 1, .rw, .any⟩,
   ⟨0x4000102C, 2, 2, .rw, .any⟩,
   ⟨0x4000102C, 3, 3, .rw, .any⟩] ++
  [⟨0x4000102C, 5, 4, .rw, .any⟩,
   ⟨0x4000102C, 7, 6, .rw, .any⟩,
   ⟨0x40001030, 21, 16, .rw, .within 1 50⟩,
   ⟨0x40001034, 2, 0, .rw, .any⟩,
   ⟨0x40001040, 31, 0, .rw, .any⟩,
   ⟨0x40001044, 23, 0, .rw, .any⟩,
   ⟨0x40001044, 24, 24, .rw, .any⟩,
   ⟨0x40001044, 29, 25, .rw, .any⟩,
   ⟨0x40001044, 30, 30, .w1c, .any⟩,
   ⟨0x40001048, 31, 0, .rw, .any⟩,
   ⟨0x4000104C, 23, 0, .rw, .any⟩,
   ⟨0x4000104C, 24, 24, .rw, .any⟩,
   ⟨0x4000104C, 29, 25, .rw, .any⟩,
   ⟨0x4000104C, 30, 30, .w1c, .any⟩,
   ⟨0x40001050, 31, 0, .rw, .any⟩,
   ⟨0x40001054, 23, 0, .rw, .any⟩,
   ⟨0x40001054, 24, 24, .rw, .any⟩,
   ⟨0x40001054, 29, 25, .rw, .any⟩,
   ⟨0x40001054, 30, 30, .w1c, .any⟩,
   ⟨0x40001058, 31, 0, .rw, .any⟩] ++
  [⟨0x4000105C, 23, 0, .rw, .any⟩,
   ⟨0x4000105C, 24, 24, .rw, .any⟩,
   ⟨0x4000105C, 29, 25, .rw, .any⟩,
   ⟨0x4000105C, 30, 30, .w1c, .any⟩,
   ⟨0x40001060, 31, 0, .rw, .any⟩,
   ⟨0x40001064, 23, 0, .rw, .any⟩,
   ⟨0x40001064, 24, 24, .rw, .any⟩,
   ⟨0x40001064, 29, 25, .rw, .any⟩,
   ⟨0x40001064, 30, 30, .w1c, .any⟩,
   ⟨0x40001068, 31, 0, .rw, .any⟩,
   ⟨0x4000106C, 23, 0, .rw, .any⟩,
   ⟨0x4000106C, 24, 24, .rw, .any⟩,
   ⟨0x4000106C, 29, 25, .rw, .any⟩,
   ⟨0x4000106C, 30, 30, .w1c, .any⟩,
   ⟨0x40001070, 31, 0, .rw, .any⟩,
   ⟨0x40001074, 23, 0, .rw, .any⟩,
   ⟨0x40001074, 24, 24, .rw, .any⟩,
   ⟨0x40001074, 29, 25, .rw, .any⟩,
   ⟨0x40001074, 30, 30, .w1c, .any⟩,
   ⟨0x40001078, 31, 0, .rw, .any⟩] ++
  [⟨0x4000107C, 23, 0, .rw, .any⟩,
   ⟨0x4000107C, 24, 24, .rw, .any⟩,
   ⟨0x4000107C, 29, 25, .rw, .any⟩,
   ⟨0x4000107C, 30, 30, .w1c, .any⟩]

/-- Writable fields of HSP. -/
def colsHSP : List Col :=
  [⟨0x40002000, 0, 0, .rw, .any⟩,
   ⟨0x40002004, 1, 1, .w1c, .any⟩,
   ⟨0x40002004, 2, 2, .w1c, .any⟩,
   ⟨0x40002004, 3, 3, .w1c, .any⟩,
   ⟨0x40002004, 4, 4, .w1c, .any⟩,
   ⟨0x40002004, 5, 5, .w1c, .any⟩,
   ⟨0x40002004, 6, 6, .w1c, .any⟩,
   ⟨0x40002008, 4, 0, .rw, .within 2 31⟩,
   ⟨0x40002008, 31, 16, .rw, .within 10 65535⟩,
   ⟨0x4000200C, 8, 8, .w1c, .any⟩,
   ⟨0x4000200C, 9, 9, .w1c, .any⟩,
   ⟨0x4000200C, 10, 10, .w1c, .any⟩,
   ⟨0x4000200C, 11, 11, .w1c, .any⟩,
   ⟨0x4000200C, 23, 16, .w1c, .any⟩,
   ⟨0x40002010, 23, 0, .rw, .any⟩,
   ⟨0x40002014, 23, 16, .wo, .any⟩,
   ⟨0x40002024, 31, 31, .w1c, .any⟩,
   ⟨0x40002040, 15, 0, .rw, .any⟩,
   ⟨0x40002040, 16, 16, .rw, .any⟩,
   ⟨0x40002044, 15, 0, .rw, .any⟩] ++
  [⟨0x40002044, 16, 16, .rw, .any⟩,
   ⟨0x40002048, 15, 0, .rw, .any⟩,
   ⟨0x40002048, 16, 16, .rw, .any⟩,
   ⟨0x4000204C, 15, 0, .rw, .any⟩,
   ⟨0x4000204C, 16, 16, .rw, .any⟩,
   ⟨0x40002050, 15, 0, .rw, .any⟩,
   ⟨0x40002050, 16, 16, .rw, .any⟩,
   ⟨0x40002054, 15, 0, .rw, .any⟩,
   ⟨0x40002054, 16, 16, .rw, .any⟩,
   ⟨0x40002058, 15, 0, .rw, .any⟩,
   ⟨0x40002058, 16, 16, .rw, .any⟩,
   ⟨0x4000205C, 15, 0, .rw, .any⟩,
   ⟨0x4000205C, 16, 16, .rw, .any⟩,
   ⟨0x40002064, 15, 0, .rw, .any⟩,
   ⟨0x40002064, 16, 16, .rw, .any⟩,
   ⟨0x40002068, 15, 0, .rw, .any⟩,
   ⟨0x40002068, 16, 16, .rw, .any⟩,
   ⟨0x4000206C, 15, 0, .rw, .any⟩,
   ⟨0x4000206C, 16, 16, .rw, .any⟩]

/-- Writable fields of QE. -/
def colsQE : List Col :=
  [⟨0x40003000, 0, 0, .rw, .any⟩,
   ⟨0x40003004, 1, 1, .w1c, .any⟩,
   ⟨0x40003004, 2, 2, .w1c, .any⟩,
   ⟨0x40003008, 0, 0, .rw, .any⟩,
   ⟨0x40003008, 4, 1, .rw, .any⟩,
   ⟨0x40003008, 31, 13, .rw, .any⟩,
   ⟨0x4000300C, 3, 0, .rw, .any⟩,
   ⟨0x4000300C, 15, 8, .rw, .within 1 255⟩,
   ⟨0x4000300C, 23, 16, .rw, .within 1 255⟩,
   ⟨0x40003010, 15, 0, .rw, .any⟩,
   ⟨0x40003014, 31, 6, .rw, .any⟩,
   ⟨0x40003018, 2, 1, .rw, .any⟩,
   ⟨0x40003018, 7, 3, .rw, .any⟩,
   ⟨0x40003018, 14, 8, .rw, .any⟩,
   ⟨0x40003018, 15, 15, .rw, .any⟩,
   ⟨0x40003018, 16, 16, .rw, .any⟩,
   ⟨0x40003018, 17, 17, .rw, .any⟩,
   ⟨0x40003018, 18, 18, .rw, .any⟩,
   ⟨0x40003018, 25, 22, .rw, .any⟩,
   ⟨0x4000301C, 15, 0, .rw, .any⟩] ++
  [⟨0x4000301C, 31, 16, .rw, .any⟩,
   ⟨0x40003030, 2, 0, .wo, .any⟩,
   ⟨0x40003034, 15, 0, .wo, .any⟩,
   ⟨0x40003034, 23, 16, .wo, .any⟩,
   ⟨0x40003038, 15, 0, .wo, .any⟩,
   ⟨0x40003038, 23, 16, .wo, .any⟩,
   ⟨0x40003040, 0, 0, .rw, .any⟩,
   ⟨0x40003054, 31, 31, .w1c, .any⟩,
   ⟨0x40003080, 31, 2, .rw, .any⟩,
   ⟨0x40003084, 31, 0, .rw, .any⟩,
   ⟨0x40003088, 24, 0, .rw, .within 0 16777216⟩,
   ⟨0x40003088, 25, 25, .rw, .any⟩,
   ⟨0x40003088, 26, 26, .wo, .any⟩,
   ⟨0x40003088, 27, 27, .wo, .any⟩,
   ⟨0x40003088, 28, 28, .rw, .any⟩,
   ⟨0x40003090, 31, 2, .rw, .any⟩,
   ⟨0x40003094, 31, 0, .rw, .any⟩,
   ⟨0x40003098, 24, 0, .rw, .within 0 16777216⟩,
   ⟨0x40003098, 25, 25, .rw, .any⟩,
   ⟨0x40003098, 26, 26, .wo, .any⟩] ++
  [⟨0x40003098, 27, 27, .wo, .any⟩,
   ⟨0x40003098, 28, 28, .rw, .any⟩]

/-- Writable fields of XMP. -/
def colsXMP : List Col :=
  [⟨0x40004000, 0, 0, .rw, .any⟩,
   ⟨0x40004000, 1, 1, .rw, .any⟩,
   ⟨0x40004004, 1, 1, .w1c, .any⟩,
   ⟨0x40004008, 1, 0, .rw, .within 0 2⟩,
   ⟨0x40004008, 5, 2, .rw, .within 0 8⟩,
   ⟨0x40004008, 12, 8, .rw, .within 4 31⟩,
   ⟨0x40004008, 20, 16, .rw, .any⟩,
   ⟨0x4000400C, 7, 0, .rw, .any⟩,
   ⟨0x4000400C, 15, 8, .rw, .any⟩,
   ⟨0x40004010, 1, 0, .rw, .within 0 2⟩,
   ⟨0x40004010, 5, 2, .rw, .within 0 8⟩,
   ⟨0x40004010, 12, 8, .rw, .within 4 31⟩,
   ⟨0x40004010, 20, 16, .rw, .any⟩,
   ⟨0x40004014, 7, 0, .rw, .any⟩,
   ⟨0x40004014, 15, 8, .rw, .any⟩,
   ⟨0x40004018, 7, 0, .rw, .any⟩,
   ⟨0x40004018, 8, 8, .rw, .any⟩,
   ⟨0x40004018, 9, 9, .rw, .any⟩,
   ⟨0x40004018, 10, 10, .rw, .any⟩,
   ⟨0x40004018, 15, 11, .rw, .any⟩] ++
  [⟨0x40004018, 24, 16, .rw, .within 0 256⟩,
   ⟨0x40004018, 31, 31, .wo, .any⟩,
   ⟨0x4000401C, 31, 0, .rw, .any⟩,
   ⟨0x40004020, 31, 2, .rw, .any⟩,
   ⟨0x4000402C, 31, 31, .w1c, .any⟩]

/-- Writable fields of STF. -/
def colsSTF : List Col :=
  [⟨0x40005000, 0, 0, .rw, .any⟩,
   ⟨0x40005000, 1, 1, .rw, .any⟩,
   ⟨0x40005000, 2, 2, .wo, .any⟩,
   ⟨0x40005000, 3, 3, .wo, .any⟩,
   ⟨0x40005000, 4, 4, .rw, .any⟩,
   ⟨0x40005004, 4, 4, .w1c, .any⟩,
   ⟨0x40005004, 5, 5, .w1c, .any⟩,
   ⟨0x40005004, 6, 6, .w1c, .any⟩,
   ⟨0x40005008, 27, 16, .rw, .any⟩,
   ⟨0x4000500C, 3, 0, .rw, .within 1 8⟩,
   ⟨0x4000500C, 5, 4, .rw, .any⟩,
   ⟨0x4000500C, 15, 8, .rw, .within 10 255⟩,
   ⟨0x40005010, 6, 0, .rw, .within 1 100⟩,
   ⟨0x40005010, 11, 8, .rw, .within 2 15⟩,
   ⟨0x40005014, 1, 0, .rw, .any⟩,
   ⟨0x40005014, 2, 2, .rw, .any⟩,
   ⟨0x40005014, 5, 4, .rw, .any⟩,
   ⟨0x40005014, 6, 6, .rw, .any⟩,
   ⟨0x40005018, 8, 0, .rw, .any⟩,
   ⟨0x4000501C, 11, 0, .rw, .any⟩] ++
  [⟨0x4000501C, 23, 12, .rw, .any⟩,
   ⟨0x4000501C, 25, 24, .rw, .any⟩,
   ⟨0x4000501C, 27, 26, .rw, .any⟩,
   ⟨0x4000501C, 28, 28, .rw, .any⟩,
   ⟨0x4000501C, 29, 29, .rw, .any⟩,
   ⟨0x40005020, 1, 0, .rw, .any⟩,
   ⟨0x40005020, 2, 2, .rw, .any⟩,
   ⟨0x40005020, 3, 3, .rw, .any⟩,
   ⟨0x40005020, 4, 4, .rw, .any⟩,
   ⟨0x40005020, 5, 5, .rw, .any⟩,
   ⟨0x40005020, 6, 6, .wo, .any⟩,
   ⟨0x40005024, 1, 0, .rw, .any⟩,
   ⟨0x40005024, 2, 2, .rw, .any⟩,
   ⟨0x40005024, 3, 3, .rw, .any⟩,
   ⟨0x40005024, 4, 4, .rw, .any⟩,
   ⟨0x40005024, 5, 5, .rw, .any⟩,
   ⟨0x40005024, 6, 6, .wo, .any⟩,
   ⟨0x40005028, 1, 0, .rw, .any⟩,
   ⟨0x40005028, 2, 2, .rw, .any⟩,
   ⟨0x40005028, 3, 3, .rw, .any⟩] ++
  [⟨0x40005028, 4, 4, .rw, .any⟩,
   ⟨0x40005028, 5, 5, .rw, .any⟩,
   ⟨0x40005028, 6, 6, .wo, .any⟩,
   ⟨0x4000502C, 1, 0, .rw, .any⟩,
   ⟨0x4000502C, 2, 2, .rw, .any⟩,
   ⟨0x4000502C, 3, 3, .rw, .any⟩,
   ⟨0x4000502C, 4, 4, .rw, .any⟩,
   ⟨0x4000502C, 5, 5, .rw, .any⟩,
   ⟨0x4000502C, 6, 6, .wo, .any⟩,
   ⟨0x40005060, 3, 0, .rw, .within 1 15⟩,
   ⟨0x40005064, 3, 3, .rw, .any⟩,
   ⟨0x40005064, 11, 8, .rw, .any⟩,
   ⟨0x40005064, 15, 12, .rw, .any⟩,
   ⟨0x40005068, 15, 0, .rw, .any⟩,
   ⟨0x4000506C, 15, 0, .rw, .any⟩,
   ⟨0x40005084, 3, 0, .wo, .any⟩,
   ⟨0x40005084, 7, 4, .wo, .any⟩,
   ⟨0x40005084, 31, 16, .wo, .any⟩,
   ⟨0x4000509C, 31, 31, .w1c, .any⟩]

/-- Writable fields of SAF. -/
def colsSAF : List Col :=
  [⟨0x40006000, 3, 0, .rw, .any⟩,
   ⟨0x40006004, 1, 1, .w1c, .any⟩,
   ⟨0x40006004, 2, 2, .w1c, .any⟩,
   ⟨0x40006008, 0, 0, .w1c, .any⟩,
   ⟨0x40006008, 1, 1, .w1c, .any⟩,
   ⟨0x40006008, 2, 2, .w1c, .any⟩,
   ⟨0x40006008, 3, 3, .w1c, .any⟩,
   ⟨0x40006008, 4, 4, .w1c, .any⟩,
   ⟨0x40006008, 5, 5, .w1c, .any⟩,
   ⟨0x40006008, 6, 6, .w1c, .any⟩,
   ⟨0x40006008, 7, 7, .w1c, .any⟩,
   ⟨0x40006008, 8, 8, .w1c, .any⟩,
   ⟨0x40006010, 9, 0, .rws 0, .any⟩,
   ⟨0x40006014, 9, 0, .wo, .any⟩,
   ⟨0x40006014, 31, 16, .wo, .any⟩,
   ⟨0x40006018, 15, 0, .wo, .any⟩,
   ⟨0x40006020, 3, 0, .rw, .within 0 9⟩,
   ⟨0x40006034, 5, 0, .rw, .any⟩,
   ⟨0x40006038, 9, 0, .rws 0, .any⟩,
   ⟨0x40006038, 19, 12, .rws 0, .any⟩] ++
  [⟨0x40006038, 20, 20, .rws 0, .any⟩,
   ⟨0x4000603C, 3, 0, .rw, .any⟩,
   ⟨0x40006040, 3, 0, .rw, .any⟩,
   ⟨0x40006044, 9, 0, .rws 0, .within 0 1000⟩,
   ⟨0x4000604C, 5, 0, .wo, .any⟩,
   ⟨0x4000604C, 15, 8, .wo, .any⟩,
   ⟨0x40006054, 1, 0, .wo, .any⟩,
   ⟨0x40006054, 31, 16, .wo, .any⟩,
   ⟨0x40006058, 4, 4, .w1c, .any⟩,
   ⟨0x40006060, 15, 0, .w1c, .any⟩,
   ⟨0x40006060, 31, 16, .w1c, .any⟩,
   ⟨0x40006068, 31, 31, .w1c, .any⟩,
   ⟨0x40006080, 7, 0, .rws 0, .any⟩,
   ⟨0x40006080, 15, 8, .rws 0, .any⟩,
   ⟨0x40006080, 23, 16, .rws 0, .any⟩,
   ⟨0x40006080, 31, 24, .rws 0, .any⟩,
   ⟨0x40006084, 9, 0, .rws 0, .within 1 1000⟩,
   ⟨0x40006084, 19, 10, .rws 0, .within 1 1000⟩,
   ⟨0x40006084, 20, 20, .rws 0, .any⟩,
   ⟨0x40006084, 31, 21, .rws 0, .any⟩] ++
  [⟨0x4000608C, 7, 0, .rws 0, .any⟩,
   ⟨0x4000608C, 15, 8, .rws 0, .any⟩,
   ⟨0x4000608C, 23, 16, .rws 0, .any⟩,
   ⟨0x4000608C, 31, 24, .rws 0, .any⟩,
   ⟨0x40006090, 9, 0, .rws 0, .within 1 1000⟩,
   ⟨0x40006090, 19, 10, .rws 0, .within 1 1000⟩,
   ⟨0x40006090, 20, 20, .rws 0, .any⟩,
   ⟨0x40006090, 31, 21, .rws 0, .any⟩,
   ⟨0x40006098, 7, 0, .rws 0, .any⟩,
   ⟨0x40006098, 15, 8, .rws 0, .any⟩,
   ⟨0x40006098, 23, 16, .rws 0, .any⟩,
   ⟨0x40006098, 31, 24, .rws 0, .any⟩,
   ⟨0x4000609C, 9, 0, .rws 0, .within 1 1000⟩,
   ⟨0x4000609C, 19, 10, .rws 0, .within 1 1000⟩,
   ⟨0x4000609C, 20, 20, .rws 0, .any⟩,
   ⟨0x4000609C, 31, 21, .rws 0, .any⟩,
   ⟨0x400060A4, 7, 0, .rws 0, .any⟩,
   ⟨0x400060A4, 15, 8, .rws 0, .any⟩,
   ⟨0x400060A4, 23, 16, .rws 0, .any⟩,
   ⟨0x400060A4, 31, 24, .rws 0, .any⟩] ++
  [⟨0x400060A8, 9, 0, .rws 0, .within 1 1000⟩,
   ⟨0x400060A8, 19, 10, .rws 0, .within 1 1000⟩,
   ⟨0x400060A8, 20, 20, .rws 0, .any⟩,
   ⟨0x400060A8, 31, 21, .rws 0, .any⟩,
   ⟨0x40006100, 5, 0, .rw, .any⟩,
   ⟨0x40006104, 31, 0, .rws 0, .any⟩,
   ⟨0x40006108, 0, 0, .rws 0, .any⟩,
   ⟨0x40006108, 1, 1, .rws 0, .any⟩,
   ⟨0x40006108, 2, 2, .rws 0, .any⟩,
   ⟨0x40006108, 3, 3, .rws 0, .any⟩,
   ⟨0x40006108, 7, 4, .rws 0, .any⟩,
   ⟨0x40006108, 13, 8, .rws 0, .any⟩,
   ⟨0x40006108, 31, 16, .rws 0, .any⟩,
   ⟨0x4000610C, 7, 0, .rws 0, .any⟩,
   ⟨0x4000610C, 15, 8, .rws 0, .any⟩,
   ⟨0x4000610C, 24, 16, .rws 0, .any⟩,
   ⟨0x4000610C, 27, 25, .rws 0, .any⟩,
   ⟨0x4000610C, 31, 28, .rws 0, .any⟩,
   ⟨0x40006110, 5, 0, .rws 0, .any⟩,
   ⟨0x40006110, 6, 6, .rws 0, .any⟩] ++
  [⟨0x40006110, 11, 8, .rws 0, .any⟩,
   ⟨0x40006110, 15, 12, .rws 0, .any⟩,
   ⟨0x40006114, 15, 0, .rws 0, .any⟩,
   ⟨0x40006114, 31, 16, .rws 0, .any⟩,
   ⟨0x40006124, 5, 0, .wo, .any⟩,
   ⟨0x40006124, 7, 6, .wo, .any⟩,
   ⟨0x40006124, 31, 16, .wo, .any⟩,
   ⟨0x4000612C, 5, 0, .rw, .any⟩,
   ⟨0x40006130, 31, 0, .rw, .any⟩,
   ⟨0x40006134, 31, 0, .rw, .any⟩,
   ⟨0x40006138, 31, 0, .rw, .any⟩,
   ⟨0x4000613C, 31, 0, .rw, .any⟩,
   ⟨0x40006160, 1, 1, .w1c, .any⟩]

/-- Writable fields of EFM. -/
def colsEFM : List Col :=
  [⟨0x40007000, 0, 0, .rw, .any⟩,
   ⟨0x40007000, 1, 1, .rw, .any⟩,
   ⟨0x40007000, 2, 2, .rw, .any⟩,
   ⟨0x40007000, 8, 4, .rw, .any⟩,
   ⟨0x40007004, 5, 5, .w1c, .any⟩,
   ⟨0x40007008, 0, 0, .w1c, .any⟩,
   ⟨0x40007008, 1, 1, .w1c, .any⟩,
   ⟨0x40007008, 2, 2, .w1c, .any⟩,
   ⟨0x40007008, 3, 3, .w1c, .any⟩,
   ⟨0x40007008, 4, 4, .w1c, .any⟩,
   ⟨0x40007008, 5, 5, .w1c, .any⟩,
   ⟨0x4000700C, 5, 0, .rws 0, .within 35 55⟩,
   ⟨0x4000700C, 17, 8, .rws 0, .within 10 500⟩,
   ⟨0x40007018, 15, 0, .w1c, .any⟩,
   ⟨0x4000701C, 7, 0, .rws 0, .within 1 100⟩,
   ⟨0x40007024, 6, 0, .rws 0, .within 10 100⟩,
   ⟨0x40007024, 15, 8, .rws 0, .within 10 100⟩,
   ⟨0x4000702C, 6, 0, .rws 0, .within 1 100⟩,
   ⟨0x4000702C, 10, 8, .rws 0, .within 1 8⟩,
   ⟨0x4000702C, 21, 11, .rws 0, .within 50 1500⟩] ++
  [⟨0x4000702C, 27, 22, .rws 0, .within 1 60⟩,
   ⟨0x40007030, 9, 0, .rws 0, .any⟩,
   ⟨0x40007030, 24, 16, .rws 0, .any⟩,
   ⟨0x40007034, 15, 0, .rws 0, .any⟩,
   ⟨0x40007034, 31, 16, .rws 0, .any⟩,
   ⟨0x40007038, 6, 0, .rws 0, .within 10 100⟩,
   ⟨0x40007038, 15, 8, .rws 0, .any⟩,
   ⟨0x40007038, 27, 16, .rws 0, .any⟩,
   ⟨0x4000703C, 0, 0, .rw, .any⟩,
   ⟨0x4000704C, 1, 0, .wo, .any⟩,
   ⟨0x4000704C, 31, 16, .wo, .any⟩,
   ⟨0x4000705C, 31, 31, .w1c, .any⟩]

/-- Writable fields of VEH. -/
def colsVEH : List Col :=
  [⟨0x40008000, 0, 0, .wo, .any⟩,
   ⟨0x40008000, 1, 1, .rws 0, .any⟩,
   ⟨0x40008000, 8, 4, .rw, .any⟩,
   ⟨0x40008004, 4, 4, .w1c, .any⟩,
   ⟨0x40008008, 9, 0, .rw, .within 0 1000⟩,
   ⟨0x4000800C, 5, 0, .rw, .within 10 60⟩,
   ⟨0x4000800C, 11, 8, .rw, .within 1 15⟩,
   ⟨0x4000800C, 23, 16, .rw, .within 1 255⟩,
   ⟨0x4000801C, 15, 0, .rws 0, .signed (-1000) 1000⟩,
   ⟨0x4000801C, 31, 16, .rws 0, .signed (-2000) 2000⟩,
   ⟨0x40008020, 12, 0, .rws 0, .within 330 4700⟩,
   ⟨0x40008020, 16, 16, .rw, .any⟩,
   ⟨0x40008028, 0, 0, .rw, .any⟩,
   ⟨0x40008028, 1, 1, .rw, .any⟩,
   ⟨0x40008028, 2, 2, .rw, .any⟩,
   ⟨0x40008028, 3, 3, .rw, .any⟩,
   ⟨0x40008028, 15, 8, .rw, .within 1 255⟩,
   ⟨0x40008028, 18, 16, .rw, .within 0 4⟩,
   ⟨0x40008028, 31, 20, .rw, .within 0 2048⟩,
   ⟨0x40008030, 31, 0, .rw, .any⟩] ++
  [⟨0x40008034, 2, 0, .rw, .within 0 4⟩,
   ⟨0x40008034, 15, 8, .rw, .any⟩,
   ⟨0x40008038, 0, 0, .w1c, .any⟩,
   ⟨0x40008038, 1, 1, .w1c, .any⟩,
   ⟨0x40008038, 2, 2, .w1c, .any⟩,
   ⟨0x40008038, 3, 3, .w1c, .any⟩,
   ⟨0x40008038, 4, 4, .w1c, .any⟩,
   ⟨0x40008038, 5, 5, .w1c, .any⟩,
   ⟨0x40008038, 13, 6, .w1c, .any⟩,
   ⟨0x40008038, 14, 14, .w1c, .any⟩,
   ⟨0x4000803C, 31, 31, .w1c, .any⟩,
   ⟨0x40008040, 19, 0, .rw, .any⟩,
   ⟨0x40008040, 21, 20, .rw, .within 0 2⟩,
   ⟨0x40008040, 22, 22, .wo, .any⟩,
   ⟨0x40008040, 23, 23, .wo, .any⟩,
   ⟨0x40008044, 19, 0, .rw, .any⟩,
   ⟨0x40008044, 21, 20, .rw, .within 0 2⟩,
   ⟨0x40008044, 22, 22, .wo, .any⟩,
   ⟨0x40008044, 23, 23, .wo, .any⟩,
   ⟨0x40008048, 19, 0, .rw, .any⟩] ++
  [⟨0x40008048, 21, 20, .rw, .within 0 2⟩,
   ⟨0x40008048, 22, 22, .wo, .any⟩,
   ⟨0x40008048, 23, 23, .wo, .any⟩,
   ⟨0x4000804C, 19, 0, .rw, .any⟩,
   ⟨0x4000804C, 21, 20, .rw, .within 0 2⟩,
   ⟨0x4000804C, 22, 22, .wo, .any⟩,
   ⟨0x4000804C, 23, 23, .wo, .any⟩,
   ⟨0x40008050, 19, 0, .rw, .any⟩,
   ⟨0x40008050, 21, 20, .rw, .within 0 2⟩,
   ⟨0x40008050, 22, 22, .wo, .any⟩,
   ⟨0x40008050, 23, 23, .wo, .any⟩,
   ⟨0x40008054, 19, 0, .rw, .any⟩,
   ⟨0x40008054, 21, 20, .rw, .within 0 2⟩,
   ⟨0x40008054, 22, 22, .wo, .any⟩,
   ⟨0x40008054, 23, 23, .wo, .any⟩,
   ⟨0x40008058, 19, 0, .rw, .any⟩,
   ⟨0x40008058, 21, 20, .rw, .within 0 2⟩,
   ⟨0x40008058, 22, 22, .wo, .any⟩,
   ⟨0x40008058, 23, 23, .wo, .any⟩,
   ⟨0x4000805C, 19, 0, .rw, .any⟩] ++
  [⟨0x4000805C, 21, 20, .rw, .within 0 2⟩,
   ⟨0x4000805C, 22, 22, .wo, .any⟩,
   ⟨0x4000805C, 23, 23, .wo, .any⟩]

/-- Writable fields of PWR. -/
def colsPWR : List Col :=
  [⟨0x40009000, 3, 0, .rw, .any⟩,
   ⟨0x40009000, 4, 4, .rw, .any⟩,
   ⟨0x40009000, 14, 8, .rw, .any⟩,
   ⟨0x40009004, 7, 7, .w1c, .any⟩,
   ⟨0x40009004, 12, 12, .w1c, .any⟩,
   ⟨0x40009008, 0, 0, .w1c, .any⟩,
   ⟨0x40009008, 1, 1, .w1c, .any⟩,
   ⟨0x40009008, 2, 2, .w1c, .any⟩,
   ⟨0x40009008, 3, 3, .w1c, .any⟩,
   ⟨0x40009008, 4, 4, .w1c, .any⟩,
   ⟨0x40009008, 5, 5, .w1c, .any⟩,
   ⟨0x40009008, 6, 6, .w1c, .any⟩,
   ⟨0x4000900C, 0, 0, .rw, .any⟩,
   ⟨0x4000900C, 13, 8, .rw, .any⟩,
   ⟨0x4000900C, 16, 16, .wo, .any⟩,
   ⟨0x40009010, 15, 0, .rw, .within 10 65535⟩,
   ⟨0x40009014, 4, 0, .rw, .any⟩,
   ⟨0x40009014, 9, 5, .rw, .any⟩,
   ⟨0x40009014, 14, 10, .rw, .any⟩,
   ⟨0x40009014, 19, 15, .rw, .any⟩] ++
  [⟨0x40009014, 24, 20, .rw, .any⟩,
   ⟨0x40009014, 29, 25, .rw, .any⟩,
   ⟨0x40009018, 3, 0, .rw, .within 0 11⟩,
   ⟨0x4000901C, 9, 0, .rw, .within 0 1000⟩,
   ⟨0x40009020, 24, 0, .rw, .any⟩,
   ⟨0x40009020, 25, 25, .rw, .any⟩,
   ⟨0x40009020, 31, 28, .rw, .any⟩,
   ⟨0x40009024, 24, 0, .rw, .any⟩,
   ⟨0x40009024, 31, 28, .rw, .any⟩,
   ⟨0x40009028, 15, 0, .rw, .any⟩,
   ⟨0x40009028, 31, 16, .rw, .any⟩,
   ⟨0x40009030, 24, 0, .rw, .any⟩,
   ⟨0x40009030, 25, 25, .rw, .any⟩,
   ⟨0x40009030, 31, 28, .rw, .any⟩,
   ⟨0x40009034, 24, 0, .rw, .any⟩,
   ⟨0x40009034, 31, 28, .rw, .any⟩,
   ⟨0x40009038, 15, 0, .rw, .any⟩,
   ⟨0x40009038, 31, 16, .rw, .any⟩,
   ⟨0x40009040, 24, 0, .rw, .any⟩,
   ⟨0x40009040, 25, 25, .rw, .any⟩] ++
  [⟨0x40009040, 31, 28, .rw, .any⟩,
   ⟨0x40009044, 24, 0, .rw, .any⟩,
   ⟨0x40009044, 31, 28, .rw, .any⟩,
   ⟨0x40009048, 15, 0, .rw, .any⟩,
   ⟨0x40009048, 31, 16, .rw, .any⟩,
   ⟨0x40009050, 24, 0, .rw, .any⟩,
   ⟨0x40009050, 25, 25, .rw, .any⟩,
   ⟨0x40009050, 31, 28, .rw, .any⟩,
   ⟨0x40009054, 24, 0, .rw, .any⟩,
   ⟨0x40009054, 31, 28, .rw, .any⟩,
   ⟨0x40009058, 15, 0, .rw, .any⟩,
   ⟨0x40009058, 31, 16, .rw, .any⟩,
   ⟨0x40009060, 24, 0, .rw, .any⟩,
   ⟨0x40009060, 25, 25, .rw, .any⟩,
   ⟨0x40009060, 31, 28, .rw, .any⟩,
   ⟨0x40009064, 24, 0, .rw, .any⟩,
   ⟨0x40009064, 31, 28, .rw, .any⟩,
   ⟨0x40009068, 15, 0, .rw, .any⟩,
   ⟨0x40009068, 31, 16, .rw, .any⟩,
   ⟨0x40009070, 24, 0, .rw, .any⟩] ++
  [⟨0x40009070, 25, 25, .rw, .any⟩,
   ⟨0x40009070, 31, 28, .rw, .any⟩,
   ⟨0x40009074, 24, 0, .rw, .any⟩,
   ⟨0x40009074, 31, 28, .rw, .any⟩,
   ⟨0x40009078, 15, 0, .rw, .any⟩,
   ⟨0x40009078, 31, 16, .rw, .any⟩,
   ⟨0x40009080, 24, 0, .rw, .any⟩,
   ⟨0x40009080, 31, 31, .rw, .any⟩,
   ⟨0x40009084, 24, 0, .rw, .any⟩,
   ⟨0x40009084, 31, 31, .rw, .any⟩,
   ⟨0x40009088, 15, 0, .rw, .any⟩,
   ⟨0x40009088, 31, 16, .rw, .any⟩,
   ⟨0x400090B0, 7, 0, .rw, .within 1 90⟩,
   ⟨0x400090B0, 15, 8, .rw, .within 1 255⟩,
   ⟨0x400090B0, 31, 16, .rw, .within 1 65535⟩,
   ⟨0x400090B4, 11, 0, .rw, .any⟩,
   ⟨0x400090B4, 15, 12, .rw, .any⟩,
   ⟨0x400090B4, 31, 31, .rw, .any⟩,
   ⟨0x400090B8, 2, 0, .rw, .within 0 6⟩,
   ⟨0x400090B8, 31, 16, .wo, .any⟩] ++
  [⟨0x400090C0, 3, 0, .wo, .any⟩,
   ⟨0x400090C0, 7, 4, .wo, .any⟩,
   ⟨0x400090C0, 8, 8, .wo, .any⟩,
   ⟨0x400090C0, 9, 9, .wo, .any⟩,
   ⟨0x400090C4, 19, 19, .w1c, .any⟩,
   ⟨0x400090C8, 5, 0, .rw, .within 1 50⟩,
   ⟨0x400090C8, 11, 6, .rw, .within 1 50⟩,
   ⟨0x400090C8, 17, 12, .rw, .within 1 50⟩,
   ⟨0x400090C8, 25, 18, .rw, .within 1 255⟩,
   ⟨0x400090C8, 31, 26, .rw, .within 1 63⟩,
   ⟨0x400090CC, 3, 0, .rw, .any⟩,
   ⟨0x400090CC, 7, 4, .rw, .any⟩,
   ⟨0x400090CC, 11, 8, .rw, .any⟩,
   ⟨0x400090CC, 15, 12, .rw, .any⟩,
   ⟨0x400090CC, 19, 16, .rw, .any⟩,
   ⟨0x400090CC, 23, 20, .rw, .any⟩,
   ⟨0x400090CC, 27, 24, .rw, .any⟩,
   ⟨0x400090CC, 31, 28, .rw, .any⟩,
   ⟨0x400090D0, 0, 0, .rw, .any⟩,
   ⟨0x400090D0, 1, 1, .rw, .any⟩] ++
  [⟨0x400090D0, 2, 2, .rw, .any⟩,
   ⟨0x400090D0, 3, 3, .rw, .any⟩,
   ⟨0x400090D0, 4, 4, .rw, .any⟩,
   ⟨0x400090D0, 5, 5, .rw, .any⟩,
   ⟨0x400090D0, 6, 6, .rw, .any⟩,
   ⟨0x400090D0, 7, 7, .rw, .any⟩,
   ⟨0x400090D0, 8, 8, .rw, .any⟩,
   ⟨0x400090D0, 9, 9, .rw, .any⟩,
   ⟨0x400090D0, 10, 10, .rw, .any⟩,
   ⟨0x400090D0, 11, 11, .rw, .any⟩,
   ⟨0x400090D0, 12, 12, .rw, .any⟩,
   ⟨0x400090D0, 13, 13, .rw, .any⟩,
   ⟨0x400090D0, 14, 14, .rw, .any⟩,
   ⟨0x400090D0, 15, 15, .rw, .any⟩,
   ⟨0x400090D0, 27, 16, .rw, .any⟩,
   ⟨0x400090D4, 1, 0, .rw, .any⟩,
   ⟨0x400090D4, 3, 2, .rw, .any⟩,
   ⟨0x400090D4, 15, 4, .rw, .any⟩,
   ⟨0x400090D4, 27, 16, .rw, .any⟩,
   ⟨0x400090EC, 31, 0, .rw, .any⟩] ++
  [⟨0x400090F4, 31, 31, .w1c, .any⟩]

/-- Writable fields of MTR. -/
def colsMTR : List Col :=
  [⟨0x4000A000, 7, 0, .rw, .any⟩,
   ⟨0x4000A000, 11, 8, .rw, .any⟩,
   ⟨0x4000A000, 15, 12, .rws 1, .any⟩,
   ⟨0x4000A000, 19, 16, .rw, .any⟩,
   ⟨0x4000A004, 12, 12, .w1c, .any⟩,
   ⟨0x4000A008, 0, 0, .w1c, .any⟩,
   ⟨0x4000A008, 1, 1, .w1c, .any⟩,
   ⟨0x4000A008, 2, 2, .w1c, .any⟩,
   ⟨0x4000A008, 3, 3, .w1c, .any⟩,
   ⟨0x4000A008, 4, 4, .w1c, .any⟩,
   ⟨0x4000A00C, 1, 0, .wo, .any⟩,
   ⟨0x4000A00C, 11, 8, .wo, .any⟩,
   ⟨0x4000A00C, 31, 16, .wo, .any⟩,
   ⟨0x4000A010, 0, 0, .rws 1, .any⟩,
   ⟨0x4000A010, 1, 1, .rws 1, .any⟩,
   ⟨0x4000A010, 2, 2, .rws 1, .any⟩,
   ⟨0x4000A010, 4, 4, .rws 1, .any⟩,
   ⟨0x4000A010, 5, 5, .rws 1, .any⟩,
   ⟨0x4000A010, 6, 6, .rws 1, .any⟩,
   ⟨0x4000A010, 8, 8, .rws 1, .any⟩] ++
  [⟨0x4000A010, 9, 9, .rws 1, .any⟩,
   ⟨0x4000A010, 10, 10, .rws 1, .any⟩,
   ⟨0x4000A010, 12, 12, .rws 1, .any⟩,
   ⟨0x4000A010, 13, 13, .rws 1, .any⟩,
   ⟨0x4000A010, 14, 14, .rws 1, .any⟩,
   ⟨0x4000A010, 16, 16, .rws 1, .any⟩,
   ⟨0x4000A010, 17, 17, .rws 1, .any⟩,
   ⟨0x4000A010, 18, 18, .rws 1, .any⟩,
   ⟨0x4000A010, 20, 20, .rws 1, .any⟩,
   ⟨0x4000A010, 21, 21, .rws 1, .any⟩,
   ⟨0x4000A010, 22, 22, .rws 1, .any⟩,
   ⟨0x4000A010, 24, 24, .rws 1, .any⟩,
   ⟨0x4000A010, 25, 25, .rws 1, .any⟩,
   ⟨0x4000A010, 26, 26, .rws 1, .any⟩,
   ⟨0x4000A010, 28, 28, .rws 1, .any⟩,
   ⟨0x4000A010, 29, 29, .rws 1, .any⟩,
   ⟨0x4000A010, 30, 30, .rws 1, .any⟩,
   ⟨0x4000A014, 2, 0, .rws 1, .any⟩,
   ⟨0x4000A014, 5, 3, .rws 1, .any⟩,
   ⟨0x4000A014, 6, 6, .rws 1, .any⟩] ++
  [⟨0x4000A014, 10, 8, .rws 1, .any⟩,
   ⟨0x4000A014, 13, 11, .rws 1, .any⟩,
   ⟨0x4000A014, 14, 14, .rws 1, .any⟩,
   ⟨0x4000A014, 18, 16, .rws 1, .any⟩,
   ⟨0x4000A014, 21, 19, .rws 1, .any⟩,
   ⟨0x4000A014, 22, 22, .rws 1, .any⟩,
   ⟨0x4000A014, 26, 24, .rws 1, .any⟩,
   ⟨0x4000A014, 29, 27, .rws 1, .any⟩,
   ⟨0x4000A014, 30, 30, .rws 1, .any⟩,
   ⟨0x4000A018, 3, 0, .rws 1, .any⟩,
   ⟨0x4000A018, 7, 4, .rws 1, .any⟩,
   ⟨0x4000A018, 11, 8, .rws 1, .any⟩,
   ⟨0x4000A018, 15, 12, .rws 1, .any⟩,
   ⟨0x4000A01C, 7, 0, .rws 1, .any⟩,
   ⟨0x4000A01C, 15, 8, .rws 1, .any⟩,
   ⟨0x4000A01C, 23, 16, .rws 1, .any⟩,
   ⟨0x4000A01C, 31, 24, .rws 1, .any⟩,
   ⟨0x4000A020, 15, 0, .rws 1, .any⟩,
   ⟨0x4000A020, 31, 16, .rws 1, .any⟩,
   ⟨0x4000A024, 15, 0, .rws 1, .any⟩] ++
  [⟨0x4000A024, 31, 16, .rws 1, .any⟩,
   ⟨0x4000A028, 15, 0, .rws 1, .any⟩,
   ⟨0x4000A028, 31, 16, .rws 1, .any⟩,
   ⟨0x4000A02C, 15, 0, .rws 1, .any⟩,
   ⟨0x4000A02C, 31, 16, .rws 1, .any⟩,
   ⟨0x4000A030, 2, 0, .rw, .any⟩,
   ⟨0x4000A080, 18, 16, .rw, .any⟩,
   ⟨0x4000A084, 0, 0, .wo, .any⟩,
   ⟨0x4000A090, 4, 0, .rw, .any⟩,
   ⟨0x4000A09C, 1, 0, .rws 1, .any⟩,
   ⟨0x4000A09C, 2, 2, .rws 1, .any⟩,
   ⟨0x4000A09C, 3, 3, .rws 1, .any⟩,
   ⟨0x4000A09C, 24, 8, .rws 1, .within 1 100000⟩,
   ⟨0x4000A0A0, 7, 0, .rw, .any⟩,
   ⟨0x4000A0A0, 9, 8, .rw, .within 0 2⟩,
   ⟨0x4000A0A0, 11, 10, .rw, .within 0 2⟩,
   ⟨0x4000A0A0, 20, 12, .rw, .within 0 256⟩,
   ⟨0x4000A0A0, 31, 21, .rw, .within 1 2047⟩,
   ⟨0x4000A0A8, 7, 0, .rw, .any⟩,
   ⟨0x4000A0A8, 9, 8, .rw, .within 0 2⟩] ++
  [⟨0x4000A0A8, 11, 10, .rw, .within 0 2⟩,
   ⟨0x4000A0A8, 20, 12, .rw, .within 0 256⟩,
   ⟨0x4000A0A8, 31, 21, .rw, .within 1 2047⟩,
   ⟨0x4000A0B0, 1, 0, .wo, .any⟩,
   ⟨0x4000A0B4, 15, 8, .w1c, .any⟩,
   ⟨0x4000A0C0, 15, 0, .rws 1, .any⟩,
   ⟨0x4000A0C4, 15, 0, .rws 1, .any⟩,
   ⟨0x4000A0C8, 15, 0, .rws 1, .any⟩,
   ⟨0x4000A0CC, 31, 0, .rws 1, .within 1 4294967295⟩,
   ⟨0x4000A0DC, 31, 31, .w1c, .any⟩]

/-- Writable fields of BIL. -/
def colsBIL : List Col :=
  [⟨0x4000B000, 0, 0, .rws 1, .any⟩,
   ⟨0x4000B000, 2, 1, .rws 1, .any⟩,
   ⟨0x4000B000, 6, 3, .rw, .any⟩,
   ⟨0x4000B000, 9, 7, .rws 1, .within 0 4⟩,
   ⟨0x4000B004, 4, 4, .w1c, .any⟩,
   ⟨0x4000B004, 5, 5, .w1c, .any⟩,
   ⟨0x4000B008, 0, 0, .w1c, .any⟩,
   ⟨0x4000B008, 1, 1, .w1c, .any⟩,
   ⟨0x4000B008, 2, 2, .w1c, .any⟩,
   ⟨0x4000B008, 3, 3, .w1c, .any⟩,
   ⟨0x4000B008, 4, 4, .w1c, .any⟩,
   ⟨0x4000B008, 5, 5, .w1c, .any⟩,
   ⟨0x4000B008, 6, 6, .w1c, .any⟩,
   ⟨0x4000B008, 7, 7, .w1c, .any⟩,
   ⟨0x4000B008, 8, 8, .w1c, .any⟩,
   ⟨0x4000B00C, 7, 0, .rws 1, .any⟩,
   ⟨0x4000B010, 5, 0, .rws 1, .within 1 60⟩,
   ⟨0x4000B010, 27, 16, .rws 1, .signed (-720) 840⟩,
   ⟨0x4000B014, 11, 8, .rw, .any⟩,
   ⟨0x4000B014, 16, 16, .rw, .any⟩] ++
  [⟨0x4000B014, 23, 20, .rw, .any⟩,
   ⟨0x4000B018, 3, 0, .rw, .any⟩,
   ⟨0x4000B01C, 31, 0, .rw, .any⟩,
   ⟨0x4000B020, 3, 0, .rw, .any⟩,
   ⟨0x4000B03C, 1, 0, .wo, .any⟩,
   ⟨0x4000B03C, 15, 8, .wo, .any⟩,
   ⟨0x4000B03C, 31, 16, .wo, .any⟩,
   ⟨0x4000B040, 9, 0, .rw, .any⟩,
   ⟨0x4000B040, 13, 10, .rw, .any⟩,
   ⟨0x4000B040, 23, 16, .rw, .within 1 255⟩,
   ⟨0x4000B054, 31, 0, .rw, .any⟩,
   ⟨0x4000B058, 31, 0, .rw, .any⟩,
   ⟨0x4000B05C, 2, 0, .rw, .any⟩,
   ⟨0x4000B060, 0, 0, .rws 1, .any⟩,
   ⟨0x4000B060, 1, 1, .rws 1, .any⟩,
   ⟨0x4000B060, 2, 2, .rws 1, .any⟩,
   ⟨0x4000B060, 9, 4, .rws 1, .within 1 60⟩,
   ⟨0x4000B060, 13, 10, .rws 1, .within 1 15⟩,
   ⟨0x4000B074, 7, 0, .wo, .any⟩,
   ⟨0x4000B074, 31, 16, .wo, .any⟩] ++
  [⟨0x4000B078, 0, 0, .rws 1, .any⟩,
   ⟨0x4000B078, 1, 1, .rws 1, .any⟩,
   ⟨0x4000B078, 3, 2, .rws 1, .any⟩,
   ⟨0x4000B084, 31, 0, .rw, .any⟩,
   ⟨0x4000B088, 31, 0, .rw, .any⟩,
   ⟨0x4000B08C, 31, 0, .rw, .any⟩,
   ⟨0x4000B090, 31, 0, .wo, .any⟩,
   ⟨0x4000B094, 3, 0, .rw, .any⟩,
   ⟨0x4000B098, 31, 0, .rw, .any⟩,
   ⟨0x4000B0AC, 2, 0, .rw, .any⟩,
   ⟨0x4000B0B0, 31, 0, .rw, .any⟩,
   ⟨0x4000B0B8, 31, 31, .w1c, .any⟩]

/-- Writable fields of NJD. -/
def colsNJD : List Col :=
  [⟨0x4000C000, 4, 4, .w1c, .any⟩,
   ⟨0x4000C000, 5, 5, .w1c, .any⟩,
   ⟨0x4000C000, 6, 6, .w1c, .any⟩,
   ⟨0x4000C000, 7, 7, .w1c, .any⟩,
   ⟨0x4000C000, 8, 8, .w1c, .any⟩,
   ⟨0x4000C000, 9, 9, .w1c, .any⟩,
   ⟨0x4000C000, 10, 10, .w1c, .any⟩,
   ⟨0x4000C008, 15, 0, .rws 1, .signed (-30000) 30000⟩,
   ⟨0x4000C00C, 7, 0, .rws 1, .any⟩,
   ⟨0x4000C00C, 15, 8, .rws 1, .any⟩,
   ⟨0x4000C00C, 16, 16, .rws 1, .any⟩,
   ⟨0x4000C018, 1, 0, .rws 3, .within 0 2⟩,
   ⟨0x4000C018, 7, 4, .rws 3, .within 1 8⟩,
   ⟨0x4000C018, 11, 8, .rws 3, .within 1 15⟩,
   ⟨0x4000C01C, 1, 0, .rws 3, .within 0 2⟩,
   ⟨0x4000C01C, 2, 2, .rws 3, .any⟩,
   ⟨0x4000C01C, 5, 4, .rws 3, .within 0 2⟩,
   ⟨0x4000C01C, 6, 6, .rws 3, .any⟩,
   ⟨0x4000C01C, 9, 8, .rws 3, .within 0 2⟩,
   ⟨0x4000C01C, 10, 10, .rws 3, .any⟩] ++
  [⟨0x4000C01C, 13, 12, .rws 3, .within 0 2⟩,
   ⟨0x4000C01C, 14, 14, .rws 3, .any⟩,
   ⟨0x4000C020, 7, 0, .rws 3, .within 5 255⟩,
   ⟨0x4000C020, 8, 8, .rws 3, .any⟩,
   ⟨0x4000C024, 7, 0, .rws 3, .within 1 255⟩,
   ⟨0x4000C024, 8, 8, .rws 3, .any⟩,
   ⟨0x4000C028, 7, 0, .rws 3, .any⟩,
   ⟨0x4000C028, 15, 8, .rws 3, .any⟩,
   ⟨0x4000C028, 16, 16, .rws 3, .any⟩,
   ⟨0x4000C030, 7, 0, .rws 3, .any⟩,
   ⟨0x4000C050, 11, 0, .rw, .any⟩,
   ⟨0x4000C064, 15, 0, .rw, .any⟩,
   ⟨0x4000C064, 23, 16, .rw, .any⟩,
   ⟨0x4000C068, 31, 0, .wo, .any⟩,
   ⟨0x4000C06C, 3, 0, .rw, .any⟩,
   ⟨0x4000C074, 31, 31, .w1c, .any⟩]

/-- Writable fields of KV. -/
def colsKV : List Col :=
  [⟨0x4000D000, 6, 0, .rw, .within 1 100⟩,
   ⟨0x4000D004, 4, 4, .w1c, .any⟩,
   ⟨0x4000D00C, 2, 0, .wo, .any⟩,
   ⟨0x4000D00C, 15, 8, .wo, .any⟩,
   ⟨0x4000D010, 15, 0, .wo, .any⟩,
   ⟨0x4000D018, 7, 0, .rw, .any⟩,
   ⟨0x4000D050, 31, 31, .w1c, .any⟩]

/-- Writable fields of UPD. -/
def colsUPD : List Col :=
  [⟨0x4000E000, 0, 0, .rw, .any⟩,
   ⟨0x4000E008, 7, 0, .rws 0, .any⟩,
   ⟨0x4000E00C, 27, 12, .rw, .any⟩,
   ⟨0x4000E010, 16, 0, .rw, .within 0 65536⟩,
   ⟨0x4000E01C, 4, 0, .rw, .any⟩,
   ⟨0x4000E01C, 11, 8, .rw, .any⟩,
   ⟨0x4000E028, 15, 0, .wo, .any⟩,
   ⟨0x4000E028, 31, 16, .wo, .any⟩,
   ⟨0x4000E02C, 15, 0, .wo, .any⟩,
   ⟨0x4000E034, 4, 0, .rw, .any⟩,
   ⟨0x4000E044, 31, 31, .w1c, .any⟩]

/-- Writable fields of RBN. -/
def colsRBN : List Col :=
  [⟨0x4000F000, 1, 0, .rw, .within 0 2⟩,
   ⟨0x4000F000, 2, 2, .rw, .any⟩,
   ⟨0x4000F000, 7, 4, .rw, .any⟩,
   ⟨0x4000F004, 5, 5, .w1c, .any⟩,
   ⟨0x4000F008, 0, 0, .w1c, .any⟩,
   ⟨0x4000F008, 1, 1, .w1c, .any⟩,
   ⟨0x4000F008, 2, 2, .w1c, .any⟩,
   ⟨0x4000F008, 3, 3, .w1c, .any⟩,
   ⟨0x4000F008, 4, 4, .w1c, .any⟩,
   ⟨0x4000F00C, 2, 0, .rw, .within 1 7⟩,
   ⟨0x4000F00C, 11, 8, .rw, .within 8 14⟩,
   ⟨0x4000F00C, 12, 12, .rw, .any⟩,
   ⟨0x4000F014, 6, 0, .rw, .within 5 100⟩,
   ⟨0x4000F014, 11, 8, .rw, .within 1 15⟩,
   ⟨0x4000F014, 12, 12, .wo, .any⟩,
   ⟨0x4000F018, 11, 0, .rw, .any⟩,
   ⟨0x4000F018, 27, 16, .rw, .any⟩,
   ⟨0x4000F024, 7, 0, .rw, .within 5 255⟩,
   ⟨0x4000F028, 7, 0, .rws 0, .any⟩,
   ⟨0x4000F028, 15, 8, .rws 0, .any⟩] ++
  [⟨0x4000F02C, 0, 0, .rw, .any⟩,
   ⟨0x4000F02C, 1, 1, .rw, .any⟩,
   ⟨0x4000F02C, 7, 2, .rw, .within 1 32⟩,
   ⟨0x4000F02C, 11, 8, .rw, .within 1 15⟩,
   ⟨0x4000F02C, 23, 16, .rw, .within 1 255⟩,
   ⟨0x4000F044, 0, 0, .rws 1, .any⟩,
   ⟨0x4000F048, 0, 0, .rws 0, .any⟩,
   ⟨0x4000F04C, 13, 13, .w1c, .any⟩,
   ⟨0x4000F060, 31, 31, .w1c, .any⟩]

/-- Writable fields of CPU. -/
def colsCPU : List Col :=
  [⟨0x40010000, 0, 0, .rws 0, .any⟩,
   ⟨0x40010000, 1, 1, .rw, .any⟩,
   ⟨0x40010008, 31, 0, .rw, .any⟩,
   ⟨0x4001000C, 3, 1, .wo, .any⟩,
   ⟨0x4001000C, 7, 5, .wo, .any⟩,
   ⟨0x40010010, 31, 31, .w1c, .any⟩,
   ⟨0x40010014, 3, 0, .rw, .any⟩,
   ⟨0x40010014, 19, 8, .rw, .within 1 4095⟩,
   ⟨0x40010018, 1, 0, .wo, .any⟩,
   ⟨0x40010018, 15, 8, .wo, .any⟩,
   ⟨0x40010020, 31, 0, .rw, .any⟩,
   ⟨0x40010024, 31, 0, .rw, .any⟩,
   ⟨0x40010028, 31, 0, .rw, .any⟩,
   ⟨0x4001002C, 31, 0, .rw, .any⟩,
   ⟨0x40010030, 31, 0, .rw, .any⟩,
   ⟨0x40010034, 9, 5, .w1c, .any⟩,
   ⟨0x40010040, 0, 0, .rw, .any⟩,
   ⟨0x40010040, 1, 1, .rw, .any⟩,
   ⟨0x40010040, 2, 2, .rw, .any⟩,
   ⟨0x40010040, 5, 4, .rw, .any⟩] ++
  [⟨0x40010040, 31, 16, .rw, .any⟩,
   ⟨0x40010044, 0, 0, .rw, .any⟩,
   ⟨0x40010044, 1, 1, .rw, .any⟩,
   ⟨0x40010044, 2, 2, .rw, .any⟩,
   ⟨0x40010044, 5, 4, .rw, .any⟩,
   ⟨0x40010044, 31, 16, .rw, .any⟩,
   ⟨0x40010048, 0, 0, .rw, .any⟩,
   ⟨0x40010048, 1, 1, .rw, .any⟩,
   ⟨0x40010048, 2, 2, .rw, .any⟩,
   ⟨0x40010048, 5, 4, .rw, .any⟩,
   ⟨0x40010048, 31, 16, .rw, .any⟩,
   ⟨0x4001004C, 0, 0, .rw, .any⟩,
   ⟨0x4001004C, 1, 1, .rw, .any⟩,
   ⟨0x4001004C, 2, 2, .rw, .any⟩,
   ⟨0x4001004C, 5, 4, .rw, .any⟩,
   ⟨0x4001004C, 31, 16, .rw, .any⟩,
   ⟨0x40010050, 15, 8, .rws 0, .within 1 255⟩,
   ⟨0x40010050, 23, 16, .rws 0, .within 10 255⟩,
   ⟨0x40010054, 15, 0, .rws 0, .any⟩,
   ⟨0x40010054, 31, 16, .rws 0, .any⟩] ++
  [⟨0x40010058, 4, 4, .w1c, .any⟩]

/-- Writable fields of DSK. -/
def colsDSK : List Col :=
  [⟨0x40011000, 0, 0, .rw, .any⟩,
   ⟨0x40011000, 1, 1, .rw, .any⟩,
   ⟨0x40011004, 5, 5, .w1c, .any⟩,
   ⟨0x4001100C, 15, 0, .wo, .any⟩,
   ⟨0x40011020, 9, 0, .rws 0, .within 20 1000⟩,
   ⟨0x40011030, 5, 0, .rws 1, .within 1 60⟩,
   ⟨0x4001103C, 31, 31, .w1c, .any⟩]

/-- The writable fields of the block of an address (Table SYS-5). -/
def blockCols (b : Nat) : List Col :=
  match b with
  | 0 => colsSYS
  | 1 => colsTMK
  | 2 => colsHSP
  | 3 => colsQE
  | 4 => colsXMP
  | 5 => colsSTF
  | 6 => colsSAF
  | 7 => colsEFM
  | 8 => colsVEH
  | 9 => colsPWR
  | 10 => colsMTR
  | 11 => colsBIL
  | 12 => colsNJD
  | 13 => colsKV
  | 14 => colsUPD
  | 15 => colsRBN
  | 16 => colsCPU
  | 17 => colsDSK
  | _ => []

/-- The writable fields of one register. -/
def colsOf (a : Nat) : List Col := (blockCols ((a - 0x40000000) / 0x1000)).filter (fun c => c.reg = a)

/-- The addresses that the tables of 22_register_index.md list, as runs of words, first and last address of each (R453). -/
def regRuns : List (Nat × Nat) :=
  [(0x40000000, 0x40000018), (0x40001000, 0x40001034), (0x40001040, 0x4000107C), (0x40002000, 0x40002024), (0x40002040, 0x4000206C), (0x40003000, 0x40003054), (0x40003080, 0x4000309C), (0x40004000, 0x4000402C), (0x40005000, 0x4000509C), (0x40006000, 0x40006068), (0x40006080, 0x400060AC), (0x400060C0, 0x400060DC), (0x40006100, 0x4000611C), (0x40006124, 0x40006124), (0x4000612C, 0x40006160), (0x40007000, 0x4000705C), (0x40008000, 0x4000805C), (0x40009000, 0x40009028), (0x40009030, 0x40009038), (0x40009040, 0x40009048)] ++
  [(0x40009050, 0x40009058), (0x40009060, 0x40009068), (0x40009070, 0x40009078), (0x40009080, 0x40009088), (0x40009090, 0x400090B8), (0x400090C0, 0x400090D4), (0x400090E0, 0x400090F4), (0x4000A000, 0x4000A0E0), (0x4000B000, 0x4000B0B8), (0x4000C000, 0x4000C034), (0x4000C03C, 0x4000C074), (0x4000D000, 0x4000D050), (0x4000D060, 0x4000D07C), (0x4000E000, 0x4000E044), (0x4000F000, 0x4000F060), (0x40010000, 0x40010018), (0x40010020, 0x40010034), (0x40010040, 0x40010058), (0x40011000, 0x4001103C)]

/-- The address is one of a register table (R453). -/
def isListed (a : Nat) : Bool := a % 4 = 0 && regRuns.any (fun r => r.1 ≤ a && a ≤ r.2)

end Sys2Proof.Machine
end

