-- ==== Sys2Proof/Machine/RegOps.lean ====
section
/-! DEFINITION. A write to a register, field by field (R5). -/

namespace Sys2Proof.Machine

open Sys2Proof

/-- A register write under way: the state, whether an RWS field has changed, whether one was refused, and whether one was refused for its
seal switch. -/
structure WrRes where
  st : State
  changed : Bool := false
  refused : Bool := false
  shut : Bool := false

/-- One field of the word acts by its access code; the owning chapter's further conditions on a value are `accept` (R5). -/
def wrCol (v : Word) (accept : Col → Nat → Bool) (r : WrRes) (c : Col) : WrRes :=
  let f : Field := ⟨c.reg, c.hi, c.lo⟩
  let old := r.st.fld f
  let new := getBits v c.hi c.lo
  match c.acc with
  | .rw => if c.takes new && accept c new then { r with st := r.st.setFld f new } else r
  | .w1c => { r with st := r.st.setFld f (old &&& (2 ^ (c.hi + 1 - c.lo) - 1 - new)) }
  | .wo => r
  | .rws sw =>
    if new = old then r
    else if !r.st.sealOn sw then { r with refused := true, shut := true }
    else if c.takes new && accept c new then { r with st := r.st.setFld f new, changed := true }
    else { r with refused := true }

/-- The named fields of a register written (R5). -/
def State.wrCols (s : State) (cs : List Col) (v : Word) (accept : Col → Nat → Bool) : WrRes := cs.foldl (wrCol v accept) { st := s }

/-- The CONFIG entries of a write (R5) and the owning block's cfg_refused. -/
def WrRes.finish (r : WrRes) (a : Nat) (flag : Option Field) : State :=
  let s1 := if r.changed then r.st.logConfig 2 a else r.st
  if r.refused then
    let s2 := s1.logConfig 1 a
    match flag with
    | some f => s2.setFld f 1
    | none => s2
  else s1

/-- A whole register written under R5 with no condition of its chapter beyond the ranges of its table. -/
def State.wrPlain (s : State) (a : Nat) (v : Word) (flag : Option Field := none) (accept : Col → Nat → Bool := fun _ _ => true) : State :=
  (s.wrCols (colsOf a) v accept).finish a flag

end Sys2Proof.Machine
end

