-- ==== Sys2Proof/Machine/MtrOps.lean ====
section
/-! DEFINITION. What the metrology block shares (18_metrology.md): calibration (R369, R370), the open step and its accumulation (R373 to R375),
gaps and the freeze (R380, Table MTR-8), the user layer's copies (R371), waveform capture (R381, R382). -/

namespace Sys2Proof.Machine

open Sys2Proof

/-- The metrology block changed. -/
def State.onMtr (s : State) (f : Mtr → Mtr) : State := { s with mtr := f s.mtr }

/-- A bit of MTR_EVT set and EVT_MTR delivered (Table MTR-11). -/
def State.mtrEvent (s : State) (f : Field) : State := (s.setFld f 1).deliver 21 (maskCores (s.fld F.MTR_CTRL_evt_mask))

/-- A fault of Table MTR-9 (R385). -/
def State.mtrFault (s : State) (code : Nat) : State := (s.fault code (some Reg.MTR_FAULT)).mtrEvent F.MTR_EVT_fault

/-- The block works: a Manager after Dawn (R366, R386). -/
def State.mtrOn (s : State) : Bool := s.isManager && s.dawnDone

/-- A METRO entry (Table MTR-1). -/
def State.logMetro (s : State) (code info data : Nat) (cont : Option Nat) : State := s.log ⟨5, code, info, data, none, cont⟩

/-! ## Numbers -/

/-- The denominator of a calibrated value: one input code is 2^−24 V, the factors of R369 are over 10^15, 10^6 and 10^3. -/
def valueDen : Int := 2 ^ 24 * 10 ^ 24

/-- The denominator of an accumulated energy in µWh: 5 ÷ 144 µWh for each watt held through a sample (R373). -/
def energyDen : Nat := 144 * (2 ^ 24 * 10 ^ 24) ^ 2

/-- The greatest whole number whose square is at most `n`, below 2^64. -/
def isqrt (n : Nat) : Nat := (List.range 64).foldr (fun b r => if (r + 2 ^ b) * (r + 2 ^ b) ≤ n then r + 2 ^ b else r) 0

/-- A number as a signed 32-bit register holds it; outside the register's range the spec states no value (assumption 2). -/
def State.fit32 (s : State) (i : Int) : Nat × State :=
  if -2147483648 ≤ i ∧ i < 2147483648 then (unsgn 32 i, s) else s.takeFree 32

/-! ## Calibration (R369, R370) -/

/-- The factory layer of a channel. -/
def State.factory (s : State) (ch : Nat) : FactoryCal := s.mtr.otp.getD ch {}

/-- The user layer of a channel. -/
def State.user (s : State) (ch : Nat) : UserCal := s.mtr.user.getD ch {}

/-- The factor of step 2, over 10^15. -/
def State.gain2 (s : State) (ch : Nat) : Int :=
  let f := s.factory ch
  let t := s.mtr.temp - 25
  (1000000 + f.gain) * (1000000000 + 100 * f.tc1 * t + f.tc2 * t * t)

/-- u4 of an input code, over 10^21 codes (steps 1, 2 and 4). -/
def State.u4 (s : State) (ch : Nat) (u : Int) : Int :=
  ((u - (s.factory ch).ofs) * s.gain2 ch - (s.user ch).ofs * 10 ^ 15) * (1000000 + (s.user ch).gain)

/-- x of an input code, over valueDen (step 5). -/
def State.calX (s : State) (ch : Nat) (u : Int) : Int :=
  s.u4 ch u * (s.user ch).scale * (if s.is (F.MTR_CH_CFG_inv ch) then -1 else 1)

/-- MTR_EFF_GAIN and MTR_EFF_OFS of every channel computed again (R370). -/
def State.mtrEff (s : State) : State :=
  (List.range 8).foldl (fun t ch =>
    let g := t.roundFree ((t.gain2 ch * (1000000 + (t.user ch).gain) - 10 ^ 21) * 100000000) (10 ^ 21)
    let o := if t.gain2 ch = 0 then (0, g.2)
      else g.2.roundFree ((t.factory ch).ofs * t.gain2 ch + (t.user ch).ofs * 10 ^ 15) (t.gain2 ch).toNat
    o.2.onMtr (fun m => { m with eff := upd m.eff ch (fun _ => (g.1, o.1)) })) s

/-! ## Sets (R373 to R375) -/

/-- Element `e` is in set `n` and in use. -/
def State.inSet (s : State) (n e : Nat) : Bool := s.fldBit (F.MTR_SET_MAP_el n) e && s.is (F.MTR_ELEM_en e)

/-- The elements of a set. -/
def State.setElems (s : State) (n : Nat) : List Nat := [0, 1, 2, 3].filter (s.inSet n)

/-- A channel gives samples: enabled 4 ms ago or earlier (R368). -/
def State.chSettled (s : State) (ch : Nat) : Bool :=
  match s.mtr.chFrom.getD ch none with
  | some t => 4 * msTicks ≤ s.mt - t
  | none => false

/-- The channels of a set's elements have settled. -/
def State.setSettled (s : State) (n : Nat) : Bool :=
  (s.setElems n).all (fun e => s.chSettled (s.fld (F.MTR_ELEM_v e)) && s.chSettled (s.fld (F.MTR_ELEM_i e)))

/-- The set is enabled. -/
def State.setEn (s : State) (n : Nat) : Bool := s.fldBit F.MTR_CTRL_set_en n

/-- A register set. -/
def State.mset (s : State) (n : Nat) : MtrSet := s.mtr.sets.getD n {}

/-- A register set changed. -/
def State.onSet (s : State) (n : Nat) (f : MtrSet → MtrSet) : State := s.onMtr (fun m => { m with sets := upd m.sets n f })

/-- The modulus of an accumulator, in units of 2^−32 µWh or µvarh (R375). -/
def accMod : Nat := 2 ^ 96

/-- An accumulator advanced by a signed amount of 2^−32 units, modulo 2^64 whole ones. -/
def accAdd (a : Nat) (d : Int) : Nat := (((a : Int) + d) % (accMod : Int)).toNat

/-- The integer part of accumulator `a` of a set. -/
def State.accInt (s : State) (n a : Nat) : Nat := (s.mset n).acc.getD a 0 / 2 ^ 32

/-- A mean power, as the sum of p over the 8 samples of a step, lies below the no-load limit of a set (R374). -/
def State.noLoad (s : State) (n : Nat) (sum : Int) : Bool :=
  decide (((sum.natAbs : Nat) : Int) * 10000000 <
    8 * valueDen ^ 2 * ((s.fld (F.MTR_NL_nl n) * s.fld (F.MTR_SETn_NOM_un n) * s.fld (F.MTR_SETn_NOM_in n) * (s.setElems n).length : Nat) : Int))

/-- The accumulators of a set advanced by a step's active and reactive energy in 2^−32 units, with their signs (R375). -/
def accStep (signed : Bool) (acc : List Nat) (pNeg qNeg : Bool) (p q : Int) : List Nat :=
  let add := fun (l : List Nat) (a : Nat) (d : Int) => upd l a (fun x => accAdd x d)
  let l1 := if signed then add (add acc 0 p) 2 q
    else
      let l := if pNeg then add acc 1 (-p) else add acc 0 p
      if qNeg then add l 3 (-q) else add l 2 q
  add l1 (if pNeg then (if qNeg then 6 else 5) else (if qNeg then 7 else 4)) (if qNeg then -q else q)

/-- Energy toward the pulse output (R378): whole quanta become pulses, held up to 255. -/
def State.pulseAdd (s : State) (p : Int) : State :=
  let e := if s.is F.MTR_PULSE_CFG_dir then p.toNat else p.natAbs
  let total := s.mtr.pulseE + e
  let q := 10 ^ 9 * energyDen
  let c := s.fld F.MTR_PULSE_CFG_const
  let n := total * c / q
  let held := s.mtr.pulses + n
  let s1 := s.onMtr (fun m => { m with pulseE := if c = 0 then total else (total * c - n * q) / c, pulses := min held 255 })
  s1.count F.MTR_CNT_pulse_lost (held - min held 255)

/-- The open step of a set is closed: no-load suppression, accumulation in 2^−32 units with the rounding left open (assumption 12), the pulse output
(R374, R375, R378). -/
def State.closeStep (s : State) (n : Nat) : State :=
  let k := s.mset n
  let p : Int := if s.noLoad n k.p then 0 else 5 * k.p
  let q : Int := if s.noLoad n k.q then 0 else 5 * k.q
  let a := s.roundFree (p * 2 ^ 32) energyDen
  let b := a.2.roundFree (q * 2 ^ 32) energyDen
  let signed := s.fldBit F.MTR_CTRL_accum_mode n
  let s1 := b.2.onSet n (fun x =>
    { x with acc := accStep signed x.acc (decide (p < 0)) (decide (q < 0)) a.1 b.1, p := 0, q := 0, n := 0, lastP := p })
  let s2 := s1.setFldBit F.MTR_STATUS_nl n (s.noLoad n k.p || s.noLoad n k.q)
  if s2.is F.MTR_PULSE_CFG_en && s2.fld F.MTR_PULSE_CFG_set = n then s2.pulseAdd p else s2

/-- A set stops: its partial step is added (Table MTR-8). -/
def State.stopSet (s : State) (n : Nat) : State :=
  if (s.mset n).live then (s.closeStep n).onSet n (fun k => { k with live := false }) else s

/-- The sets that accumulate, as a mask. -/
def State.liveSets (s : State) : Nat := ([0, 1, 2, 3].filter (fun n => (s.mset n).live)).foldl (fun m n => m + 2 ^ n) 0

/-- Sampling stops (Table MTR-8): the open steps are closed at the last sample, and a gap begins for the enabled sets. -/
def State.mtrGapBegin (s : State) : State :=
  let m := s.liveSets
  let s1 := [0, 1, 2, 3].foldl (fun t n => t.stopSet n) s
  if m = 0 || s1.mtr.gapFrom.isSome then s1 else s1.onMtr (fun k => { k with gapFrom := some (s.mt, m) })

/-- Accumulation resumes after a gap: MTR_GAP, METRO code 6 (Table MTR-8). -/
def State.mtrGapEnd (s : State) : State :=
  match s.mtr.gapFrom with
  | none => s
  | some (t, m) =>
    let lost := (s.mt - t + msTicks - 1) / msTicks
    let s1 := (s.onMtr (fun k => { k with gapFrom := none })).count F.MTR_CNT_gap_steps lost
    (s1.logMetro 6 m lost (some t)).mtrFault 0x0A05

/-! ## Capture (R381, R382) -/

/-- A capture unit changed. -/
def State.onCap (s : State) (u : Nat) (f : Capture → Capture) : State := s.onMtr (fun m => { m with caps := upd m.caps u f })

/-- A capture unit. -/
def State.cap (s : State) (u : Nat) : Capture := s.mtr.caps.getD u {}

/-- The words of an entry as its 64 bytes, padded (R381). -/
def capBytes (l : List Word) : List Byte := ((l ++ List.replicate (16 - l.length) 0xF8000000#32).map (fun w => leBytes 4 w.toNat)).flatten

/-- Free entries of a capture queue. -/
def State.capFree (s : State) (u : Nat) : Nat × State :=
  let r := s.qReady (0x30 + u)
  if r.1 = .done then ((r.2.qDesc (0x30 + u)).free, r.2) else (0, r.2)

/-- The entry being filled is closed and published. -/
def State.capFlush (s : State) (u : Nat) : State :=
  if (s.cap u).entry.isEmpty then s
  else ((s.blockPush (0x30 + u) (capBytes (s.cap u).entry)).2).onCap u (fun c => { c with entry := [] })

/-- The header entry of a capture (Table MTR-3). -/
def State.capHeader (s : State) (u cause pre planned first : Nat) : List Byte :=
  leBytes 4 (1 + 256 * s.fld (F.MTR_CAPu_CFG_mask u) + 65536 * cause + 2 ^ 24 * u + 2 ^ 27) ++ leBytes 4 pre ++ leBytes 8 first ++
    leBytes 4 planned ++ leBytes 4 (s.cap u).lost ++ leBytes 4 (s.word Reg.TMK_ERA).toNat ++ leBytes 4 s.nj.wallSec ++ List.replicate 32 0

/-- The sample instant after the current tick (R368). -/
def State.nextSample (s : State) : Nat := (s.mt / 3125 + 1) * 3125

/-- A frame put into the entries of its unit, or dropped and counted (R382). -/
def State.capFrame (s : State) (u : Nat) (frame : List Word) : State :=
  let c := s.cap u
  let r := s.capFree u
  if c.lost ≠ 0 || r.1 < (c.entry.length + frame.length + 15) / 16 then
    (r.2.onCap u (fun k => { k with lost := k.lost + 1, frame := (k.frame + 1) % 16 })).count (F.MTR_CAPu_STATUS_dropped u)
  else
    let ws := c.entry ++ frame.map (fun w => w ||| w32 (c.frame * 2 ^ 28))
    let s1 := if 16 ≤ ws.length then (r.2.blockPush (0x30 + u) (capBytes (ws.take 16))).2 else r.2
    s1.onCap u (fun k => { k with entry := if 16 ≤ ws.length then ws.drop 16 else ws, frame := (k.frame + 1) % 16 })

/-- A header written in an entry of its own after the entry before it is closed; without room the frames are lost (R381, R382). -/
def State.capHead (s : State) (u cause pre planned first : Nat) : State :=
  let r := s.capFree u
  if r.1 < (if (s.cap u).entry.isEmpty then 1 else 2) then r.2.onCap u (fun k => { k with lost := max 1 k.lost })
  else
    let s1 := r.2.capFlush u
    ((s1.blockPush (0x30 + u) (s1.capHeader u cause pre planned first)).2).onCap u (fun k => { k with lost := 0 })

/-- A one-shot unit triggers: header, the frames of the history, then post × 64 frames (R382); cause 1 command, 2 trip, 3 clip. -/
def State.capTrigger (s : State) (u cause : Nat) : State :=
  if s.fld (F.MTR_CAPu_STATUS_state u) ≠ 1 then s
  else
    let h := ((s.cap u).hist.take (s.fld (F.MTR_CAPu_CFG_pre u))).reverse
    let left := 64 * s.fld (F.MTR_CAPu_CFG_post u)
    let s1 := s.capHead u cause h.length (h.length + left) (s.nextSample - 3125 * h.length)
    let s2 := h.foldl (fun t f => t.capFrame u f) s1
    ((s2.onCap u (fun k => { k with left := left, hist := [] })).setFld (F.MTR_CAPu_STATUS_state u) 2)

/-- Every unit armed for a trigger source (Table MTR-11: 0 command, 1 trip, 2 clip) that its mask condition allows. -/
def State.capTriggerAll (s : State) (trig cause mask : Nat) : State :=
  [0, 1].foldl (fun t u =>
    if t.fld (F.MTR_CAPu_CFG_mode u) = 2 && t.fld (F.MTR_CAPu_CFG_trig u) = trig && (trig ≠ 2 || t.fld (F.MTR_CAPu_CFG_mask u) &&& mask ≠ 0)
    then t.capTrigger u cause else t) s

/-- Captures stop (Table MTR-8). -/
def State.capStop (s : State) : State :=
  [0, 1].foldl (fun t u =>
    if t.fld (F.MTR_CAPu_STATUS_state u) = 0 then t else (t.capFlush u).setFld (F.MTR_CAPu_STATUS_state u) 0) s

/-! ## Dusk (R380) -/

/-- The freeze: every enabled set adds its partial step and stops, captures stop. -/
def State.mtrFreeze (s : State) : State :=
  (([0, 1, 2, 3].foldl (fun t n => t.stopSet n) s).capStop).setFld F.MTR_STATUS_frozen 1

/-- The accumulator image: 32 words of 64 bits, little-endian (R380). -/
def State.accImage (s : State) : List Byte := ((List.range 32).map (fun i => leBytes 8 (s.accInt (i / 8) (i % 8)))).flatten

/-! ## The user layer's copies (R371, R372) -/

/-- Registers of the copies whose words are register words. -/
def mtrCopyRegs : List Nat :=
  [Reg.MTR_CH_CFG, Reg.MTR_ELEM, Reg.MTR_SET_MAP, Reg.MTR_NL, Reg.MTR_SET0_NOM, Reg.MTR_SET1_NOM, Reg.MTR_SET2_NOM, Reg.MTR_SET3_NOM,
   Reg.MTR_PULSE_CFG]

/-- The words of a user-layer copy: the set parameters, then gain, offset, delay and scale of each channel. -/
def State.mtrWords (s : State) : List Word :=
  w32 (s.fld F.MTR_CTRL_accum_mode) :: mtrCopyRegs.map s.word ++
    (s.mtr.user.map (fun u => [w32 (unsgn 16 u.gain), w32 (unsgn 16 u.ofs), w32 (unsgn 16 u.dly), w32 u.scale])).flatten

/-- A user layer from the words of a copy (R371). -/
def State.mtrLoad (s : State) (ws : List Word) : State :=
  let s1 := s.setFld F.MTR_CTRL_accum_mode (ws.getD 0 0).toNat
  let s2 := (List.range mtrCopyRegs.length).foldl (fun t i => t.setWord (mtrCopyRegs.getD i 0) (ws.getD (1 + i) 0)) s1
  let at_ := fun (i : Nat) => (ws.getD (10 + i) 0).toNat
  s2.onMtr (fun m => { m with user := (List.range 8).map (fun ch =>
    { gain := sgn 16 (at_ (4 * ch)), ofs := sgn 16 (at_ (4 * ch + 1)), dly := sgn 16 (at_ (4 * ch + 2)), scale := at_ (4 * ch + 3) }) })

/-- The index of the newest sound copy of two, and the copy. -/
def newestCopy (l : List (Option NvCopy)) : Option (Nat × NvCopy) :=
  match l.getD 0 none, l.getD 1 none with
  | some a, some b =>
    if a.sound && (!b.sound || b.seq ≤ a.seq) then some (0, a) else if b.sound then some (1, b) else none
  | some a, none => if a.sound then some (0, a) else none
  | none, some b => if b.sound then some (1, b) else none
  | none, none => none

/-- The words written into the copy that is not the newest (R372). -/
def writeCopy (l : List (Option NvCopy)) (ws : List Word) (good : Bool) : List (Option NvCopy) :=
  match newestCopy l with
  | some (i, c) => upd l (1 - i) (fun _ => some ⟨good, c.seq + 1, ws⟩)
  | none => upd l 0 (fun _ => some ⟨good, 1, ws⟩)

end Sys2Proof.Machine
end

