-- ==== Sys2Proof/Machine/PwrOps.lean ====
section
/-! DEFINITION. What the rest of the chip does to the power stage (17_power_stage.md): faults and their reports (R241, R364), controlled stops
(R351), trips (R352), contactors opened (R357), admission (R344). -/

namespace Sys2Proof.Machine

open Sys2Proof

/-- The power stage changed. -/
def State.onPwr (s : State) (f : Pwr → Pwr) : State := { s with pwr := f s.pwr }

/-- A bit of PWR_EVT set, with EVT_PWR where evt_en lets it through (Table PWR-10). -/
def State.pwrEvent (s : State) (f : Field) : State :=
  let s1 := s.setFld f 1
  if s.fldBit F.PWR_CTRL_evt_en f.lo then
    s1.deliver 20 (maskCores (s.fld F.PWR_CTRL_evt_mask + 16 * s.fld F.PWR_CTRL_sfc_evt))
  else s1

/-- The state of Table PWR-1. -/
def State.pwrState (s : State) : Nat := s.fld F.PWR_STATUS_state

/-- A change of the power-stage state. -/
def State.setPwrState (s : State) (n : Nat) : State :=
  if s.pwrState = n then s else (s.setFld F.PWR_STATUS_state n).pwrEvent F.PWR_EVT_state

/-- The gate part works (R344). -/
def State.gateOk (s : State) : Bool := s.isWorker && s.is F.SYS_ROLE_admitted

/-- All gates low. -/
def State.gatesLow (s : State) : State := s.onPwr (fun p => { p with wave := List.replicate 6 {} })

/-! ## Fault reports (R241, R363) -/

/-- A Worker's fault report to its Manager (Table PWR-5), with the latest fault code kept for the heartbeat (Table STF-8). -/
def State.workerReport (s : State) (code : Nat) (withdraw : Bool) (extra : Nat) : State :=
  let s1 := { s with stf := { s.stf with lastFault := code } }
  if s1.isWorker && s1.fld F.STF_MGR_owner ≠ 0 && s1.is F.QE_CTRL_tx_en then
    let l := leBytes 1 (s1.nodeId % 16) ++ leBytes 1 (bit withdraw) ++ leBytes 2 code ++ leBytes 4 s1.mt ++
      leBytes 1 s1.pwrState ++ leBytes 1 (s1.fld F.PWR_CTR_STATUS_fb) ++ leBytes 2 extra ++ leBytes 4 0
    (s1.txAccept (s1.fld F.STF_MGR_owner) 0x000E l .block).2.txRun
  else s1

/-- A fault of Table PWR-8 (R364). -/
def State.pwrFault (s : State) (code : Nat) : State :=
  let k := if code = 0x0901 || code = 0x0902 then s.fld F.PWR_SS_RETRY_attempt else 0
  ((s.fault code (some Reg.PWR_FAULT)).pwrEvent F.PWR_EVT_fault).workerReport code (decide (code = 0x0901)) k

/-! ## Contactors -/

/-- The state of contactor `n` (Table PWR-10). -/
def State.ctrState (s : State) (n : Nat) : Nat := s.fld (F.PWR_CTR_STATUS_state n)

/-- Contactor `n`. -/
def State.ctr (s : State) (n : Nat) : Ctr := s.pwr.ctrs.getD n {}

/-- A CTR_OUT is on or a gate output is enabled (R144, R300). -/
def State.outputsOn (s : State) : Bool :=
  (List.range 4).any (fun n => (s.ctr n).on) || (1 ≤ s.pwrState && s.pwrState ≤ 4)

/-- Contactor `n` changed. -/
def State.onCtr (s : State) (n : Nat) (f : Ctr → Ctr) : State := s.onPwr (fun p => { p with ctrs := upd p.ctrs n f })

/-- A change of a contactor's state. -/
def State.setCtrState (s : State) (n v : Nat) : State :=
  if s.ctrState n = v then s else (s.setFld (F.PWR_CTR_STATUS_state n) v).pwrEvent F.PWR_EVT_ctr

/-- The accepted feedback of contactor `n` reads closed. -/
def State.fbClosed (s : State) (n : Nat) : Bool := s.fldBit F.PWR_CTR_STATUS_fb n

/-- Contactor `n` opened (R357 to R360): confirmed by feedback where fb_en = 1, with the weld window where the opening is checked. -/
def State.openCtr (s : State) (n : Nat) (checked : Bool) : State :=
  let st := s.ctrState n
  let s1 := s.onCtr n (fun c => { c with on := false })
  if st = 1 || st = 2 then
    let fb := s.is (F.PWR_CTR_MODE_fb_en n)
    let s2 := s1.onCtr n (fun c => { c with since := s.mt, window := checked && (fb || s.is (F.PWR_CTR_MODE_weld_volt n)) })
    s2.setCtrState n (if fb then 3 else 0)
  else s1

/-- The precharge ends as failed and both its contactors open (R361). -/
def State.prechargeFail (s : State) (checked : Bool) : State :=
  match s.pwr.pre with
  | none => s
  | some p =>
    (((s.onPwr (fun w => { w with pre := none })).setFld F.PWR_CTR_STATUS_pc 5).openCtr p.pc checked).openCtr p.main checked

/-- Every contactor opened. -/
def State.openAll (s : State) (checked : Bool) : State :=
  [0, 1, 2, 3].foldl (fun t n => t.openCtr n checked) (s.prechargeFail checked)

/-! ## Stops -/

/-- The run ends: its cause, counted (Table PWR-2). -/
def State.pwrStopped (s : State) (cause : Nat) : State := (s.setFld F.PWR_STATUS_cause cause).count F.PWR_CNT_stops

/-- A controlled stop of the gates (R351): STOPPING until the next boundary where they run, at once the state that follows where they do not. -/
def State.gateStop (s : State) (cause : Nat) : State :=
  let st := s.pwrState
  let s1 := if cause = 6 then s.setFld F.PWR_SS_RETRY_attempt 0 else s
  if st = 1 || st = 2 then
    ((if cause = 2 then s1 else s1.setFld F.PWR_RUN_go 0).pwrStopped cause).setPwrState 3
  else if st = 3 then
    if s1.fld F.PWR_STATUS_cause = 2 || cause = 8 then (s1.setFld F.PWR_RUN_go 0).setFld F.PWR_STATUS_cause cause else s1
  else if st = 4 then ((s1.setFld F.PWR_RUN_go 0).pwrStopped cause).setPwrState (if cause = 8 then 6 else 0)
  else if cause = 8 && (st = 0 || st = 5) then (s1.setFld F.PWR_STATUS_cause 8).setPwrState 6
  else s1

/-- A controlled stop with its card contactors (Table PWR-2): causes 4, 5, 6 and 8 open them, Dusk without a weld check. -/
def State.pwrStop (s : State) (cause : Nat) : State :=
  let s1 := s.gateStop cause
  if cause = 4 || cause = 5 || cause = 6 || cause = 8 then s1.openAll (decide (cause ≠ 5)) else s1

/-- A trip of groups (R352, R357, R361): a run of an enabled channel whose group trips ends at the pad; the contactors of tripped groups are forced
off; a precharge of one of them fails. -/
def State.pwrTrip (s : State) (groups : Nat) : State :=
  let st := s.pwrState
  let hit := (List.range 6).any (fun n => s.fldBit F.PWR_RUN_ch_en n && groups.testBit n)
  let s1 := if hit && 1 ≤ st && st ≤ 4 then
      ((((s.setFld F.PWR_RUN_go 0).pwrStopped 3).gatesLow).setPwrState 0)
    else s
  let s2 := match s1.pwr.pre with
    | some p => if groups.testBit (6 + p.pc) || groups.testBit (6 + p.main) then s1.prechargeFail true else s1
    | none => s1
  [0, 1, 2, 3].foldl (fun t n => if groups.testBit (6 + n) then t.openCtr n true else t) s2

/-- Admission given or taken (R344): HELD without it, IDLE or the stored SS_LOCK with it. -/
def State.pwrAdmission (s : State) : State :=
  if s.gateOk then
    if s.pwrState = 6 then s.setPwrState (if s.pwr.ssLock then 5 else 0) else s
  else if s.pwrState = 0 || s.pwrState = 5 then s.setPwrState 6
  else s

/-- SS_LOCK released (R356). -/
def State.ssReleased (s : State) : State :=
  if s.pwrState = 5 then (s.onPwr (fun p => { p with ssLock := false })).setPwrState 0 else s

end Sys2Proof.Machine
end

