-- ==== Sys2Proof/Machine/BilOps.lean ====
section
/-! DEFINITION. The billing block at a step boundary (19_billing_tariffs.md): records (R388 to R392), sessions (R393 to R395), the record store (R398,
R400), maximum demand (R401, R402), prepayment (R404, R405). -/

namespace Sys2Proof.Machine

open Sys2Proof

/-- The billing block changed. -/
def State.onBil (s : State) (f : Bil → Bil) : State := { s with bil := f s.bil }

/-- A bit of BIL_EVT set and EVT_BIL delivered (Table BIL-9). -/
def State.bilEvent (s : State) (f : Field) : State := (s.setFld f 1).deliver 22 (maskCores (s.fld F.BIL_CTRL_evt_mask))

/-- A fault of Table BIL-6 (R410). -/
def State.bilFault (s : State) (code : Nat) : State := (s.fault code (some Reg.BIL_FAULT)).bilEvent F.BIL_EVT_fault

/-- A RECORD entry (Table BIL-7). -/
def State.logRecord (s : State) (code info data : Nat) (cont : Option Nat) : State := s.log ⟨13, code, info, data, none, cont⟩

/-- The block works (R387, R411). -/
def State.bilOn (s : State) : Bool := s.isManager && s.dawnDone

/-- The billed register set. -/
def State.billed (s : State) : Nat := s.fld F.BIL_CTRL_set

/-- The era. -/
def State.era (s : State) : Nat := (s.word Reg.TMK_ERA).toNat

/-! ## Record slots (R398) -/

/-- A record slot changed. -/
def State.onSlot (s : State) (i : Nat) (f : RecSlot → RecSlot) : State := s.onBil (fun b => { b with slots := upd b.slots i f })

/-- Free record slots. -/
def State.freeSlots (s : State) : Nat := (s.bil.slots.filter (fun r => r.state = 0)).length

/-- The first free slot taken, without a number yet; a slot whose write does not read back is marked bad with BIL_NV, and the next is tried (Table BIL-6). -/
def State.reserveSlot (s : State) : List Nat → Option Nat × State
  | [] => (none, s)
  | i :: is =>
    if (s.bil.slots.getD i {}).state ≠ 0 then s.reserveSlot is
    else if s.bil.badSlots.contains i then ((s.onSlot i (fun r => { r with state := 5 })).bilFault 0x0B04).reserveSlot is
    else (some i, s.onSlot i (fun _ => { state := 1, num := 2 ^ 32 }))

/-- A PUBLISHED slot is free once a higher-numbered record is SIGNED or PUBLISHED (R398). -/
def State.releaseSlots (s : State) : State :=
  let top := (s.bil.slots.filter (fun r => r.state = 3 || r.state = 4)).foldl (fun m r => max m r.num) 0
  s.onBil (fun b => { b with slots := b.slots.map (fun r => if r.state = 4 && r.num < top then {} else r) })

/-- A new record number (R388). -/
def State.recordNumber (s : State) : Nat × State := (s.bil.next, s.onBil (fun b => { b with next := (b.next + 1) % 2 ^ 32 }))

/-! ## Records (Table BIL-1) -/

/-- The flags that hold at the start of every record: metro while METRO_EN is on. -/
def State.startFlags (s : State) : Nat := if s.metroEn then 8 else 0

/-- The gap_before flag of a record that starts now (Table BIL-1). -/
def gapBefore (last : Option (Nat × Nat × Nat × Nat)) (a b set start : Nat) (follow : Bool) : Bool :=
  match last with
  | none => false
  | some (a0, b0, set0, end0) => (set0 = set && (a0 ≠ a || b0 ≠ b)) || (follow && end0 ≠ start)

/-- The 96-byte body of a record (Table BIL-1). -/
def State.recordBody (s : State) (kind reason flags endMt wallEnd rate : Nat) (r : OpenRec) (amount : Nat) : List Byte :=
  let a := s.accInt r.set 0
  let b := s.accInt r.set 1
  leBytes 4 0x524D4E47 ++ leBytes 1 1 ++ leBytes 1 kind ++ leBytes 1 reason ++ leBytes 1 flags ++ leBytes 8 s.serial ++
    leBytes 4 r.num ++ leBytes 4 r.era ++ leBytes 8 r.start ++ leBytes 8 endMt ++ leBytes 4 r.wall ++ leBytes 4 wallEnd ++
    leBytes 8 a ++ leBytes 8 b ++ leBytes 8 (a + 2 ^ 64 - r.a0) ++ leBytes 8 (b + 2 ^ 64 - r.b0) ++
    leBytes 1 (r.set + 4 * bit (s.fldBit F.MTR_CTRL_accum_mode r.set)) ++ leBytes 1 rate ++
    leBytes 1 (s.fld F.NJD_TAMPER_STATUS_latch) ++ leBytes 1 (s.fld F.NJD_SEAL_sw) ++ leBytes 4 (s.fld F.DSK_ACTIVE_SET_active_set) ++ leBytes 8 amount

/-- A signature failed or was refused (R397): BIL_SIGN_FAIL once per record. -/
def State.signFail (s : State) (i : Nat) : State :=
  let had := (s.bil.slots.getD i {}).failed
  let s1 := (s.onSlot i (fun r => { r with signing := false, triedAt := s.mt, failed := true })).count F.BIL_CNT_sign_fail
  if had then s1 else s1.bilFault 0x0B01

/-- The body of a slot is submitted for its signature (R397): the key must be ACTIVE, of alg 0x10 and with usage SIGN. -/
def State.signSubmit (s : State) (i : Nat) : State :=
  let n := s.fld F.BIL_SIGN_KEY_slot
  let k := s.key n
  if n = 0xFF || k.state ≠ 1 || k.alg ≠ 0x10 || !k.usage.testBit 0 then s.signFail i
  else
    let r := s.kvPort (.record i) 0x08 n (s.bil.slots.getD i {}).body []
    if r.1 = 0 then r.2.signFail i else r.2.onSlot i (fun k => { k with signing := true, triedAt := s.mt })

/-- The amount of a record that carries none (R395). -/
def absentAmount : Nat := 2 ^ 63

/-- A record closes: its body goes into its slot, UNSIGNED, with amount_absent until an amount is written; its signature is submitted unless an
amount is awaited (R395, R397, R398). -/
def State.closeRecord (s : State) (kind reason endMt wallEnd rate : Nat) (r : OpenRec) (awaits : Option Nat) : State :=
  let flags := ((r.flags ||| 128) ||| (if s.fld F.NJD_TAMPER_STATUS_latch ≠ 0 then 4 else 0)) % 256
  let body := s.recordBody kind reason flags endMt wallEnd rate r absentAmount
  let s1 := s.onSlot r.slot (fun _ =>
    { state := 2, num := r.num, body := body, amountFrom := awaits, triedAt := s.mt })
  let s2 := s1.bilEvent F.BIL_EVT_closed
  if awaits.isNone then s2.signSubmit r.slot else s2

/-- The open interval closes with a reason (R388). -/
def State.closeInterval (s : State) (reason endMt wallEnd : Nat) : State :=
  match s.bil.interval with
  | none => s
  | some r =>
    let s1 := s.closeRecord 1 reason endMt wallEnd r.rate r none
    s1.onBil (fun b => { b with interval := none, lastInt := some (s.accInt r.set 0, s.accInt r.set 1, r.set, endMt) })

/-- Meter time of the first calendar boundary after now: every `p` seconds after 00:00 UTC plus offset_min of each day, as a step boundary
(R390, R401). -/
def State.calendarEnd (s : State) (p : Nat) : Nat :=
  let o : Int := 60 * sgn 12 (s.fld F.BIL_INT_CFG_offset_min)
  let w : Int := s.nj.wallSec
  let day : Int := 86400
  let d := o + day * ((w - o) / day)
  let b := min (d + (p : Int) * ((w - d) / (p : Int) + 1)) (d + day)
  let t := ((b - w) * 32768 - (s.nj.wallSub : Int)) * 25000000
  ((((s.mt : Int) * 32768 + t + 32768 * 25000 - 1) / (32768 * 25000)) * 25000).toNat

/-- Whether an interval may be recorded, but for the slot (R389). -/
def State.recordingOk (s : State) : Bool :=
  s.is F.BIL_CTRL_en && s.nj.wallValid && !s.is F.TMK_STATUS_mt_untrusted && !s.bil.noSave

/-- A record is lost for want of a slot (R400). -/
def State.storeFull (s : State) : State :=
  if s.bil.fullRaised then s
  else
    let s1 := (s.onBil (fun b => { b with fullRaised := true, gapped := true })).count F.BIL_CNT_lost
    (s1.logRecord 2 1 (s1.fld F.BIL_CNT_lost) none).bilFault 0x0B02

/-- An interval opens at this boundary where it may (R389, R390, R400): `planned` is the planned end it inherits. -/
def State.openInterval (s : State) (era : Nat) (planned : Option Nat) (stepOpen : Bool) : State :=
  if s.bil.interval.isSome then s
  else if !s.recordingOk then s.onBil (fun b => { b with gapped := true, stepOpen := b.stepOpen || stepOpen })
  else
    let r := s.reserveSlot (List.range 8)
    match r.1 with
    | none => (r.2.storeFull).onBil (fun b => { b with stepOpen := b.stepOpen || stepOpen })
    | some slot =>
      let n := r.2.recordNumber
      let t := n.2.onSlot slot (fun k => { k with num := n.1 })
      let set := t.billed
      let a := t.accInt set 0
      let b := t.accInt set 1
      let gap := t.bil.gapped || gapBefore t.bil.lastInt a b set t.mt true
      let so := stepOpen || t.bil.stepOpen
      let rec_ : OpenRec :=
        { num := n.1, era := era, start := t.mt, planned := planned.getD (t.calendarEnd (60 * t.fld F.BIL_INT_CFG_len_min)),
          wall := t.nj.wallSec, rate := t.fld F.BIL_RATE_rate, flags := t.startFlags + bit gap + 16 * bit so, a0 := a, b0 := b,
          slot := slot, set := set }
      t.onBil (fun k => { k with interval := some rec_, gapped := false, stepOpen := false, fullRaised := false, begun := true })

/-! ## Rates (R391) -/

/-- The rate of R391 at the present wall time. -/
def State.rateNow (s : State) : Nat :=
  if s.is F.BIL_RATE_override then s.fld F.BIL_RATE_ovr_rate
  else
    let best := s.bil.switch.foldl (fun (m : Option (Nat × Nat)) e =>
      if e.1 ≠ 0 && e.1 ≤ s.nj.wallSec && (match m with | none => true | some k => k.1 < e.1) then some e else m) none
    match best with
    | some e => e.2
    | none => s.fld F.BIL_RATE_default

/-- The rate in effect evaluated; whether it changed. -/
def State.evalRate (s : State) : Bool × State :=
  let r := s.rateNow
  if r = s.fld F.BIL_RATE_rate then (false, s) else (true, (s.setFld F.BIL_RATE_rate r).bilEvent F.BIL_EVT_rate)

/-! ## Sessions (R393 to R395) -/

/-- The accepted session starts at this boundary. -/
def State.startSession (s : State) : State :=
  match s.bil.opening with
  | none => s
  | some slot =>
    let n := s.recordNumber
    let t := n.2.onSlot slot (fun k => { k with num := n.1 })
    let set := t.billed
    let a := t.accInt set 0
    let b := t.accInt set 1
    let r : OpenRec :=
      { num := n.1, era := t.era, start := t.mt, wall := t.nj.wallSec,
        flags := t.startFlags + bit (gapBefore t.bil.lastSes a b set t.mt false), a0 := a, b0 := b, slot := slot, set := set }
    t.onBil (fun k => { k with session := some r, opening := none, closing := none, closeAt := none,
                               hadWorkers := decide (t.fld F.SYS_ROLE_workers_admitted ≠ 0) })

/-- The open session closes at this boundary with a reason (R393 to R395). -/
def State.closeSession (s : State) (reason : Nat) : State :=
  match s.bil.session with
  | none => s
  | some r =>
    let s1 := s.closeRecord 2 reason s.mt s.nj.wallSec (s.fld F.BIL_RATE_rate) r (some s.mt)
    (s1.onBil (fun b => { b with session := none, closing := none, closeAt := none,
                                 lastSes := some (s.accInt r.set 0, s.accInt r.set 1, r.set, s.mt) })).bilEvent F.BIL_EVT_amount

/-- A device cause closes the open session (R394); TRIP ranks before CAPACITY (R21). -/
def State.sessionCause (s : State) (reason : Nat) : State :=
  if s.bil.session.isNone then s
  else s.onBil (fun b => { b with closing := match b.closing with
    | none => some (reason, s.mt)
    | some (r, t) => some (min r reason, t) })

/-- Groups lock (R394). -/
def State.bilTrip (s : State) (groups : Nat) : State :=
  if groups &&& s.fld F.BIL_SES_CFG_groups ≠ 0 then s.sessionCause 1 else s

/-- STF_CAPACITY has fallen to 0 (R394). -/
def State.bilCapacity (s : State) : State := if s.bil.hadWorkers then s.sessionCause 3 else s

/-- Every contactor of BIL_SES_CFG.ctr reads open: by accepted feedback, or by its state where it has none (R394). -/
def State.sesCtrOpen (s : State) : Bool :=
  [0, 1, 2, 3].all (fun n => !s.fldBit F.BIL_SES_CFG_ctr n ||
    (if s.is (F.PWR_CTR_MODE_fb_en n) then !s.fbClosed n else s.ctrState n = 0))

/-- The session at a step boundary: closed by the device, closed by the program, or started. -/
def State.sessionStep (s : State) : State :=
  match s.bil.closing with
  | some (r, t) => if s.sesCtrOpen || secTicks ≤ s.mt - t then s.closeSession r else s
  | none =>
    match s.bil.closeAt with
    | some r => s.closeSession r
    | none => s.startSession

/-! ## Flags of open records -/

/-- Flags set in the open records. -/
def State.recordFlags (s : State) (int ses : Nat) : State :=
  s.onBil (fun b => { b with interval := b.interval.map (fun r => { r with flags := r.flags ||| int }),
                             session := b.session.map (fun r => { r with flags := r.flags ||| ses }) })

/-! ## Maximum demand (R401, R402) -/

/-- A demand register changed. -/
def State.onDemand (s : State) (i : Nat) (f : Demand → Demand) : State := s.onBil (fun b => { b with demand := upd b.demand i f })

/-- The register is enabled. -/
def Demand.en (d : Demand) : Bool := d.cfg.testBit 0
/-- The register slides. -/
def Demand.sliding (d : Demand) : Bool := d.cfg.testBit 1
/-- W in minutes. -/
def Demand.w (d : Demand) : Nat := d.cfg / 16 % 64
/-- n subintervals. -/
def Demand.n (d : Demand) : Nat := d.cfg / 1024 % 16
/-- Seconds of a window or subinterval. -/
def Demand.secs (d : Demand) : Nat := if d.sliding then 60 * d.w / d.n else 60 * d.w

/-- D of an energy over W minutes, in W, rounded half up (R401). -/
def demandOf (e w : Nat) : Nat :=
  let num := 36 * e
  let den := energyDen * 10000 * 60 * w
  if den = 0 then 0 else (2 * num + den) / (2 * den)

/-- D becomes the last demand, and the maximum where it is larger (R401). -/
def State.demandIs (s : State) (i d wall : Nat) : State :=
  let s1 := s.onDemand i (fun k => { k with now := d })
  if (s1.bil.demand.getD i {}).max < d then (s1.onDemand i (fun k => { k with max := d, maxTime := wall })).bilEvent F.BIL_EVT_md_new
  else s1

/-- The window or subinterval of a register ends; `judge` says whether a sliding one is evaluated. -/
def State.demandEnd (s : State) (i wall : Nat) (judge : Bool) : State :=
  let d := s.bil.demand.getD i {}
  if d.sliding then
    let h := (d.energy :: d.hist).take d.n
    let s1 := s.onDemand i (fun k => { k with energy := 0, hist := h })
    if judge then s1.demandIs i (demandOf h.sum d.w) wall else s1
  else (s.onDemand i (fun k => { k with energy := 0 })).demandIs i (demandOf d.energy d.w) wall

/-- A register at a step boundary: the step's energy, a large step, its end, its next end. -/
def State.demandStep (s : State) (dp : Int) (stepped : Bool) (i : Nat) : State :=
  let d := s.bil.demand.getD i {}
  if !d.en then s
  else
    let e := if d.cfg.testBit 2 then (-dp).toNat else dp.toNat
    let s1 := if d.end_.isSome then s.onDemand i (fun k => { k with energy := k.energy + e }) else s
    let due := match d.end_ with | some t => t ≤ s.mt | none => false
    let s2 := if stepped && d.end_.isSome then s1.demandEnd i s.nj.wallSec false else if due then s1.demandEnd i s.nj.wallSec true else s1
    if stepped || due || d.end_.isNone then
      s2.onDemand i (fun k => { k with end_ := if s.nj.wallValid && d.secs ≠ 0 then some (s.calendarEnd d.secs) else none })
    else s2

/-! ## Prepayment (R404, R405) -/

/-- The credit and its residue as one number of 2^−32 units. -/
def State.creditFix (s : State) : Int := s.bil.credit * 2 ^ 32 + s.bil.residue

/-- The credit replaced; it saturates at −2^63 (R404). -/
def State.setCredit (s : State) (t : Int) : State :=
  if t < -(2 ^ 95) then s.onBil (fun b => { b with credit := -(2 ^ 63), residue := 0 })
  else s.onBil (fun b => { b with credit := t / 2 ^ 32, residue := (t % 2 ^ 32).toNat })

/-- BIL_PP_FB (R405). -/
def State.ppFbFault (s : State) : State := (s.count F.BIL_PP_STATUS_fb_faults).bilFault 0x0B03

/-- The disconnecting contactor is opened, and its feedback is awaited where it has any (R405). -/
def State.ppOpen (s : State) : State :=
  let c := s.fld F.BIL_PP_CFG_ctr
  let s1 := s.openCtr c true
  if s1.is (F.PWR_CTR_MODE_fb_en c) then s1.onBil (fun b => { b with fbFrom := some s.mt }) else s1.ppFbFault

/-- The credit is used up (R405). -/
def State.ppExhausted (s : State) : State :=
  let s1 := (s.setFld F.BIL_PP_STATUS_exhausted 1).bilEvent F.BIL_EVT_exhausted
  let s2 := ((s1.ppOpen).count F.BIL_PP_STATUS_disconnects).recordFlags 64 64
  s2.logRecord 3 (s2.fld F.BIL_PP_CFG_ctr) (unsgn 32 s2.bil.credit) (some s2.mt)

/-- Prepayment at a step boundary: the import of the step at the rate in effect, then the exhaustion check (R404, R405). -/
def State.ppStep (s : State) (dp : Int) : State :=
  if !s.is F.BIL_PP_CFG_en then s
  else
    let price := s.bil.prices.getD (s.fld F.BIL_RATE_rate) 0
    let r := if s.is F.BIL_PP_CFG_currency then
        s.roundFree (((dp.toNat * price * 2 ^ 32 : Nat)) : Int) (energyDen * 10 ^ 13)
      else s.roundFree (((dp.toNat * 2 ^ 32 : Nat)) : Int) energyDen
    let before := s.bil.credit
    let s1 := r.2.setCredit (r.2.creditFix - r.1)
    let warn : Int := s.fld F.BIL_PP_WARN_warn
    let s2 := if warn ≤ before && s1.bil.credit < warn then (s1.setFld F.BIL_PP_STATUS_low 1).bilEvent F.BIL_EVT_credit_low else s1
    if s2.creditFix ≤ 0 && !s2.is F.BIL_PP_STATUS_exhausted then s2.ppExhausted else s2

/-- The accepted feedback of contactor `n` has changed (R405): while exhausted, a closed reading opens it again. -/
def State.bilFeedback (s : State) (n : Nat) (closed : Bool) : State :=
  if s.bilOn && s.is F.BIL_PP_CFG_en && s.is F.BIL_PP_STATUS_exhausted && n = s.fld F.BIL_PP_CFG_ctr then
    if closed then
      if s.bil.fbFrom.isSome then s else (s.ppOpen).ppFbFault
    else s.onBil (fun b => { b with fbFrom := none })
  else s

/-! ## The step boundary (R463) -/

/-- The first of the large steps since the last boundary (R392): the interval closes with STEP, a new one opens in its era, RECORD code 1. -/
def State.bilLargeStep (s : State) (e : Nat × Nat × Nat) : State :=
  let num := s.bil.interval.map (·.num)
  let s1 := s.closeInterval 4 s.mt e.1
  let s2 := s1.evalRate.2
  let s3 := (if s2.is F.BIL_CTRL_en then s2.openInterval e.2.2 none true else s2).recordFlags 0 32
  let d := match num with
    | some n => (n, s3)
    | none => s3.takeFree 32
  (d.2.logRecord 1 (e.2.2 % 65536) d.1 (some e.2.1)).bilEvent F.BIL_EVT_step

/-- The open interval at a boundary without a large step: planned end, rate, disable (R390, R391, Table BIL-2). -/
def State.intervalStep (s : State) : State :=
  let rt := s.evalRate
  let s1 := rt.2
  match s1.bil.interval with
  | none =>
    if s1.is F.BIL_CTRL_en && (s1.bil.begun || (s1.mset 0).live || (s1.mset s1.billed).live) then s1.openInterval s1.era none false else s1
  | some r =>
    if r.planned ≤ s1.mt then (s1.closeInterval 5 s1.mt s1.nj.wallSec).openInterval s1.era none false
    else if s1.bil.disable then (s1.closeInterval 7 s1.mt s1.nj.wallSec).onBil (fun b => { b with disable := false })
    else if r.rate ≠ s1.fld F.BIL_RATE_rate && 2 * msTicks < r.planned - s1.mt then
      (s1.closeInterval 6 s1.mt s1.nj.wallSec).openInterval s1.era (some r.planned) false
    else s1

/-- The billing work of a step boundary (R390 to R406, R463). -/
def State.bilBoundary (s : State) : State :=
  let dp := (s.mset s.billed).lastP
  let s1 := s.ppStep dp
  let stepped := !s1.bil.steps.isEmpty
  let s2 := (List.range 8).foldl (fun t i => t.demandStep dp stepped i) s1
  let s3 := match s2.bil.steps with
    | e :: es => (s2.onBil (fun b => { b with steps := es, disable := false })).bilLargeStep e
    | [] => s2.intervalStep
  s3.sessionStep

end Sys2Proof.Machine
end

