-- ==== Sys2Proof/Machine/VehOps.lean ====
section
/-! DEFINITION. The pilot output and its force causes (R248, R249), the events and faults of the vehicle interface (R252, R261), the auxiliary
serial master's results (R257). -/

namespace Sys2Proof.Machine

open Sys2Proof

/-- The vehicle interface changed. -/
def State.onVeh (s : State) (f : Veh → Veh) : State := { s with veh := f s.veh }

/-- What CP_PWM drives, with VEH_STATUS.pwm_on. -/
def State.setPilot (s : State) (p : Pilot) : State :=
  (s.onVeh (fun v => { v with cp := p })).setBit F.VEH_STATUS_pwm_on (decide (p = .pulse))

/-- The force causes of the pilot as the bits of VEH_STATUS.cause: timer, lockout, Dusk (R249). -/
def State.forceCauses (s : State) : Nat :=
  bit (s.veh.timers.any (fun t => t.forced ≠ 0)) + 2 * bit (s.is F.SYS_POST_STATUS_lockout_any && s.is F.VEH_CTRL_trip_f) +
    4 * bit s.duskWarn

/-- The pilot follows its force causes (R249): a cause forces it at once, low over high; the force ends when a release has been written and no
cause is active, and the output then stays until the next period boundary. -/
def State.pilotUpdate (s : State) : State :=
  if s.isWorker then s else
  let c := s.forceCauses
  let new := c &&& (7 - s.fld F.VEH_STATUS_cause)
  let low := decide (2 ≤ c) || s.veh.timers.any (fun t => t.forced = 2)
  let s1 := s.setFld F.VEH_STATUS_cause c
  let s2 := if new ≠ 0 then s1.onVeh (fun v => { v with released := false }) else s1
  if c ≠ 0 then (s2.setFld F.VEH_STATUS_forced 1).setPilot (if low then .low else .high)
  else if s2.is F.VEH_STATUS_forced then
    if s2.veh.released then s2.setFld F.VEH_STATUS_forced 0 else s2.setPilot .high
  else s2

/-- A bit of VEH_EVT set and EVT_VEH delivered to the cores of VEH_CTRL.evt_mask (R252). -/
def State.vehEvent (s : State) (f : Field) : State := (s.setFld f 1).deliver 27 (maskCores (s.fld F.VEH_CTRL_evt_mask))

/-- A fault of Table VEH-4, recorded and logged (R261), with its event. -/
def State.vehFault (s : State) (code : Nat) (evt : Field) : State := (s.fault code (some Reg.VEH_FAULT)).vehEvent evt

/-! ## Auxiliary serial master -/

/-- A result message (Table VEH-5). -/
def asmResult (status tag : Nat) (rd : List Byte) : List Byte :=
  leBytes 1 status ++ leBytes 1 0 ++ leBytes 2 rd.length ++ leBytes 2 tag ++ leBytes 2 0 ++ rd

/-- A transaction completes: the chip select rises, the result goes to its queue, and the event follows the header's flag (R256, R257). -/
def State.asmFinish (s : State) (r : AsmRun) (status : Nat) (rd : List Byte) : State :=
  let s1 := (s.onVeh (fun v => { v with asm := none, csN := true })).setFld F.VEH_ASM_STATUS_busy 0
  let s2 := s1.setFld F.VEH_ASM_STATUS_done (s1.fld F.VEH_ASM_STATUS_done + 1)
  let s3 := (s2.blockPush (if r.template then 0x82 else 0x81) (asmResult status r.tag rd)).2
  if r.evt then s3.vehEvent F.VEH_EVT_asm_done else s3

/-- Bytes the spec leaves open. -/
def State.takeFreeBytes (s : State) : Nat → List Byte × State
  | 0 => ([], s)
  | n + 1 =>
    let a := s.takeFree 8
    let b := a.2.takeFreeBytes n
    (BitVec.ofNat 8 a.1 :: b.1, b.2)

/-- The transaction on the wire ends with status 1 (Table VEH-9); the bytes it has read so far are free values (assumption 2). -/
def State.asmAbort (s : State) : State :=
  match s.veh.asm with
  | none => s
  | some r =>
    let n := s.takeFree 16
    let b := n.2.takeFreeBytes (n.1 % (r.rdLen + 1))
    b.2.asmFinish r 1 b.1

/-- A low ASM_INT_N with int_en set and asm_int clear (R258). -/
def State.asmIntCheck (s : State) : State :=
  if s.is F.VEH_ASM_CTRL_int_en && !s.is F.VEH_EVT_asm_int && !s.is F.VEH_ASM_STATUS_int then
    (s.onVeh (fun v => { v with template := true })).vehEvent F.VEH_EVT_asm_int
  else s

end Sys2Proof.Machine
end

