-- ==== Sys2Proof/Machine/SafOps.lean ====
section
/-! DEFINITION. The trip network (14_safety_functions.md): sources and masks (R286), lockout (R293, R294), release (R295), the loading and the
application of the sealed set (R299, R300). -/

namespace Sys2Proof.Machine

open Sys2Proof

/-- The safety block changed. -/
def State.onSaf (s : State) (f : Saf → Saf) : State := { s with saf := f s.saf }

/-- A bit of SAF_EVT set and EVT_SAF delivered: to the SFC always, and to the CC cores of evt_mask (R290, Table SAF-12). -/
def State.safEvent (s : State) (f : Field) : State := (s.setFld f 1).deliver 17 (4 :: maskCores (s.fld F.SAF_CTRL_evt_mask))

/-- A fault of Tables SAF-9 and SAF-18: recorded, logged, SAF_EVT.fault, and a Worker's report with the trip source (R305, R241, Table PWR-5). -/
def State.safFault (s : State) (code : Nat) (withdraw : Bool) (src : Nat := 0) : State :=
  ((s.fault code (some Reg.SAF_FAULT)).safEvent F.SAF_EVT_fault).workerReport code withdraw src

/-- A SAFETY entry (Table SAF-10). -/
def State.logSafety (s : State) (code info data : Nat) (cont : Option Nat) : State := s.log ⟨6, code, info, data, none, cont⟩

/-! ## Sources, masks and groups -/

/-- The group mask of a source in a parameter set; sources 54 to 56 map every group (R286, Table SAF-2). -/
def SafSet.mask (t : SafSet) (n : Nat) : Nat :=
  if n < 54 then getBits (t.map.getD n 0) 9 0 else if n ≤ 56 then 0x3FF else 0

/-- A source is asserted after its deglitch. -/
def State.srcLive (s : State) (n : Nat) : Bool := s.saf.live.getLsbD n

/-- Group `g`. -/
def State.grp (s : State) (g : Nat) : Grp := s.saf.groups.getD g {}

/-- Group `g` is held off by the trip network. -/
def State.locked (s : State) (g : Nat) : Bool := (s.grp g).state ≠ 0

/-- The lockout bits follow the groups, and the pilot follows them (R249). -/
def State.lockShow (s : State) : State :=
  let any := s.saf.groups.any (fun g => g.state ≠ 0)
  ((s.setBit F.SAF_STATUS_lockout_any any).setBit F.SYS_POST_STATUS_lockout_any any).pilotUpdate

/-- The groups of a mask, those among them that are ARMED. -/
def State.armedOf (s : State) (mask : Nat) : Nat :=
  ((List.range 10).filter (fun g => mask.testBit g && !s.locked g)).foldl (fun m g => m + 2 ^ g) 0

/-- The groups of a mask become LOCKED_ACTIVE with a source in their cause sets (R293). -/
def lockGroups (l : List Grp) (n mask : Nat) : List Grp :=
  (List.range 10).map (fun g =>
    let k := l.getD g {}
    if mask.testBit g then { state := 1, causes := k.causes ||| (1#64 <<< n) } else k)

/-- A gate group of a mask may be in dead time: its channel runs (R294). -/
def State.mayBeDead (s : State) (mask : Nat) : Bool :=
  1 ≤ s.pwrState && s.pwrState ≤ 3 && (mask &&& s.fld F.PWR_RUN_ch_en) % 64 ≠ 0

/-- A source latches groups (R290, R293, R294): whether it met a gate group in dead time is a free value. -/
def State.latch (s : State) (n mask : Nat) : State :=
  if mask = 0 then s
  else
    let moved := s.armedOf mask
    let d := if s.mayBeDead moved then s.takeFree 1 else (0, s)
    let s1 := (d.2.onSaf (fun k => { k with groups := lockGroups k.groups n mask })).lockShow
    let s2 := if d.1 = 1 then s1.setFld F.SAF_STATUS_trip_dead 1 else s1
    let s3 := (((s2.pwrTrip mask).bilTrip mask).capTriggerAll 1 2 0).count F.SAF_CNT_trips
    let s4 := s3.logSafety 1 (n + 256 * d.1) mask (some s3.mt)
    let s5 := if moved ≠ 0 then s4.safFault 0x0601 true n else s4
    ((s5.setFld F.SAF_STATUS_last_src n).setWord Reg.SAF_LAST_TRIP (w32 s5.mt)).safEvent F.SAF_EVT_trip

/-- A source asserts (R293): it latches the groups of its mask once the trip network drives the outputs (R306). -/
def State.sourceAssert (s : State) (n : Nat) : State :=
  if 57 ≤ n || s.srcLive n then s
  else
    let s1 := s.onSaf (fun k => { k with live := k.live ||| (1#64 <<< n) })
    if s1.saf.armed then s1.latch n (s1.saf.eff.mask n) else s1

/-- LOCKED_ACTIVE groups with no asserted cause are LOCKED_CLEAR (R293). -/
def clearGroups (l : List Grp) (live : DWord) : List Grp :=
  l.map (fun k => if k.state = 1 && k.causes &&& live = 0 then { k with state := 2 } else k)

/-- A source deasserts (R293, R295). -/
def State.sourceDeassert (s : State) (n : Nat) : State :=
  if s.srcLive n then
    s.onSaf (fun k =>
      let live := k.live &&& ~~~(1#64 <<< n)
      { k with live := live, quietFrom := upd k.quietFrom n (fun _ => s.mt), groups := clearGroups k.groups live })
  else s

/-- A source follows a condition. -/
def State.sourceSet (s : State) (n : Nat) (b : Bool) : State := if b then s.sourceAssert n else s.sourceDeassert n

/-! ## Release (R295) -/

/-- Every cause of group `g` has been quiet for 50 ms. -/
def State.quiet (s : State) (g : Nat) : Bool :=
  (List.range 57).all (fun n => !(s.grp g).causes.getLsbD n || (!s.srcLive n && s.saf.quietFrom.getD n 0 + 50 * msTicks ≤ s.mt))

/-- Why a release of group `g` is refused (SAF_REL_RESULT.reason); none where R295 holds. -/
def State.relRefusals (s : State) (g : Nat) : List Nat :=
  (if (s.grp g).state ≠ 2 then [3] else if s.quiet g then [] else [1]) ++ (if s.tmk.mtRun then [] else [6])

/-- The bits of a list of groups. -/
def groupBits (l : List Nat) : Nat := l.foldl (fun m g => m + 2 ^ g) 0

/-- A release refused for groups (R295, Table SAF-10). -/
def State.relRefuse (s : State) (groups reason : Nat) : State :=
  if groups = 0 then s
  else
    let s1 := ((s.setFld F.SAF_STATUS_clear_refused 1).setFld F.SAF_REL_RESULT_refused groups).setFld F.SAF_REL_RESULT_reason reason
    (s1.logSafety 3 reason groups none).safEvent F.SAF_EVT_refused

/-- Groups released (R295): 1 CMD, 2 EDGE. -/
def State.relDo (s : State) (groups via : Nat) : State :=
  if groups = 0 then s
  else
    let s1 := s.onSaf (fun k => { k with groups := (List.range 10).map (fun g => if groups.testBit g then {} else k.groups.getD g {}) })
    let s2 := ((s1.lockShow).count F.SAF_CNT_releases).setFld F.SAF_REL_RESULT_released groups
    ((s2.setFld F.SAF_REL_RESULT_via via).logSafety 2 via groups (some s2.mt)).safEvent F.SAF_EVT_release

/-- A release judged group by group: each named group with the reasons that refuse it. -/
def State.release (s : State) (groups : List Nat) (why : Nat → List Nat) (via : Nat) : State :=
  let ok := groups.filter (fun g => why g = [])
  let no := groups.filter (fun g => why g ≠ [])
  let s1 := s.relDo (groupBits ok) via
  match no with
  | [] => s1
  | g :: _ =>
    let r := s1.pickFault (why g)
    r.2.relRefuse (groupBits no) (r.1.getD 0)

/-! ## The sealed set (Table SAF-5) -/

/-- The fields of other blocks in the sealed set, register by register in table order. -/
def sealedFields : List (List Field) :=
  [[F.CPU_SFC_CTRL_sig_gap, F.CPU_SFC_CTRL_stest_period], [F.CPU_SFC_TMON_open, F.CPU_SFC_TMON_close], [F.CPU_CTRL_cc_to_sfc], [F.VEH_CTRL_trip_f],
   [F.VEH_CP_CAL_offset, F.VEH_CP_CAL_gain], [F.VEH_PP_CFG_r_pu], [F.STF_NODE_post], [F.UPD_ANCHOR_slot],
   [F.RBN_CAL_i_min, F.RBN_CAL_i_max]]

/-- The words of the other blocks' fields, their other bits 0. -/
def State.sealedWords (s : State) : List Word :=
  sealedFields.map (fun fs => fs.foldl (fun w f => putBits w f.hi f.lo (s.fld f)) 0)

/-- The other blocks' fields taken from a copy (R299). -/
def State.loadSealed (s : State) (ws : List Word) : State :=
  (sealedFields.zip ws).foldl (fun t p => p.1.foldl (fun u f => u.setFld f (getBits p.2 f.hi f.lo)) t) s

/-- The body of a copy (R299). -/
def sealedBody (t : SafSet) (others : List Word) : List Byte :=
  (t.map ++ [w32 t.mode] ++ t.cmp.map w32 ++ t.thLvl ++ t.thCfg ++ others ++ t.conn.flatten).flatMap (fun w => leBytes 4 w.toNat)

/-- The digest of a copy under a SEAL_CODE (R299). -/
def sealedDigest (t : SafSet) (others : List Word) (code : Nat) : List Byte :=
  fitBytes 32 (Config.sha256 (sealedBody t others ++ leBytes 1 code))

/-- A copy is valid under the accepted SEAL_CODE (R299). -/
def State.copyValid (s : State) (c : SafCopy) : Bool :=
  c.sound && c.digest = sealedDigest c.set c.others c.sealCode && c.sealCode = s.sealCode

/-- The valid copy with the higher sequence number (R299). -/
def State.bestCopy (s : State) : Option SafCopy :=
  s.saf.copies.foldl (fun m c =>
    match c, m with
    | some k, none => if s.copyValid k then some k else none
    | some k, some j => if s.copyValid k && j.seq < k.seq then some k else some j
    | none, _ => m) none

/-- The SAF registers that show the effective set. -/
def State.sealShow (s : State) (c : SafCopy) : State :=
  let s1 := (s.onSaf (fun k => { k with eff := c.set, digest := c.digest, sealChanged := false })).setFld F.SAF_PARAM_STATUS_valid 1
  (List.range 8).foldl (fun t n => t.setFld (F.SAF_DIGESTn_digest n) (leNat ((c.digest.drop (4 * n)).take 4)))
    (s1.setFld F.SAF_PARAM_STATUS_seal_code c.sealCode)

/-- The accepted SEAL_CODE has changed (R301). -/
def State.sealCodeChanged (s : State) : State :=
  let moved := s.saf.armed && s.armedOf 0x3FF ≠ 0
  let s1 := ((s.onSaf (fun k => { k with sealChanged := true })).setFld F.SAF_PARAM_STATUS_valid 0).sourceAssert 54
  s1.safFault 0x0606 moved 54

/-- A fault whose source latches, with the report a lockout makes it (R241). -/
def State.sourceFault (s : State) (n code : Nat) : State :=
  let moved := s.saf.armed && !s.srcLive n && s.armedOf (s.saf.eff.mask n) ≠ 0
  (s.sourceAssert n).safFault code moved n

end Sys2Proof.Machine
end

