-- ==== Sys2Proof/Machine/CpuOps.lean ====
section
/-! DEFINITION. What every instruction of a core shares: the general registers and pairs (R71, R72), fetch and Task permissions
(R48, R52), taking an exception (R55 to R57, R66), the signature of the safety core (R62), and the frame of one instruction. -/

namespace Sys2Proof.Machine

open Sys2Proof

/-! ## General registers -/

/-- A general register; g0 reads 0 (R71). -/
def Core.r (k : Core) (n : Nat) : Word := if n = 0 then 0 else k.g.getD n 0

/-- A general register written; a write to g0 is discarded (R71). -/
def Core.w (k : Core) (n : Nat) (v : Word) : Core := if n = 0 then k else { k with g := upd k.g n (fun _ => v) }

/-- The 64-bit value of the pair gn (R72): gn+1 is the high word. -/
def Core.rp (k : Core) (n : Nat) : DWord := BitVec.append (k.r (n + 1)) (k.r n)

/-- A pair written, both registers (R72). -/
def Core.wp (k : Core) (n : Nat) (v : DWord) : Core := (k.w n (v.truncate 32)).w (n + 1) ((v >>> 32).truncate 32)

/-- A pair operand is an even register from g2 to g30 (R70, R72). -/
def isPair (n : Nat) : Bool := n % 2 = 0 && 2 ≤ n && n ≤ 30

/-- cr_status as a word (Table CPU-3). -/
def Core.status (k : Core) : Word := w32 (bit k.task + 2 * bit k.hnd + 4 * bit k.prevTask + 8 * bit k.urgEn)

/-! ## Exception causes (Table CPU-5) -/

/-- ILLEGAL -/
def excIllegal : Nat := 0x01
/-- PRIV -/
def excPriv : Nat := 0x02
/-- FETCH -/
def excFetch : Nat := 0x03
/-- LOAD_ACCESS -/
def excLoad : Nat := 0x04
/-- STORE_ACCESS -/
def excStore : Nat := 0x05
/-- ALIGN -/
def excAlign : Nat := 0x06
/-- ACCESS_REG -/
def excReg : Nat := 0x07
/-- ECC -/
def excEcc : Nat := 0x08
/-- ATOMIC -/
def excAtomic : Nat := 0x09
/-- TRAP -/
def excTrap : Nat := 0x0A
/-- REMOTE -/
def excRemote : Nat := 0x0B
/-- DIVZERO -/
def excDivzero : Nat := 0x0C
/-- URGENT -/
def excUrgent : Nat := 0x10

/-! ## Signatures, stops and exceptions -/

/-- cr_sig after a control transfer of the SFC to an address (R62); CC cores keep no signature. -/
def sigNext (sig a : Word) : Word := (sig.rotateLeft 5) ^^^ (a >>> 2)

/-- The core goes on at an address after a branch, call, return, exception entry or ERET: on the SFC the signature follows (R62). -/
def State.goTo (s : State) (c : Nat) (a : Word) : State :=
  s.onCore c (fun k => { k with pc := a, sig := if c = 4 then sigNext k.sig a else k.sig })

/-- The SFC halts on a safety fault (R66): CPU_SFC_STATUS, the fault code, source 44 of the trip matrix, EVT_CPU_FAULT to the CC cores.
`cause` is the code of CPU_SFC_STATUS.cause. A second fault of a halted SFC changes nothing. -/
def State.sfcFault (s : State) (cause code : Nat) : State :=
  if s.is F.CPU_SFC_STATUS_faulted then s else
  let s1 := s.onCore 4 (fun k => { k with running := false, stall := .none })
  let s2 := ((s1.setFld F.CPU_SFC_STATUS_faulted 1).setFld F.CPU_SFC_STATUS_cause cause).setFld F.CPU_STATUS_sfc_running 0
  let s3 := (s2.setFld F.CPU_FAULT_core 4).fault code (some Reg.CPU_FAULT)
  (s3.sourceAssert 44).deliver 30 ccCores

/-- A CC core halts with a fault code: CPU_STATUS shows it, EVT_CPU_FAULT goes to the SFC and the other CC cores (R56, R67). -/
def State.haltFault (s : State) (c code : Nat) : State :=
  let s1 := (s.onCore c (fun k => { k with running := false, stall := .none })).setFldBit F.CPU_STATUS_cc_running c false
  let s2 := (s1.setFld F.CPU_FAULT_core c).fault code (some Reg.CPU_FAULT)
  s2.deliver 30 (allCores.filter (· ≠ c))

/-- TAKING AN EXCEPTION (R55): cr_epc, cr_cause and where the cause has one cr_badaddr are set, mode goes to prev_mode, the core is at
Kernel level with hnd = 1, and goes on at the vector of Table CPU-5. A stall ends. -/
def State.enter (s : State) (c cause : Nat) (event : Nat) (epc : Word) (bad : Option Word) : State :=
  let s1 := s.onCore c (fun k =>
    { k with epc := epc, cause := w32 (cause + 256 * event), badaddr := bad.getD k.badaddr,
             prevTask := k.task, task := false, hnd := true, stall := .none })
  s1.goTo c ((s.core c).evec + (if cause = excUrgent then 0x40#32 else 0#32))

/-- A synchronous exception of an instruction at the core's pc: on the SFC a safety fault but for TRAP (R57, Table CPU-10), on a CC core
in a handler a double fault (R56), otherwise the entry of R55. -/
def State.raise (s : State) (c cause : Nat) (bad : Option Word) : State :=
  let k := s.core c
  if c = 4 && (cause ≠ excTrap || k.hnd) then s.sfcFault 1 (if cause = excEcc then 0x1002 else 0x1004)
  else if k.hnd then s.haltFault c 0x1001
  else
    let s1 := if cause = excEcc then (s.setFld F.CPU_FAULT_core c).fault 0x1002 (some Reg.CPU_FAULT) else s
    s1.enter c cause 0 (if cause = excTrap then k.pc + 4 else k.pc) bad

/-- RETURN FROM AN EXCEPTION (R55): mode from prev_mode, hnd cleared, on at cr_epc. -/
def State.leave (s : State) (c : Nat) : State :=
  let epc := (s.core c).epc
  (s.onCore c (fun k => { k with task := k.prevTask, hnd := false })).goTo c epc

/-! ## Urgent events (R54) -/

/-- The lowest line set in a word, or 32. -/
def lowestLine (w : Word) : Nat := ((List.range 32).find? (fun n => w.getLsbD n)).getD 32

/-- The lines that are pending and urgent. -/
def Core.urgentLines (k : Core) : Word := k.pend &&& k.urgent

/-- URGENT is due (R54). -/
def Core.urgentDue (k : Core) : Bool := k.running && k.urgEn && !k.hnd && k.urgentLines ≠ 0

/-! ## Permissions -/

/-- The first byte above the SFC's code (R48, Table CPU-14). -/
def State.sfcLimit (s : State) : Nat := 0x30000000 + 4096 * s.fld F.CPU_SFC_CTRL_code_limit

/-- A Task region covers a whole access with the needed permission bit (0 read, 1 write, 2 execute) (R52). -/
def Core.taskCovers (k : Core) (a size perm : Nat) : Bool :=
  (List.range 8).any (fun i =>
    let base := ((k.treg.getD (2 * i) 0) &&& 0xFFFFFF00#32).toNat
    let lim := k.treg.getD (2 * i + 1) 0
    base ≤ a && a + size ≤ (lim &&& 0xFFFFFF00#32).toNat && lim.getLsbD perm)

/-- The active slot's address range (Table CPU-2). -/
def State.inActiveSlot (s : State) (a : Nat) : Bool :=
  let b := 0x300000 * s.fld F.DSK_BOOT_slot
  b ≤ a && a + 4 ≤ b + 0x300000

/-- A fetch at the pc is permitted (R48, R52, R69). -/
def State.fetchOk (s : State) (c : Nat) : Bool :=
  let k := s.core c
  let a := k.pc.toNat
  a % 4 = 0 &&
  (if c = 4 then 0x30000000 ≤ a && a + 4 ≤ s.sfcLimit
   else (s.inActiveSlot a || (0x20000000 ≤ a && a + 4 ≤ 0x20200000)) && (!k.task || k.taskCovers a 4 2))

/-! ## The frame of one instruction -/

/-- A core can start its next instruction: it runs, is not stalled, and no urgent entry is due (R53, R54, R81). -/
def State.coreReady (s : State) (c : Nat) : Bool :=
  let k := s.core c
  k.running && decide (k.stall = .none) && !k.urgentDue

/-- An instruction has completed: on the SFC it counts toward the SIGCHK gap, and more than 16 × sig_gap instructions without a SIGCHK
are a signature fault (R62). -/
def State.counted (s : State) (c : Nat) : State :=
  if c = 4 then
    let s1 := { s with cpu := { s.cpu with sigCount := s.cpu.sigCount + 1 } }
    if 16 * s.fld F.CPU_SFC_CTRL_sig_gap < s1.cpu.sigCount then s1.sfcFault 2 0x1005 else s1
  else s

/-- The core goes on with the next word, its registers changed (R69). -/
def State.retire (s : State) (c : Nat) (f : Core → Core) : State :=
  (s.onCore c (fun k => let k1 := f k; { k1 with pc := k.pc + 4 })).counted c

/-- The words of SRAM in a list that an access touches. -/
def eccWords (l : List Nat) (a n : Nat) : List Nat := l.filter (fun w => decide (0 < n ∧ w < a + n ∧ a < w + 8))

/-- No word an access touches has an error (assumption 48). -/
def State.sound (s : State) (a n : Nat) : Bool := (eccWords s.cpu.eccBad a n).isEmpty && (eccWords s.cpu.eccOne a n).isEmpty

/-- A permitted access of a core reads `n` bytes of memory: ECC where an error cannot be corrected; corrected errors are counted and raise
nothing (Table CPU-5, Table CPU-12). -/
def State.eccCheck (s : State) (c a n : Nat) (f : State → State) : State :=
  if !(eccWords s.cpu.eccBad a n).isEmpty then s.raise c excEcc (some (w32 a))
  else if (eccWords s.cpu.eccOne a n).isEmpty then f s
  else f (s.count F.CPU_STATUS_ecc_corr (eccWords s.cpu.eccOne a n).length)

/-- One instruction of a core: nothing where the core cannot start one (assumption 7), FETCH where the fetch is not permitted, ECC where the
word fetched has an error that cannot be corrected, ILLEGAL where the SFC meets an instruction outside GCIS-S (R70, R85), otherwise the instruction's own meaning. -/
def State.insn (s : State) (c : Nat) (gcisS : Bool) (body : Core → State → State) : State :=
  if !s.coreReady c then s
  else if !s.fetchOk c then s.raise c excFetch (some (s.core c).pc)
  else s.eccCheck c (s.core c).pc.toNat 4 (fun t => if c = 4 && !gcisS then t.raise c excIllegal none else body (t.core c) t)

/-- An instruction that only writes one register from the core's registers. -/
def State.compute (s : State) (c rd : Nat) (f : Core → Word) : State :=
  s.insn c true (fun k t => t.retire c (fun k1 => k1.w rd (f k)))

/-- An instruction that only writes one pair; every pair operand must be one (R70, R72). -/
def State.compute64 (s : State) (c rd : Nat) (pairs : List Nat) (f : Core → DWord) : State :=
  s.insn c true (fun k t =>
    if pairs.all isPair then t.retire c (fun k1 => k1.wp rd (f k)) else t.raise c excIllegal none)

/-- A control transfer to a target: a misaligned target raises FETCH with the target in cr_badaddr (R69), and then nothing else of the
instruction happens (R86). -/
def State.transfer (s : State) (c : Nat) (a : Word) (f : Core → Core) : State :=
  if a &&& 3#32 ≠ 0 then s.raise c excFetch (some a)
  else ((s.onCore c f).goTo c a).counted c

/-- A Kernel-only instruction: PRIV at Task level (R52). -/
def State.kernel (s : State) (c : Nat) (body : State → State) : State :=
  if (s.core c).task then s.raise c excPriv none else body s

end Sys2Proof.Machine
end

