-- ==== Sys2Proof/Machine/Alu.lean ====
section
/-! DEFINITION. The ALU instructions (Table CPU-18). -/

namespace Sys2Proof.Machine

open Sys2Proof

/-- Number of leading zero bits of a word, 0 to 32 (Table CPU-18, CLZ). -/
def clz32 (v : Word) : Nat := ((List.range 32).find? (fun n => v.getLsbD (31 - n))).getD 32

/-- rd ← ra + rb, wrapping (R77, Table CPU-18). -/
def execAdd (c rd ra rb : Nat) (s : State) : Host.Outcome State Fault Refusal :=
  .next (s.compute c rd (fun k => k.r ra + k.r rb))

/-- rd ← ra − rb, wrapping (R77, Table CPU-18). -/
def execSub (c rd ra rb : Nat) (s : State) : Host.Outcome State Fault Refusal :=
  .next (s.compute c rd (fun k => k.r ra - k.r rb))

/-- rd ← ra AND rb (R77, Table CPU-18). -/
def execAnd (c rd ra rb : Nat) (s : State) : Host.Outcome State Fault Refusal :=
  .next (s.compute c rd (fun k => k.r ra &&& k.r rb))

/-- rd ← ra OR rb (R77, Table CPU-18). -/
def execOr (c rd ra rb : Nat) (s : State) : Host.Outcome State Fault Refusal :=
  .next (s.compute c rd (fun k => k.r ra ||| k.r rb))

/-- rd ← ra XOR rb (R77, Table CPU-18). -/
def execXor (c rd ra rb : Nat) (s : State) : Host.Outcome State Fault Refusal :=
  .next (s.compute c rd (fun k => k.r ra ^^^ k.r rb))

/-- rd ← ra << rb[4:0] (R77, Table CPU-18). -/
def execSll (c rd ra rb : Nat) (s : State) : Host.Outcome State Fault Refusal :=
  .next (s.compute c rd (fun k => k.r ra <<< ((k.r rb).toNat % 32)))

/-- rd ← ra >> rb[4:0], zero fill (R77, Table CPU-18). -/
def execSrl (c rd ra rb : Nat) (s : State) : Host.Outcome State Fault Refusal :=
  .next (s.compute c rd (fun k => k.r ra >>> ((k.r rb).toNat % 32)))

/-- rd ← ra >> rb[4:0], sign fill (R77, Table CPU-18). -/
def execSra (c rd ra rb : Nat) (s : State) : Host.Outcome State Fault Refusal :=
  .next (s.compute c rd (fun k => (k.r ra).sshiftRight ((k.r rb).toNat % 32)))

/-- rd ← ra rotated left by rb[4:0] (R77, Table CPU-18). -/
def execRotl (c rd ra rb : Nat) (s : State) : Host.Outcome State Fault Refusal :=
  .next (s.compute c rd (fun k => (k.r ra).rotateLeft ((k.r rb).toNat % 32)))

/-- rd ← ra << n (R77, Table CPU-18). -/
def execSlli (c rd ra n : Nat) (s : State) : Host.Outcome State Fault Refusal :=
  .next (s.compute c rd (fun k => k.r ra <<< (n % 32)))

/-- rd ← ra >> n, zero fill (R77, Table CPU-18). -/
def execSrli (c rd ra n : Nat) (s : State) : Host.Outcome State Fault Refusal :=
  .next (s.compute c rd (fun k => k.r ra >>> (n % 32)))

/-- rd ← ra >> n, sign fill (R77, Table CPU-18). -/
def execSrai (c rd ra n : Nat) (s : State) : Host.Outcome State Fault Refusal :=
  .next (s.compute c rd (fun k => (k.r ra).sshiftRight (n % 32)))

/-- rd ← 1 if ra < rb signed, else 0 (R77, Table CPU-18). -/
def execSlt (c rd ra rb : Nat) (s : State) : Host.Outcome State Fault Refusal :=
  .next (s.compute c rd (fun k => if (k.r ra).slt (k.r rb) then 1 else 0))

/-- rd ← 1 if ra < rb unsigned, else 0 (R77, Table CPU-18). -/
def execSltu (c rd ra rb : Nat) (s : State) : Host.Outcome State Fault Refusal :=
  .next (s.compute c rd (fun k => if (k.r ra).ult (k.r rb) then 1 else 0))

/-- rd ← smaller of ra, rb signed (R77, Table CPU-18). -/
def execMin (c rd ra rb : Nat) (s : State) : Host.Outcome State Fault Refusal :=
  .next (s.compute c rd (fun k => if (k.r rb).slt (k.r ra) then k.r rb else k.r ra))

/-- rd ← larger of ra, rb signed (R77, Table CPU-18). -/
def execMax (c rd ra rb : Nat) (s : State) : Host.Outcome State Fault Refusal :=
  .next (s.compute c rd (fun k => if (k.r ra).slt (k.r rb) then k.r rb else k.r ra))

/-- rd ← smaller of ra, rb unsigned (R77, Table CPU-18). -/
def execMinu (c rd ra rb : Nat) (s : State) : Host.Outcome State Fault Refusal :=
  .next (s.compute c rd (fun k => if (k.r rb).ult (k.r ra) then k.r rb else k.r ra))

/-- rd ← larger of ra, rb unsigned (R77, Table CPU-18). -/
def execMaxu (c rd ra rb : Nat) (s : State) : Host.Outcome State Fault Refusal :=
  .next (s.compute c rd (fun k => if (k.r ra).ult (k.r rb) then k.r rb else k.r ra))

/-- rd ← number of leading zero bits of ra (R77, Table CPU-18). -/
def execClz (c rd ra : Nat) (s : State) : Host.Outcome State Fault Refusal :=
  .next (s.compute c rd (fun k => w32 (clz32 (k.r ra))))

/-- rd ← sext(ra[7:0]) (R77, Table CPU-18). -/
def execSextb (c rd ra : Nat) (s : State) : Host.Outcome State Fault Refusal :=
  .next (s.compute c rd (fun k => ((k.r ra).truncate 8).signExtend 32))

/-- rd ← sext(ra[15:0]) (R77, Table CPU-18). -/
def execSexth (c rd ra : Nat) (s : State) : Host.Outcome State Fault Refusal :=
  .next (s.compute c rd (fun k => ((k.r ra).truncate 16).signExtend 32))

/-- rd ← ra if rc ≠ 0, else rb (R77, Table CPU-18). -/
def execCsel (c rd ra rb rc : Nat) (s : State) : Host.Outcome State Fault Refusal :=
  .next (s.compute c rd (fun k => if k.r rc ≠ 0 then k.r ra else k.r rb))

end Sys2Proof.Machine
end

