-- ==== Sys2Proof/Machine/Access.lean ====
section
/-! DEFINITION. Which initiator may reach which register block (R48, R52, Table CPU-6, R451), and the frame of a register write that is
a command of its own. -/

namespace Sys2Proof.Machine

open Sys2Proof

/-- The register block of an address (Table SYS-5). -/
def blockOf (a : Nat) : Nat := (a - 0x40000000) / 0x1000

/-- The address lies in the register region (Table CPU-2). -/
def isRegAddr (a : Nat) : Bool := 0x40000000 ≤ a && a < 0x40012000

/-- CPU registers the SFC may write (Table CPU-6). -/
def sfcCpuWritable (a : Nat) : Bool :=
  (Reg.CPU_MBOX0 ≤ a && a ≤ Reg.CPU_MBOX4) || a = Reg.CPU_SFC_CTRL || a = Reg.CPU_SFC_TMON || a = Reg.CPU_SFC_STATUS

/-- Blocks the SFC reads and writes: STF, SAF, EFM, VEH, PWR, NJD (Table CPU-6). -/
def sfcFull : List Nat := [5, 6, 7, 8, 9, 12]

/-- Blocks the SFC only reads: SYS, TMK, MTR, CPU (Table CPU-6). -/
def sfcRead : List Nat := [0, 1, 10, 16]

/-- A Task-level core may reach a block: its bit in cr_tblk, never CPU, KV, UPD or DSK (R52). -/
def Core.taskBlock (k : Core) (b : Nat) : Bool := k.tblk.getLsbD b && !([16, 13, 14, 17].contains b)

/-- A core may read a register address (R48, R52, Table CPU-6). -/
def State.coreReads (s : State) (c a : Nat) : Bool :=
  if c = 4 then (sfcFull ++ sfcRead).contains (blockOf a)
  else !(s.core c).task || (s.core c).taskBlock (blockOf a)

/-- A core may write a register address (R48, R52, Table CPU-6); a CPU offset that no table lists is no register (R453). -/
def State.coreWrites (s : State) (c a : Nat) : Bool :=
  if c = 4 then sfcFull.contains (blockOf a) || sfcCpuWritable a || (blockOf a = 16 && !isListed a)
  else !(s.core c).task || (s.core c).taskBlock (blockOf a)

/-- The registers with a row of their own that the host may write (Table SYS-48). -/
def hostRows : List Nat :=
  [Reg.TMK_WALL_SET, Reg.STF_NODE, Reg.MTR_SNAP, Reg.NJD_TAMPER_CLR, Reg.UPD_ACTIVATE, Reg.UPD_ABORT, Reg.DSK_RESET]

/-- Registers that take Kernel writes only, where a Task-level write raises ACCESS_REG: QE but for the doorbells, XMP, STF and BIL (chapters 10, 19
and 11, Registers). -/
def kernelOnly (a : Nat) : Bool :=
  isListed a && ((blockOf a = 3 && a ≠ Reg.QE_DB_PROD && a ≠ Reg.QE_DB_CONS) || blockOf a = 4 || blockOf a = 5 || blockOf a = 11)

/-- SAF registers whose Task-level writes are ignored (14_safety_functions.md, Registers). -/
def taskIgnored (a : Nat) : Bool :=
  [Reg.SAF_REL_REQ, Reg.SAF_REL_CONFIRM, Reg.SAF_TEST, Reg.SAF_PARAM_CMD, Reg.SAF_SC_CMD].contains a

/-- An initiator's write to a register with a row of its own reaches it (R48, R52, Table CPU-6, R451). -/
def State.mayWrite (s : State) (who : Init) (a : Nat) : Bool :=
  match who with
  | .host => hostRows.contains a
  | .core c => c < 5 && s.coreWrites c a && !((s.core c).task && (kernelOnly a || taskIgnored a))

/-- The effect of a register write that is a command of its own, where its initiator may make it (R456: from any other initiator it
changes nothing). -/
def State.port (s : State) (who : Init) (a : Nat) (f : State → State) : State := if s.mayWrite who a then f s else s

/-- The core behind an initiator. -/
def Init.core? : Init → Option Nat
  | .host => none
  | .core c => some c

/-- The initiator is a CC core. -/
def Init.isCc : Init → Bool
  | .host => false
  | .core c => c < 4

/-- The index of a reader's latches (R33, R35): the cores 0 to 4, the host 5. -/
def Init.reader : Init → Nat
  | .host => 5
  | .core c => c

end Sys2Proof.Machine
end

