-- ==== Sys2Proof/Machine/Bil.lean ====
section
/-! DEFINITION. The commands of the billing block (19_billing_tariffs.md). -/

namespace Sys2Proof.Machine

open Sys2Proof

/-! ## Sessions (R393 to R395) -/

/-- A command of Table BIL-9 refused, with its reason. -/
def State.bilRefused (s : State) (reason : Nat) : State := (s.setFld F.BIL_STATUS_cmd_refused 1).setFld F.BIL_STATUS_reason reason

/-- A session is open or opening (R393). -/
def State.sessionOpen (s : State) : Bool := s.bil.session.isSome || s.bil.opening.isSome

/-- Why an OPEN is refused (R393). -/
def State.openRefusals (s : State) : List Nat :=
  failIf (!s.recordingOk) 1 ++ failIf (s.freeSlots < (if s.bil.interval.isSome then 1 else 2)) 2 ++ failIf (!(s.lc = 1 || s.lc = 2)) 3 ++
    failIf s.sessionOpen 4

/-- OPEN (R393). -/
def State.sesOpen (s : State) : State :=
  let r := s.pickFault s.openRefusals
  match r.1 with
  | some n => r.2.bilRefused n
  | none =>
    let q := s.reserveSlot (List.range 8)
    match q.1 with
    | some slot => q.2.onBil (fun b => { b with opening := some slot })
    | none => q.2.bilRefused 2

/-- CLOSE with a program reason (R393). -/
def State.sesClose (s : State) (reason : Nat) : State :=
  if s.bil.session.isSome && 0x10 ≤ reason then s.onBil (fun b => { b with closeAt := some reason }) else s.bilRefused 5

/-- The latest closed session record that awaits its amount (R395). -/
def State.awaiting (s : State) : Option Nat :=
  ((List.range 8).filter (fun i => (s.bil.slots.getD i {}).amountFrom.isSome)).foldl (fun m i =>
    match m with
    | none => some i
    | some j => if (s.bil.slots.getD j {}).num < (s.bil.slots.getD i {}).num then some i else some j) none

/-- Ticks of amount_to. -/
def State.amountTo (s : State) : Nat := 100 * msTicks * s.fld F.BIL_SES_CFG_amount_to

/-- AMOUNT within amount_to (R395): the amount enters the body, which is then signed. -/
def State.sesAmount (s : State) : State :=
  match s.awaiting with
  | none => s.bilRefused 5
  | some i =>
    let r := s.bil.slots.getD i {}
    if s.mt - r.amountFrom.getD 0 ≤ s.amountTo then
      let flags := (leNat ((r.body.drop 7).take 1)) % 128
      let amount := (s.word Reg.BIL_SES_AMT_LO).toNat + 2 ^ 32 * (s.word Reg.BIL_SES_AMT_HI).toNat
      let body := r.body.take 7 ++ leBytes 1 flags ++ (r.body.drop 8).take 0x50 ++ leBytes 8 amount
      (s.onSlot i (fun k => { k with body := body, amountFrom := none })).signSubmit i
    else s.bilRefused 5

/-- A write to BIL_SES_CMD (R393, R395). -/
def State.wrSesCmd (s : State) (v : Word) : State :=
  if !s.bilOn then s
  else if getBits v 31 16 ≠ 0xB11E then s.bilRefused 5
  else
    match getBits v 1 0 with
    | 1 => s.sesOpen
    | 2 => s.sesClose (getBits v 15 8)
    | 3 => s.sesAmount
    | _ => s.bilRefused 5

/-- BIL_SES_CMD op OPEN (R393). -/
def execSessionOpen (who : Init) (v : Word) (s : State) : Host.Outcome State Fault Refusal :=
  .next (s.port who Reg.BIL_SES_CMD (fun t => t.wrSesCmd v))

/-- BIL_SES_CMD op CLOSE (R393). -/
def execSessionClose (who : Init) (v : Word) (s : State) : Host.Outcome State Fault Refusal :=
  .next (s.port who Reg.BIL_SES_CMD (fun t => t.wrSesCmd v))

/-- BIL_SES_CMD op AMOUNT (R395). -/
def execSessionAmount (who : Init) (v : Word) (s : State) : Host.Outcome State Fault Refusal :=
  .next (s.port who Reg.BIL_SES_CMD (fun t => t.wrSesCmd v))

/-- 1 s after the cause a CLOSING session closes (R394). -/
def execSessionClosingTimeout (s : State) : Host.Outcome State Fault Refusal :=
  .next (match s.bil.closing with
  | some (r, t) => if s.bilOn && secTicks ≤ s.mt - t then s.closeSession r else s
  | none => s)

/-- amount_to has passed: the record is completed with the absent amount and signed (R395). -/
def execAmountTimeout (slot : Nat) (s : State) : Host.Outcome State Fault Refusal :=
  .next (match (s.bil.slots.getD slot {}).amountFrom with
  | some t => if s.bilOn && s.amountTo < s.mt - t then (s.onSlot slot (fun k => { k with amountFrom := none })).signSubmit slot else s
  | none => s)

/-! ## Signing and publication (R397 to R399) -/

/-- The SIGN of a record completes or fails (R397). -/
def execRecordSigned (slot : Nat) (s : State) : Host.Outcome State Fault Refusal :=
  .next (match s.kvJob (.record slot) with
  | none => s
  | some t =>
    if t.phase < 3 then s
    else
      let s1 := s.kvRelease t.id
      if t.phase = 3 && t.out.length = 64 then
        let s2 := s1.onSlot slot (fun k => { k with state := 3, sig := t.out, signing := false })
        ((s2.count F.BIL_CNT_signed).bilEvent F.BIL_EVT_signed).releaseSlots
      else s1.signFail slot)

/-- An unsigned record is submitted again 10 s after its last attempt (R397). -/
def execSignRetry (slot : Nat) (s : State) : Host.Outcome State Fault Refusal :=
  .next (let r := s.bil.slots.getD slot {}
    if s.bilOn && r.state = 2 && !r.signing && r.amountFrom.isNone && 10 * secTicks ≤ s.mt - r.triedAt then s.signSubmit slot else s)

/-- The SIGNED slot with the lowest record number (R399). -/
def State.nextPublished (s : State) : Option Nat :=
  ((List.range 8).filter (fun i => (s.bil.slots.getD i {}).state = 3)).foldl (fun m i =>
    match m with
    | none => some i
    | some j => if (s.bil.slots.getD i {}).num < (s.bil.slots.getD j {}).num then some i else some j) none

/-- A signed record is appended to queue 0x0038 where it has room (R398, R399). -/
def execRecordPublish (s : State) : Host.Outcome State Fault Refusal :=
  .next (match (if s.bilOn then s.nextPublished else none) with
  | none => s
  | some i =>
    let k := s.bil.slots.getD i {}
    let r := s.blockPush 0x38 (k.body ++ k.sig)
    if r.1 then (r.2.onSlot i (fun q => { q with state := 4 })).releaseSlots else r.2)

/-! ## Demand reset, prepayment -/

/-- A write to BIL_MD_CMD (R403). -/
def State.wrMdCmd (s : State) (v : Word) : State :=
  if s.bilOn && getBits v 31 16 = 0xDE5E then
    let m := getBits v 7 0
    let named := (List.range 8).filter (fun i => m.testBit i)
    let s1 := named.foldl (fun t i => t.onDemand i (fun d => { d with prev := d.max, prevTime := d.maxTime, max := 0, maxTime := 0 })) s
    let top := named.foldl (fun n i => max n (s.bil.demand.getD i {}).max) 0
    s1.logRecord 4 m top none
  else s

/-- BIL_MD_CMD (R403). -/
def execBilMdCmd (who : Init) (v : Word) (s : State) : Host.Outcome State Fault Refusal :=
  .next (s.port who Reg.BIL_MD_CMD (fun t => t.wrMdCmd v))

/-- A write to BIL_PP_TOPUP_SEQ (R406). -/
def State.wrTopup (s : State) (v : Word) : State :=
  let amount := (s.word Reg.BIL_PP_TOPUP_LO).toNat + 2 ^ 32 * (s.word Reg.BIL_PP_TOPUP_HI).toNat
  if !s.bilOn then s
  else if 0 < sgn 64 amount && s.bil.topSeq < v.toNat then
    let sum := s.bil.credit + sgn 64 amount
    let r := if sum < 2 ^ 63 then (sum, s) else let q := s.takeFree 64; (sgn 64 q.1, q.2)
    let s1 := r.2.onBil (fun b => { b with credit := r.1, topSeq := v.toNat })
    let s2 := if (s1.fld F.BIL_PP_WARN_warn : Int) ≤ s1.bil.credit then s1.setFld F.BIL_PP_STATUS_low 0 else s1
    if 0 < s2.creditFix then s2.setFld F.BIL_PP_STATUS_exhausted 0 else s2
  else s.bilRefused 6

/-- A top-up (R406). -/
def execTopup (who : Init) (v : Word) (s : State) : Host.Outcome State Fault Refusal :=
  .next (s.port who Reg.BIL_PP_TOPUP_SEQ (fun t => t.wrTopup v))

/-- 100 ms after the open command the disconnecting contactor does not read open (R405). -/
def execPpFbTimeout (s : State) : Host.Outcome State Fault Refusal :=
  .next (match s.bil.fbFrom with
  | some t =>
    if 100 * msTicks ≤ s.mt - t then
      let s1 := s.onBil (fun b => { b with fbFrom := none })
      if s1.fbClosed (s1.fld F.BIL_PP_CFG_ctr) then s1.ppFbFault else s1
    else s
  | none => s)

/-! ## Other registers (Table BIL-9, R409) -/

/-- The words of the settings record (R409). -/
def State.bilWords (s : State) : List Word :=
  [s.word Reg.BIL_CTRL &&& 0x387#32, s.word Reg.BIL_SIGN_KEY, s.word Reg.BIL_INT_CFG, w32 (s.fld F.BIL_RATE_default), s.word Reg.BIL_PP_CFG] ++
    s.bil.demand.map (fun d => w32 d.cfg) ++ s.bil.switch.map (fun e => w32 e.1) ++ s.bil.switch.map (fun e => w32 e.2) ++
    s.bil.prices.map w32

/-- The settings record's words taken over (R408). -/
def State.bilLoad (s : State) (w : List Word) : State :=
  let at_ := fun (i : Nat) => w.getD i 0
  let s1 := (s.setWord Reg.BIL_CTRL ((s.word Reg.BIL_CTRL &&& ~~~0x387#32) ||| at_ 0)).setWord Reg.BIL_SIGN_KEY (at_ 1)
  let s2 := ((s1.setWord Reg.BIL_INT_CFG (at_ 2)).setFld F.BIL_RATE_default (at_ 3).toNat).setWord Reg.BIL_PP_CFG (at_ 4)
  s2.onBil (fun b => { b with
    demand := (List.range 8).map (fun i => { b.demand.getD i {} with cfg := (at_ (5 + i)).toNat }),
    switch := (List.range 16).map (fun i => ((at_ (13 + i)).toNat, (at_ (29 + i)).toNat)),
    prices := (List.range 16).map (fun i => (at_ (45 + i)).toNat) })

/-- A settings write: the changed settings are copied with read-back, or not applied, with BIL_NV (R409, Table BIL-6). -/
def State.bilStore (s t : State) (good : Bool) : State :=
  if t.bilWords = s.bilWords then t
  else
    let c := writeCopy s.bil.copies t.bilWords good
    if good then t.onBil (fun b => { b with copies := c }) else (s.onBil (fun b => { b with copies := c })).bilFault 0x0B04

/-- The value of INT_CFG whose len_min divides 1,440, otherwise the present one stands (Table BIL-9). -/
def State.intCfgWord (s : State) (v : Word) : Word :=
  let n := getBits v 5 0
  if n ≠ 0 && 1440 % n = 0 then v else putBits v 5 0 (s.fld F.BIL_INT_CFG_len_min)

/-- A write to the selected demand register's configuration (R401). -/
def State.wrMdCfg (s : State) (v : Word) (good : Bool) : State :=
  let i := s.fld F.BIL_MD_SEL_reg
  let n := getBits v 13 10
  if n ≠ 0 && 60 * getBits v 9 4 % n ≠ 0 then s
  else
    let r := (s.setWord Reg.BIL_MD_CFG (w32 (s.bil.demand.getD i {}).cfg)).wrCols (colsOf Reg.BIL_MD_CFG) v (fun _ _ => !s.sessionOpen)
    let new := (r.st.word Reg.BIL_MD_CFG).toNat
    let t := (r.st.setWord Reg.BIL_MD_CFG (s.word Reg.BIL_MD_CFG)).onDemand i (fun d =>
      if d.cfg = new then d else { d with cfg := new, energy := 0, hist := [], end_ := none })
    { r with st := s.bilStore t good, changed := r.changed && good }.finish Reg.BIL_MD_CFG (some F.BIL_STATUS_cfg_refused)

/-- A write to any other register of the block; `good` is the read-back of the settings record. -/
def State.wrBil (s : State) (a : Nat) (v : Word) (good : Bool) : State :=
  if !s.bilOn then s
  else if a = Reg.BIL_MD_CFG then s.wrMdCfg v good
  else if a = Reg.BIL_SW_TIME then
    s.bilStore (s.onBil (fun b => { b with switch := upd b.switch (s.fld F.BIL_SW_SEL_entry) (fun e => (v.toNat, e.2)) })) good
  else if a = Reg.BIL_SW_RATE then
    s.bilStore (s.onBil (fun b => { b with switch := upd b.switch (s.fld F.BIL_SW_SEL_entry) (fun e => (e.1, getBits v 3 0)) })) good
  else if a = Reg.BIL_PP_PRICE then
    s.bilStore (s.onBil (fun b => { b with prices := upd b.prices (s.fld F.BIL_PP_PRICE_SEL_rate) (fun _ => v.toNat) })) good
  else if a = Reg.BIL_PSTATE then
    s.onBil (fun b => { b with pstate := upd b.pstate (s.fld F.BIL_PSTATE_SEL_word) (fun _ => v) })
  else
    let v1 := if a = Reg.BIL_INT_CFG then s.intCfgWord v else v
    let ok := fun (c : Col) (_ : Nat) =>
      match c.acc with
      | .rws _ => !s.sessionOpen
      | _ => !(a = Reg.BIL_SES_CFG && c.lo = 0 && s.sessionOpen)
    let r := s.wrCols (colsOf a) v1 ok
    let t := if s.is F.BIL_CTRL_en && !r.st.is F.BIL_CTRL_en then r.st.onBil (fun b => { b with disable := b.interval.isSome }) else r.st
    { r with st := s.bilStore t good, changed := r.changed && good }.finish a (some F.BIL_STATUS_cfg_refused)

end Sys2Proof.Machine
end

