-- ==== Sys2Proof/Machine/Control.lean ====
section
/-! DEFINITION. The immediate instructions (Table CPU-21), control transfer (Table CPU-23), and the system, trap, safety, time and event instructions
that reach no register block (Tables CPU-24 and CPU-25). -/

namespace Sys2Proof.Machine

open Sys2Proof

/-- rd ← ra + sext(imm16) (R77, Table CPU-21). -/
def execAddi (c rd ra : Nat) (imm : BitVec 16) (s : State) : Host.Outcome State Fault Refusal :=
  .next (s.compute c rd (fun k => k.r ra + imm.signExtend 32))

/-- rd ← ra AND zext(imm16) (R77, Table CPU-21). -/
def execAndi (c rd ra : Nat) (imm : BitVec 16) (s : State) : Host.Outcome State Fault Refusal :=
  .next (s.compute c rd (fun k => k.r ra &&& imm.zeroExtend 32))

/-- rd ← ra OR zext(imm16) (R77, Table CPU-21). -/
def execOri (c rd ra : Nat) (imm : BitVec 16) (s : State) : Host.Outcome State Fault Refusal :=
  .next (s.compute c rd (fun k => k.r ra ||| imm.zeroExtend 32))

/-- rd ← ra XOR zext(imm16) (R77, Table CPU-21). -/
def execXori (c rd ra : Nat) (imm : BitVec 16) (s : State) : Host.Outcome State Fault Refusal :=
  .next (s.compute c rd (fun k => k.r ra ^^^ imm.zeroExtend 32))

/-- rd ← 1 if ra < sext(imm16) signed, else 0 (R77, Table CPU-21). -/
def execSlti (c rd ra : Nat) (imm : BitVec 16) (s : State) : Host.Outcome State Fault Refusal :=
  .next (s.compute c rd (fun k => if (k.r ra).slt (imm.signExtend 32) then 1 else 0))

/-- rd ← 1 if ra < sext(imm16) unsigned, else 0 (R77, Table CPU-21). -/
def execSltiu (c rd ra : Nat) (imm : BitVec 16) (s : State) : Host.Outcome State Fault Refusal :=
  .next (s.compute c rd (fun k => if (k.r ra).ult (imm.signExtend 32) then 1 else 0))

/-- rd ← imm16 << 16 (R77, Table CPU-21). -/
def execLui (c rd : Nat) (imm : BitVec 16) (s : State) : Host.Outcome State Fault Refusal :=
  .next (s.compute c rd (fun _ => imm.zeroExtend 32 <<< 16))

/-- rd ← address of this instruction + (imm16 << 16) (R77, Table CPU-21). -/
def execAuipc (c rd : Nat) (imm : BitVec 16) (s : State) : Host.Outcome State Fault Refusal :=
  .next (s.compute c rd (fun k => k.pc + (imm.zeroExtend 32 <<< 16)))

/-! ## Control transfer -/

/-- A conditional branch: sext(off16) × 4 is added to the address of the branch; taken or not, the SFC's signature follows (R62). -/
def State.branch (s : State) (c : Nat) (off : BitVec 16) (cond : Core → Bool) : State :=
  s.insn c true (fun k t => t.transfer c (if cond k then k.pc + (off.signExtend 32 <<< 2) else k.pc + 4) id)

/-- Branch if ra = rb (R77, Table CPU-23). -/
def execBeq (c ra rb : Nat) (off : BitVec 16) (s : State) : Host.Outcome State Fault Refusal :=
  .next (s.branch c off (fun k => k.r ra == k.r rb))

/-- Branch if ra ≠ rb (R77, Table CPU-23). -/
def execBne (c ra rb : Nat) (off : BitVec 16) (s : State) : Host.Outcome State Fault Refusal :=
  .next (s.branch c off (fun k => k.r ra != k.r rb))

/-- Branch if ra < rb signed (R77, Table CPU-23). -/
def execBlt (c ra rb : Nat) (off : BitVec 16) (s : State) : Host.Outcome State Fault Refusal :=
  .next (s.branch c off (fun k => (k.r ra).slt (k.r rb)))

/-- Branch if ra ≥ rb signed (R77, Table CPU-23). -/
def execBge (c ra rb : Nat) (off : BitVec 16) (s : State) : Host.Outcome State Fault Refusal :=
  .next (s.branch c off (fun k => !(k.r ra).slt (k.r rb)))

/-- Branch if ra < rb unsigned (R77, Table CPU-23). -/
def execBltu (c ra rb : Nat) (off : BitVec 16) (s : State) : Host.Outcome State Fault Refusal :=
  .next (s.branch c off (fun k => (k.r ra).ult (k.r rb)))

/-- Branch if ra ≥ rb unsigned (R77, Table CPU-23). -/
def execBgeu (c ra rb : Nat) (off : BitVec 16) (s : State) : Host.Outcome State Fault Refusal :=
  .next (s.branch c off (fun k => !(k.r ra).ult (k.r rb)))

/-- Jump to address + sext(off26) × 4 (Table CPU-23). -/
def execJ (c : Nat) (off : BitVec 26) (s : State) : Host.Outcome State Fault Refusal :=
  .next (s.insn c true (fun k t => t.transfer c (k.pc + (off.signExtend 32 <<< 2)) id))

/-- g31 ← address + 4, jump as J; the SFC pushes the return address, and a ninth entry raises ILLEGAL (R74). -/
def execJal (c : Nat) (off : BitVec 26) (s : State) : Host.Outcome State Fault Refusal :=
  .next (s.insn c true (fun k t =>
    if c = 4 then
      if 8 ≤ t.cpu.retStack.length then t.raise c excIllegal none
      else State.transfer { t with cpu := { t.cpu with retStack := (k.pc + 4) :: t.cpu.retStack } } c
        (k.pc + (off.signExtend 32 <<< 2)) (fun k1 => k1.w 31 (k.pc + 4))
    else t.transfer c (k.pc + (off.signExtend 32 <<< 2)) (fun k1 => k1.w 31 (k.pc + 4))))

/-- t ← ra + sext(imm16); rd ← address + 4; jump to t; FETCH if t is misaligned; outside GCIS-S (Table CPU-23, R85). -/
def execJalr (c rd ra : Nat) (imm : BitVec 16) (s : State) : Host.Outcome State Fault Refusal :=
  .next (s.insn c false (fun k t => t.transfer c (k.r ra + imm.signExtend 32) (fun k1 => k1.w rd (k.pc + 4))))

/-- Jump to g31; the SFC pops its return stack and compares, ILLEGAL where it is empty or differs (R74). -/
def execRet (c : Nat) (s : State) : Host.Outcome State Fault Refusal :=
  .next (s.insn c true (fun k t =>
    if c = 4 then
      match t.cpu.retStack with
      | [] => t.raise c excIllegal none
      | a :: rest =>
        if a = k.r 31 then State.transfer { t with cpu := { t.cpu with retStack := rest } } c (k.r 31) id
        else t.raise c excIllegal none
    else t.transfer c (k.r 31) id))

/-! ## System, trap and safety -/

/-- The value of a core control register (Table CPU-3); 10 to 15 do not exist (R79). -/
def Core.cr (k : Core) (c n : Nat) : Word :=
  match n with
  | 0 => k.status
  | 1 => k.epc
  | 2 => k.cause
  | 3 => k.badaddr
  | 4 => k.evec
  | 5 => k.urgent
  | 6 => k.pend
  | 7 => if c = 4 then 0 else k.tblk
  | 8 => w32 c
  | 9 => if c = 4 then k.sig else 0
  | n => if c = 4 then 0 else k.treg.getD (n - 16) 0

/-- A core control register written within its writable fields (Table CPU-3, R81): cr_status takes urg_en and prev_mode only, cr_cause,
cr_badaddr and cr_coreid ignore the write, cr_pend clears bits; the SFC has no Task registers, a CC core no signature. -/
def Core.setCr (k : Core) (c n : Nat) (v : Word) : Core :=
  match n with
  | 0 => { k with prevTask := v.getLsbD 2, urgEn := v.getLsbD 3 }
  | 1 => { k with epc := v }
  | 4 => { k with evec := v &&& 0xFFFFFF00#32 }
  | 5 => { k with urgent := v }
  | 6 => { k with pend := k.pend &&& ~~~v }
  | 7 => if c = 4 then k else { k with tblk := v }
  | 9 => if c = 4 then { k with sig := v } else k
  | n =>
    if c = 4 || n < 16 then k
    else { k with treg := upd k.treg (n - 16) (fun _ => if n % 2 = 0 then v &&& 0xFFFFFF00#32 else v &&& 0xFFFFFF07#32) }

/-- rd ← core control register crn; PRIV at Task level, ILLEGAL for crn 10 to 15 (R79). -/
def execMfcr (c rd crn : Nat) (s : State) : Host.Outcome State Fault Refusal :=
  .next (s.insn c true (fun k t => t.kernel c (fun t =>
    if 10 ≤ crn && crn ≤ 15 then t.raise c excIllegal none else t.retire c (fun k1 => k1.w rd (k.cr c crn)))))

/-- Core control register crn ← ra within its writable fields; PRIV at Task level, ILLEGAL for crn 10 to 15 (R79, R81). -/
def execMtcr (c crn ra : Nat) (s : State) : Host.Outcome State Fault Refusal :=
  .next (s.insn c true (fun k t => t.kernel c (fun t =>
    if 10 ≤ crn && crn ≤ 15 then t.raise c excIllegal none else t.retire c (fun k1 => k1.setCr c crn (k.r ra)))))

/-- Return from exception (R55): PRIV at Task level, ILLEGAL with hnd = 0, FETCH where cr_epc is misaligned (R69). -/
def execEret (c : Nat) (s : State) : Host.Outcome State Fault Refusal :=
  .next (s.insn c true (fun k t => t.kernel c (fun t =>
    if !k.hnd then t.raise c excIllegal none
    else if k.epc &&& 3#32 ≠ 0 then t.raise c excFetch (some k.epc)
    else (t.leave c).counted c)))

/-- Raise TRAP: cr_epc is the address of the next instruction (R55). -/
def execTrap (c : Nat) (_k : BitVec 16) (s : State) : Host.Outcome State Fault Refusal :=
  .next (s.insn c true (fun _ t => t.raise c excTrap none))

/-- SFC: cr_sig[15:0] must equal k, and cr_sig becomes k, else a signature fault (R62); CC cores: no operation. -/
def execSigchk (c : Nat) (k16 : BitVec 16) (s : State) : Host.Outcome State Fault Refusal :=
  .next (s.insn c true (fun k t =>
    if c = 4 then
      if k.sig.truncate 16 = k16 then
        State.onCore { t with cpu := { t.cpu with sigCount := 0 } } c (fun k1 => { k1 with sig := k16.zeroExtend 32, pc := k.pc + 4 })
      else t.sfcFault 2 0x1005
    else t.retire c id))

/-- Kick the time monitor: the interval since the last kick must be at least open × 10 µs and at most close × 10 µs (R63);
ILLEGAL on a CC core at either level (R85). -/
def execTmon (c : Nat) (s : State) : Host.Outcome State Fault Refusal :=
  .next (s.insn c true (fun _ t =>
    if c ≠ 4 then t.raise c excIllegal none
    else
      let dt := t.mt - t.cpu.tmonFrom
      if dt < 250 * t.fld F.CPU_SFC_TMON_open || 250 * t.fld F.CPU_SFC_TMON_close < dt then t.sfcFault 3 0x1006
      else State.retire { t with cpu := { t.cpu with tmonFrom := t.mt } } c id))

/-- Run self-test segment n (R65): a mismatch with the OTP reference is a self-test fault; on a CC core PRIV at Task level and ILLEGAL at
Kernel level (R85). Whether the datapath matches its reference is the operand's. -/
def execStest (c n : Nat) (good : Bool) (s : State) : Host.Outcome State Fault Refusal :=
  .next (s.insn c true (fun k t =>
    if c ≠ 4 then t.raise c (if k.task then excPriv else excIllegal) none
    else if !good then t.sfcFault 5 0x1008
    else (t.setFldBit F.CPU_SFC_STATUS_seg_done (n % 16) true).retire c id))

/-! ## Time and events -/

/-- rd ← meter time, all 64 bits (R80). -/
def execRdmt (c rd : Nat) (s : State) : Host.Outcome State Fault Refusal :=
  .next (s.compute64 c rd [rd] (fun _ => BitVec.ofNat 64 s.mt))

/-- rd ← meter time [31:0] (R80). -/
def execRdmtl (c rd : Nat) (s : State) : Host.Outcome State Fault Refusal :=
  .next (s.compute c rd (fun _ => w32 s.mt))

/-- rd ← wall seconds; rd+1 ← sub-second count, wall_valid in bit 15 (Table CPU-25). -/
def execRdwall (c rd : Nat) (s : State) : Host.Outcome State Fault Refusal :=
  .next (s.compute64 c rd [rd] (fun _ =>
    BitVec.append (w32 (s.nj.wallSub % 32768 + 32768 * bit s.nj.wallValid)) (w32 s.nj.wallSec)))

/-- rd ← TMK_ERA.era (Table CPU-25). -/
def execRdera (c rd : Nat) (s : State) : Host.Outcome State Fault Refusal :=
  .next (s.compute c rd (fun _ => w32 (s.fld F.TMK_ERA_era)))

/-- The lowest pending line in a mask is cleared and its number written to rd (R53). -/
def Core.takeLine (k : Core) (mask : Word) (rd : Nat) : Core :=
  let n := lowestLine (k.pend &&& mask)
  { k with pend := k.pend &&& ~~~(1#32 <<< n) }.w rd (w32 n)

/-- Wait on the mask in ra (R53): a pending line ends it at once, a zero mask raises ILLEGAL, otherwise the core stalls. -/
def execWait (c rd ra : Nat) (s : State) : Host.Outcome State Fault Refusal :=
  .next (s.insn c true (fun k t =>
    if k.r ra = 0 then t.raise c excIllegal none
    else if k.pend &&& k.r ra ≠ 0 then t.retire c (fun k1 => k1.takeLine (k.r ra) rd)
    else t.onCore c (fun k1 => { k1 with stall := .wait (k.r ra) rd })))

/-- Wait on the mask in ra until the deadline in pair rb (R82): a pending line, then the deadline (32), then a lost crystal (33, line 9
left pending), otherwise the core stalls. -/
def execWaitt (c rd ra rb : Nat) (s : State) : Host.Outcome State Fault Refusal :=
  .next (s.insn c true (fun k t =>
    if !isPair rb then t.raise c excIllegal none
    else if k.pend &&& k.r ra ≠ 0 then t.retire c (fun k1 => k1.takeLine (k.r ra) rd)
    else if (k.rp rb).toNat ≤ t.mt then t.retire c (fun k1 => k1.w rd 32)
    else if t.is F.TMK_STATUS_xtal_mt_lost then t.retire c (fun k1 => k1.w rd 33)
    else t.onCore c (fun k1 => { k1 with stall := .waitt (k.r ra) rd (k.rp rb).toNat })))

/-- As WAIT, but never stalls: rd ← 32 if no line in ra is pending, a zero mask included (Table CPU-25). -/
def execPoll (c rd ra : Nat) (s : State) : Host.Outcome State Fault Refusal :=
  .next (s.insn c true (fun k t =>
    if k.pend &&& k.r ra ≠ 0 then t.retire c (fun k1 => k1.takeLine (k.r ra) rd)
    else t.retire c (fun k1 => k1.w rd 32)))

/-- Signal the cores in m (R59): EVT_SIGNAL on the others, with the sender recorded, EVT_SW on the issuing core; the SFC from a CC core
only while CPU_CTRL.cc_to_sfc = 1. -/
def execSignal (c m : Nat) (s : State) : Host.Outcome State Fault Refusal :=
  .next (s.insn c true (fun _ t =>
    let others := (maskCores m).filter (fun d => d ≠ c && (d ≠ 4 || t.is F.CPU_CTRL_cc_to_sfc))
    let t1 := others.foldl (fun u d => u.onCore d (fun k => { k with lastSignaller := c })) (t.deliver 28 others)
    (if m.testBit c then t1.deliver 31 [c] else t1).retire c id))

end Sys2Proof.Machine
end

