-- ==== Sys2Proof/Machine/CpuEvents.lean ====
section
/-! DEFINITION. The rows of the cores that are not instructions: stalls that end, urgent entries, the SFC's monitors, watchdogs,
mailboxes, start and halt, and the remote window's timeouts and answers. -/

namespace Sys2Proof.Machine

open Sys2Proof

/-- The mask of the wait stall a core is in (R53, R82). -/
def stallMask : Stall → Option (Word × Nat)
  | .wait m rd => some (m, rd)
  | .waitt m rd _ => some (m, rd)
  | _ => Option.none

/-- A stalled instruction completes with its registers changed. -/
def State.resume (s : State) (c : Nat) (f : Core → Core) : State :=
  (s.onCore c (fun k => { k with stall := .none })).retire c f

/-- A stalled WAIT or WAITT takes the lowest pending line of its mask, unless URGENT is due first (R53, Table CPU-10). -/
def execWaitWake (c : Nat) (s : State) : Host.Outcome State Fault Refusal :=
  .next (match stallMask (s.core c).stall with
    | some (m, rd) =>
      if (s.core c).running && (s.core c).pend &&& m ≠ 0 && !(s.core c).urgentDue then s.resume c (fun k => k.takeLine m rd) else s
    | none => s)

/-- A stalled WAITT takes a pending line of its mask, returns 32 at its deadline, or 33 while the crystal is lost (R82, R44, Table CPU-29). -/
def execWaittDeadline (c : Nat) (s : State) : Host.Outcome State Fault Refusal :=
  .next (match (s.core c).stall with
    | .waitt m rd d =>
      if !(s.core c).running || (s.core c).urgentDue then s
      else if (s.core c).pend &&& m ≠ 0 then s.resume c (fun k => k.takeLine m rd)
      else if d ≤ s.mt then s.resume c (fun k => k.w rd 32)
      else if s.is F.TMK_STATUS_xtal_mt_lost then s.resume c (fun k => k.w rd 33) else s
    | _ => s)

/-- A due urgent line raises URGENT (R54, R76): the pending bit is cleared and the core enters at cr_evec + 0x40; a stalled instruction is
abandoned and cr_epc holds its address. -/
def execUrgentEntry (c : Nat) (s : State) : Host.Outcome State Fault Refusal :=
  .next (if (s.core c).urgentDue then
    let n := lowestLine (s.core c).urgentLines
    (s.onCore c (fun k => { k with pend := k.pend &&& ~~~(1#32 <<< n) })).enter c excUrgent n (s.core c).pc none
  else s)

/-- No TMON kick by the close of the window: a time-monitor fault (R63). -/
def execSfcTmonTimeout (s : State) : Host.Outcome State Fault Refusal :=
  .next (if (s.core 4).running && 250 * s.fld F.CPU_SFC_TMON_close ≤ s.mt - s.cpu.tmonFrom then s.sfcFault 3 0x1006 else s)

/-- The self-timed counter has measured 2 ms: meter time must have advanced since the last check (R64). -/
def execSfcTimebaseCheck (s : State) : Host.Outcome State Fault Refusal :=
  .next (if (s.core 4).running then
    if s.cpu.tbSeen = some s.mt then s.sfcFault 4 0x1007
    else { s with cpu := { s.cpu with tbSeen := some s.mt } }
  else s)

/-- A self-test period ends: all 16 segments must have completed, and the next period begins (R65). -/
def execSfcStestPeriodEnd (s : State) : Host.Outcome State Fault Refusal :=
  .next (if (s.core 4).running && msTicks * s.fld F.CPU_SFC_CTRL_stest_period ≤ s.mt - s.cpu.stestFrom then
    if s.fld F.CPU_SFC_STATUS_seg_done ≠ 0xFFFF then s.sfcFault 5 0x1008
    else State.setFld { s with cpu := { s.cpu with stestFrom := s.mt } } F.CPU_SFC_STATUS_seg_done 0
  else s)

/-- CPU_WDOG_KICK written (R67): the key 0xA5 and the writer's own number kick its watchdog, anything else is counted in bad_kick. -/
def State.wdogKick (s : State) (who : Init) (v : Word) : State :=
  match who with
  | .core c =>
    if c < 4 && getBits v 15 8 = 0xA5 && getBits v 1 0 = c then
      { s with cpu := { s.cpu with wdFrom := upd s.cpu.wdFrom c (fun _ => s.mt) } }
    else s.count F.CPU_STATUS_bad_kick
  | .host => s

/-- A write to CPU_WDOG_KICK (R67). -/
def execCpuWdogKick (who : Init) (v : Word) (s : State) : Host.Outcome State Fault Refusal :=
  .next (s.port who Reg.CPU_WDOG_KICK (fun t => t.wdogKick who v))

/-- A watchdog's time-out has passed without a valid kick: the core halts (R67). -/
def execCpuWdogExpire (c : Nat) (s : State) : Host.Outcome State Fault Refusal :=
  .next (if c < 4 && (s.core c).running && s.fldBit F.CPU_WDOG_CFG_en c &&
      2500 * s.fld F.CPU_WDOG_CFG_timeout ≤ s.mt - s.cpu.wdFrom.getD c 0 then s.haltFault c 0x1003 else s)

/-- CPU_MBOX_STATUS follows the mailboxes (Table CPU-13). -/
def State.mboxStatus (s : State) : State :=
  [0, 1, 2, 3, 4].foldl (fun t n =>
    let l := (s.cpu.mbox.getD n []).length
    let f := F.CPU_MBOX_STATUS_count
    ((t.setFldBit F.CPU_MBOX_STATUS_empty n (l = 0)).setFldBit F.CPU_MBOX_STATUS_full n (l = 8)).setFld
      ⟨f.addr, f.lo + 3 * n + 2, f.lo + 3 * n⟩ (l % 8)) s

/-- A write to CPU_MBOXn (R60): appended with EVT_MBOX, dropped with ovf when full; the owner's own write and a CC core's write to the SFC's
mailbox with cc_to_sfc = 0 are dropped. -/
def State.mboxWrite (s : State) (who : Init) (n : Nat) (v : Word) : State :=
  match who with
  | .host => s
  | .core c =>
    if c = n || (n = 4 && !s.is F.CPU_CTRL_cc_to_sfc) then s
    else if 8 ≤ (s.cpu.mbox.getD n []).length then s.setFldBit F.CPU_MBOX_STATUS_ovf n true
    else (State.mboxStatus { s with cpu := { s.cpu with mbox := upd s.cpu.mbox n (· ++ [v]) } }).deliver 29 [n]

/-- A write to CPU_MBOXn (R60). -/
def execCpuMboxWrite (who : Init) (n : Nat) (v : Word) (s : State) : Host.Outcome State Fault Refusal :=
  .next (s.port who (Reg.CPU_MBOX0 + 4 * n) (fun t => t.mboxWrite who n v))

/-- A read of CPU_MBOXn (R60, R454): core n removes the oldest word, or reads 0 from an empty mailbox; any other reader reads 0. -/
def State.mboxRead (s : State) (who : Init) (n : Nat) : Word × State :=
  if who = .core n then
    match s.cpu.mbox.getD n [] with
    | [] => (0, s)
    | v :: vs => (v, State.mboxStatus { s with cpu := { s.cpu with mbox := upd s.cpu.mbox n (fun _ => vs) } })
  else (0, s)

/-- A read of CPU_MBOXn; the word read is State.readOut. -/
def execCpuMboxRead (who : Init) (n : Nat) (s : State) : Host.Outcome State Fault Refusal :=
  .next (let r := s.mboxRead who n; { r.2 with readOut := r.1 })

/-- CPU_START.start (R87, Table CPU-12): each named halted core of CC1 to CC3 starts at CPU_ENTRY at Kernel level, with its registers 0 the
first time after Dawn. -/
def State.startCores (s : State) (v : Word) : State :=
  [1, 2, 3].foldl (fun t c =>
    if v.getLsbD c && !(t.core c).running then
      (t.onCore c (fun k =>
        { k with running := true, started := true, task := false, hnd := false, stall := .none,
                 pc := w32 (t.fld F.CPU_ENTRY_entry) &&& 0xFFFFFFFC#32,
                 g := if k.started then k.g else List.replicate 32 0 })).setFldBit F.CPU_STATUS_cc_running c true
    else t) s

/-- CPU_START.halt (Table CPU-12): each named running core of CC1 to CC3 halts; its pending events are kept. -/
def State.haltCores (s : State) (v : Word) : State :=
  [1, 2, 3].foldl (fun t c =>
    if v.getLsbD (4 + c) && (t.core c).running then
      (t.onCore c (fun k => { k with running := false, stall := .none })).setFldBit F.CPU_STATUS_cc_running c false
    else t) s

/-- One write to CPU_START, both fields judged by the state before it: a running core named to start and a halted one named to halt are
unaffected (Table CPU-12). -/
def State.startWrite (s : State) (v : Word) : State :=
  let up := fun c => (s.core c).running
  let st := [1, 2, 3].foldl (fun w c => if up c then w &&& ~~~(1#32 <<< c) else w) v
  let hl := [1, 2, 3].foldl (fun w c => if up c then w else w &&& ~~~(1#32 <<< (4 + c))) v
  (s.startCores st).haltCores hl

/-- A write to CPU_START with a start bit (R87). -/
def execCpuStart (who : Init) (v : Word) (s : State) : Host.Outcome State Fault Refusal :=
  .next (s.port who Reg.CPU_START (fun t => t.startWrite v))

/-- A write to CPU_START with a halt bit (R87). -/
def execCpuHalt (who : Init) (v : Word) (s : State) : Host.Outcome State Fault Refusal :=
  .next (s.port who Reg.CPU_START (fun t => t.startWrite v))

/-- The remote-window access a core waits for: its address and the meter time of its issue (R61, R78). -/
def remoteWait : Stall → Option (Word × Nat)
  | .remoteLoad _ a _ _ t => some (a, t)
  | .remoteStore a t => some (a, t)
  | .remoteLd _ a low t => some (if low.isSome then a + 4 else a, t)
  | .remoteSd a _ t => some (a, t)
  | _ => Option.none

/-- A remote-window access ends with REMOTE at its address (R61). -/
def State.remoteFail (s : State) (c : Nat) (a : Word) : State := (s.onCore c (fun k => { k with stall := .none })).raise c excRemote (some a)

/-- A remote-window access has waited 100 µs for its reply: REMOTE at its address (R61). -/
def execRemoteTimeout (c : Nat) (s : State) : Host.Outcome State Fault Refusal :=
  .next (match remoteWait (s.core c).stall with
    | some (a, t0) => if 100 * usTicks ≤ s.mt - t0 then s.remoteFail c a else s
    | none => s)

/-- A loaded value of 1, 2 or 4 bytes extended to a register (Table CPU-21). -/
def extend (size : Nat) (signed : Bool) (v : Nat) : Word :=
  if signed then (if size = 1 then (BitVec.ofNat 8 v).signExtend 32 else if size = 2 then (BitVec.ofNat 16 v).signExtend 32 else w32 v)
  else w32 (v % 2 ^ (8 * size))

/-- The window of a remote address (R61). -/
def windowOf (a : Nat) : Nat := (a - 0x80000000) / 0x20000000

/-- One access through the remote window goes to the window's node (R61). -/
def State.remoteSend (s : State) (store : Bool) (a size data : Nat) : State :=
  let n := windowOf a
  (s.launch { dst := s.fld (F.CPU_RWINn_node n), body := .rwinReq store (s.fld (F.CPU_RWINn_target n)) (a % 0x20000000) size data }).2

/-- The reply to a remote-window access completes the waiting load or store, or starts the second word of an LD or SD (R61, R78); a refusal
raises REMOTE. -/
def execRwinAns (c : Nat) (refused : Bool) (data : Nat) (s : State) : Host.Outcome State Fault Refusal :=
  .next (match remoteWait (s.core c).stall with
    | none => s
    | some (at_, _) =>
      if refused then s.remoteFail c at_
      else
        match (s.core c).stall with
        | .remoteLoad rd _ size sg _ => s.resume c (fun k => k.w rd (extend size sg data))
        | .remoteStore _ _ => s.resume c id
        | .remoteLd rd a low _ =>
          (match low with
          | none => (s.remoteSend false (a.toNat + 4) 4 0).onCore c (fun k => { k with stall := .remoteLd rd a (some (w32 data)) s.mt })
          | some lo => s.resume c (fun k => k.wp rd (BitVec.append (w32 data) lo)))
        | .remoteSd a high _ => (s.remoteSend true (a.toNat + 4) 4 high.toNat).onCore c (fun k => { k with stall := .remoteStore (a + 4) s.mt })
        | _ => s)

end Sys2Proof.Machine
end

