-- ==== Sys2Proof/Machine/Kv.lean ====
section
/-! DEFINITION. The operations of the key vault, the lifecycle and the test access port (07_key_vault.md). -/

namespace Sys2Proof.Machine

open Sys2Proof

/-! ## Operations (Table KV-4): each row starts the oldest queued command, when it is of that operation -/

/-- The checks that every operation makes. -/
def State.kvCommon (s : State) (c : KvCmd) : List Nat := s.kvRole c ++ s.kvRetired c ++ kvBuffers c

/-- The parent named for a new key that is not derived. -/
def KvCmd.parent (c : KvCmd) : Nat := c.sa

/-- A pair of the vault's outcome for a command with output only. -/
def kvOut (out : List Byte) (s : State) : KvEffect × State := (.done out none false, s)

/-- The new key of a command. -/
def kvMade (s : State) (c : KvCmd) (k : KvKey) : KvEffect × State := (.done [] (some (c.sb, k)) false, s)

/-- GENERATE (R133, R134, R141). -/
def kvDoGenerate (c : KvCmd) (s : State) : KvEffect × State :=
  s.kvGuard (s.kvCommon c ++ s.kvCreate c c.alg c.cls c.use c.parent ++ failIf (c.pol = 2) 0x0D04 ++ failIf (isPubOnly c.alg) 0x0D05 ++
    s.kvRandom) (fun t =>
    let r := t.random
    let n := if isSym c.alg then symLen c.alg else scalarLen c.alg
    let mat := fitBytes n (Config.std .keyGen [leBytes 1 c.alg, r.1])
    let pub := if isSym c.alg then [] else fitBytes (pubLen c.alg) (Config.std .publicPart [leBytes 1 c.alg, mat])
    kvMade r.2 c (r.2.newKey c 0 c.parent c.alg c.cls c.use c.pol mat pub))

/-- GENERATE starts (R138). -/
def execKvGenerate (s : State) : Host.Outcome State Fault Refusal := .next (s.kvBegin 0x01 kvDoGenerate)

/-- IMPORT_PLAIN (R132 to R135, Table KV-7): a symmetric key, a curve's secret, or a public part on its curve. -/
def kvDoImportPlain (c : KvCmd) (s : State) : KvEffect × State :=
  let n := if isSym c.alg then symLen c.alg else if isPairAlg c.alg then scalarLen c.alg else pubLen c.alg
  s.kvGuard (s.kvCommon c ++ s.kvCreate c c.alg c.cls c.use c.parent ++
    failIf (!isPubOnly c.alg && (s.lc = 2 || (s.lc = 3 && c.cls ≠ 3))) 0x0D0B ++ failIf (c.inL ≠ n) 0x0D10 ++
    failIf (isPubOnly c.alg && c.inL = n && !Config.stdOk .onCurve [leBytes 1 c.alg, c.inp]) 0x0D10) (fun t =>
    let pub := if isPubOnly c.alg then c.inp
      else if isSym c.alg then [] else fitBytes (pubLen c.alg) (Config.std .publicPart [leBytes 1 c.alg, c.inp])
    kvMade t c (t.newKey c 1 c.parent c.alg c.cls c.use c.pol (if isPubOnly c.alg then [] else c.inp) pub))

/-- IMPORT_PLAIN starts (R138). -/
def execKvImportPlain (s : State) : Host.Outcome State Fault Refusal := .next (s.kvBegin 0x02 kvDoImportPlain)

/-- IMPORT_WRAPPED (R134): the attribute and usage words of the wrapped plaintext are the new key's, which is a root. -/
def kvDoImportWrapped (c : KvCmd) (s : State) : KvEffect × State :=
  let k := s.key c.sa
  let args := [k.mat, c.inp]
  let ok := Config.stdOk .unwrap args
  let plain := Config.std .unwrap args
  let attr := w32 (leNat (plain.take 4))
  let use := leNat ((plain.drop 4).take 4)
  let alg := getBits attr 23 16
  let mat := plain.drop 8
  let n := if isSym alg then symLen alg else if isPairAlg alg then scalarLen alg else pubLen alg
  s.kvGuard (s.kvCommon c ++ s.kvUse c.sa 8 (fun q => failIf (q.alg ≠ 2) 0x0D05 ++ s.kvOwner q ++ failIf (!ok) 0x0D0A) ++
    (if ok then s.kvCreate { c with pol := getBits attr 5 4 } alg (getBits attr 8 6) use 0xFF ++ failIf (mat.length ≠ n) 0x0D10 else [])) (fun t =>
    let pub := if isPubOnly alg then mat else if isSym alg then [] else fitBytes (pubLen alg) (Config.std .publicPart [leBytes 1 alg, mat])
    kvMade t c (t.newKey c 1 0xFF alg (getBits attr 8 6) use (getBits attr 5 4) (if isPubOnly alg then [] else mat) pub))

/-- IMPORT_WRAPPED starts (R138). -/
def execKvImportWrapped (s : State) : Host.Outcome State Fault Refusal := .next (s.kvBegin 0x03 kvDoImportWrapped)

/-- A DERIVED key is a symmetric one; its parent is the key it comes from, which 0xFF does not name (R135). -/
def kvDerive (c : KvCmd) (s : State) (usage : Nat) (more : KvKey → List Nat) (fn : Config.Std) (args : KvKey → List (List Byte)) :
    KvEffect × State :=
  s.kvGuard (s.kvCommon c ++ s.kvUse c.sa usage (fun q => s.kvOwner q ++ more q) ++ s.kvCreate c c.alg c.cls c.use c.sa ++
    failIf (!isSym c.alg) 0x0D05 ++ failIf (c.sa = 0xFF) 0x0D10) (fun t =>
    kvMade t c (t.newKey c 2 c.sa c.alg c.cls c.use c.pol (fitBytes (symLen c.alg) (Config.std fn (args (t.key c.sa)))) []))

/-- DERIVE_HKDF (Table KV-4): at least one of extract and expand. -/
def kvDoDeriveHkdf (c : KvCmd) (s : State) : KvEffect × State :=
  kvDerive c s 5 (fun _ => failIf (c.fl % 4 = 0) 0x0D10) .hkdf (fun k => [leBytes 1 c.fl, leBytes 1 c.alg, k.mat, c.inp, c.aux])

/-- DERIVE_HKDF starts (R138). -/
def execKvDeriveHkdf (s : State) : Host.Outcome State Fault Refusal := .next (s.kvBegin 0x04 kvDoDeriveHkdf)

/-- AGREE (Table KV-4): ECDH of a P curve, then HKDF-Extract, into a new secret. -/
def kvDoAgree (c : KvCmd) (s : State) : KvEffect × State :=
  kvDerive c s 6 (fun q => failIf (!(0x10 ≤ q.alg && q.alg ≤ 0x12) || !(c.alg = 8 || c.alg = 9)) 0x0D05 ++
      failIf (c.auxL ≠ pubLen q.alg || !Config.stdOk .onCurve [leBytes 1 q.alg, c.aux]) 0x0D10)
    .ecdh (fun k => [leBytes 1 k.alg, leBytes 1 c.alg, k.mat, c.aux, c.inp])

/-- AGREE starts (R138). -/
def execKvAgree (s : State) : Host.Outcome State Fault Refusal := .next (s.kvBegin 0x05 kvDoAgree)

/-- TLS12_PRF (Table KV-4): from a SHA-256 secret. -/
def kvDoTls12Prf (c : KvCmd) (s : State) : KvEffect × State :=
  kvDerive c s 5 (fun q => failIf (q.alg ≠ 8) 0x0D05) .tls12Prf (fun k => [leBytes 1 c.alg, k.mat, c.aux])

/-- TLS12_PRF starts (R138). -/
def execKvTls12Prf (s : State) : Host.Outcome State Fault Refusal := .next (s.kvBegin 0x06 kvDoTls12Prf)

/-- TLS13_KEYS (Table KV-4): an AEAD key from a secret. -/
def kvDoTls13Keys (c : KvCmd) (s : State) : KvEffect × State :=
  kvDerive c s 5 (fun q => failIf (!(q.alg = 8 || q.alg = 9) || !(c.alg = 3 || c.alg = 4)) 0x0D05) .tls13Keys
    (fun k => [leBytes 1 k.alg, leBytes 1 c.alg, k.mat])

/-- TLS13_KEYS starts (R138). -/
def execKvTls13Keys (s : State) : Host.Outcome State Fault Refusal := .next (s.kvBegin 0x07 kvDoTls13Keys)

/-- SIGN (R141): an ECDSA signature draws a fresh nonce, an EdDSA one draws nothing. -/
def kvDoSign (c : KvCmd) (s : State) : KvEffect × State :=
  let k := s.key c.sa
  let ecdsa := 0x10 ≤ k.alg && k.alg ≤ 0x12
  s.kvGuard (s.kvCommon c ++ s.kvUse c.sa 0 (fun q => failIf (!isPairAlg q.alg) 0x0D05 ++ s.kvOwner q ++ kvFits c (sigLen q.alg) ++
    (if ecdsa then s.kvRandom else []))) (fun t =>
    let r := if ecdsa then t.random else ([], t)
    (.done (fitBytes (sigLen k.alg) (Config.std .sign [leBytes 1 k.alg, k.mat, leBytes 1 c.fl, c.inp, r.1])) none (decide (c.sa < 192)), r.2))

/-- SIGN starts (R138). -/
def execKvSign (s : State) : Host.Outcome State Fault Refusal := .next (s.kvBegin 0x08 kvDoSign)

/-- The algorithm of a public key and signature given together, by their length (Table KV-4). -/
def verifyAlg (n : Nat) : Nat := ([0x10, 0x11, 0x12, 0x20, 0x21].find? (fun a => pubLen a + sigLen a = n)).getD 0

/-- VERIFY (Table KV-4): with the slot's key, or with the public key before the signature at aux_addr where flags [1] = 1. -/
def kvDoVerify (c : KvCmd) (s : State) : KvEffect × State :=
  let test := fun (alg : Nat) (pub sig : List Byte) => failIf (!Config.stdOk .verify [leBytes 1 (alg % 128), pub, leBytes 1 (c.fl % 2), c.inp, sig]) 0x0D0A
  s.kvGuard (s.kvCommon c ++
    (if c.fl.testBit 1 then
      let a := verifyAlg c.auxL
      let pub := c.aux.take (pubLen a)
      if a = 0 || !Config.stdOk .onCurve [leBytes 1 a, pub] then [0x0D10] else test a pub (c.aux.drop (pubLen a))
    else s.kvUse c.sa 1 (fun q => if pubLen q.alg = 0 then [0x0D05] else if c.auxL ≠ sigLen q.alg then [0x0D10] else test q.alg q.pub c.aux)))
    (kvOut [])

/-- VERIFY starts (R138). -/
def execKvVerify (s : State) : Host.Outcome State Fault Refusal := .next (s.kvBegin 0x09 kvDoVerify)

/-- The lengths and mode of ENCRYPT and DECRYPT: CBC without padding takes whole blocks and a 16-byte IV, an AEAD key takes a 64-bit sequence
number and works in GCM. -/
def kvMode (c : KvCmd) (alg : Nat) : List Nat :=
  failIf (!isAes alg || (3 ≤ alg && c.fl.testBit 0)) 0x0D05 ++
  failIf (if c.fl.testBit 0 then c.inL % 16 ≠ 0 || c.auxL ≠ 16 else if 3 ≤ alg then c.auxL ≠ 8 else c.auxL = 0) 0x0D10

/-- ENCRYPT (Table KV-4): AES-GCM, its tag after the text, or AES-CBC. -/
def kvDoEncrypt (c : KvCmd) (s : State) : KvEffect × State :=
  let k := s.key c.sa
  let n := if c.fl.testBit 0 then c.inL else c.inL + 16
  s.kvGuard (s.kvCommon c ++ s.kvUse c.sa 2 (fun q => kvMode c q.alg ++ kvFits c n))
    (kvOut (fitBytes n (Config.std (if c.fl.testBit 0 then .cbc else .gcm) [leBytes 1 k.alg, k.mat, c.aux, c.inp])))

/-- ENCRYPT starts (R138). -/
def execKvEncrypt (s : State) : Host.Outcome State Fault Refusal := .next (s.kvBegin 0x0A kvDoEncrypt)

/-- DECRYPT (Table KV-4): a GCM tag that does not match gives KV_AUTH_FAIL. -/
def kvDoDecrypt (c : KvCmd) (s : State) : KvEffect × State :=
  let k := s.key c.sa
  let gcm := !c.fl.testBit 0
  let n := if gcm then c.inL - 16 else c.inL
  let args := [leBytes 1 k.alg, k.mat, c.aux, c.inp]
  s.kvGuard (s.kvCommon c ++ s.kvUse c.sa 3 (fun q => kvMode c q.alg ++ s.kvOwner q ++ kvFits c n ++ failIf (gcm && c.inL < 16) 0x0D10 ++
    failIf (gcm && 16 ≤ c.inL && !Config.stdOk .gcmOpen args) 0x0D0A))
    (kvOut (fitBytes n (Config.std (if gcm then .gcmOpen else .cbcOpen) args)))

/-- DECRYPT starts (R138). -/
def execKvDecrypt (s : State) : Host.Outcome State Fault Refusal := .next (s.kvBegin 0x0B kvDoDecrypt)

/-- MAC (Table KV-4): HMAC with a secret, CMAC with an AES key. -/
def kvDoMac (c : KvCmd) (s : State) : KvEffect × State :=
  let k := s.key c.sa
  let n := if k.alg = 8 then 32 else if k.alg = 9 then 48 else 16
  s.kvGuard (s.kvCommon c ++ s.kvUse c.sa 4 (fun q => failIf (!isSym q.alg) 0x0D05 ++ s.kvOwner q ++ kvFits c n))
    (kvOut (fitBytes n (Config.std (if isAes k.alg then .cmac else .hmac) [leBytes 1 k.alg, k.mat, c.inp])))

/-- MAC starts (R138). -/
def execKvMac (s : State) : Host.Outcome State Fault Refusal := .next (s.kvBegin 0x0C kvDoMac)

/-- HASH (Table KV-4). -/
def kvDoHash (c : KvCmd) (s : State) : KvEffect × State :=
  let n := if c.fl.testBit 0 then 48 else 32
  s.kvGuard (s.kvCommon c ++ kvFits c n) (kvOut (fitBytes n (if c.fl.testBit 0 then Config.sha384 c.inp else Config.sha256 c.inp)))

/-- HASH starts (R138). -/
def execKvHash (s : State) : Host.Outcome State Fault Refusal := .next (s.kvBegin 0x0D kvDoHash)

/-- EXPORT_PUB (R134). -/
def kvDoExportPub (c : KvCmd) (s : State) : KvEffect × State :=
  let f := s.kvActive c.sa
  let n := pubLen (s.key c.sa).alg
  s.kvGuard (s.kvCommon c ++ (if f ≠ [] then f else if n = 0 then [0x0D05] else kvFits c n)) (kvOut (s.key c.sa).pub)

/-- EXPORT_PUB starts (R138). -/
def execKvExportPub (s : State) : Host.Outcome State Fault Refusal := .next (s.kvBegin 0x0E kvDoExportPub)

/-- The attribute word of a key, as KV_SLOT_ATTR shows it (Table KV-14). -/
def KvKey.attr (k : KvKey) : Nat := k.state + 4 * k.origin + 16 * k.policy + 64 * k.cls + 65536 * k.alg

/-- EXPORT_WRAPPED (R134): the attribute word, the usage word and the material, under the wrapping key. -/
def kvDoExportWrapped (c : KvCmd) (s : State) : KvEffect × State :=
  let k := s.key c.sa
  let mat := if isPubOnly k.alg then k.pub else k.mat
  let plain := leBytes 4 k.attr ++ leBytes 4 k.usage ++ mat
  let n := 8 + 8 * ((plain.length + 7) / 8)
  let f := s.kvActive c.sa
  s.kvGuard (s.kvCommon c ++ (if f ≠ [] then f else failIf (k.policy = 0) 0x0D04 ++ s.kvOwner k ++ kvFits c n) ++
    s.kvUse c.sb 7 (fun q => failIf (q.alg ≠ 2) 0x0D05 ++ s.kvOwner q))
    (kvOut (fitBytes n (Config.std .wrap [(s.key c.sb).mat, plain])))

/-- EXPORT_WRAPPED starts (R138). -/
def execKvExportWrapped (s : State) : Host.Outcome State Fault Refusal := .next (s.kvBegin 0x0F kvDoExportWrapped)

/-- EXPORT_PLAIN (R134). -/
def kvDoExportPlain (c : KvCmd) (s : State) : KvEffect × State :=
  let k := s.key c.sa
  let out := if isPubOnly k.alg then k.pub else k.mat
  let f := s.kvActive c.sa
  s.kvGuard (s.kvCommon c ++ (if f ≠ [] then f else failIf (k.policy ≠ 2) 0x0D04 ++ s.kvOwner k ++ kvFits c out.length))
    (fun t => if isPubOnly k.alg then kvOut out t else (.exported out c.sa, t))

/-- EXPORT_PLAIN starts (R138). -/
def execKvExportPlain (s : State) : Host.Outcome State Fault Refusal := .next (s.kvBegin 0x10 kvDoExportPlain)

/-- INVALIDATE (R136). -/
def kvDoInvalidate (c : KvCmd) (s : State) : KvEffect × State :=
  s.kvGuard (s.kvCommon c ++ (if c.sa < 8 then [0x0D04] else s.kvActive c.sa)) (fun t => (.invalidated c.sa, t))

/-- INVALIDATE starts (R138). -/
def execKvInvalidate (s : State) : Host.Outcome State Fault Refusal := .next (s.kvBegin 0x11 kvDoInvalidate)

/-- TIGHTEN (R133). -/
def kvDoTighten (c : KvCmd) (s : State) : KvEffect × State :=
  s.kvGuard (s.kvCommon c ++ s.kvActive c.sa ++ failIf (c.pol = 3) 0x0D10) (fun t => (.tightened c.sa c.use c.pol, t))

/-- TIGHTEN starts (R138). -/
def execKvTighten (s : State) : Host.Outcome State Fault Refusal := .next (s.kvBegin 0x12 kvDoTighten)

/-- The slots above a slot, parent first, 0xFF where none (Table KV-9). -/
def State.ancestors (s : State) (n : Nat) : List Nat :=
  let up := fun (p : Nat) => if p = 0xFF then 0xFF else (s.key p).parent
  let a := (s.key n).parent
  [a, up a, up (up a)]

/-- The attestation body (Table KV-9). -/
def State.attestBody (s : State) (n : Nat) (nonce : List Byte) : List Byte :=
  let k := s.key n
  leBytes 4 0x54415447 ++ leBytes 2 1 ++ leBytes 2 160 ++ leBytes 8 s.serial ++ leBytes 2 (s.fld F.SYS_ID_part) ++
    leBytes 1 (s.fld F.SYS_ID_stepping) ++ leBytes 1 s.lc ++ leBytes 4 (s.fld F.DSK_ACTIVE_SET_active_set) ++ leBytes 8 s.mt ++
    leBytes 4 (s.nj.wallSec % 2 ^ 31 + (if s.nj.wallValid then 2 ^ 31 * (s.nj.wallSec / 2 ^ 31 % 2) else 2 ^ 31)) ++
    leBytes 4 (s.word Reg.TMK_ERA).toNat ++ leBytes 1 n ++ leBytes 1 k.alg ++ leBytes 1 k.origin ++ leBytes 1 k.policy ++ leBytes 2 k.usage ++
    leBytes 1 k.cls ++ leBytes 1 k.depth ++ leBytes 4 k.gen ++ (s.ancestors n).map (BitVec.ofNat 8) ++ leBytes 1 0 ++ nonce ++
    (if pubLen k.alg = 0 then List.replicate 48 0 else fitBytes 48 (Config.sha384 k.pub)) ++ List.replicate 24 0

/-- ATTEST (R147): the DIK signs the statement of an INTERNAL key of policy NEVER. -/
def kvDoAttest (c : KvCmd) (s : State) : KvEffect × State :=
  let f := s.kvActive c.sa
  let k := s.key c.sa
  s.kvGuard (s.kvCommon c ++ (if f ≠ [] then f else failIf (k.origin ≠ 0 || k.policy ≠ 0) 0x0D04) ++ failIf (c.auxL ≠ 32) 0x0D10 ++
    s.kvUse 0 9 (fun _ => []) ++ kvFits c 256 ++ s.kvRandom) (fun t =>
    let r := t.random
    let body := t.attestBody c.sa c.aux
    let dik := t.key 0
    (.done (body ++ fitBytes 96 (Config.std .sign [leBytes 1 dik.alg, dik.mat, leBytes 1 0, body, r.1])) none true, r.2))

/-- ATTEST starts (R138). -/
def execKvAttest (s : State) : Host.Outcome State Fault Refusal := .next (s.kvBegin 0x13 kvDoAttest)

/-- READ_CERT (Table KV-4). -/
def kvDoReadCert (c : KvCmd) (s : State) : KvEffect × State :=
  s.kvGuard (s.kvCommon c ++ (if c.sa ≠ 0 then [0x0D10] else s.kvActive 0 ++ kvFits c s.kv.cert.length)) (kvOut s.kv.cert)

/-- READ_CERT starts (R138). -/
def execKvReadCert (s : State) : Host.Outcome State Fault Refusal := .next (s.kvBegin 0x14 kvDoReadCert)

/-! ## Lifecycle (R143 to R145) -/

/-- A transition of Table KV-6: the seal switch it needs, the classes it destroys, the fuse it burns. -/
def lcTransition (src dst : Nat) : Option (Option Nat × List Nat × Nat) :=
  match src, dst with
  | 0, 1 => some (none, [1, 4], 1)
  | 1, 2 => some (some 0, [1, 4], 2)
  | 2, 3 => some (some 2, [4], 0)
  | 3, 2 => some (none, [3, 4], 0)
  | 1, 4 => some (some 2, [1, 2, 3, 4], 4)
  | 2, 4 => some (some 2, [1, 2, 3, 4], 4)
  | 3, 4 => some (some 2, [1, 2, 3, 4], 4)
  | _, _ => none

/-- The session level of the test access port follows a new state (R146, Table KV-11). -/
def State.tapFollow (s : State) : State :=
  let s1 := s.setFld F.KV_TAP_level (tapLevelOf s.lc)
  if s.lc = 2 then (s1.setFld F.KV_TAP_session 0).onKv (fun k => { k with tapLevel := 0 }) else s1

/-- Steps 4 to 7 of R145: the classes wiped, the sweep, the fuse, the new state, LIFECYCLE code 2. -/
def State.lcFinish (s : State) (src dst : Nat) : State :=
  let t := (lcTransition src dst).getD (none, [], 0)
  let gone := (List.range 256).filter (fun n => (s.key n).state ≠ 0 && (t.2.1.contains (s.key n).cls || (dst = 4 && n = 1)))
  let s1 := (gone.foldl (fun u n => u.wipeSlot n) s).sweep []
  let s2 := s1.onKv (fun k => { k with fuses := k.fuses ||| t.2.2, nvState := dst, nvPending := none,
                                       service := if dst = 3 then satAdd k.service 1 65535 else k.service })
  let s3 := ((s2.setFld F.KV_LC_state dst).kvShow).tapFollow
  (s3.setFld F.KV_LC_RESULT_result 1).log ⟨9, 2, 0, gone.length, none, some s3.mt⟩

/-- Steps 2 to 8 of R145. -/
def State.lcRun (s : State) (src dst : Nat) : State :=
  let s1 := s.log ⟨9, 1, src * 16 + dst, 0, none, some s.mt⟩
  let s2 := (s1.onKv (fun k => { k with nvPending := some (src, dst), lcNext := none })).kvShow
  ((s2.lcFinish src dst).setFld F.KV_STATUS_lc_busy 0).evtKv

/-- A transition pending at Dawn is completed before the vault accepts a command (R145). -/
def State.lcResume (s : State) : State :=
  match s.kv.nvPending with
  | some p => s.lcFinish p.1 p.2
  | none => s

/-- A write to KV_LC_REQ (R144): its key, and a core. -/
def State.lcRequest (s : State) (who : Init) (v : Word) : State :=
  match who with
  | .core c => if getBits v 15 8 = 0xC3 then s.onKv (fun k => { k with lcReq := some (getBits v 2 0, c, s.mt) }) else s
  | .host => s

/-- KV_LC_REQ (R144). -/
def execKvLcReq (who : Init) (v : Word) (s : State) : Host.Outcome State Fault Refusal :=
  .next (s.port who Reg.KV_LC_REQ (fun t => t.lcRequest who v))

/-- Why a transition is refused (R144, KV_LC_RESULT). -/
def State.lcRefusals (s : State) (src dst : Nat) : List Nat :=
  (match lcTransition src dst with
   | none => [2]
   | some (sw, _) => match sw with | some n => failIf (!s.sealOn n) 3 | none => []) ++ failIf s.outputsOn 4

/-- A confirmed request: refused with LIFECYCLE code 3, or begun (R144, R145). -/
def State.lcConfirmed (s : State) (dst : Nat) : State :=
  let src := s.lc
  let r := s.pickFault (s.lcRefusals src dst)
  match r.1 with
  | some code => (r.2.setFld F.KV_LC_RESULT_result code).log ⟨9, 3, code, 0, none, none⟩
  | none =>
    let s1 := ((s.setFld F.KV_STATUS_lc_busy 1).setFld F.KV_LC_RESULT_result 6).kvAbortQueued
    if s1.kv.running.isSome then s1.onKv (fun k => { k with lcNext := some (src, dst) }) else s1.lcRun src dst

/-- A write to KV_LC_CONFIRM (R144): from the requesting core within 1 ms of meter time; otherwise the request is discarded with result 5. -/
def State.lcConfirm (s : State) (who : Init) (v : Word) : State :=
  match who, s.kv.lcReq with
  | .core c, some (dst, k, t) =>
    if getBits v 15 0 ≠ 0x3CC3 then s
    else
      let s1 := s.onKv (fun q => { q with lcReq := none })
      if c = k && s.mt - t ≤ msTicks then (if s1.is F.KV_STATUS_lc_busy then s1 else s1.lcConfirmed dst)
      else s1.setFld F.KV_LC_RESULT_result 5
  | _, _ => s

/-- KV_LC_CONFIRM (R144, R145). -/
def execKvLcConfirm (who : Init) (v : Word) (s : State) : Host.Outcome State Fault Refusal :=
  .next (s.port who Reg.KV_LC_CONFIRM (fun t => t.lcConfirm who v))

/-! ## Completion, sweep, self-test, random generator -/

/-- The running command completes (R138, R140, R149); an accepted transition goes on after it (R145). -/
def State.kvFinish (s : State) (good : Bool) : State :=
  match s.kv.running with
  | none => s
  | some (id, e) =>
    let s0 := (s.onKv (fun k => { k with running := none })).setFld F.KV_STATUS_busy 0
    match s0.kv.tickets.find? (fun t => t.id = id) with
    | none => s0
    | some t =>
      let r := s0.kvApply t e good
      let s1 := (r.2.onTicket id (fun u => { u with phase := if r.1 = 0 then 3 else 4, code := r.1 })).evtKv
      match s1.kv.lcNext with
      | some p => s1.lcRun p.1 p.2
      | none => s1

/-- KV_CMD_DONE: `good` says that the NV write of the command, if any, reads back. -/
def execKvCmdDone (good : Bool) (s : State) : Host.Outcome State Fault Refusal := .next (s.kvFinish good)

/-- KV_SWEEP: `bad` names the slots that do not read back. -/
def execKvSweep (bad : List Nat) (s : State) : Host.Outcome State Fault Refusal := .next (if s.kv.loaded then s.sweep bad else s)

/-- The noise source fails its health tests (R141). -/
def State.rngFail (s : State) : State :=
  ((s.setFld F.KV_RNG_health_ok 0).onKv (fun k => { k with rngAt := some s.mt, rngTries := 0 })).kvFault 0x0D0D

/-- RNG_HEALTH_FAIL (R141). -/
def execRngHealthFail (s : State) : Host.Outcome State Fault Refusal := .next (if s.is F.KV_RNG_health_ok then s.rngFail else s)

/-- RNG_RESTART (R141): 10 ms after the failure or the last restart, at most three; `good` says that the source passes. -/
def execRngRestart (good : Bool) (s : State) : Host.Outcome State Fault Refusal :=
  .next (match s.kv.rngAt with
  | none => s
  | some t =>
    if s.kv.rngTries < 3 && t + 10 * msTicks ≤ s.mt then
      let s1 := (s.onKv (fun k => { k with rngTries := k.rngTries + 1, rngAt := if good then none else some s.mt })).count F.KV_RNG_restarts
      if good then s1.setFld F.KV_RNG_health_ok 1 else s1
    else s)

/-- KV_SELFTEST_DONE (R149, R150): `good` says that the known-answer tests pass, `noise` that the start-up tests of the noise source do. -/
def execKvSelftestDone (good noise : Bool) (s : State) : Host.Outcome State Fault Refusal :=
  .next (if s.dawnDone && !s.is F.KV_STATUS_ready && !s.is F.KV_STATUS_selftest_fail then
    let s1 := if good then s.setFld F.KV_STATUS_ready 1 else (s.setFld F.KV_STATUS_selftest_fail 1).kvFault 0x0D11
    if noise then s1.setFld F.KV_RNG_health_ok 1 else s1.rngFail
  else s)

/-! ## Test access port (R146) -/

/-- TAP_SESSION_OPEN: the controller leaves Test-Logic-Reset, where a level is offered. -/
def execTapSessionOpen (s : State) : Host.Outcome State Fault Refusal :=
  .next (if s.kv.loaded && s.fld F.KV_TAP_level ≠ 0 && !s.is F.KV_TAP_session then
    let lv := s.fld F.KV_TAP_level
    let s1 := s.onKv (fun k => { k with sessions := satAdd k.sessions 1 65535, tapLevel := lv, tapRefused := false })
    ((s1.setFld F.KV_TAP_session 1).kvShow).log ⟨12, 1, lv, 0, none, none⟩
  else s)

/-- An instruction that is not offered: BYPASS, and the first refusal of the session is logged (R146). -/
def State.tapRefuse (s : State) : State :=
  if s.is F.KV_TAP_session && !s.kv.tapRefused then (s.onKv (fun k => { k with tapRefused := true })).log ⟨12, 3, 0, 0, none, none⟩ else s

/-- TAP_REFUSED (R146). -/
def execTapRefused (s : State) : Host.Outcome State Fault Refusal := .next s.tapRefuse

/-- A debug halt of core `c` is offered (Table KV-8). -/
def State.haltOffered (s : State) (c : Nat) : Bool :=
  s.kv.tapLevel = 4 || (c < 4 && (s.kv.tapLevel = 3 || (s.kv.tapLevel = 2 && s.serviceEn)))

/-- TAP_DEBUG_HALT (R146): the core stops, logged as ACCESS code 2. -/
def execTapDebugHalt (c : Nat) (s : State) : Host.Outcome State Fault Refusal :=
  .next (if !s.is F.KV_TAP_session then s
    else if s.haltOffered c then
      let s1 := s.onCore c (fun k => { k with running := false })
      let s2 := if c = 4 then s1.setFld F.CPU_STATUS_sfc_running 0 else s1.setFldBit F.CPU_STATUS_cc_running c false
      s2.log ⟨12, 2, c, 0, none, none⟩
    else s.tapRefuse)

/-- The controller returns to Test-Logic-Reset: the session ends (R146). -/
def execTapSessionEnd (s : State) : Host.Outcome State Fault Refusal :=
  .next (if s.is F.KV_TAP_session then (s.setFld F.KV_TAP_session 0).onKv (fun k => { k with tapLevel := 0, tapRefused := false }) else s)

end Sys2Proof.Machine
end

