-- ==== Sys2Proof/Machine/Njd.lean ====
section
/-! DEFINITION. The commands of the Nightjar domain (06_nightjar_tamper.md): supply, real-time clock, Wren, seal switches, the program's log entries, its
registers. -/

namespace Sys2Proof.Machine

open Sys2Proof

/-- The Nightjar domain changed. -/
def State.onNj (s : State) (f : Nj → Nj) : State := { s with nj := f s.nj }

/-- A fault of Table NJD-9. -/
def State.njFault (s : State) (code : Nat) : State := s.fault code (some Reg.NJD_FAULT)

/-- EVT_NJD to CC0 to CC3 and the SFC, where the powered side runs (R118). -/
def State.njEvent (s : State) : State := if s.dawnDone && !s.dsk.off then s.deliver 23 allCores else s

/-! ## Supply (R109, R111, R112) -/

/-- The source with the highest voltage, the one in use kept within 30 mV (R109): 0 VDD33, 1 VBAT, 2 VHARV. -/
def pickSource (now vdd33 vbat vharv : Nat) : Nat :=
  let v := fun (n : Nat) => [vdd33, vbat, vharv].getD n 0
  let best := if vbat ≤ vdd33 && vharv ≤ vdd33 then 0 else if vharv ≤ vbat then 1 else 2
  if v now + 30 ≤ v best then best else now

/-- The supply selector judges its three sources, in mV; VDD33 takes part only while the powered side is not isolated (R109). -/
def execSupplySelect (vdd33 vbat vharv : Nat) (s : State) : Host.Outcome State Fault Refusal :=
  .next (if s.nj.vnjLost then s
    else s.setFld F.NJD_STATUS_source (pickSource (s.fld F.NJD_STATUS_source) (if s.nj.isolated then 0 else vdd33) vbat vharv))

/-- Every source below 1.8 V: Wren and the clock stop (R111). -/
def execNjPowerLost (s : State) : Host.Outcome State Fault Refusal := .next (s.onNj (fun k => { k with vnjLost := true }))

/-- A source returns (R111): what Nightjar NV does not hold is at its reset values; the source, whether a slot was found torn, and VBAT in mV for the SUPPLY entry. -/
def execNjRestart (source : Nat) (torn : Bool) (mv : Nat) (s : State) : Host.Outcome State Fault Refusal :=
  .next (if !s.nj.vnjLost || !s.nj.initialised then s
    else
      let s1 := s.onNj (fun k =>
        { k with vnjLost := false, reportLost := true, wallSec := 0, wallSub := 0, wallValid := false, oscStopped := false, app0 := false,
                 abnormal := List.replicate 7 0, normal := List.replicate 7 0, sealScanned := false })
      let s2 := (((s1.setFld F.NJD_STATUS_source source).setFld F.NJD_STATUS_power_lost 1).setWord Reg.NJD_VBAT 0).setFld F.NJD_TAMPER_STATUS_live 0
      let s3 := [Reg.NJD_SEAL, Reg.NJD_SENSE, Reg.NJD_RTC_EFF, Reg.NJD_LOG_IDX, Reg.NJD_LOG_APP0, Reg.NJD_OVF_SEL, Reg.NJD_FAULT].foldl
        (fun t a => t.setWord a 0) ((s2.setFld F.NJD_STATUS_cfg_refused 0).setFld F.NJD_STATUS_clr_refused 0)
      let s4 := if torn && s3.logCount < 4096 then
          let t := s3.onNj (fun k =>
            { k with log := k.log ++ [{ cls := 0, cont := false, wtInv := false, unpowered := false, code := 0, info := 0, wall := 0, data := 0, tag := 0, bad := true }] })
          ((t.setFld F.NJD_LOG_COUNT_count t.logCount).setFld F.NJD_STATUS_nv_fail 1).njFault 0x0C05
        else s3
      s4.log ⟨11, 4, 0, mv, none, none⟩)

/-- The first start after manufacture: the seed and the initialised mark (R111, R123). -/
def execNjFirstStart (source : Nat) (s : State) : Host.Outcome State Fault Refusal :=
  .next (if s.nj.initialised then s
    else ((s.onNj (fun k => { k with initialised := true, vnjLost := false })).setWord Reg.NJD_LOG_SEED s.nj.seedFuse).setFld F.NJD_STATUS_source source)

/-- VBAT measured under load (R112). -/
def execVbatMeasure (mv : Nat) (s : State) : Host.Outcome State Fault Refusal :=
  .next (if s.nj.vnjLost || (s.nj.isolated && s.fld F.NJD_STATUS_source ≠ 1) then s
    else
      let s1 := (s.setFld F.NJD_VBAT_mv mv).setFld F.NJD_VBAT_valid 1
      let s2 := if mv < 2300 && !s1.is F.NJD_STATUS_vbat_low then
          ((s1.setFld F.NJD_STATUS_vbat_low 1).log ⟨11, 1, 0, mv, none, none⟩).njFault 0x0C01
        else s1
      let s3 := if mv < 1900 && !s2.is F.NJD_STATUS_vbat_absent then
          ((s2.setFld F.NJD_STATUS_vbat_absent 1).log ⟨11, 2, 0, mv, none, none⟩).njFault 0x0C02
        else s2
      if 2400 < mv && (s3.is F.NJD_STATUS_vbat_low || s3.is F.NJD_STATUS_vbat_absent) then
        ((s3.setFld F.NJD_STATUS_vbat_low 0).setFld F.NJD_STATUS_vbat_absent 0).log ⟨11, 3, 0, mv, none, none⟩
      else s3)

/-! ## Real-time clock (R114, R115) -/

/-- A rational number rounded to the nearest integer, halves away from zero (R114). -/
def roundAway (num : Int) (den : Nat) : Int :=
  let a := (2 * num.natAbs + den) / (2 * den)
  if num < 0 then -(a : Int) else (a : Int)

/-- The correction c of a second at a die temperature (R114). -/
def State.rtcCorr (s : State) (temp : Int) : Int :=
  let dt := temp - sgn 8 (s.fld F.NJD_RTC_TCOMP_t0)
  let curve := if s.is F.NJD_RTC_TCOMP_tcomp_en then roundAway (sgn 8 (s.fld F.NJD_RTC_TCOMP_k) * dt * dt) 10 else 0
  let d := sgn 16 (s.fld F.NJD_RTC_TRIM_offset) + curve
  max (-30000) (min 30000 (-d))

/-- One second of the 32.768 kHz oscillator: 32,768 counts, one more or fewer for each 3,052 in the accumulator (R35, R114). -/
def execRtcSecond (temp : Int) (s : State) : Host.Outcome State Fault Refusal :=
  .next (if s.nj.vnjLost || s.nj.oscStopped then s
    else
      let c := s.rtcCorr temp
      let acc := s.nj.rtcAcc + c
      let n := acc.tdiv 3052
      let sub := ((s.nj.wallSub : Int) + 32768 + n).toNat
      let s1 := s.onNj (fun k => { k with rtcAcc := acc - 3052 * n, wallSub := sub % 32768, wallSec := (k.wallSec + sub / 32768) % 2 ^ 32 })
      (s1.setFld F.NJD_RTC_EFF_corr (unsgn 16 c)).setFld F.NJD_RTC_EFF_temp (unsgn 8 (temp + 64)))

/-- No 32.768 kHz edge for 2 ms (R115). -/
def execOscStop (s : State) : Host.Outcome State Fault Refusal :=
  .next (if s.nj.vnjLost || s.nj.oscStopped then s
    else ((s.onNj (fun k => { k with oscStopped := true })).setFld F.NJD_STATUS_osc_stop 1).njFault 0x0C03)

/-- Edges return after a stop of the measured length in ms (R115). -/
def execOscResume (ms : Nat) (s : State) : Host.Outcome State Fault Refusal :=
  .next (if s.nj.oscStopped && !s.nj.vnjLost then (s.onNj (fun k => { k with oscStopped := false })).log ⟨1, 3, 0, ms, none, none⟩ else s)

/-! ## Wren (R117 to R119, Table NJD-2) -/

/-- A TAMPER entry (Table NJD-5). -/
def State.logTamper (s : State) (n info data : Nat) : State := s.log ⟨2, n, info, data, none, none⟩

/-- Source `n` asserts (R118). -/
def State.tamperAssert (s : State) (n data : Nat) : State :=
  let s1 := (s.setFldBit F.NJD_TAMPER_STATUS_latch n true).setFldBit F.NJD_TAMPER_STATUS_live n true
  (((s1.count F.NJD_TAMPER_STATUS_count).logTamper n 1 data).setFld F.NJD_STATUS_tamper_new 1).njEvent

/-- Source `n` clears; its latch stays (R118). -/
def State.tamperClear (s : State) (n data : Nat) : State := (s.setFldBit F.NJD_TAMPER_STATUS_live n false).logTamper n 0 data

/-- Whether source `n` is enabled (Table NJD-2). -/
def State.wrenOn (s : State) (n : Nat) : Bool :=
  if n < 4 then s.fld (F.NJD_TMP_CFG_mode n) ≠ 0
  else if n = 4 then s.is F.NJD_MAG_CFG_en else if n = 5 then s.is F.NJD_LIGHT_CFG_en else s.is F.NJD_DTEMP_CFG_en

/-- The reading of source `n` is abnormal (Table NJD-2). -/
def State.wrenBad (s : State) (n v : Nat) : Bool :=
  if n < 4 then v ≠ s.fld (F.NJD_TMP_CFG_normal n)
  else if n = 4 then s.fld F.NJD_MAG_CFG_thr ≤ v
  else if n = 5 then s.fld F.NJD_LIGHT_CFG_thr ≤ v
  else v ≤ s.fld F.NJD_DTEMP_CFG_low || s.fld F.NJD_DTEMP_CFG_high ≤ v

/-- The last reading of source `n` (NJD_SENSE). -/
def State.wrenLast (s : State) (n : Nat) : Nat :=
  if n < 4 then bit (s.fldBit F.NJD_SENSE_tmp n) else if n = 4 then s.fld F.NJD_SENSE_mag else if n = 5 then s.fld F.NJD_SENSE_light
  else s.fld F.NJD_SENSE_dtemp

/-- A reading shown in NJD_SENSE. -/
def State.wrenShow (s : State) (n v : Nat) : State :=
  if n < 4 then s.setFldBit F.NJD_SENSE_tmp n (decide (v ≠ 0)) else if n = 4 then s.setFld F.NJD_SENSE_mag v
  else if n = 5 then s.setFld F.NJD_SENSE_light v else s.setFld F.NJD_SENSE_dtemp v

/-- One window (R117, R118). -/
def State.wrenWindow (s : State) (n v : Nat) : State :=
  if !s.wrenOn n then s
  else
    let bad := s.wrenBad n v
    let s1 := (s.wrenShow n v).onNj (fun k =>
      { k with abnormal := upd k.abnormal n (fun c => if bad then min 15 (c + 1) else 0), normal := upd k.normal n (fun c => if bad then 0 else min 15 (c + 1)) })
    let live := s.fldBit F.NJD_TAMPER_STATUS_live n
    if !live && s.fld F.NJD_WREN_CFG_assert_cnt ≤ s1.nj.abnormal.getD n 0 then s1.tamperAssert n v
    else if live && s.fld F.NJD_WREN_CFG_clear_cnt ≤ s1.nj.normal.getD n 0 then s1.tamperClear n v
    else s1

/-- A Wren cycle: the levels of TMP_IN[3:0], mT, lux, die-temperature code (R117). -/
def execWrenCycle (tmp mag lux temp : Nat) (s : State) : Host.Outcome State Fault Refusal :=
  .next (if s.nj.vnjLost then s
    else
      let s1 := [0, 1, 2, 3].foldl (fun t n => t.wrenWindow n (bit (tmp.testBit n))) s
      ((s1.wrenWindow 4 mag).wrenWindow 5 lux).wrenWindow 6 temp)

/-- A write to NJD_TAMPER_CLR (R119). -/
def State.wrTamperClr (s : State) (v : Word) : State :=
  let m := getBits v 7 0
  if m = 0 then s
  else if !s.tamperEn then (s.setFld F.NJD_STATUS_cfg_refused 1).logConfig 1 Reg.NJD_TAMPER_CLR
  else
    let live := s.fld F.NJD_TAMPER_STATUS_live
    let gone := (List.range 8).filter (fun n => m.testBit n && !live.testBit n && s.fldBit F.NJD_TAMPER_STATUS_latch n)
    let s1 := gone.foldl (fun t n => t.setFldBit F.NJD_TAMPER_STATUS_latch n false) s
    let s2 := if gone.isEmpty then s1 else s1.logConfig 2 Reg.NJD_TAMPER_CLR
    if m &&& live ≠ 0 then s2.setFld F.NJD_STATUS_clr_refused 1 else s2

/-- NJD_TAMPER_CLR (R119). -/
def execTamperClear (who : Init) (v : Word) (s : State) : Host.Outcome State Fault Refusal :=
  .next (s.port who Reg.NJD_TAMPER_CLR (fun t => t.wrTamperClr v))

/-! ## Seal switches (R121, R27) -/

/-- SYS_POST_STATUS[4:2] follow the accepted values, or the Dawn fallback (R27, R92, R121). -/
def State.sealPost (s : State) : State :=
  ((s.setBit F.SYS_POST_STATUS_config_en s.configEn).setBit F.SYS_POST_STATUS_metro_en s.metroEn).setBit F.SYS_POST_STATUS_seal_loop_ok
    (!s.nj.sealFallback && s.is F.NJD_SEAL_loop_ok)

/-- What follows a change of the values the powered side sees: open records of METRO_EN (Table BIL-1), the sealed set of SEAL_CODE (R301). -/
def State.sealFollow (s : State) (metroWas : Bool) (codeWas : Nat) : State :=
  let s1 := s.sealPost
  let s2 := if s1.metroEn && !metroWas then s1.recordFlags 8 8 else s1
  if s2.sealCode ≠ codeWas && s2.saf.armed then s2.sealCodeChanged else s2

/-- An accepted switch byte (R121). -/
def State.acceptSw (s : State) (sw : Nat) : State :=
  let old := s.fld F.NJD_SEAL_sw
  if sw = old then s
  else (((s.setFld F.NJD_SEAL_sw sw).log ⟨3, 1, old * 256 + sw, 0, none, none⟩).count F.NJD_SEAL_CNT_changes).setFld F.NJD_STATUS_seal_change 1

/-- An accepted loop state (R121). -/
def State.acceptLoop (s : State) (closed : Bool) : State :=
  if closed = s.is F.NJD_SEAL_loop_ok then s
  else
    let s1 := (s.setBit F.NJD_SEAL_loop_ok closed).setFldBit F.NJD_TAMPER_STATUS_live 7 (!closed)
    if closed then s1.log ⟨3, 3, 0, 0, none, none⟩
    else
      let s2 := (s1.log ⟨3, 2, 0, 0, none, none⟩).setFldBit F.NJD_TAMPER_STATUS_latch 7 true
      (s2.count F.NJD_TAMPER_STATUS_count).count F.NJD_SEAL_CNT_loop_opens

/-- A seal scan of Nightjar (R121). -/
def execSealScan (sw : Nat) (loop : Bool) (s : State) : Host.Outcome State Fault Refusal :=
  .next (if s.nj.vnjLost then s
    else
      let sameSw := s.nj.sealScanned && s.fld F.NJD_SEAL_raw = sw
      let sameLoop := s.nj.sealScanned && s.is F.NJD_SEAL_loop_raw = loop
      let s1 := ((s.setFld F.NJD_SEAL_raw sw).setBit F.NJD_SEAL_loop_raw loop).onNj (fun k =>
        { k with sealScanned := true, sealFallback := k.sealFallback && !(sameSw && sameLoop) })
      let s2 := if sameSw then s1.acceptSw sw else s1
      let s3 := if sameLoop then s2.acceptLoop loop else s2
      s3.sealFollow s.metroEn s.sealCode)

/-! ## The program's entries (R128) -/

/-- A CC core at Kernel level. -/
def State.kernelCc (s : State) (who : Init) : Bool :=
  match who with
  | .host => false
  | .core c => c < 4 && !(s.core c).task

/-- A write to NJD_LOG_APP0 (R128). -/
def State.wrApp0 (s : State) (who : Init) (v : Word) : State :=
  if s.kernelCc who then
    ((s.setFld F.NJD_LOG_APP0_info (getBits v 15 0)).setFld F.NJD_LOG_APP0_code (getBits v 23 16)).onNj (fun k => { k with app0 := true })
  else s

/-- A write to NJD_LOG_APP1 (R128). -/
def State.wrApp1 (s : State) (who : Init) (v : Word) : State :=
  if !s.kernelCc who then s
  else if !s.nj.app0 then s.setFld F.NJD_LOG_APP0_result 2
  else
    let t := (s.onNj (fun k => { k with app0 := false })).log ⟨14, s.fld F.NJD_LOG_APP0_code, s.fld F.NJD_LOG_APP0_info, v.toNat, none, none⟩
    t.setBit F.NJD_LOG_APP0_result (s.is F.NJD_LOG_COUNT_main_full || decide (s.nj.clsCount.getD 14 0 < t.nj.clsCount.getD 14 0))

/-- NJD_LOG_APP0 (R128). -/
def execLogApp0 (who : Init) (v : Word) (s : State) : Host.Outcome State Fault Refusal :=
  .next (s.port who Reg.NJD_LOG_APP0 (fun t => t.wrApp0 who v))

/-- NJD_LOG_APP1 (R128). -/
def execLogApp1 (who : Init) (v : Word) (s : State) : Host.Outcome State Fault Refusal :=
  .next (s.port who Reg.NJD_LOG_APP1 (fun t => t.wrApp1 who v))

/-! ## Other registers (Table NJD-11) -/

/-- Sources disabled while asserted clear (R118). -/
def State.tamperDisabled (s : State) : State :=
  (List.range 7).foldl (fun t n => if !t.wrenOn n && t.fldBit F.NJD_TAMPER_STATUS_live n then t.tamperClear n (t.wrenLast n) else t) s

/-- A write to an NJD register without a row of its own (R121, Table NJD-11). -/
def State.wrNjd (s : State) (a : Nat) (v : Word) : State :=
  if a = Reg.NJD_DTEMP_CFG && getBits v 15 8 ≤ getBits v 7 0 then s
  else (s.wrPlain a v (some F.NJD_STATUS_cfg_refused)).tamperDisabled

end Sys2Proof.Machine
end

