-- ==== Sys2Proof/Machine/RbnOps.lean ====
section
/-! DEFINITION. What Robin shares (13_contactless_robin.md): its field (R265, R266), reader results (R267), page locks and deferred writes (R274 to
R277), its registers. -/

namespace Sys2Proof.Machine

open Sys2Proof

/-- Robin changed. -/
def State.onRbn (s : State) (f : Rbn → Rbn) : State := { s with rbn := f s.rbn }

/-- The reader front end and the wire side work (R263). -/
def State.rbnOn (s : State) : Bool := !s.isWorker && s.dawnDone && !s.dsk.off

/-- A fault of Table RBN-10; one raised while the powered side is off is recorded at the next Dawn (R281). -/
def State.rbnFault (s : State) (code : Nat) : State :=
  if s.dsk.off then s.onRbn (fun r => { r with late := r.late ++ [code] }) else s.fault code (some Reg.RBN_FAULT)

/-- A bit of RBN_EVT set and EVT_RBN delivered (R267, R269). -/
def State.rbnEvent (s : State) (f : Field) : State := (s.setFld f 1).deliver 26 (maskCores (s.fld F.RBN_CTRL_evt_mask))

/-! ## Reader transactions (R267) -/

/-- A result message to queue 0x0089 (Table RBN-1); the counters and the event follow. -/
def State.rdResult (s : State) (head : List Byte) (status lastBits coll : Nat) (rx : List Byte) : State :=
  let l := leBytes 1 status ++ leBytes 1 lastBits ++ leBytes 2 rx.length ++ leBytes 2 coll ++ (head.drop 6).take 2 ++ rx
  let s1 := (s.blockPush 0x0089 l).2
  let s2 := (s1.setFld F.RBN_RD_STATUS_last status).setFld F.RBN_RD_STATUS_done ((s1.fld F.RBN_RD_STATUS_done + 1) % 65536)
  let s3 := s2.count (if status = 0 then F.RBN_CNT_RD_ok else F.RBN_CNT_RD_err)
  if (leNat ((head.drop 1).take 1)).testBit 3 then s3.rbnEvent F.RBN_EVT_rd_done else s3

/-- The transactions that wait in queue 0x0088 complete with a status (R266, Table RBN-9). -/
def State.rdDrain (s : State) (status : Nat) : State :=
  let r := s.qReady 0x0088
  if r.1 ≠ .done then r.2
  else
    (List.range ((r.2.qDesc 0x0088).held / 5)).foldl (fun t _ =>
      let room := t.qRoom 0x0089
      if room.1 then
        let m := room.2.blockTake 0x0088
        match m.1 with
        | some l => m.2.rdResult l status 0 0xFFFF []
        | none => m.2
      else room.2) r.2

/-- The transaction on the air ends without an answer. -/
def State.rdAbort (s : State) : State :=
  match s.rbn.txn with
  | some t => ((s.onRbn (fun r => { r with txn := none })).setFld F.RBN_RD_STATUS_busy 0).rdResult t.head 7 0 0xFFFF []
  | none => s

/-! ## The field (R265, R266) -/

/-- Robin's own field off. -/
def State.rbnFieldOff (s : State) : State :=
  ((s.onRbn (fun r => { r with waiting := false, extFrom := none })).setFld F.RBN_STATUS_field_on 0).setFld F.RBN_STATUS_guard 0

/-- A check of the external field (R266); it is at or above the threshold. -/
def State.extSeen (s : State) : State :=
  if s.is F.RBN_STATUS_ext_field then s.setFld F.RBN_EVT_ext_field 1
  else (s.setFld F.RBN_STATUS_ext_field 1).setFld F.RBN_EVT_ext_field 1

/-- The field turns on: the external check `ext` in 0.01 A/m, the carrier, the driver current `i` in 2 mA units, the guard time (R265, R266, Table
RBN-10). -/
def State.rbnFieldOn (s : State) (ext i : Nat) : State :=
  let s0 := s.setFld F.RBN_STATUS_mode_now 2
  if s.fld F.RBN_EXT_THR_thr ≤ ext then
    ((s0.extSeen).onRbn (fun r => { r with waiting := true, extFrom := none })).rdDrain 6
  else
    let s1 := (s0.setFld F.RBN_STATUS_ext_field 0).onRbn (fun r => { r with waiting := false, extFrom := none })
    if i < s.fld F.RBN_CAL_i_min || s.fld F.RBN_CAL_i_max < i then
      let s2 := (s1.rbnFieldOff.setFld F.RBN_STATUS_mode_now 0).setFld F.RBN_CTRL_mode 0
      (s2.rbnFault 0x0F01).rdDrain 7
    else
      let s2 := ((s1.setFld F.RBN_STATUS_field_on 1).setFld F.RBN_STATUS_guard 1).setFld F.RBN_HARV_STATUS_out_on 0
      s2.onRbn (fun r => { r with guardEnd := s.mt + s.fld F.RBN_RD_CFG_guard_ms * msTicks })

/-- A mode takes effect. -/
def State.rbnEnter (s : State) (m ext i : Nat) : State :=
  let s1 := s.onRbn (fun r => { r with leave := none, positives := 0 })
  if m = 2 then s1.rbnFieldOn ext i else s1.rbnFieldOff.setFld F.RBN_STATUS_mode_now m

/-- A mode is asked for (R265): READER needs ICG-R locked and no Dusk warning; leaving READER waits for the transaction on the air. -/
def State.rbnMode (s : State) (m ext i : Nat) : State :=
  if m = 3 then s
  else if m = 2 && (!s.icgLocked 2 || s.duskWarn) then s.setFld F.RBN_STATUS_cfg_refused 1
  else
    let s1 := s.setFld F.RBN_CTRL_mode m
    if s.fld F.RBN_STATUS_mode_now = m then s1.onRbn (fun r => { r with leave := none })
    else if s.rbn.txn.isSome then s1.onRbn (fun r => { r with leave := some m })
    else s1.rbnEnter m ext i

/-- RBN_CTRL written (Table RBN-12). -/
def State.wrRbnCtrl (s : State) (v : Word) (ext i : Nat) : State :=
  if s.isWorker then s
  else (s.wrPlain Reg.RBN_CTRL v (accept := fun c _ => decide (c.lo ≠ 0))).rbnMode (getBits v 1 0) ext i

/-! ## Tag memory (R274 to R277) -/

/-- RBN_DEFER and RBN_LOCK_WIRE. -/
def State.tagShow (s : State) : State :=
  let r := s.rbn
  let s1 := (s.setFld F.RBN_DEFER_bytes (r.deferred.foldl (fun a d => a + d.bytes.length) 0)).setFld F.RBN_DEFER_writes r.deferred.length
  s1.setWord Reg.RBN_LOCK_WIRE ((List.range 32).foldl (fun w p => if r.wire.any (fun x => x.1 = p) then w ||| (1#32 <<< p) else w) 0#32)

/-- A result to queue 0x008B (Table RBN-5). -/
def State.tagResult (s : State) (status tag : Nat) (data : List Byte) : State :=
  (s.blockPush 0x008B (leBytes 1 status ++ leBytes 1 0 ++ leBytes 2 data.length ++ leBytes 2 0 ++ leBytes 2 tag ++ data)).2

/-- Bytes of tag memory written. -/
def State.tagStore (s : State) (a : Nat) (l : List Byte) : State := s.onRbn (fun r => { r with tagMem := Store.setBytes r.tagMem a l })

/-- Deferred writes discarded (R276). -/
def State.tagGone (s : State) : State :=
  let s1 := (s.onRbn (fun r => { r with deferred := [] })).tagShow
  s.rbn.deferred.foldl (fun t d => t.tagResult 4 d.tag []) s1

/-- Wire locks on pages, from now (R277). -/
def State.wireLock (s : State) (mask : Nat) : State :=
  (s.onRbn (fun r =>
    { r with wire := r.wire.filter (fun x => !mask.testBit x.1) ++ ((List.range 32).filter mask.testBit).map (fun p => (p, s.mt)) })).tagShow

/-- Wire locks on pages end (R277). -/
def State.wireFree (s : State) (mask : Nat) : State := (s.onRbn (fun r => { r with wire := r.wire.filter (fun x => !mask.testBit x.1) })).tagShow

/-- The field releases its pages: an event for each it wrote, the deferred writes, the pending LOCKs (R274, R276, R277; the event's layout is the
model's). -/
def State.fieldRelease (s : State) : State :=
  let r := s.rbn
  let s1 := (s.setWord Reg.RBN_LOCK_FIELD 0).onRbn (fun k => { k with written := 0, deferred := [], locks := [] })
  let s2 := ((List.range 32).filter r.written.testBit).foldl (fun t p =>
    ((t.blockPush 0x008C (leBytes 1 p ++ List.replicate 15 0)).2).setFld F.RBN_EVT_tag_evt 1) s1
  let s3 := r.deferred.foldl (fun t d => (t.tagStore (256 * d.page + d.off) d.bytes).tagResult 0 d.tag []) s2
  (r.locks.foldl (fun t l => (t.wireLock l.1).tagResult 0 l.2 []) s3).tagShow

/-- RBN_TAG_CFG written; clearing en discards the deferred writes (R276). -/
def State.wrTagCfg (s : State) (v : Word) : State :=
  let s1 := s.wrPlain Reg.RBN_TAG_CFG v
  if s.is F.RBN_TAG_CFG_en && !s1.is F.RBN_TAG_CFG_en then s1.tagGone else s1

/-- RBN_HARV_CFG written; VHARV_OUT goes off with out_en (R280). -/
def State.wrHarvCfg (s : State) (v : Word) : State :=
  let s1 := s.wrPlain Reg.RBN_HARV_CFG v (some F.RBN_STATUS_cfg_refused)
  if s1.is F.RBN_HARV_CFG_out_en then s1 else s1.setFld F.RBN_HARV_STATUS_out_on 0

/-- RBN_CAL written: with i_max at or below i_min ignored (Table RBN-12). -/
def State.wrRbnCal (s : State) (v : Word) : State :=
  if getBits v 15 8 ≤ getBits v 7 0 then s else s.wrPlain Reg.RBN_CAL v (some F.RBN_STATUS_cfg_refused)

/-- RBN_DET_CFG written, with the average of the 16 pings of a calibration (R270). -/
def State.wrDetCfg (s : State) (v : Word) (amp phase : Nat) : State :=
  let s1 := s.wrPlain Reg.RBN_DET_CFG v
  if v.getLsbD 12 then
    ((s1.setFld F.RBN_DET_REF_amp amp).setFld F.RBN_DET_REF_phase phase).onRbn (fun r => { r with cal := (amp, phase), positives := 0, drift := false })
  else s1

/-- A write to an RBN register without a row of its own (Table RBN-12). -/
def State.wrRbn (s : State) (a : Nat) (v : Word) : State :=
  if s.isWorker then s
  else if a = Reg.RBN_TAG_CFG then s.wrTagCfg v
  else if a = Reg.RBN_HARV_CFG then s.wrHarvCfg v
  else if a = Reg.RBN_CAL then s.wrRbnCal v
  else s.wrPlain a v (some F.RBN_STATUS_cfg_refused)

/-- Dusk step 3: field off, transactions ABORTED, wire locks ended, deferred writes GONE (Table RBN-9). -/
def State.rbnDusk (s : State) : State :=
  if s.isWorker then s
  else
    let s1 := (s.rdAbort.rdDrain 7).rbnFieldOff
    let s2 := ((s1.setFld F.RBN_STATUS_mode_now 0).setFld F.RBN_CTRL_mode 0).onRbn (fun r => { r with leave := none, wire := [], locks := [] })
    s2.tagGone

end Sys2Proof.Machine
end

