-- ==== Sys2Proof/Machine/ScView.lean ====
section
/-! DEFINITION. The connection table of the sealed parameter set (R326, Table SAF-20). -/

namespace Sys2Proof.Machine

open Sys2Proof

/-- The five words of connection `c` in a parameter set. -/
def SafSet.connWord (t : SafSet) (c w : Nat) : Word := (t.conn.getD c []).getD w 0

/-- A field of a connection's CFG word. -/
def SafSet.cfg (t : SafSet) (c hi lo : Nat) : Nat := getBits (t.connWord c 1) hi lo
/-- A field of a connection's TIME word. -/
def SafSet.time (t : SafSet) (c hi lo : Nat) : Nat := getBits (t.connWord c 2) hi lo
/-- A field of a connection's LINK word. -/
def SafSet.link (t : SafSet) (c hi lo : Nat) : Nat := getBits (t.connWord c 3) hi lo

/-- The connection is enabled. -/
def SafSet.connEn (t : SafSet) (c : Nat) : Bool := t.cfg c 0 0 = 1
/-- The connection is a producer. -/
def SafSet.producer (t : SafSet) (c : Nat) : Bool := t.cfg c 1 1 = 1
/-- The connection runs in twin mode. -/
def SafSet.twin (t : SafSet) (c : Nat) : Bool := t.cfg c 2 2 = 1

/-- The peer node of a connection; post number 0 in it means this chip's own post (R327). -/
def State.peerOf (s : State) (t : SafSet) (c : Nat) : Nat :=
  let p := t.cfg c 31 16
  if p / 16 = 0 then 16 * s.postNo + p % 16 else p

/-- The queue of connection `c` is configured as R328 says: src the peer, post_only where the peer is in this post. -/
def State.connQueueOk (s : State) (c src : Nat) (postOnly : Bool) : Bool :=
  let p := s.peerOf s.saf.eff c
  decide (src = p) && (if p / 16 = s.postNo then postOnly else true)

end Sys2Proof.Machine
end

