-- ==== Sys2Proof/Machine/ScOps.lean ====
section
/-! DEFINITION. Safety connections (16_safety_over_fabric.md): lines (R336), the post-wide lockout (R337), envelopes (R329, R330), the safe
state. -/

namespace Sys2Proof.Machine

open Sys2Proof

/-- Connection entry `c`. -/
def State.conn (s : State) (c : Nat) : Conn := s.saf.conns.getD c {}

/-- Connection entry `c` changed. -/
def State.onConn (s : State) (c : Nat) (f : Conn → Conn) : State := s.onSaf (fun k => { k with conns := upd k.conns c f })

/-- Entry `c` is an enabled consumer. -/
def State.consumer (s : State) (c : Nat) : Bool := s.saf.eff.connEn c && !s.saf.eff.producer c

/-- Entry `c` asserts its line (R336): in SAFE or REARM, or in RUN with demand received. -/
def State.connLine (s : State) (c : Nat) : Bool :=
  let k := s.conn c
  s.consumer c && (k.state = 3 || k.state = 4 || (k.state = 2 && k.demand))

/-- Line `n` of the fabric safety receiver is asserted (R336). -/
def State.lineOn (s : State) (n : Nat) : Bool := (List.range 64).any (fun c => s.connLine c && s.saf.eff.cfg c 7 4 = n)

/-- Sources 45 to 52 follow their lines (R336). -/
def State.linesFollow (s : State) : State := (List.range 8).foldl (fun t n => t.sourceSet (45 + n) (t.lineOn n)) s

/-- post_lockout follows the post-critical consumers of a Manager (R337); `c` names the connection that sets it. -/
def State.postLockout (s : State) (c : Nat) : State :=
  let held := s.isManager && (List.range 64).any (fun i =>
    s.consumer i && s.saf.eff.cfg i 3 3 = 1 && ((s.conn i).state = 3 || (s.conn i).state = 4))
  if held = s.is F.SAF_SC_STATUS_post_lockout then s
  else
    let s1 := (s.setBit F.SAF_SC_STATUS_post_lockout held).setBit F.SYS_POST_STATUS_post_lockout held
    if held then (s1.safFault 0x060F false).logSafety 10 1 c none else s1.logSafety 10 0 0 none

/-- The fault of a cause (Table SAF-18). -/
def scFaultCode (cause : Nat) : Nat :=
  match cause with | 2 => 0x060B | 3 => 0x060C | 4 => 0x060D | 5 => 0x060E | _ => 0x060A

/-- A RUN consumer enters SAFE with a cause (R336, R337): 1 TIMEOUT, 2 SEQUENCE, 3 TWIN_MISSING, 4 MISMATCH, 5 ERR_RATE, 6 TIMEBASE. -/
def State.enterSafe (s : State) (c cause : Nat) : State :=
  let n := s.saf.eff.cfg c 7 4
  let s1 := s.onConn c (fun k => { k with state := 3, cause := cause, held := none, count := 0, safeEntries := satAdd k.safeEntries 1 255 })
  let moved := s1.saf.armed && n < 8 && !s1.srcLive (45 + n) && s1.armedOf (s1.saf.eff.mask (45 + n)) ≠ 0
  let s2 := (s1.linesFollow).logSafety 8 c cause none
  (s2.safFault (scFaultCode cause) moved (if n < 8 then 45 + n else 0)).postLockout c

/-- Meter time freezes: every RUN consumer enters SAFE with TIMEBASE (R334). -/
def State.scTimebase (s : State) : State :=
  (List.range 64).foldl (fun t c => if t.consumer c && (t.conn c).state = 2 then t.enterSafe c 6 else t) s

/-! ## Envelopes (Table SAF-13) -/

/-- The check of an envelope under an identity (R329). -/
def scCheck (identity : Word) (l : List Byte) : Nat := (crc32c identity (l.take 0x1C)).toNat

/-- An envelope of producer `c` for one path. -/
def State.envelope (s : State) (c path : Nat) (close : Bool) : List Byte :=
  let t := s.saf.eff
  let k := s.conn c
  let ok := t.link c 6 6 = 1 && (s.conn (t.link c 5 0)).state = 2
  let ctl := path + 2 * bit (s.isManager && s.is F.SAF_SC_STATUS_post_lockout) + 4 * bit ok + 8 * bit close
  let l := leBytes 2 k.txSeq ++ leBytes 1 ctl ++ leBytes 1 0 ++ k.tx ++ leBytes 2 s.nodeId ++ leBytes 1 c ++ leBytes 1 0 ++ leBytes 4 s.mt
  l ++ leBytes 4 (scCheck (t.connWord c 0) l)

/-- The elements of a route word (Table STF-3). -/
def routeOf (w len : Nat) : List Nat := (List.range len).map (fun i => w / 4 ^ i % 4)

/-- The route of producer `c` for a path; none stands for routing by R229. -/
def State.connRoute (s : State) (c path : Nat) : Option (List Nat) :=
  let t := s.saf.eff
  let peer := s.peerOf t c
  let site := fun (i : Nat) =>
    if i = 0 then routeOf (getBits (t.connWord c 4) 15 0) (t.link c 11 8) else routeOf (getBits (t.connWord c 4) 31 16) (t.link c 15 12)
  if t.twin c then
    if s.isWorker then some (if path = 0 then s.stf.revA else s.stf.revB)
    else if peer / 16 = s.postNo && peer % 16 ≠ 0 then some (if path = 0 then (s.member (peer % 16)).pathA else (s.member (peer % 16)).pathB)
    else some (site path)
  else if t.link c 11 8 ≠ 0 then some (site 0)
  else none

/-- One copy of producer `c`'s envelope leaves, as a lane-S message without answer (R330). -/
def State.sendCopy (s : State) (c path : Nat) (close : Bool) : State :=
  let t := s.saf.eff
  let r := s.newSeq
  let f : Frame :=
    { dst := s.peerOf t c, queue := 0x40 + t.cfg c 13 8, seq := r.1, noAns := true, msgLen := 32, body := .msg (s.envelope c path close) }
  match s.connRoute c path with
  | some route => r.2.sendRoute f route
  | none => (r.2.launch f).2

/-- Producer `c` sends its envelope on its path or paths, and its sequence number goes on (R330). -/
def State.sendEnvelope (s : State) (c : Nat) (close : Bool) : State :=
  let s1 := s.sendCopy c 0 close
  let s2 := if s1.saf.eff.twin c then s1.sendCopy c 1 close else s1
  s2.onConn c (fun k => { k with txSeq := (k.txSeq + 1) % 65536 })

/-- A producer entry may send (R330, R332). -/
def State.mayProduce (s : State) (c : Nat) : Bool :=
  s.saf.armed && s.saf.eff.connEn c && s.saf.eff.producer c && s.nodeId ≠ 0 && !s.inHold && s.tmk.mtRun && !(s.conn c).closed

/-- Every producer sends close on every path and stops until Dawn (R332). -/
def State.scClose (s : State) : State :=
  (List.range 64).foldl (fun t c => if t.mayProduce c then (t.sendEnvelope c true).onConn c (fun k => { k with closed := true }) else t) s

/-- The connections between a Manager and member `m` are established (R338). -/
def State.connEstablished (s : State) (m : Nat) : Bool :=
  let t := s.saf.eff
  let node := 16 * s.postNo + m
  (List.range 64).all (fun c => !(t.connEn c && s.peerOf t c = node) || t.producer c || ((s.conn c).state = 2 && (s.conn c).peerOk))

end Sys2Proof.Machine
end

