-- ==== Sys2Proof/Machine/Saf.lean ====
section
/-! DEFINITION. The commands of the safety block (14_safety_functions.md): sources, releases, thermal channels, the sealed set, test injection. -/

namespace Sys2Proof.Machine

open Sys2Proof

/-! ## Balls and comparators (R286, R287) -/

/-- TRIP: source `n` of the balls and comparators passes its deglitch (R293). -/
def execTrip (n : Nat) (s : State) : Host.Outcome State Fault Refusal :=
  .next ((s.onSaf (fun k => { k with inputs := k.inputs ||| (1#32 <<< n) })).sourceAssert n)

/-- SOURCE_DEASSERT: the ball or comparator of source `n` no longer asserts it; a level DAC that reads back wrong holds its source (R302). -/
def execSourceDeassert (n : Nat) (s : State) : Host.Outcome State Fault Refusal :=
  .next (let s1 := s.onSaf (fun k => { k with inputs := k.inputs &&& ~~~(1#32 <<< n) })
    if 16 ≤ n && s1.saf.dacWrong.getD (n - 16) false then s1 else s1.sourceDeassert n)

/-! ## LOCK_CMD (R296) -/

/-- Group `g` is released by SAFE_RESET. -/
def State.lockEdge (s : State) (g : Nat) : Bool := s.saf.eff.mode.testBit g

/-- A write to SAF_REL_REQ (R296). -/
def State.relRequest (s : State) (who : Init) (v : Word) : State :=
  match who with
  | .core c => if getBits v 31 16 = 0xC1EA then s.onSaf (fun k => { k with relReq := some (c, getBits v 9 0, s.mt) }) else s
  | .host => s

/-- SAF_REL_REQ (R296). -/
def execSafRelReq (who : Init) (v : Word) (s : State) : Host.Outcome State Fault Refusal :=
  .next (s.port who Reg.SAF_REL_REQ (fun t => t.relRequest who v))

/-- A write to SAF_REL_CONFIRM (R296): late or from another core it refuses every group named. -/
def State.relConfirm (s : State) (who : Init) (v : Word) : State :=
  match who, s.saf.relReq with
  | .core c, some (k, m, t) =>
    if getBits v 15 0 ≠ 0x3E15 then s
    else
      let s1 := s.onSaf (fun q => { q with relReq := none })
      if c = k && s.mt - t ≤ msTicks then
        s1.release ((List.range 10).filter (fun g => m.testBit g)) (fun g => if s1.lockEdge g then [2] else s1.relRefusals g) 1
      else s1.relRefuse m 4
  | _, _ => s

/-- SAF_REL_CONFIRM (R295, R296). -/
def execSafRelConfirm (who : Init) (v : Word) (s : State) : Host.Outcome State Fault Refusal :=
  .next (s.port who Reg.SAF_REL_CONFIRM (fun t => t.relConfirm who v))

/-! ## SAFE_RESET (R296): sampled in meter time, so a frozen clock accepts no level -/

/-- The locked groups that SAFE_RESET releases. -/
def State.edgeLocked (s : State) : List Nat := (List.range 10).filter (fun g => s.lockEdge g && s.locked g)

/-- SAFE_RESET_RISE: the accepted rising edge, judged for the idle time and for R295 (R296). -/
def execSafeResetRise (s : State) : Host.Outcome State Fault Refusal :=
  .next (match s.saf.lowFrom with
  | none => s
  | some t =>
    if !s.tmk.mtRun || !s.saf.armed then s
    else
      let idle := decide (t + 50 * msTicks ≤ s.mt)
      let jam := s.is F.SAF_STATUS_jam && !idle
      let ok := s.edgeLocked.filter (fun g => idle && s.relRefusals g = [])
      let s1 := s.onSaf (fun k => { k with lowFrom := none, highFrom := s.mt, idleAtRise := idle, okAtRise := groupBits ok, seenAtRise := groupBits s.edgeLocked })
      let s2 := ((s1.setBit F.SAF_STATUS_jam jam).setFld F.SAF_RESET_IN_level 1).count F.SAF_RESET_IN_edges
      if idle then s2.release (s.edgeLocked.filter (fun g => s.relRefusals g ≠ [])) s.relRefusals 2
      else s2.relRefuse (groupBits s.edgeLocked) (if jam then 7 else 5))

/-- Why the falling edge of a pulse of `len` ticks releases group `g` not (R296): a jam, the length, R295 now, R295 at the rising edge. -/
def State.fallRefusals (s : State) (len g : Nat) : List Nat :=
  if s.is F.SAF_STATUS_jam then [7]
  else if len < 20 * msTicks || 2 * secTicks < len then [5]
  else
    let now := s.relRefusals g
    if now = [] && !(s.saf.idleAtRise && s.saf.okAtRise.testBit g) then [3] else now

/-- SAFE_RESET_FALL: the accepted falling edge releases the LOCK_EDGE groups for which R295 held at the rising edge and holds now; it refuses the
others that are locked, but for those the rising edge has refused (R296). -/
def execSafeResetFall (s : State) : Host.Outcome State Fault Refusal :=
  .next (if s.saf.lowFrom.isSome || !s.tmk.mtRun || !s.saf.armed then s
  else
    let len := s.mt - s.saf.highFrom
    let s1 := (s.onSaf (fun k => { k with lowFrom := some s.mt })).setFld F.SAF_RESET_IN_level 0
    let s2 := s1.setFld F.SAF_RESET_IN_pulse_ms (min (len / msTicks) 4095)
    s2.release (s2.edgeLocked.filter (fun g => s.saf.okAtRise.testBit g || !s.saf.seenAtRise.testBit g)) (s2.fallRefusals len) 2)

/-- RESET_JAM: SAFE_RESET has been high for more than 2 s (R296). -/
def execResetJam (s : State) : Host.Outcome State Fault Refusal :=
  .next (if s.saf.lowFrom.isNone && !s.is F.SAF_STATUS_jam && s.tmk.mtRun && 2 * secTicks < s.mt - s.saf.highFrom then
    let s1 := ((s.setFld F.SAF_STATUS_jam 1).safFault 0x0602 false).safEvent F.SAF_EVT_jam
    s1.logSafety 4 0 ((s1.mt - s1.saf.highFrom) / msTicks) none
  else s)

/-! ## Readback and supply hold (R291, R292) -/

/-- OUTPUT_STUCK: the readback mismatch of output `n` has lasted over 200 ns, or ends (R291). -/
def execOutputStuck (n : Nat) (present : Bool) (s : State) : Host.Outcome State Fault Refusal :=
  .next (if present then
    if s.saf.mismatch.testBit n then s
    else ((s.onSaf (fun k => { k with mismatch := k.mismatch ||| 2 ^ n })).setFldBit F.SAF_DIAG_stuck n true).sourceFault 55 0x0603
  else s.onSaf (fun k => { k with mismatch := k.mismatch &&& (65535 - 2 ^ n) }))

/-- A write to SAF_DIAG (R291): a stuck bit clears while its mismatch is absent; source 55 follows the bits. -/
def State.wrSafDiag (s : State) (v : Word) : State :=
  let stuck := s.fld F.SAF_DIAG_stuck &&& (65535 - (getBits v 15 0 &&& (65535 - s.saf.mismatch)))
  let s1 := (s.setFld F.SAF_DIAG_stuck stuck).setFld F.SAF_DIAG_dac_bad (s.fld F.SAF_DIAG_dac_bad &&& (65535 - getBits v 31 16))
  if stuck = 0 then s1.sourceDeassert 55 else s1

/-- VCORE_LOW_HOLD (R292). -/
def execVcoreLowHold (s : State) : Host.Outcome State Fault Refusal :=
  .next ((s.onSaf (fun k => { k with hold := true })).setFld F.SAF_STATUS_vcore_hold 1)

/-- VCORE_HOLD_RELEASE: source 56 is in effect before the hold ends (R292). -/
def execVcoreHoldRelease (s : State) : Host.Outcome State Fault Refusal :=
  .next (if s.saf.hold then
    ((s.sourceFault 56 0x0607).onSaf (fun k => { k with hold := false })).setFld F.SAF_STATUS_vcore_hold 0
  else s)

/-! ## Thermal channels (R297, R298) -/

/-- Channel `n`. -/
def State.th (s : State) (n : Nat) : Therm := s.saf.therm.getD n {}

/-- Channel `n` changed. -/
def State.onTh (s : State) (n : Nat) (f : Therm → Therm) : State := s.onSaf (fun k => { k with therm := upd k.therm n f })

/-- A THERMAL entry (Table SAF-10). -/
def State.logThermal (s : State) (code n data : Nat) : State := s.log ⟨10, code, n, data, none, none⟩

/-- A level of SAF_THn_LVL in 0.1 °C: its code is °C + 64. -/
def thLevel (w : Word) (hi lo : Nat) : Int := 10 * ((getBits w hi lo : Int) - 64)

/-- Changes within the last 3,600 s. -/
def State.thChanges (s : State) (n : Nat) : List Nat := (s.th n).changes.filter (fun t => s.mt < t + 3600 * secTicks)

/-- Source 36 + n follows the trip pair and the sensor fault, with its THERMAL entry (R297). -/
def State.thSource (s : State) (n : Nat) (code : Option Nat) : State :=
  let k := s.th n
  let on := k.trip || k.sensor
  let s1 := s.setBit (F.SAF_THn_STAT_sensor_bad n) k.sensor
  if on = s1.srcLive (36 + n) then
    match code with
    | some c => s1.safFault c false (36 + n)
    | none => s1
  else
    let s2 := ((s1.setBit (F.SAF_THn_STAT_trip n) on).logThermal (if on then 3 else 4) n (unsgn 32 k.temp)).safEvent F.SAF_EVT_therm
    match code with
    | some c => s2.sourceFault (36 + n) c
    | none => s2.sourceSet (36 + n) on

/-- The warning of channel `n` changes, or the change puts it into chatter (R297, R298). -/
def State.thWarn (s : State) (n : Nat) (on : Bool) : State :=
  let old := s.thChanges n
  if 12 ≤ old.length then
    let s1 := ((s.onTh n (fun k => { k with changes := old, coolFrom := none })).setFld (F.SAF_THn_STAT_warn n) 1).setFld (F.SAF_THn_STAT_chatter n) 1
    (((s1.setFld F.SAF_STATUS_chatter_any 1).logThermal 5 n old.length).safEvent F.SAF_EVT_chatter)
  else
    let s1 := (s.onTh n (fun k => { k with changes := s.mt :: old })).setBit (F.SAF_THn_STAT_warn n) on
    (s1.logThermal (if on then 1 else 2) n (unsgn 32 (s1.th n).temp)).safEvent F.SAF_EVT_therm

/-- Since when a condition has held at every sample. -/
def heldFrom (old : Option Nat) (cond : Bool) (now : Nat) : Option Nat := if cond then some (old.getD now) else none

/-- The condition has held for a time. -/
def heldFor (t : Option Nat) (now len : Nat) : Bool := match t with | some a => a + len ≤ now | none => false

/-- The warning pair of channel `n` at a valid sample. -/
def State.thWarnStep (s : State) (n : Nat) (t : Int) : State :=
  let w := s.saf.eff.thLvl.getD n 0
  let dwell := 10 * msTicks * getBits (s.saf.eff.thCfg.getD n 0) 9 0
  if s.is (F.SAF_THn_STAT_chatter n) then
    let c := heldFrom (s.th n).coolFrom (decide (t < thLevel w 15 8)) s.mt
    if heldFor c s.mt (600 * secTicks) then
      let m := (s.thChanges n).length
      let s1 := ((s.onTh n (fun k => { k with coolFrom := none, changes := [], warnFrom := none })).setFld (F.SAF_THn_STAT_warn n) 0).setFld
        (F.SAF_THn_STAT_chatter n) 0
      let s2 := s1.setBit F.SAF_STATUS_chatter_any ((List.range 4).any (fun i => s1.is (F.SAF_THn_STAT_chatter i)))
      (s2.logThermal 6 n m).safEvent F.SAF_EVT_therm
    else s.onTh n (fun k => { k with coolFrom := c })
  else
    let warn := s.is (F.SAF_THn_STAT_warn n)
    let c := heldFrom (s.th n).warnFrom (if warn then decide (t < thLevel w 15 8) else decide (thLevel w 7 0 ≤ t)) s.mt
    if heldFor c s.mt dwell then (s.onTh n (fun k => { k with warnFrom := none })).thWarn n (!warn)
    else s.onTh n (fun k => { k with warnFrom := c })

/-- The trip pair of channel `n` at a valid sample. -/
def State.thTripStep (s : State) (n : Nat) (t : Int) : State :=
  let w := s.saf.eff.thLvl.getD n 0
  let dwell := 10 * msTicks * getBits (s.saf.eff.thCfg.getD n 0) 19 10
  let trip := (s.th n).trip
  let c := heldFrom (s.th n).tripFrom (if trip then decide (t < thLevel w 31 24) else decide (thLevel w 23 16 ≤ t)) s.mt
  if heldFor c s.mt dwell then (s.onTh n (fun k => { k with tripFrom := none, trip := !trip })).thSource n none
  else s.onTh n (fun k => { k with tripFrom := c })

/-- The Nightjar die sensor's reading in 0.1 °C (NJD_SENSE.dtemp, code = °C + 64). -/
def State.njTemp (s : State) : Int := 10 * ((s.fld F.NJD_SENSE_dtemp : Int) - 64)

/-- THERMAL_SAMPLE: channel `n` is sampled every 10 ms of meter time: the converter code of an external channel, and the temperature it gives,
in 0.1 °C (R297). -/
def execThermalSample (n code : Nat) (temp : Int) (s : State) : Host.Outcome State Fault Refusal :=
  .next (if !(s.saf.armed && s.tmk.mtRun && getBits (s.saf.eff.thCfg.getD n 0) 20 20 = 1) then s
  else
    let diff := heldFrom (s.th n).diffFrom (n = 0 && decide (80 < (temp - s.njTemp).natAbs)) s.mt
    let bad := if n = 0 then heldFor diff s.mt secTicks else code < 32 || 4063 < code
    let r := s.roundFree temp 10
    let s0 := if n = 0 then { r.2 with life := { r.2.life with peak := some (max temp (r.2.life.peak.getD temp)) } } else r.2
    let s1 := (s0.onTh n (fun k => { k with diffFrom := diff, temp := temp })).setFld (F.SAF_THn_STAT_temp n) (max 0 (min 255 (r.1 + 64))).toNat
    if bad then
      let first := !(s1.th n).sensor
      let s2 := s1.onTh n (fun k => { k with sensor := true, goodFrom := none, warnFrom := none, tripFrom := none, coolFrom := none })
      if first then s2.thSource n (some 0x0609) else s2
    else
      let good := heldFrom (s1.th n).goodFrom (s1.th n).sensor s1.mt
      let s2 := s1.onTh n (fun k => { k with goodFrom := good })
      let s3 := if heldFor good s2.mt secTicks then (s2.onTh n (fun k => { k with sensor := false, goodFrom := none })).thSource n none else s2
      (s3.thWarnStep n temp).thTripStep n temp)

/-! ## Sealed parameter set (R299, R300, R327) -/

/-- Element 0 of a route word (Table STF-3: two bits each, the first in the low bits). -/
def firstHop (r : Nat) : Nat := r % 4

/-- An enabled entry of the staged connection table breaks R327. -/
def State.connBroken (s : State) (t : SafSet) (c : Nat) : Bool :=
  let id := t.connWord c 0
  let per := t.time c 7 0
  let peer := s.peerOf t c
  let member := peer / 16 = s.postNo && peer % 16 ≠ 0
  let link := t.link c 6 6 = 1
  let p := t.link c 5 0
  let lineOk := t.cfg c 7 4 ≤ 7 || t.cfg c 7 4 = 15
  let own := s.isManager && member || s.isWorker && peer / 16 = s.postNo && peer % 16 = 0
  let mgrs := s.isManager && peer % 16 = 0 && t.link c 11 8 ≠ 0 && t.link c 15 12 ≠ 0 &&
    firstHop (getBits (t.connWord c 4) 15 0) ≠ firstHop (getBits (t.connWord c 4) 31 16)
  t.connEn c &&
    (id = 0 || id = 0xFFFFFFFF || (List.range 64).any (fun d => d ≠ c && t.connEn d && t.connWord d 0 = id) ||
     decide (t.time c 15 8 < 2 * per) || (t.twin c && !t.producer c && decide (100 * per ≤ t.time c 24 16)) ||
     (t.twin c && !(own || mgrs)) ||
     (link && !(t.connEn p && t.producer p != t.producer c && s.peerOf t p = peer)) || !lineOk ||
     (!link && s.isManager && member && (t.producer c || t.twin c)))

/-- The staged connection table satisfies R327. -/
def State.connTableOk (s : State) (t : SafSet) : Bool := (List.range 64).all (fun c => !s.connBroken t c)

/-- Why a commit is refused (R300, R327, SAF_PARAM_STATUS.result). -/
def State.commitRefusals (s : State) : List Nat :=
  failIf (!s.configEn) 2 ++ failIf s.outputsOn 3 ++ failIf s.saf.commit.isSome 4 ++ failIf s.duskWarn 5 ++
    failIf (!s.connTableOk s.saf.staged) 7

/-- The index of the newest copy, whose twin a commit writes (R300). -/
def newestSealed (l : List (Option SafCopy)) : Option Nat :=
  match l.getD 0 none, l.getD 1 none with
  | some a, some b => if a.sound && (!b.sound || b.seq ≤ a.seq) then some 0 else if b.sound then some 1 else none
  | some a, none => if a.sound then some 0 else none
  | none, some b => if b.sound then some 1 else none
  | none, none => none

/-- The highest sequence number of the copies. -/
def sealedSeq (l : List (Option SafCopy)) : Nat := l.foldl (fun m c => match c with | some k => max m k.seq | none => m) 0

/-- A write of SAF_PARAM_CMD (R300): COMMIT judged and begun, RELOAD discards the staged values. -/
def State.wrParamCmd (s : State) (v : Word) : State :=
  if getBits v 31 16 ≠ 0x5EA1 then s
  else
    match getBits v 1 0 with
    | 1 =>
      let r := s.pickFault s.commitRefusals
      match r.1 with
      | some n =>
        let s1 := r.2.setFld F.SAF_PARAM_STATUS_result n
        if n = 7 then s1.safFault 0x0610 false else s1
      | none =>
        let t := s.saf.staged
        let o := s.sealedWords
        let c : SafCopy :=
          { sound := true, seq := sealedSeq s.saf.copies + 1, set := t, others := o, sealCode := s.sealCode, digest := sealedDigest t o s.sealCode }
        let slot := match newestSealed s.saf.copies with | some 0 => 1 | _ => 0
        (s.onSaf (fun k => { k with commit := some ⟨slot, c⟩ })).setFld F.SAF_STATUS_commit_busy 1
    | 2 => s.onSaf (fun k => { k with staged := k.eff })
    | _ => s

/-- SAF_PARAM_CMD op COMMIT (R300). -/
def execParamCommit (who : Init) (v : Word) (s : State) : Host.Outcome State Fault Refusal :=
  .next (s.port who Reg.SAF_PARAM_CMD (fun t => t.wrParamCmd v))

/-- SAF_PARAM_CMD op RELOAD (R300). -/
def execReload (who : Init) (v : Word) (s : State) : Host.Outcome State Fault Refusal :=
  .next (s.port who Reg.SAF_PARAM_CMD (fun t => t.wrParamCmd v))

/-- Connection entries whose fields changed restart (R326): OPENING, or IDLE where disabled; a producer's RUN is the state 2. -/
def connRestart (old new : SafSet) (l : List Conn) : List Conn :=
  (List.range 64).map (fun c =>
    let k := l.getD c {}
    if old.conn.getD c [] = new.conn.getD c [] then k
    else { state := if !new.connEn c then 0 else if new.producer c then 2 else 1, tx := k.tx, closed := k.closed })

/-- The new masks are applied (R300): an asserted source latches the groups newly added to its mask. -/
def State.applyMasks (s : State) (old new : SafSet) : State :=
  (List.range 57).foldl (fun t n => if t.srcLive n then t.latch n (new.mask n &&& (1023 - old.mask n)) else t) s

/-- COMMIT_DONE: the copy reads back and is applied, or SAF_PARAM_NV (R300). -/
def execCommitDone (good : Bool) (s : State) : Host.Outcome State Fault Refusal :=
  .next (match s.saf.commit with
  | none => s
  | some m =>
    let s1 := (s.onSaf (fun k => { k with commit := none })).setFld F.SAF_STATUS_commit_busy 0
    if good then
      let c := m.copy
      let old := s.saf.eff
      let s2 := s1.onSaf (fun k => { k with copies := upd k.copies m.slot (fun _ => some c), conns := connRestart old c.set k.conns })
      let s3 := s2.sealShow c
      let bound := decide (c.sealCode = s3.sealCode)
      let s4 := if bound then s3.sourceDeassert 54
        else (s3.onSaf (fun k => { k with sealChanged := true })).setFld F.SAF_PARAM_STATUS_valid 0
      let s5 := ((s4.applyMasks old c.set).linesFollow).postLockout 0
      let s6 := ((s5.setFld F.SAF_PARAM_STATUS_result 1).count F.SAF_PARAM_STATUS_commits).logSafety 6 c.seq (leNat (c.digest.take 4)) none
      (s6.logConfig 2 Reg.SAF_PARAM_CMD).safEvent F.SAF_EVT_commit
    else
      let s2 := s1.onSaf (fun k => { k with copies := upd k.copies m.slot (fun _ => some { m.copy with sound := false }) })
      (s2.setFld F.SAF_PARAM_STATUS_result 6).safFault 0x0605 false)

/-- The address of SAF_THn_LVL. -/
def thLvlReg (n : Nat) : Nat := Reg.SAF_TH0_LVL + 12 * n

/-- The address of SAF_THn_CFG. -/
def thCfgReg (n : Nat) : Nat := Reg.SAF_TH0_CFG + 12 * n

/-- A staged word of a register, as its reads show it (R299, Tables SAF-12 and SAF-20). -/
def State.stagedWord (s : State) (a : Nat) : Word :=
  let t := s.saf.staged
  if a = Reg.SAF_MAP then
    let n := s.fld F.SAF_MAP_SEL_source
    if n < 54 then t.map.getD n 0 else if n ≤ 56 then 0x800003FF#32 else 0
  else if a = Reg.SAF_GRP_MODE then w32 t.mode
  else if a = Reg.SAF_CMP_LVL then w32 (t.cmp.getD (s.fld F.SAF_CMP_SEL_cmp) 0)
  else if a = Reg.SAF_SC_ID then t.connWord (s.fld F.SAF_SC_SEL_conn) 0
  else if a = Reg.SAF_SC_CFG then t.connWord (s.fld F.SAF_SC_SEL_conn) 1
  else if a = Reg.SAF_SC_TIME then t.connWord (s.fld F.SAF_SC_SEL_conn) 2
  else if a = Reg.SAF_SC_LINK then t.connWord (s.fld F.SAF_SC_SEL_conn) 3
  else if a = Reg.SAF_SC_ROUTE then t.connWord (s.fld F.SAF_SC_SEL_conn) 4
  else
    match (List.range 4).find? (fun n => a = thLvlReg n) with
    | some n => t.thLvl.getD n 0
    | none =>
      match (List.range 4).find? (fun n => a = thCfgReg n) with
      | some n => t.thCfg.getD n 0
      | none => 0

/-- The staged word of a register replaced. -/
def State.setStaged (s : State) (a : Nat) (v : Word) : State :=
  let conn := fun (i : Nat) => s.onSaf (fun k => { k with staged := { k.staged with
    conn := upd k.staged.conn (s.fld F.SAF_SC_SEL_conn) (fun w => upd w i (fun _ => v)) } })
  if a = Reg.SAF_MAP then
    s.onSaf (fun k => { k with staged := { k.staged with map := upd k.staged.map (s.fld F.SAF_MAP_SEL_source) (fun _ => v) } })
  else if a = Reg.SAF_GRP_MODE then s.onSaf (fun k => { k with staged := { k.staged with mode := v.toNat } })
  else if a = Reg.SAF_CMP_LVL then
    s.onSaf (fun k => { k with staged := { k.staged with cmp := upd k.staged.cmp (s.fld F.SAF_CMP_SEL_cmp) (fun _ => getBits v 9 0) } })
  else if a = Reg.SAF_SC_ID then conn 0
  else if a = Reg.SAF_SC_CFG then conn 1
  else if a = Reg.SAF_SC_TIME then conn 2
  else if a = Reg.SAF_SC_LINK then conn 3
  else if a = Reg.SAF_SC_ROUTE then conn 4
  else
    match (List.range 4).find? (fun n => a = thLvlReg n) with
    | some n => s.onSaf (fun k => { k with staged := { k.staged with thLvl := upd k.staged.thLvl n (fun _ => v) } })
    | none =>
      match (List.range 4).find? (fun n => a = thCfgReg n) with
      | some n => s.onSaf (fun k => { k with staged := { k.staged with thCfg := upd k.staged.thCfg n (fun _ => v) } })
      | none => s

/-- The fields of SAF_MAP that a source has (R287, Table SAF-12): a field it has not, or a dg out of range, is left as it is. -/
def mapWord (n : Nat) (old v : Word) : Word :=
  let dg := if n < 32 && getBits v 19 12 ≤ 249 then getBits v 19 12 else getBits old 19 12
  let pol := if n < 16 then getBits v 20 20 else getBits old 20 20
  putBits (putBits v 19 12 dg) 20 20 pol

/-- The levels of a thermal channel are in order (Table SAF-12). -/
def thLvlOk (v : Word) : Bool := getBits v 15 8 < getBits v 7 0 && getBits v 31 24 < getBits v 23 16

/-- A register of the sealed set written (R299): RWS (CONFIG_EN), staged; SAF_MAP of sources 54 to 63 and a word of unordered levels are
ignored whole. -/
def State.wrStaged (s : State) (a : Nat) (v : Word) : State :=
  let n := s.fld F.SAF_MAP_SEL_source
  if (a = Reg.SAF_MAP && 54 ≤ n) || ((List.range 4).any (fun i => a = thLvlReg i) && !thLvlOk v) then s
  else
    let old := s.stagedWord a
    let v1 := if a = Reg.SAF_MAP then mapWord n old v
      else if a = thCfgReg 0 then putBits v 31 21 (getBits old 31 21) else v
    let r := (s.setWord a old).wrCols (colsOf a) v1 (fun _ _ => true)
    ({ r with st := (r.st.setWord a (s.word a)).setStaged a (r.st.word a) } : WrRes).finish a (some F.SAF_PARAM_STATUS_cfg_refused)

/-- The registers of the sealed set in the block. -/
def isStaged (a : Nat) : Bool :=
  [Reg.SAF_MAP, Reg.SAF_GRP_MODE, Reg.SAF_CMP_LVL, Reg.SAF_SC_ID, Reg.SAF_SC_CFG, Reg.SAF_SC_TIME, Reg.SAF_SC_LINK, Reg.SAF_SC_ROUTE].contains a ||
    (List.range 4).any (fun n => a = thLvlReg n || a = thCfgReg n)

/-! ## Test injection, level DACs, SFC lines (R284, R302) -/

/-- Group `g` drives low: its gates are not enabled, its contactor is not on (R302). -/
def State.groupOff (s : State) (g : Nat) : Bool :=
  s.locked g || s.saf.hold ||
    (if g < 6 then !(1 ≤ s.pwrState && s.pwrState ≤ 4 && s.fldBit F.PWR_RUN_ch_en g) else !(s.ctr (g - 6)).on)

/-- A write to SAF_TEST (R302). -/
def State.wrSafTest (s : State) (v : Word) : State :=
  let n := getBits v 5 0
  if getBits v 15 8 = 0x7E && n < 57 && !s.is F.SAF_STATUS_test_busy &&
      (List.range 10).all (fun g => !(s.saf.eff.mask n).testBit g || s.groupOff g) then
    let s1 := (s.onSaf (fun k => { k with test := some n })).setFld F.SAF_STATUS_test_busy 1
    s1.setWord Reg.SAF_TEST_RESULT (w32 (1 + n * 2 ^ 26))
  else s

/-- SAF_TEST (R302). -/
def execSafTest (who : Init) (v : Word) (s : State) : Host.Outcome State Fault Refusal :=
  .next (s.port who Reg.SAF_TEST (fun t => t.wrSafTest v))

/-- TEST_INJECTION_DONE: the groups that responded and the latency measured (R302). -/
def execTestInjectionDone (seen lat : Nat) (s : State) : Host.Outcome State Fault Refusal :=
  .next (match s.saf.test with
  | none => s
  | some n =>
    let m := s.saf.eff.mask n
    let pass := seen &&& m = m
    let s1 := (s.onSaf (fun k => { k with test := none })).setFld F.SAF_STATUS_test_busy 0
    let s2 := (((s1.setFld F.SAF_TEST_RESULT_state (if pass then 2 else 3)).setFld F.SAF_TEST_RESULT_lat_ns lat).setFld
      F.SAF_TEST_RESULT_seen seen).safEvent F.SAF_EVT_test
    if pass then s2 else (s2.safFault 0x0608 false).logSafety 7 n seen none)

/-- DAC_READBACK: the level DAC of comparator `c` reads back, in 2 mV units (R302). -/
def execDacReadback (c rb : Nat) (s : State) : Host.Outcome State Fault Refusal :=
  .next (let lvl := s.saf.eff.cmp.getD c 0
    let bad := decide (10 < (if lvl ≤ rb then rb - lvl else lvl - rb))
    let was := s.saf.dacWrong.getD c false
    let s1 := s.onSaf (fun k => { k with dacRb := upd k.dacRb c (fun _ => rb), dacWrong := upd k.dacWrong c (fun _ => bad) })
    if bad then
      let s2 := s1.setFldBit F.SAF_DIAG_dac_bad c true
      if was then s2.sourceAssert (16 + c) else s2.sourceFault (16 + c) 0x0604
    else if was && !s1.saf.inputs.getLsbD (16 + c) then s1.sourceDeassert (16 + c)
    else s1)

/-- A write to SAF_SFC_TRIP (R284): from the SFC alone. -/
def State.wrSfcTrip (s : State) (who : Init) (v : Word) : State :=
  if who = .core 4 then
    (List.range 4).foldl (fun t n => t.sourceSet (40 + n) (v.getLsbD n)) (s.setFld F.SAF_SFC_TRIP_line (getBits v 3 0))
  else s

/-- SFC_TRIP_WRITE (R284). -/
def execSfcTripWrite (who : Init) (v : Word) (s : State) : Host.Outcome State Fault Refusal :=
  .next (s.port who Reg.SAF_SFC_TRIP (fun t => t.wrSfcTrip who v))

/-- A write to any other register of the block. -/
def State.wrSaf (s : State) (a : Nat) (v : Word) : State :=
  if isStaged a then s.wrStaged a v
  else if a = Reg.SAF_DIAG then s.wrSafDiag v
  else if a = Reg.SAF_CAUSE_SEL && 9 < getBits v 3 0 then s
  else s.wrPlain a v

end Sys2Proof.Machine
end

