-- ==== Sys2Proof/Machine/Efm.lean ====
section
/-! DEFINITION. The commands of the earth-fault and insulation monitor (15_earth_fault_insulation.md). -/

namespace Sys2Proof.Machine

open Sys2Proof

/-- The EFM block changed. -/
def State.onEfm (s : State) (f : Efm → Efm) : State := { s with efm := f s.efm }

/-- A bit of EFM_EVT set and EVT_EFM delivered (Table EFM-7). -/
def State.efmEvent (s : State) (f : Field) : State := (s.setFld f 1).deliver 18 (maskCores (s.fld F.EFM_CTRL_evt_mask))

/-- A fault of Table EFM-5 (R324), with a Worker's report (R241). -/
def State.efmFault (s : State) (code : Nat) (withdraw : Bool) : State :=
  ((s.fault code (some Reg.EFM_FAULT)).efmEvent F.EFM_EVT_fault).workerReport code withdraw 0

/-- A fault whose source latches (R293, R324). -/
def State.efmTrip (s : State) (n code : Nat) : State :=
  let moved := s.saf.armed && !s.srcLive n && s.armedOf (s.saf.eff.mask n) ≠ 0
  (s.sourceAssert n).efmFault code moved

/-- A cause of source 35 has gone: the source deasserts once none holds. -/
def State.diagClear (s : State) : State :=
  let e := s.efm
  if e.fgBad || e.fgTestBad || e.injBad || e.stale || e.clkBad then s else s.sourceDeassert 35

/-- The test that runs. -/
def State.efmTesting (s : State) (op : Nat) : Bool := match s.efm.test with | some (o, _) => o = op | none => false

/-! ## Residual direct current (R308, R309, R312) -/

/-- A row of Table EFM-2 holds, in 10 µA. -/
def State.rdcHolds (s : State) (dc100 dc20 : Int) (fromMt : Option Nat) : Bool :=
  heldFor fromMt s.mt (10 * msTicks * s.fld F.EFM_RDC_CFG_rdc_dwell) || 6000 ≤ dc100.natAbs || 20000 ≤ dc20.natAbs

/-- Source 32 asserted (R309). -/
def State.rdcTrip (s : State) : State :=
  if s.srcLive 32 then s else ((s.count F.EFM_CNT_rdc_trips).efmEvent F.EFM_EVT_trip).efmTrip 32 0x0701

/-- Source 32 does not latch: a fluxgate test runs or its blanking does (R312). -/
def State.rdcBlanked (s : State) : Bool := s.efmTesting 1 || s.efm.blankTo.isSome

/-- RCD failed to trip, and the other causes of source 33, judged (R314). -/
def State.rcdJudge (s : State) : State :=
  let on := s.is F.EFM_CTRL_rac_en
  let closed := s.is F.EFM_RCD_aux_closed
  let rac := heldFrom s.efm.racFrom (on && closed && 100 * s.fld F.EFM_RAC_CFG_rac_thr ≤ s.fld F.EFM_RDC_AC_ac) s.mt
  let tripped := on && !closed && !s.efm.openOk && !s.efmTesting 2
  let failed := on && heldFor rac s.mt (10 * msTicks * s.fld F.EFM_RAC_CFG_rac_time)
  let e := s.efm
  let s1 := s.onEfm (fun k => { k with racFrom := rac, rcdTripped := tripped, rcdFailed := failed })
  let s2 := if tripped && !e.rcdTripped then s1.efmTrip 33 0x0702 else s1
  let s3 := if failed && !e.rcdFailed then s2.efmTrip 33 0x0703 else s2
  s3.sourceSet 33 (on && (tripped || failed || e.rcdTestBad))

/-- The residual-current values of a 10 ms update, in 10 µA, judged (R308, R309). -/
def State.rdcUpdate (s : State) (dc100 dc20 : Int) (ac : Nat) : State :=
  let thr := 10 * s.fld F.EFM_RDC_CFG_rdc_thr
  let a := dc100.natAbs
  let from_ := heldFrom s.efm.rdcFrom (thr ≤ a) s.mt
  let low := heldFrom s.efm.rdcLowFrom (s.srcLive 32 && a < thr - 50) s.mt
  let row := s.rdcHolds dc100 dc20 from_
  let s1 := (s.onEfm (fun k => { k with rdcFrom := from_, rdcLowFrom := low, rdcRow := row })).setFld F.EFM_RDC_DC_dc100 (unsgn 16 dc100)
  let s2 := (s1.setFld F.EFM_RDC_DC_dc20 (unsgn 16 dc20)).setFld F.EFM_RDC_AC_ac ac
  let s3 := s2.setFld F.EFM_RDC_PEAK_peak (max a (s.fld F.EFM_RDC_PEAK_peak))
  let s4 := if s3.is F.EFM_CTRL_rdc_en && row && !s3.rdcBlanked then s3.rdcTrip
    else if heldFor low s.mt secTicks then (s3.onEfm (fun k => { k with rdcLowFrom := none })).sourceDeassert 32
    else s3
  s4.rcdJudge

/-- RDC_UPDATE: every 10 ms of meter time, on ICG-M (R308, R309). -/
def execRdcUpdate (dc100 dc20 : Int) (ac : Nat) (s : State) : Host.Outcome State Fault Refusal :=
  .next (if s.tmk.mtRun && s.icgLocked 1 then s.rdcUpdate dc100 dc20 ac else s)

/-- An excitation half-cycle judged (R311). -/
def State.fgHalf (s : State) (sat : Bool) (peak : Nat) (inWindow : Bool) : State :=
  let miss := if sat then 0 else s.efm.fgNoSat + 1
  let bad := 3 ≤ miss || !inWindow
  let good := heldFrom s.efm.fgGoodFrom (sat && inWindow) s.mt
  let was := s.efm.fgBad
  let s1 := (s.onEfm (fun k => { k with fgNoSat := miss, fgGoodFrom := good })).setFld F.EFM_FG_STAT_i_exc peak
  let s2 := s1.setBit F.EFM_FG_STAT_sat_ok sat
  if bad && !was then (s2.onEfm (fun k => { k with fgBad := true })).efmTrip 35 0x0707
  else if !bad && was && heldFor good s.mt secTicks then (s2.onEfm (fun k => { k with fgBad := false })).diagClear
  else s2

/-- FG_HALF_CYCLE: an excitation half-cycle while rdc_en = 1 (R311). -/
def execFgHalfCycle (sat : Bool) (peak : Nat) (inWindow : Bool) (s : State) : Host.Outcome State Fault Refusal :=
  .next (if s.is F.EFM_CTRL_rdc_en && s.icgLocked 1 then s.fgHalf sat peak inWindow else s)

/-! ## Tests (R312, R315) -/

/-- The writer may command the block: the SFC or a Kernel CC core (R312, R321). -/
def State.efmWriter (s : State) (who : Init) : Bool :=
  match who with
  | .host => false
  | .core c => c = 4 || !(s.core c).task

/-- EFM_CMD written with its key: op 1 FG_TEST, 2 RCD_TEST (R312, R315). -/
def State.wrEfmCmd (s : State) (who : Init) (v : Word) : State :=
  let op := getBits v 1 0
  if getBits v 31 16 ≠ 0x3F6A || (op ≠ 1 && op ≠ 2) then s
  else
    let mask := s.saf.eff.mask (31 + op)
    let ok := s.efmWriter who && s.efm.test.isNone && (List.range 10).all (fun g => !mask.testBit g || s.groupOff g)
    let s1 := s.setFld F.EFM_TEST_RESULT_which (op - 1)
    if ok then
      ((s1.onEfm (fun k => { k with test := some (op, s.mt) })).setFld F.EFM_TEST_RESULT_state 1).setFld F.EFM_STATUS_test_busy 1
    else s1.setFld F.EFM_TEST_RESULT_state 4

/-- EFM_CMD op FG_TEST (R312). -/
def execFgTest (who : Init) (v : Word) (s : State) : Host.Outcome State Fault Refusal :=
  .next (s.port who Reg.EFM_CMD (fun t => t.wrEfmCmd who v))

/-- EFM_CMD op RCD_TEST (R315). -/
def execRcdTest (who : Init) (v : Word) (s : State) : Host.Outcome State Fault Refusal :=
  .next (s.port who Reg.EFM_CMD (fun t => t.wrEfmCmd who v))

/-- A test's result written (R312, R315). -/
def State.efmResult (s : State) (which : Nat) (pass : Bool) (value : Nat) : State :=
  let s1 := ((s.onEfm (fun k => { k with test := none })).setFld F.EFM_STATUS_test_busy 0).setFld F.EFM_TEST_RESULT_which which
  ((s1.setFld F.EFM_TEST_RESULT_state (if pass then 2 else 3)).setFld F.EFM_TEST_RESULT_value value).efmEvent F.EFM_EVT_test

/-- FG_TEST_END: 300 ms after its beginning; the comparisons of step 2 have changed state or not (R312). -/
def execFgTestEnd (compared : Bool) (s : State) : Host.Outcome State Fault Refusal :=
  .next (match s.efm.test with
  | some (1, t) =>
    if t + 300 * msTicks ≤ s.mt then
      let i := sgn 16 (s.fld F.EFM_RDC_DC_dc100)
      let pass := compared && decide (850 ≤ i ∧ i ≤ 1150)
      let s1 := (s.efmResult 0 pass (unsgn 16 i)).onEfm (fun k => { k with blankTo := some (s.mt + 200 * msTicks) })
      if pass then (s1.onEfm (fun k => { k with fgTestBad := false })).diagClear
      else (s1.onEfm (fun k => { k with fgTestBad := true })).efmTrip 35 0x0708
    else s
  | _ => s)

/-- FG_TEST_BLANK_END: a trip row that holds 200 ms after a fluxgate test latches (R312). -/
def execFgTestBlankEnd (s : State) : Host.Outcome State Fault Refusal :=
  .next (match s.efm.blankTo with
  | some t =>
    if t ≤ s.mt then
      let s1 := s.onEfm (fun k => { k with blankTo := none })
      if s1.efm.rdcRow && s1.is F.EFM_CTRL_rdc_en && !s1.efmTesting 1 then s1.rdcTrip else s1
    else s
  | none => s)

/-- The accepted RCD_AUX level after a sample (R314). -/
def State.auxSample (s : State) (closed : Bool) : State :=
  if closed = s.is F.EFM_RCD_aux_closed then s.onEfm (fun k => { k with auxRun := 0 })
  else if s.efm.auxRun < 2 then s.onEfm (fun k => { k with auxRun := k.auxRun + 1 })
  else
    let s1 := (s.onEfm (fun k => { k with auxRun := 0 })).setBit F.EFM_RCD_aux_closed closed
    let s2 := if closed then (s1.onEfm (fun k => { k with openOk := false })).setFld F.EFM_RCD_rcd_open 0 else s1
    s2.efmEvent F.EFM_EVT_rcd

/-- RCD_AUX_SAMPLE: every 10 ms (R314). -/
def execRcdAuxSample (closed : Bool) (s : State) : Host.Outcome State Fault Refusal :=
  .next (if s.dawnDone && s.tmk.mtRun then (s.auxSample closed).rcdJudge else s)

/-- RCD_TEST_END: RCD_AUX accepted open, or 300 ms (R315). -/
def execRcdTestEnd (s : State) : Host.Outcome State Fault Refusal :=
  .next (match s.efm.test with
  | some (2, t) =>
    if !s.is F.EFM_RCD_aux_closed then
      let v := s.roundFree ((s.mt - t : Nat) : Int) msTicks
      let s1 := v.2.efmResult 1 true (min v.1.toNat 65535)
      let s2 := ((s1.setFld F.EFM_RCD_rcd_open 1).count F.EFM_RCD_tests).onEfm (fun k => { k with openOk := true, rcdTestBad := false })
      s2.rcdJudge
    else if t + 300 * msTicks ≤ s.mt then
      let v := s.takeFree 16
      let s1 := (v.2.efmResult 1 false v.1).onEfm (fun k => { k with rcdTestBad := true })
      let s2 := if s1.is F.EFM_CTRL_rac_en then s1.efmTrip 33 0x0704 else s1.efmFault 0x0704 false
      s2.rcdJudge
    else s
  | _ => s)

/-! ## Insulation (R316 to R319) -/

/-- The injection runs: ins_en = 1 with ICG-M locked, until Dusk step 3 (R316, R321, Table EFM-4). -/
def State.injecting (s : State) : Bool := s.is F.EFM_CTRL_ins_en && s.icgLocked 1 && s.tmk.mtRun && !s.is F.DSK_STATUS_saving

/-- Readings restart (R316, R319). -/
def State.insRestart (s : State) : State :=
  let s1 := s.onEfm (fun k => { k with plateau := none, lastR := none, warnRun := 0, okRun := 0, faultRun := 0, clearRun := 0 })
  (s1.onEfm (fun k => { k with injOff := 0, injGood := 0 })).setFld F.EFM_INS_STAT_readings 0

/-- A reading's value at most a number of Ω. -/
def rAtMost (r : Int × Nat) (ohm : Nat) : Bool := r.2 ≠ 0 && r.1 ≤ (ohm * r.2 : Nat)

/-- A reading below 10 kΩ, which counts as below every level (R316). -/
def rUnder (r : Int × Nat) : Bool := r.2 ≠ 0 && r.1 < (10000 * r.2 : Nat)

/-- A reading at or below a level (R316, R318). -/
def rLow (r : Int × Nat) (level : Nat) : Bool := rUnder r || rAtMost r level

/-- A reading above 1.1 × a level (R318). -/
def rClear (r : Int × Nat) (level : Nat) : Bool := r.2 = 0 || (!rUnder r && ((11 * level * r.2 : Nat) : Int) < 10 * r.1)

/-- A reading reads as the over-range code: above 10 MΩ (R316). -/
def rOver (r : Int × Nat) : Bool := !rAtMost r 10000000

/-- Two readings agree within 10 % of the previous one or 5 kΩ, whichever is larger; two over-range readings agree (R316). -/
def rAgree (r p : Int × Nat) : Bool :=
  if rOver r || rOver p then rOver r && rOver p
  else
    let d := (r.1 * p.2 - p.1 * r.2).natAbs
    d * 10 ≤ p.1.natAbs * r.2 || d ≤ 5000 * (r.2 * p.2)

/-- The register EFM_INS_R takes a valid reading (R316). -/
def State.insShow (s : State) (r : Int × Nat) : State :=
  let under := rUnder r
  let v := if under then (0, s) else if rOver r then (0x1FFFF, s) else s.roundFree r.1 (100 * r.2)
  let s1 := ((v.2.setFld F.EFM_INS_R_r v.1.toNat).setFld F.EFM_INS_R_valid 1).setBit F.EFM_INS_R_under under
  (s1.onEfm (fun k => { k with validAt := s.mt })).efmEvent F.EFM_EVT_ins

/-- The stale cause of source 35 ends at a valid reading (R319). -/
def State.insFresh (s : State) : State :=
  if s.efm.stale then (s.onEfm (fun k => { k with stale := false })).diagClear else s

/-- The warning judged by a reading (R318). -/
def State.insWarn (s : State) (r : Int × Nat) (valid : Bool) : State :=
  let cnt := s.fld F.EFM_INS_CFG_ins_cnt
  let level := s.fld F.EFM_INS_LVL_warn_opv * s.fld F.EFM_INS_CFG_v_rated
  let w := if valid && rLow r level then s.efm.warnRun + 1 else 0
  let o := if valid && rClear r level then s.efm.okRun + 1 else 0
  let s1 := s.onEfm (fun k => { k with warnRun := min w 8, okRun := min o 8 })
  if !s.is F.EFM_STATUS_warn && cnt ≤ w && 0 < w then
    ((s1.setFld F.EFM_STATUS_warn 1).efmEvent F.EFM_EVT_warn).efmFault 0x0706 false
  else if s.is F.EFM_STATUS_warn && cnt ≤ o && 0 < o then (s1.setFld F.EFM_STATUS_warn 0).efmEvent F.EFM_EVT_warn
  else s1

/-- Source 34 judged by a reading (R318). -/
def State.insFault (s : State) (r : Int × Nat) (valid : Bool) : State :=
  let cnt := s.fld F.EFM_INS_CFG_ins_cnt
  let level := s.fld F.EFM_INS_LVL_fault_opv * s.fld F.EFM_INS_CFG_v_rated
  let b := if rLow r level then s.efm.faultRun + 1 else 0
  let g := if valid && rClear r level then s.efm.clearRun + 1 else 0
  let s1 := s.onEfm (fun k => { k with faultRun := min b 8, clearRun := min g 8 })
  if !s.srcLive 34 && cnt ≤ b && 0 < b then (s1.count F.EFM_CNT_ins_faults).efmTrip 34 0x0705
  else if s.srcLive 34 && cnt ≤ g && 0 < g then s1.sourceDeassert 34
  else s1

/-- The injection judged by ΔU in µV (R317). -/
def State.insInject (s : State) (du : Nat) : State :=
  let want := 2 * s.fld F.EFM_INS_SCALE_u_inj * 1000000
  let off := want < 10 * ((du : Int) - want).natAbs
  let n := if off then s.efm.injOff + 1 else 0
  let g := if off then 0 else s.efm.injGood + 1
  let s1 := s.onEfm (fun k => { k with injOff := min n 2, injGood := min g 2 })
  if 2 ≤ n && !s.efm.injBad then (s1.onEfm (fun k => { k with injBad := true })).efmTrip 35 0x0709
  else if 2 ≤ g && s.efm.injBad then (s1.onEfm (fun k => { k with injBad := false })).diagClear
  else s1

/-- EFM_INS_RAW: ΔU in 10 mV, whose excess over 16 bits the spec leaves open, and ΔI in 0.1 µA, saturating. -/
def State.insRaw (s : State) (du dw rm : Nat) : State :=
  let u := s.roundFree (du : Nat) 10000
  let uf := if u.1 < 65536 then (u.1.toNat, u.2) else u.2.takeFree 16
  let i := if rm = 0 then (65535, uf.2) else uf.2.roundFree (10 * dw : Nat) rm
  (i.2.setFld F.EFM_INS_RAW_du uf.1).setFld F.EFM_INS_RAW_di (min i.1.toNat 65535)

/-- A half-period's plateaus of INS_UFB and INS_IM, in µV (R316). -/
def State.insHalf (s : State) (v w : Nat) : State :=
  let s1 := s.onEfm (fun k => { k with plateau := some (v, w) })
  match s.efm.plateau with
  | none => s1
  | some (v0, w0) =>
    let rm := s.fld F.EFM_INS_NET_r_m
    let du := s.fld F.EFM_INS_SCALE_g_ufb * ((v : Int) - v0).natAbs
    let dw := ((w : Int) - w0).natAbs
    let r : Int × Nat := ((du * rm : Nat) - (1000 * s.fld F.EFM_INS_NET_r_c * dw : Nat), dw)
    let valid := match s.efm.lastR with | some p => rAgree r p | none => false
    let s2 := ((s1.onEfm (fun k => { k with lastR := some r })).insRaw du dw rm).count F.EFM_INS_STAT_readings
    let s3 := (s2.insInject du)
    let s4 := if valid then (s3.insShow r).insFresh else s3
    (s4.insWarn r valid).insFault r valid

/-- INS_HALF_PERIOD: the injection's half-period ends; under hold its plateaus are discarded (R316, R319). -/
def execInsHalfPeriod (v w : Nat) (s : State) : Host.Outcome State Fault Refusal :=
  .next (if s.injecting && !s.is F.EFM_INS_CTRL_hold then s.insHalf v w else s)

/-- INS_STALE (R319). -/
def execInsStale (s : State) : Host.Outcome State Fault Refusal :=
  .next (if s.is F.EFM_CTRL_ins_en && (List.range 4).any (fun n => (s.ctr n).on) && !s.efm.stale
      && s.efm.validAt + s.fld F.EFM_INS_CFG_ins_stale * secTicks ≤ s.mt then
    (s.onEfm (fun k => { k with stale := true })).efmTrip 35 0x070A
  else s)

/-! ## Enables and settings (R321, R322) -/

/-- ICG-M stops or loses lock while a monitor is enabled (R321). -/
def State.efmClkLost (s : State) : State :=
  if (s.is F.EFM_CTRL_rdc_en || s.is F.EFM_CTRL_rac_en || s.is F.EFM_CTRL_ins_en) && !s.efm.clkBad then
    (s.onEfm (fun k => { k with clkBad := true })).efmTrip 35 0x070B
  else s

/-- ICG-M is locked again (R321). -/
def State.efmClkBack (s : State) : State :=
  if s.efm.clkBad then (s.onEfm (fun k => { k with clkBad := false })).diagClear else s

/-- Dusk step 3: running tests end without a result (Table EFM-4). -/
def State.efmDusk (s : State) : State :=
  if s.efm.test.isSome then
    ((s.onEfm (fun k => { k with test := none })).setFld F.EFM_STATUS_test_busy 0).setFld F.EFM_TEST_RESULT_state 5
  else s

/-- One enable written: setting needs ICG-M locked, clearing no CTR_OUT on (R321). -/
def State.wrEnable (s : State) (f : Field) (b : Bool) : State :=
  if b = s.is f then s
  else if b && !s.icgLocked 1 then s.setFld F.EFM_STATUS_cfg_refused 1
  else if !b && (List.range 4).any (fun n => (s.ctr n).on) then s.setFld F.EFM_STATUS_cfg_refused 1
  else s.setBit f b

/-- EFM_CTRL written (R321): the enables by the SFC or a Kernel CC core. -/
def State.wrEfmCtrl (s : State) (who : Init) (v : Word) : State :=
  let s1 := s.setFld F.EFM_CTRL_evt_mask (getBits v 8 4)
  if s.efmWriter who then
    let insWas := s.is F.EFM_CTRL_ins_en
    let s2 := ((s1.wrEnable F.EFM_CTRL_rdc_en (v.getLsbD 0)).wrEnable F.EFM_CTRL_rac_en (v.getLsbD 1)).wrEnable F.EFM_CTRL_ins_en (v.getLsbD 2)
    let s3 := if s2.is F.EFM_CTRL_ins_en && !insWas then s2.insRestart.onEfm (fun k => { k with validAt := s.mt }) else s2
    s3.rcdJudge
  else s1

/-- A write to EFM_CTRL (R321). -/
def execEfmCtrlWrite (who : Init) (v : Word) (s : State) : Host.Outcome State Fault Refusal :=
  .next (s.port who Reg.EFM_CTRL (fun t => t.wrEfmCtrl who v))

/-- The registers of the settings record (R322). -/
def efmSettings : List Nat :=
  [Reg.EFM_RDC_CFG, Reg.EFM_FG_CFG, Reg.EFM_RAC_CFG, Reg.EFM_INS_CFG, Reg.EFM_INS_LVL, Reg.EFM_INS_NET, Reg.EFM_INS_SCALE]

/-- The settings taken from a copy (R322). -/
def State.efmLoad (s : State) (ws : List Word) : State :=
  (List.range efmSettings.length).foldl (fun t i => t.setWord (efmSettings.getD i 0) (ws.getD i 0)) s

/-- EFM_NV's view of the copies (Table EFM-7). -/
def State.efmNvShow (s : State) : State :=
  let ok := fun i => match s.efm.copies.getD i none with | some (c : NvCopy) => c.sound | none => false
  ((s.setBit F.EFM_NV_copy_a (ok 0)).setBit F.EFM_NV_copy_b (ok 1)).setFld F.EFM_NV_writes (min s.efm.writes 65535)

/-- The levels of a write to EFM_INS_LVL lie in Table EFM-3, the fault below the warning. -/
def insLevels (v : Word) : Bool :=
  let w := getBits v 9 0
  let f := getBits v 24 16
  100 ≤ w && w ≤ 1000 && 50 ≤ f && f ≤ 500 && f < w

/-- A settings register written: sealed, idle outputs, read-back (R322). -/
def State.wrEfmSettings (s : State) (a : Nat) (v : Word) (good : Bool) : State :=
  if a = Reg.EFM_INS_LVL && getBits v 9 0 ≤ getBits v 24 16 then s
  else
    let idle := !s.outputsOn
    let r := s.wrCols (colsOf a) v (fun _ _ => idle && (a ≠ Reg.EFM_INS_LVL || insLevels v))
    if !r.changed then r.finish a (some F.EFM_STATUS_cfg_refused)
    else
      let words := efmSettings.map r.st.word
      let nv := fun (t : State) => (t.onEfm (fun k => { k with copies := writeCopy k.copies words good, writes := k.writes + 1 })).efmNvShow
      if good then ((nv r.st).insRestart.logConfig 2 a |> fun t => WrRes.finish { st := t, refused := r.refused } a (some F.EFM_STATUS_cfg_refused))
      else (WrRes.finish { st := nv s, refused := r.refused } a (some F.EFM_STATUS_cfg_refused)).efmFault 0x070C false

/-- A write to a settings register of the block (R322). -/
def execEfmSettingsWrite (who : Init) (a : Nat) (v : Word) (good : Bool) (s : State) : Host.Outcome State Fault Refusal :=
  .next (if efmSettings.contains a then s.port who a (fun t => t.wrEfmSettings a v good) else s)

/-- Any other register of the block written: hold's end restarts the readings (R319). -/
def State.wrEfm (s : State) (a : Nat) (v : Word) : State :=
  let was := s.is F.EFM_INS_CTRL_hold
  let s1 := s.wrPlain a v
  if was && !s1.is F.EFM_INS_CTRL_hold then s1.insRestart else s1

end Sys2Proof.Machine
end

