-- ==== Sys2Proof/Machine/StfOps.lean ====
section
/-! DEFINITION. What the Starling block shares (11_starling_fabric.md): links going down and training (R218 to R221), credits (R222), arriving
frames (R226 to R234), member states (R237 to R243), node numbers (R224, R225). -/

namespace Sys2Proof.Machine

open Sys2Proof

/-- The Starling block changed. -/
def State.onStf (s : State) (f : Stf → Stf) : State := { s with stf := f s.stf }

/-- A fault of Table STF-12 (R245). -/
def State.stfFault (s : State) (code : Nat) : State := s.fault code (some Reg.STF_FAULT)

/-! ## Programs' queues (Table STF-7; the entries' layouts are the model's) -/

/-- An entry of queue 0x0008: what became of a member (Table STF-7). -/
def State.memberEntry (s : State) (m what : Nat) : State :=
  let k := s.member m
  let l := leBytes 1 what ++ leBytes 1 m ++ leBytes 1 k.state ++ leBytes 1 k.cause ++ leBytes 4 0 ++ leBytes 8 k.serial ++
    leBytes 8 (k.beatAt.getD 0) ++ leBytes 8 0
  (s.blockPush 0x0008 l).2

/-- An entry of queue 0x0009: 1 a neighbour change on a port, 2 a PROBE_ANS, 3 no answer (R235, R236). -/
def State.siteEntry (s : State) (what port node serial nport : Nat) (route : List Nat) (nbrs : List Word) : State :=
  let l := leBytes 1 what ++ leBytes 1 port ++ leBytes 1 nport ++ leBytes 1 route.length ++ leBytes 2 node ++
    leBytes 2 (route.foldr (fun e a => e + 4 * a) 0) ++ leBytes 8 serial ++ nbrs.flatMap (fun w => leBytes 4 w.toNat)
  (s.blockPush 0x0009 ((l ++ List.replicate (64 - l.length) 0).take 64)).2

/-! ## Links (R218, R220, R221) -/

/-- A port may train: after Dawn or in the Dawn hold (R246), enabled, and on a Worker with the card present (R218). -/
def State.mayTrain (s : State) (p : Nat) : Bool :=
  p < 4 && (s.dawnDone || s.inHold) && s.is (F.STF_PORTn_CFG_en p) && (!s.isWorker || (s.stf.present && !s.stf.leaving))

/-- Training starts at step 1, or the port is off (R220). -/
def State.trainStart (s : State) (p : Nat) : State :=
  let go := s.mayTrain p
  let s1 := s.onPort p (fun k =>
    { k with step := 1, since := s.mt, peerFrom := none, failed := false, barred := none, peerRate := 0, symErrs := [], greeted := false })
  (s1.setFld (F.STF_PORTn_STATUS_state p) (if go then 1 else 0)).setFld (F.STF_PORTn_STATUS_rate p) 0

/-- Buffer units of a port freed, and the cumulative count sent to the peer (R222). -/
def State.freeUnits (s : State) (p : Nat) (laneS : Bool) (n : Nat) : State :=
  s.onPort p (fun k =>
    if laneS then { k with freedS := (k.freedS + n) % 256, sentS := (k.freedS + n) % 256 }
    else { k with freedB := (k.freedB + n) % 256, sentB := (k.freedB + n) % 256 })

/-- The units a waiting frame holds in the buffer it arrived in are freed. -/
def State.freeWaiting (s : State) (w : Waiting) : State :=
  match w.from_ with
  | some a => s.freeUnits a w.frame.laneS w.frame.units
  | none => s

/-- site_link follows the ports (Table SYS-14, Table STF-14). -/
def State.siteShow (s : State) : State :=
  let b := s.isManager && allPorts.any s.siteUp
  (s.setBit F.STF_STATUS_site_link b).setBit F.SYS_POST_STATUS_site_link b

/-- A neighbour entry cleared (R235). -/
def State.nbrClear (s : State) (p : Nat) : State :=
  if s.is (F.STF_PORTn_NBR_valid p) then
    let n := s.fld (F.STF_PORTn_NBR_node p)
    let s1 := ((s.setFld (F.STF_PORTn_NBR_valid p) 0).setFld (F.STF_PORTn_NBR_node p) 0).setFld (F.STF_PORTn_NBR_port p) 0
    (s1.siteEntry 1 p n 0 0 [] []).evtStf
  else s

/-- A port leaves UP (R221): its frames are lost, reservations its link carried are rolled back, STF_LINK_DOWN is raised, training starts again. -/
def State.linkDown (s : State) (p : Nat) : State :=
  if !s.portUp p then s
  else
    let k := s.sport p
    let s1 := (k.waitS ++ k.waitB).foldl (fun t w => t.freeWaiting w) s
    let s2 := s1.onPort p (fun k => { k with waitS := [], waitB := [], out := none })
    let s3 := (s2.count (F.STF_PORTn_STATUS_downs p)).trainStart p
    let s4 := s3.qRollbackAll (fun w => match w with | .fabric _ _ a => a = p | _ => false) true
    let quietMin := match k.downLog with | some t => decide (t + 60 * secTicks ≤ s.mt) | none => true
    let s5 := if quietMin then (s4.stfFault 0x0501).onPort p (fun k => { k with downLog := some s.mt })
      else (s4.setFld F.STF_FAULT_code 0x0501).setFld F.STF_FAULT_valid 1
    ((s5.nbrClear p).siteShow).evtStf

/-- STF_PORTn_CFG written: its fields, a retrain, and en's edges (R221, Table STF-14). -/
def State.wrPortCfg (s : State) (p : Nat) (v : Word) : State :=
  let was := s.is (F.STF_PORTn_CFG_en p)
  let s1 := s.wrPlain (Reg.STF_PORT0_CFG + 4 * p) v
  let en := s1.is (F.STF_PORTn_CFG_en p)
  let s2 := if !en || v.getLsbD 6 then s1.linkDown p else s1
  if !en || !was || v.getLsbD 6 then s2.trainStart p else s2

/-! ## Node numbers (R224, R225) -/

/-- The node ID in its two registers (R224). -/
def State.setNode (s : State) (n : Nat) : State := (s.setFld F.STF_NODE_node_id n).setFld F.SYS_ROLE_node_id n

/-- ASSIGN_MEMBER sent along a route (R238). -/
def State.sendAssign (s : State) (m : Nat) (route : List Nat) (pathB : Bool) : State :=
  s.sendRoute { body := .assignMember s.postNo m s.nodeId s.serial pathB } route

/-- ASSIGN_MEMBER sent to a member along its paths (R238). -/
def State.assignPaths (s : State) (m : Nat) : State :=
  let k := s.member m
  let s1 := s.sendAssign m k.pathA false
  if k.pathB.isEmpty then s1 else s1.sendAssign m k.pathB true

/-- Members 1 to 15. -/
def allMembers : List Nat := (List.range 15).map (· + 1)

/-- A Manager takes its post number (R225, R236): its node ID follows, and ASSIGN_MEMBER is sent to every member again (R238). -/
def State.takePost (s : State) (post src : Nat) : State :=
  let s1 := ((s.setFld F.STF_NODE_post post).setFld F.STF_STATUS_post_src src).setNode (16 * post)
  allMembers.foldl (fun t m => if (t.member m).state = 0 then t else t.assignPaths m) s1

/-- STF_NODE written by the host or a Kernel program (R225). -/
def State.wrNode (s : State) (v : Word) : State :=
  let post := getBits v 27 16
  if !s.isManager then s
  else if s.postNo ≠ 0 then s.setFld F.STF_STATUS_post_refused 1
  else if post = 0 then s
  else s.takePost post 1

/-! ## Members (R240, R243) -/

/-- Members in a state. -/
def State.membersIn (s : State) (st : Member → Bool) : Nat := (allMembers.filter (fun m => st (s.member m))).foldl (fun a m => a + 2 ^ m) 0

/-- The registers that follow the member table: bit maps, capacity, admitted count, solo (Table STF-14, Table SYS-13); sessions hear of a
capacity that has fallen to 0 (R394). -/
def State.memberShow (s : State) : State :=
  let adm := allMembers.filter (fun m => (s.member m).state = 3)
  let cap := adm.foldl (fun a m => a + (s.member m).rating) 0
  let s1 := s.setFld F.STF_MEMBERS_assigned (s.membersIn (fun k => 1 ≤ k.state && k.state ≠ 5) / 2)
  let s2 := (s1.setFld F.STF_MEMBERS_admitted (s.membersIn (fun k => k.state = 3) / 2)).setFld F.SYS_ROLE_workers_admitted adm.length
  let s3 := s2.setBit F.SYS_ROLE_solo (s2.isManager && adm.isEmpty)
  if 65536 ≤ cap then
    let f := s3.takeFree 16
    f.2.setFld F.STF_CAPACITY_capacity f.1
  else
    let s4 := s3.setFld F.STF_CAPACITY_capacity cap
    if cap = 0 && s.is F.STF_CAPACITY_capacity then s4.bilCapacity else s4

/-- A command to a member on queue 0x000F (Table STF-7; its layout is the model's): 1 ADMIT, 2 EXPEL, 3 RESET, 4 RELEASE. -/
def State.stfCommand (s : State) (m code : Nat) : State :=
  let l := leBytes 1 code ++ leBytes 1 0 ++ leBytes 2 (if code = 3 then 0x5A17 else 0) ++ leBytes 12 0
  ((s.txAccept (16 * s.postNo + m) 0x000F l .block).2).txRun

/-- A member declared lost (R243, R24): 1 silence, 2 fault, 3 removal. -/
def State.memberLost (s : State) (m cause : Nat) : State :=
  let k := s.member m
  if k.state = 0 || k.state = 5 then s
  else
    let s1 := (s.onMember m (fun k => { k with state := 5, cause := cause, beats := 0, rollAt := none })).memberShow
    let s2 := ((s1.setFld F.STF_LOSS_member m).setFld F.STF_LOSS_cause cause).setFld F.STF_LOSS_capacity (s1.fld F.STF_CAPACITY_capacity)
    let s3 := s2.memberEntry m 5
    let s4 := ((s3.setFld F.SYS_POST_STATUS_worker_lost 1).setFld F.SYS_POST_STATUS_lost_member m).fault 0x0011
    let s5 := (s4.setFld F.HSP_ATTN_worker_lost 1).deliver 13 (maskCores (Config.eventCores 13))
    let node := 16 * s.postNo + m
    if cause = 2 then s5.stfCommand m 2
    else
      let s6 := (s5.qe.tx.filter (fun x => x.dst = node)).foldl (fun t x => (t.count F.QE_CNT_MISC_lost_refused).txDone x 5) s5
      s6.qRollbackAll (fun w => match w with | .fabric a _ _ => a = node | _ => false) false

/-! ## The duplicate cache (R234) -/

/-- An outcome kept for a message; the oldest entry of 512 leaves (R234). -/
def State.dupAdd (s : State) (src seq outcome : Nat) : State :=
  s.onStf (fun k => { k with dup := (⟨src, seq, outcome, s.mt⟩ :: k.dup).take 512 })

/-- The cached outcome of a message. -/
def State.dupFind (s : State) (src seq : Nat) : Option Nat :=
  (s.stf.dup.find? (fun d => d.src = src && d.seq = seq)).map (·.outcome)

/-- The cache is full of entries younger than 20 ms (R234). -/
def State.dupFull (s : State) : Bool := 512 ≤ s.stf.dup.length && s.stf.dup.all (fun d => s.mt < d.mt + 20 * msTicks)

/-! ## Messages arriving (R195, R199, R228, R233, R234) -/

/-- The answer to a message: one ANS frame unless no_ans is set (R233); DENIED and NO_QUEUE are kept (R234). -/
def State.answer (s : State) (f : Frame) (outcome : Nat) : State :=
  let s1 := if outcome = 2 || outcome = 3 then s.dupAdd f.src f.seq outcome else s
  if f.noAns then s1 else (s1.launch { dst := f.src, seq := f.seq, body := .ans outcome f.queue }).2

/-- The post of a node matches this one. -/
def State.samePost (s : State) (n : Nat) : Bool := n / 16 = s.postNo

/-- What the fabric receiver's side of Table QE-2 says of a message's queue: 0 where it may enter, else a Table QE-3 outcome. -/
def State.fabricCheck (s : State) (f : Frame) : Nat × State :=
  let r := s.qReady f.queue
  if r.1 = .paused then (7, r.2)
  else if r.1 ≠ .done then (2, r.2)
  else
    let d := r.2.qDesc f.queue
    let shut := !d.remoteOk || d.prodDirect || (d.src ≠ 0 && d.src ≠ f.src) || (d.postOnly && !s.samePost f.src) ||
      (s.inHold && (!s.samePost f.src || f.src % 16 ≠ 0))
    if shut then (3, r.2) else (0, r.2)

/-- The bytes of a segment beyond the entries are zero (R194). -/
def Desc.segOk (d : Desc) (off : Nat) (l : List Byte) : Bool := (l.drop (d.span * d.esize - off)).all (· = 0)

/-- A reservation given up because its message is DENIED (R194). -/
def State.qGiveUp (s : State) (q : Nat) : State :=
  (s.qPut q (fun d => { d with resv := d.prod })).onQe (fun e => { e with openResv := e.openResv.filter (·.queue ≠ q) })

/-- A message of a queue is refused: counted in its descriptor and answered. -/
def State.msgRefuse (s : State) (f : Frame) (outcome : Nat) : State :=
  (s.qPut f.queue (fun d => { d with refused := satAdd d.refused 1 65535 })).answer f outcome

/-- A message complete in its reservation: published, acknowledged, kept in the duplicate cache, its sender recorded (R195, R233, R234). -/
def State.msgDone (s : State) (f : Frame) : State :=
  let c := (s.qDesc f.queue).prod
  let s1 := (s.qPublish f.queue).qPut f.queue (fun d => { d with lastSrc := f.src })
  let s2 := (s1.setWord Reg.QE_CNT_RX (s1.word Reg.QE_CNT_RX + 1#32)).dupAdd f.src f.seq 0
  let keep := fun (m : MsgFrom) => m.queue ≠ f.queue || m.count ≠ c
  let s3 := if f.queue = 0x000F || f.queue = 0x0020 || f.queue = 0x0021 then
      s2.onStf (fun k => { k with from_ := ⟨f.queue, c, f.src, decide (f.dst = 0xFFFF)⟩ :: k.from_.filter keep })
    else s2
  if f.noAns then s3 else (s3.launch { dst := f.src, seq := f.seq, body := .ans 0 f.queue }).2

/-- A segment written into the open reservation of its message, which the last one completes (R228). -/
def State.msgPut (s : State) (f : Frame) (l : List Byte) : State :=
  let q := f.queue
  let d := s.qDesc q
  if !d.segOk f.segOff l then (s.qGiveUp q).msgRefuse f 3
  else
    let s1 := s.qWrite q f.segOff l
    let s2 := s1.onQe (fun e => { e with openResv := e.openResv.map (fun r =>
      if r.queue = q then { r with got := f.segOff + l.length, since := s.mt } else r) })
    if f.msgLen ≤ f.segOff + l.length then s2.msgDone f else s2

/-- The entries of a reservation zero-filled before a message's first bytes (R194). -/
def State.msgClear (s : State) (q : Nat) : State :=
  let d := s.qDesc q
  s.qWrite q 0 (List.replicate (d.span * d.esize) 0)

/-- A segment of a message for this node, arrived on port `p` (R195, R228, R233, R234). -/
def State.msgLocal (s : State) (p : Nat) (f : Frame) (l : List Byte) : State :=
  let bcast := decide (f.dst = 0xFFFF)
  let mine := fun (r : Resv) => match r.who with | .fabric a n _ => a = f.src && n = f.seq | _ => false
  if f.segOff = 0 then
    match s.dupFind f.src f.seq with
    | some o => if f.noAns then s.count F.STF_CNT_DROP_dup else (s.launch { dst := f.src, seq := f.seq, body := .ans o f.queue }).2
    | none =>
      let c := s.fabricCheck f
      if bcast && c.1 ≠ 0 then c.2.count F.STF_CNT_DROP_no_route
      else if c.1 = 2 || c.1 = 7 then c.2.answer f c.1
      else if c.1 ≠ 0 then c.2.msgRefuse f c.1
      else if c.2.dupFull then c.2.answer f 7
      else
        match c.2.resvOf f.queue with
        | some r =>
          if mine r then (if f.rtx then (c.2.msgClear f.queue).msgPut f l else c.2.count F.STF_CNT_DROP_dup) else c.2.msgRefuse f 7
        | none =>
          let a := c.2.qReserve f.queue (.fabric f.src f.seq p)
          if a.1 = .done then (a.2.msgClear f.queue).msgPut f l else a.2.msgRefuse f a.1.outcome
  else
    match s.resvOf f.queue with
    | some r => if mine r && r.got = f.segOff then (s.qTouch f.queue).msgPut f l else s.count F.STF_CNT_DROP_dup
    | none => s.count F.STF_CNT_DROP_dup

/-! ## What a Manager registers of its Workers' messages on arrival (R241, R243) -/

/-- A heartbeat (Table STF-8). -/
def State.beat (s : State) (m : Nat) (l : List Byte) : State :=
  let at_ := fun (o n : Nat) => leNat ((l.drop o).take n)
  s.onMember m (fun k =>
    let near := match k.beatAt with | some t => decide (s.mt ≤ t + 15 * msTicks) | none => false
    { k with beatAt := some s.mt, beats := if near then min 3 (k.beats + 1) else 1, lastFault := at_ 4 2, beatFlags := at_ 1 1,
             beatFb := at_ 16 1 % 16, state := if k.state = 1 then 2 else k.state })

/-- What the Starling block itself does with a Worker's message. -/
def State.msgSeen (s : State) (f : Frame) (l : List Byte) : State :=
  let m := f.src % 16
  if !s.isManager || !s.samePost f.src || m = 0 || (s.member m).state = 0 || (s.member m).state = 5 then s
  else if f.queue = 0x000B && l.length = 32 then s.beat m l
  else if f.queue = 0x000E && l.length = 16 && (leNat ((l.drop 1).take 1)).testBit 0 then s.memberLost m 2
  else s

/-! ## Answers (R199, R233) -/

/-- An ANS for a message of the transmit buffer (R199, R200). -/
def State.ansTake (s : State) (f : Frame) (outcome : Nat) : State :=
  match s.qe.tx.find? (fun m => m.seq = f.seq && m.dst = f.src && (m.phase = .sent || m.phase = .last)) with
  | none => s
  | some m =>
    if outcome = 1 || outcome = 7 then
      if m.fulls < s.fld F.QE_CFG_full_retries then s.onTx m.seq (fun x => { x with phase := .again, since := s.mt })
      else (s.txDone m 1).txRun
    else (s.txDone m outcome).txRun

/-! ## Frames arriving (R221, R222, R226 to R232) -/

/-- The path back of a frame that has reached the end of its route on port `p` (R229). -/
def backPath (p : Nat) (f : Frame) : List Nat := p :: (f.route.drop 1).reverse

/-- What a frame's payload length must be (R227). -/
def frameLenOk (f : Frame) : Bool :=
  match f.body with
  | .msg l => 1 ≤ l.length && l.length ≤ min 512 (f.msgLen - f.segOff) && f.segOff < f.msgLen && f.msgLen ≤ 8192 && (!f.laneS || l.length ≤ 64)
  | .bad _ => false
  | _ => true

/-- The kinds that are delivered at the end of a source route whatever their destination says (R229, R236, R237, R238). -/
def bodyAtEnd : Body → Bool
  | .probe | .probeAns _ _ _ _ _ | .roll | .rollAns _ _ _ _ _ _ _ _ | .assignMember _ _ _ _ _ | .assignPost _ _ => true
  | _ => false

/-- Where an arriving frame goes (R229). -/
inductive Way where
  /-- delivered here -/
  | here
  /-- delivered as a broadcast and passed on through ports -/
  | spread (ports : List Nat)
  /-- forwarded through a port with its changed route -/
  | out (port : Nat) (frame : Frame)
  /-- answered LOST for a member that is lost or unassigned -/
  | lost
  /-- dropped and counted as no_route, as a duplicate, silently -/
  | noRoute
  | dup
  | silent
deriving DecidableEq, Repr

/-- The route with the arrival port written at its pointer (R229 step 1). -/
def frameStep (f : Frame) (p : Nat) : Frame := { f with route := upd f.route f.rp (fun _ => p), rp := f.rp + 1 }

/-- The decision of R229 for a frame that arrived on port `p`. -/
def State.wayOf (s : State) (p : Nat) (f : Frame) : Way :=
  if f.rp < f.route.length then
    let o := f.route.getD f.rp 0
    if s.portUp o then .out o (frameStep f p) else .noRoute
  else if f.body.kind = 4 then .here
  else if f.dst = 0xFFFF then
    if f.src = s.nodeId && s.nodeId ≠ 0 then .silent
    else if f.src % 16 ≠ 0 then .silent
    else if (s.dupFind f.src f.seq).isSome then .silent
    else if s.isWorker then (if f.site then .noRoute else .spread (allPorts.filter (fun o => o ≠ p && s.postUp o)))
    else if f.site then .spread (allPorts.filter (fun o => o ≠ p && s.siteUp o))
    else .silent
  else if (f.dst = s.nodeId && s.nodeId ≠ 0) || (f.dst = 0 && bodyAtEnd f.body) then .here
  else if s.isWorker then .noRoute
  else if s.postNo ≠ 0 && f.dst / 16 = s.postNo then
    let k := s.member (f.dst % 16)
    if k.state = 0 || (k.state = 5 && k.cause ≠ 2) then .lost
    else
      let along := fun (r : List Nat) => match r with | [] => none | o :: _ => if s.portUp o then some (o, r) else none
      match along k.pathA, along k.pathB with
      | some (o, r), _ => .out o (frameStep { f with route := r, rp := 0 } p)
      | none, some (o, r) => .out o (frameStep { f with route := r, rp := 0 } p)
      | none, none => .noRoute
  else
    match s.pickRoute (s.routesTo f.dst) false with
    | some (o, _) => if s.siteUp o && (f.src / 16 = 0 || f.dst / 16 = 0) then .noRoute else .out o { f with route := [], rp := 0 }
    | none => .noRoute

/-- A frame passed on through a port, with its hop counted; the ninth is dropped (R229). -/
def State.passOn (s : State) (p o : Nat) (f : Frame) (holds : Bool) : State :=
  if 8 ≤ f.hops then
    let s1 := s.count F.STF_CNT_DROP_hop
    if holds then s1.freeUnits p f.laneS f.units else s1
  else
    let w : Waiting := ⟨{ f with hops := f.hops + 1 }, if holds then some p else none⟩
    s.onPort o (fun k => if f.laneS then { k with waitS := k.waitS ++ [w] } else { k with waitB := k.waitB ++ [w] })

/-- A member that is lost or unassigned is answered for (R229, R200). -/
def State.ansLost (s : State) (f : Frame) : State :=
  match f.body with
  | .msg _ => (s.count F.QE_CNT_MISC_lost_refused).answer f 5
  | _ => s.count F.STF_CNT_DROP_no_route

/-- A Worker has received a valid frame from its Manager (R23, R239). -/
def State.mgrHeard (s : State) : State :=
  let s1 := s.onStf (fun k => { k with mgrAt := s.mt, mgrSilent := false, mgrReport := false })
  if s.stf.mgrReport then s1.workerReport 0x0507 false 0 else s1

/-- A frame arrives on port `p`; `handle` is what its delivery here does (R221, R222, R226, R227, R229). -/
def State.arrive (s : State) (p : Nat) (f : Frame) (handle : State → State) : State :=
  if !s.portUp p then s
  else
    let k := s.sport p
    let given := if f.laneS then (k.sentS + 256 - k.rcvdS) % 256 else (k.sentB + 256 - k.rcvdB) % 256
    if given < f.units then s.linkDown p
    else
      let s1 := (s.onPort p (fun k =>
        if f.laneS then { k with rcvdS := (k.rcvdS + f.units) % 256 } else { k with rcvdB := (k.rcvdB + f.units) % 256 })).count F.STF_CNT_FRAMES_rx
      let drop := fun (t : State) => t.freeUnits p f.laneS f.units
      if !f.hcrcOk then (drop s1).count (F.STF_PORTn_ERR_hcrc p)
      else if !f.fcrcOk then (drop s1).count (F.STF_PORTn_ERR_fcrc p)
      else if !frameLenOk f then (drop s1).count (F.STF_PORTn_ERR_len p)
      else if f.dst ≠ 0xFFFF && f.src = s1.nodeId && s1.nodeId ≠ 0 then
        (((drop s1).count F.STF_CNT_DROP_dup).setFld F.STF_STATUS_dup_node 1).stfFault 0x0503
      else
        let s2 := if s1.isWorker && s1.is F.STF_STATUS_has_owner && f.src = s1.fld F.STF_MGR_owner then s1.mgrHeard else s1
        match s2.wayOf p f with
        | .here => handle (drop s2)
        | .spread ports => ports.foldl (fun t o => t.passOn p o f false) (handle (drop s2))
        | .out o g => s2.passOn p o g true
        | .lost => (drop s2).ansLost f
        | .noRoute => (drop s2).count F.STF_CNT_DROP_no_route
        | .dup => (drop s2).count F.STF_CNT_DROP_dup
        | .silent => drop s2

/-- A frame delivered here is a message segment (R228, R241). -/
def State.msgArrive (s : State) (p : Nat) (f : Frame) : State :=
  s.arrive p f (fun t =>
    match f.body with
    | .msg l => (t.msgSeen f l).msgLocal p f l
    | _ => t)

/-! ## Roll call (R237, R238) -/

/-- The sweep ends. -/
def State.sweepEnd (s : State) : State :=
  match s.stf.sweep with
  | none => s
  | some w =>
    let d := s.roundFree ((s.mt - w.from_ : Nat) : Int) msTicks
    ((d.2.onStf (fun k => { k with sweep := none })).count F.STF_SWEEP_sweeps).setFld F.STF_SWEEP_last_ms (min d.1.toNat 255)
      |>.setFld F.STF_SWEEP_busy 0

/-- The next ROLL of the sweep, or its end; the Dusk warning stops it (R237). -/
def State.sweepNext (s : State) : State :=
  match s.stf.sweep with
  | none => s
  | some w =>
    if s.duskWarn then (s.onStf (fun k => { k with sweep := none })).setFld F.STF_SWEEP_busy 0
    else
      let go := fun (d : Nat) (p : List Nat) (ps nx : List (List Nat)) =>
        (s.onStf (fun k => { k with sweep := some { w with depth := d, paths := ps, next := nx, waiting := some (p, s.mt) } })).sendRoute
          { body := .roll } p
      match w.paths with
      | p :: ps => go w.depth p ps w.next
      | [] =>
        match w.next with
        | p :: ps => if w.depth < 8 then go (w.depth + 1) p ps [] else s.sweepEnd
        | [] => s.sweepEnd

/-- A sweep starts (R237). -/
def State.sweepStart (s : State) : State :=
  let ports := allPorts.filter s.postUp
  if !s.isManager || s.postNo = 0 || ports.isEmpty || s.stf.sweep.isSome || s.duskWarn || !s.dawnDone then s
  else
    let w : Sweep := { depth := 1, paths := ports.map (fun p => [p]), next := [], found := [], waiting := none, from_ := s.mt }
    ((s.onStf (fun k => { k with sweep := some w })).setFld F.STF_SWEEP_busy 1).sweepNext

/-- STF_CTRL written: its fields, rt_clear, sweep_now (Table STF-14). -/
def State.wrStfCtrl (s : State) (v : Word) : State :=
  let s1 := s.wrPlain Reg.STF_CTRL v
  let s2 := if v.getLsbD 2 then (s1.onStf (fun k => { k with rt := [] })).setWord Reg.STF_DEFAULT 0 else s1
  if v.getLsbD 3 then s2.sweepStart else s2

/-- A Worker drops its assignment and its owner (R239). -/
def State.dropOwner (s : State) : State :=
  let s1 := s.onStf (fun k => { k with ownerSerial := none, revA := [], revB := [], mgrSilent := false, mgrReport := false })
  let s2 := ((s1.setFld F.STF_STATUS_has_owner 0).setWord Reg.STF_MGR 0).setNode 0
  ((s2.setFld F.STF_NODE_post 0).setFld F.SYS_ROLE_admitted 0).pwrAdmission

/-! ## Commands from the Manager (Table STF-7, R241) -/

/-- The oldest message of an engine's queue with its sender, taken. -/
def State.takeFrom (s : State) (q : Nat) : Option (List Byte × Option MsgFrom) × State :=
  let r := s.qReady q
  if r.1 ≠ .done then (none, r.2)
  else
    let c := (r.2.qDesc q).cons
    let who := s.stf.from_.find? (fun m => m.queue = q && m.count = c)
    let t := r.2.blockTake q
    match t.1 with
    | some l => (some (l, who), t.2.onStf (fun k => { k with from_ := k.from_.filter (fun m => m.queue ≠ q || m.count ≠ c) }))
    | none => (none, t.2)

/-- The oldest message of an engine's queue, not taken. -/
def State.peekFrom (s : State) (q : Nat) : Option (List Byte × Option MsgFrom) × State :=
  let r := s.qReady q
  if r.1 ≠ .done then (none, r.2)
  else
    let c := (r.2.qDesc q).cons
    let who := s.stf.from_.find? (fun m => m.queue = q && m.count = c)
    let t := r.2.blockPeek q
    (t.1.map (fun l => (l, who)), t.2)

/-- A Worker's Starling block takes the oldest command where its code is `code`, and obeys it where its sender may give it (R241). -/
def State.obey (s : State) (code : Nat) (act : State → List Byte → State) : State :=
  if !s.isWorker then s
  else
    let r := s.peekFrom 0x000F
    match r.1 with
    | none => r.2
    | some (l, who) =>
      if leNat (l.take 1) ≠ code then r.2
      else
        let t := (r.2.takeFrom 0x000F).2
        let ok := match who with
          | some m => (m.src = t.fld F.STF_MGR_owner && t.is F.STF_STATUS_has_owner) || (code = 5 && m.bcast && t.samePost m.src && m.src % 16 = 0)
          | none => false
        if ok then act t l else t

end Sys2Proof.Machine
end

