-- ==== Sys2Proof/Machine/DskOps.lean ====
section
/-! DEFINITION. Saves and resets (05_dawn_dusk_reset.md): the save image (Table DSK-3, Table BIL-3), its beginning (Table DSK-5), the effect of a
reset (R98). -/

namespace Sys2Proof.Machine

open Sys2Proof

/-- Dawn and Dusk changed. -/
def State.onDsk (s : State) (f : Dsk → Dsk) : State := { s with dsk := f s.dsk }

/-- A fault of Table DSK-9 (R107). -/
def State.dskFault (s : State) (code : Nat) : State := s.fault code (some Reg.DSK_FAULT)

/-! ## The save image -/

/-- Initial value of the CRCs of R153 and Table DSK-3. -/
def crcInit : Word := 0xFFFFFFFF#32

/-- The open interval in the image (Table BIL-3). -/
def intervalArea (r : Option OpenRec) : List Byte :=
  match r with
  | none => List.replicate 48 0
  | some r =>
    leBytes 4 r.num ++ leBytes 4 r.era ++ leBytes 8 r.start ++ leBytes 8 r.planned ++ leBytes 4 r.wall ++ leBytes 1 r.rate ++ leBytes 1 r.flags ++
      leBytes 1 1 ++ leBytes 1 0 ++ leBytes 8 r.a0 ++ leBytes 8 r.b0

/-- The open session in the image (Table BIL-3). -/
def State.sessionArea (s : State) : List Byte :=
  match s.bil.session with
  | none => List.replicate 48 0
  | some r =>
    leBytes 4 r.num ++ leBytes 4 r.era ++ leBytes 8 r.start ++ leBytes 4 r.wall ++ leBytes 1 r.flags ++ leBytes 1 1 ++ leBytes 2 0 ++
      leBytes 2 (s.fld F.BIL_SES_CFG_groups) ++ leBytes 2 (s.fld F.BIL_SES_CFG_ctr) ++ leBytes 4 0 ++ leBytes 8 r.a0 ++ leBytes 8 r.b0

/-- The energies of the windows that end at the freeze, in mWh; the rounding, and a value beyond 32 bits, the spec leaves open (Table BIL-3). -/
def State.demandArea (s : State) : List Demand → List Byte × State
  | [] => ([], s)
  | d :: ds =>
    let e := if d.sliding then d.energy + (d.hist.take (d.n - 1)).sum else d.energy
    let r := s.roundFree ((e : Nat) : Int) (1000 * energyDen)
    let v := if r.1 < 2 ^ 32 then (r.1.toNat, r.2) else r.2.takeFree 32
    let t := v.2.demandArea ds
    (leBytes 4 v.1 ++ t.1, t.2)

/-- Prepayment and tariff state in the image (Table BIL-3). -/
def State.creditArea (s : State) : List Byte :=
  leBytes 8 (unsgn 64 s.bil.credit) ++ leBytes 4 s.bil.residue ++
    leBytes 1 (bit (s.is F.BIL_PP_STATUS_exhausted) + 2 * bit (s.is F.BIL_PP_STATUS_low)) ++ leBytes 1 (s.fld F.BIL_RATE_rate) ++ leBytes 2 0 ++
    s.bil.pstate.flatMap (fun w => leBytes 4 w.toNat) ++ leBytes 4 s.bil.topSeq ++ List.replicate 12 0

/-- The areas from 0x020 to 0x1DF: zero on a Worker (Table DSK-3). -/
def State.saveAreas (s : State) : List Byte × State :=
  if s.isWorker then (List.replicate 448 0, s)
  else
    let d := s.demandArea s.bil.demand
    (s.accImage ++ intervalArea s.bil.interval ++ s.sessionArea ++ d.1 ++ s.creditArea, d.2)

/-- A save image with its number and kind (Table DSK-3). -/
def State.saveImage (s : State) (seq kind : Nat) : List Byte × State :=
  let a := s.saveAreas
  let body := leBytes 4 0x4B535544 ++ leBytes 4 seq ++ leBytes 8 s.mt ++ leBytes 4 s.nj.wallSec ++ leBytes 4 (s.word Reg.TMK_ERA).toNat ++
    leBytes 1 kind ++ List.replicate 7 0 ++ a.1 ++ List.replicate 28 0
  (body ++ leBytes 4 (crc32c crcInit body).toNat, a.2)

/-- A field of an image. -/
def imgAt (l : List Byte) (o n : Nat) : Nat := leNat ((l.drop o).take n)

/-- The commit word of a sequence number (Table DSK-3). -/
def commitWord (seq : Nat) : Nat := seq + 2 ^ 32 * (2 ^ 32 - 1 - seq)

/-- A save image is a valid candidate (05, Save recovery). -/
def SaveImg.valid (i : SaveImg) : Bool :=
  imgAt i.bytes 0 4 = 0x4B535544 && imgAt i.bytes 0x1FC 4 = (crc32c crcInit (i.bytes.take 0x1FC)).toNat && i.commit = commitWord (imgAt i.bytes 4 4)

/-- The sequence number of an image. -/
def SaveImg.seq (i : SaveImg) : Nat := imgAt i.bytes 4 4

/-- The sequence number of a valid image. -/
def validSeq (o : Option SaveImg) : Option Nat :=
  match o with
  | some i => if i.valid then some i.seq else none
  | none => none

/-- The valid candidate with the highest sequence number (R93). -/
def State.candidate (s : State) : Option SaveImg :=
  (s.dsk.banks ++ s.dsk.ckpts).foldl (fun m o =>
    match validSeq o, m with
    | some _, none => o
    | some a, some j => if j.seq < a then o else m
    | none, _ => m) none

/-- A save takes its number (R103). -/
def State.saveNumber (s : State) : Nat × State :=
  let n := (s.nj.saveSeq + 1) % 2 ^ 32
  (n, { s with nj := { s.nj with saveSeq := n } })

/-- The Dusk bank a save is written to: the one whose valid commit is older, bank A if neither is valid (R102). -/
def State.saveBank (s : State) : Nat :=
  match validSeq (s.dsk.banks.getD 0 none), validSeq (s.dsk.banks.getD 1 none) with
  | some a, some b => if b < a then 1 else 0
  | some _, none => 1
  | none, _ => 0

/-! ## Dusk step 3 and the freeze (Table DSK-5) -/

/-- STOP_DUSK to the Workers, as a lane-S post broadcast (Table DSK-5, Table STF-11); its layout is the model's. -/
def State.stopBroadcast (s : State) : State :=
  if s.isManager && s.is F.DSK_CTRL_stop_bcast then s.broadcast false 0x000F (leBytes 1 5 ++ leBytes 15 0) else s

/-- A running checkpoint is abandoned (Table DSK-8). -/
def State.ckptAbandon (s : State) : State :=
  if s.dsk.ckpt.isSome then (s.onDsk (fun d => { d with ckpt := none })).setFld F.DSK_STATUS_ckpt_busy 0 else s

/-- A save begins: Dusk step 3 (Table DSK-5, R98): kind 2 after the Dusk warning, else the reset it precedes. -/
def State.saveBegin (s : State) (kind : Nat) : State :=
  let s1 := (s.ckptAbandon.onDsk (fun d => { d with saving := some { kind := kind, from_ := s.mt } })).setFld F.DSK_STATUS_saving 1
  let s2 := (((s1.pwrStop 5).pilotUpdate).asmAbort).stopBroadcast
  (((((s2.scClose).efmDusk).kvAbortQueued).rbnDusk).deliver 12 allCores)

/-- The number of a Dusk or reset save taken (R103). -/
def State.saveTaken (s : State) : Nat × State :=
  let n := s.saveNumber
  (n.1, n.2.onDsk (fun d => { d with begun := true }))

/-- The freeze and the save body (Table DSK-5, steps 4 and 5). -/
def State.saveFreeze (s : State) : State :=
  match s.dsk.saving with
  | some ⟨k, f, none⟩ =>
    let n := s.mtrFreeze.saveTaken
    let i := n.2.saveImage n.1 2
    let b := i.2.saveBank
    i.2.onDsk (fun d => { d with saving := some ⟨k, f, some b⟩, banks := upd d.banks b (fun _ => some ⟨i.1, 0⟩) })
  | _ => s

/-- The commit word (Table DSK-5, steps 6 and 7); a reset save is a Dusk save too (R98). -/
def State.saveCommit (s : State) : State :=
  match s.dsk.saving with
  | some ⟨_, _, some b⟩ =>
    let s1 := s.onDsk (fun d => { d with saving := none, begun := false, warned := true,
                                         banks := upd d.banks b (fun o => o.map (fun i => { i with commit := commitWord i.seq })) })
    s1.setFld F.DSK_STATUS_saving 0
  | _ => s

/-! ## Resets (R98) -/

/-- Registers a reset leaves: the Nightjar block, the fields of other blocks held in the Nightjar domain, and the tag engine, which never goes through
Dawn (R98, R282). -/
def keepsReg (a : Nat) : Bool :=
  (0x4000C000 ≤ a && a < 0x4000D000) ||
  [Reg.DSK_WARN_CFG, Reg.DSK_CKPT_CFG, Reg.DSK_HOLDUP, Reg.DSK_COUNT, Reg.TMK_STEP_CFG, Reg.TMK_LAST_STEP, Reg.TMK_ERA, Reg.RBN_DEAD_CFG, Reg.RBN_HARV_CFG,
   Reg.RBN_TAG_STATUS, Reg.RBN_UID, Reg.RBN_FIELD, Reg.RBN_HARV_STATUS].contains a

/-- The register file after a reset (R98, R452). -/
def resetRegs (r : List (Nat × Word)) : List (Nat × Word) :=
  (r.filter (fun p => keepsReg p.1)).foldl (fun t p => Store.set t p.1 p.2) (resetWords.filter (fun p => !keepsReg p.1))

/-- The nonvolatile part of the vault. -/
def Kv.kept (k : Kv) : Kv :=
  { slots := (List.range 256).map (fun n => if n < 192 then k.slots.getD n default else default), nvState := k.nvState, nvPending := k.nvPending,
    fuses := k.fuses, service := k.service, wiped := k.wiped, signs := k.signs, sessions := k.sessions, serial := k.serial, cert := k.cert }

/-- The nonvolatile part of the metrology block. -/
def Mtr.kept (m : Mtr) : Mtr := { otp := m.otp, copies := m.copies }

/-- The nonvolatile part of the billing block: its slots, its next number and the demand maxima (R398, R401), its settings record (R409). -/
def Bil.kept (b : Bil) : Bil :=
  { slots := b.slots.map (fun r => { r with signing := false, failed := false, amountFrom := none }), next := b.next, copies := b.copies,
    badSlots := b.badSlots,
    demand := b.demand.map (fun d => { max := d.max, maxTime := d.maxTime, prev := d.prev, prevTime := d.prevTime }) }

/-- The tag engine and what Robin keeps in the Nightjar domain; the powered-side part starts anew (R98, R282). -/
def Rbn.kept (r : Rbn) : Rbn :=
  { file := r.file, energySeq := r.energySeq, ovlOff := r.ovlOff, ovlLog := r.ovlLog, late := r.late, answer := r.answer }

/-- The bytes a reset leaves: MRAM always; the memories of the powered side where their supply stayed (R98). -/
def keptBytes (kind : Nat) (m : List Host.Cell) : List Host.Cell := if kind ≤ 1 then m.filter (fun p => p.1 < 0x800000) else m

/-- A reset of a kind of Table DSK-4 takes effect: powered-side state returns to its reset values, MRAM and Nightjar stay, Dawn runs from step 2 (R98). -/
def State.hardReset (s : State) (kind : Nat) : State :=
  let base : State := {}
  let nj : Nj := { s.nj with sealFallback := false, dawnSeal := [], app0 := false, isolated := true, holdupFrom := none }
  let dsk : Dsk :=
    { banks := s.dsk.banks, ckpts := s.dsk.ckpts, ckptNext := s.dsk.ckptNext, begun := s.dsk.begun, warned := s.dsk.warned, shortDue := s.dsk.shortDue }
  let tmk : Tmk := { mon5Warned := s.tmk.mon5Warned && 2 ≤ kind, mon5Limited := s.tmk.mon5Limited && 2 ≤ kind }
  let t : State :=
    { base with
      regs := resetRegs s.regs, mem := keptBytes kind s.view, tmk := tmk, nj := nj, kv := s.kv.kept, mtr := s.mtr.kept,
      bil := s.bil.kept, saf := { copies := s.saf.copies, groups := s.saf.groups }, efm := { copies := s.efm.copies, writes := s.efm.writes },
      pwr := { ssLock := s.pwr.ssLock }, update := { banks := s.update.banks, retained := s.update.retained }, dsk := dsk, rbn := s.rbn.kept,
      life := { copies := s.life.copies }, readOut := s.readOut, free := s.free, pending := s.pending }
  (t.setFld F.DSK_CAUSE_cause kind).setFld F.DSK_DAWN_STATUS_step 2

/-- A reset of kind EXT, SW, FAB or TAP is asked for: after a reset save where Dawn has completed; ignored during a save (R98, Table DSK-8). -/
def State.resetRequest (s : State) (kind : Nat) : State :=
  if s.dsk.off || s.dsk.saving.isSome then s
  else if s.dawnDone then s.saveBegin kind
  else s.hardReset kind

end Sys2Proof.Machine
end

