-- ==== Sys2Proof/Machine/UpdOps.lean ====
section
/-! DEFINITION. What the update engine shares (08_update_manifests.md): manifests (Tables UPD-1, UPD-2, R151, R152), blocks (Table UPD-3), staging (R153 to
R155), activation records (Table UPD-6, R159), aborts (R158), members that join late (R160, R161). -/

namespace Sys2Proof.Machine

open Sys2Proof

/-- The update engine changed. -/
def State.onUpd (s : State) (f : Upd → Upd) : State := { s with update := f s.update }

/-- EVT_UPD and the update cause of HSP_ATTN (08, The host's view). -/
def State.updEvent (s : State) : State := (s.setFld F.HSP_ATTN_update 1).deliver 25 (maskCores (Config.eventCores 25))

/-- UPD_STATUS.state. -/
def State.updState (s : State) : Nat := s.fld F.UPD_STATUS_state

/-- A fault of Table UPD-10 (R164). -/
def State.updFault (s : State) (code : Nat) : State := s.fault code (some Reg.UPD_FAULT)

/-- An UPDATE entry (Table UPD-7). -/
def State.logUpdate (s : State) (code info data : Nat) (cont : Option Nat) : State := s.log ⟨8, code, info, data, none, cont⟩

/-- update_staged follows the state (Table SYS-14, R155). -/
def State.setUpdState (s : State) (n : Nat) : State :=
  let s1 := s.setBit F.SYS_POST_STATUS_update_staged (s.isManager && n = 2 && !s.is F.UPD_STATUS_restage)
  if s.updState = n then s1 else (s1.setFld F.UPD_STATUS_state n).updEvent

/-- UPD_RESULT (Table UPD-12). -/
def State.updResult (s : State) (outcome code members : Nat) : State :=
  (((s.setFld F.UPD_RESULT_outcome outcome).setFld F.UPD_RESULT_cause (code % 256)).setFld F.UPD_RESULT_members members).updEvent

/-! ## Manifests -/

/-- A field of a byte string. -/
def u (l : List Byte) (o n : Nat) : Nat := leNat ((l.drop o).take n)

/-- A part entry (Table UPD-2). -/
def partOf (l : List Byte) : ManPart :=
  { mask := u l 0 2, ctr := u l 2 1, off := u l 4 4, len := u l 8 4, floor := u l 12 4, digest := (l.drop 16).take 48 }

/-- A manifest's bytes before its signature. -/
def manBody (l : List Byte) : Nat := 0x40 + 64 * u l 6 2

/-- A manifest from its data (Table UPD-1). -/
def manifestOf (l : List Byte) : Manifest :=
  { data := l, set := u l 8 4, parts := (List.range (min 32 (u l 6 2))).map (fun i => partOf ((l.drop (0x40 + 64 * i)).take 64)) }

/-- A part entry is in range (R151 check 2). -/
def partOk (l : List Byte) (p : ManPart) : Bool :=
  p.ctr < 32 && u l 3 1 = 0 && p.off % 4096 = 0 && p.len % 4096 = 0 && 4096 ≤ p.len && (p.floor = 0 || p.off = 0) && p.off < 0x300000

/-- The format of a manifest (R151 check 2). -/
def formatOk (l : List Byte) : Bool :=
  u l 0 4 = 0x4E414D55 && u l 4 2 = 1 && 1 ≤ u l 6 2 && u l 6 2 ≤ 32 && u l 12 2 ≤ 4095 && ((l.drop 0x11).take 47).all (· = 0) &&
  (List.range (u l 6 2)).all (fun i => let e := (l.drop (0x40 + 64 * i)).take 64; partOk e (partOf e)) &&
  (l.drop (manBody l + 96)).all (· = 0)

/-- A manifest is for this chip and post (R151 check 3). -/
def State.targetOk (s : State) (l : List Byte) : Bool :=
  u l 14 2 = s.fld F.SYS_ID_part && u l 16 1 ≤ s.fld F.SYS_ID_stepping && (u l 12 2 = 0 || u l 12 2 = s.postNo)

/-- No manifest is accepted: RETIRED, or UPD_CTRL.en clear (R151, Table UPD-12). -/
def State.manBarred (s : State) : Bool := s.lc = 4 || !s.is F.UPD_CTRL_en

/-- The parts of member `m`. -/
def partsOf (man : Manifest) (m : Nat) : List ManPart := man.parts.filter (fun p => p.mask.testBit m)

/-- The end of a member's tiling. -/
def imageEnd (man : Manifest) (m : Nat) : Nat := (partsOf man m).foldl (fun e p => max e (p.off + p.len)) 0

/-- Coverage of member `m` as far as the manifest shows it (R152). -/
def memberCovered (man : Manifest) (m : Nat) : Bool :=
  let ps := partsOf man m
  let total := ps.foldl (fun t p => t + p.len) 0
  let apart := (List.range ps.length).all (fun i => (List.range ps.length).all (fun j =>
    i = j || (let a := ps.getD i default; let b := ps.getD j default; a.off + a.len ≤ b.off || b.off + b.len ≤ a.off)))
  (ps.filter (fun p => p.off = 0)).length = 1 && apart && total = imageEnd man m && ps.all (fun p => p.ctr = (ps.headD default).ctr) && total ≤ 0x300000

/-- Members a manifest names, as a mask. -/
def namedMask (man : Manifest) : Nat := man.parts.foldl (fun a p => a ||| p.mask) 0

/-- Coverage (R151 check 6, R152): member 0 is named. -/
def coverageOk (man : Manifest) : Bool :=
  (namedMask man).testBit 0 && (List.range 16).all (fun m => !(namedMask man).testBit m || memberCovered man m)

/-- A part goes to a Worker. -/
def ManPart.remote (p : ManPart) : Bool := 2 ≤ p.mask

/-- Bytes of the staging area a manifest needs (R151 check 7). -/
def stageNeed (man : Manifest) : Nat := (man.parts.filter ManPart.remote).foldl (fun t p => t + p.len) 0

/-- The staging area holds the parts with any Worker bit (R151 check 7). -/
def State.stageOk (s : State) (man : Manifest) : Bool := stageNeed man ≤ 4096 * s.fld F.UPD_STAGE_SIZE_size

/-! ## Image headers (Table DSK-2) -/

/-- The fields of an image header for a slot base are in range, its reserved bytes zero, the safety image inside it (R94). -/
def headerOk (l : List Byte) (base : Nat) : Bool :=
  let len := u l 0x18 4
  let entry := u l 0x1C 4
  u l 0 4 = 0x49534E47 && u l 4 4 = 1 && u l 0x0C 4 ≤ 3 && u l 0x14 4 ≤ 31 && len % 4096 = 0 && 4096 ≤ len && len ≤ 0x300000 &&
  entry % 4 = 0 && base ≤ entry && entry ≤ base + len - 4 && u l 0x20 4 % 4096 = 0 && u l 0x20 4 + u l 0x24 4 ≤ len &&
  1 ≤ u l 0x28 4 && u l 0x28 4 ≤ 63 && u l 0x24 4 ≤ 4096 * u l 0x28 4 && ((l.drop 0x2C).take 212).all (· = 0)

/-- The header's role_mask includes this chip's role (R94). -/
def State.roleOk (s : State) (l : List Byte) : Bool := (u l 0x0C 4).testBit (if s.isManager then 0 else 1)

/-! ## Where bytes are staged -/

/-- The base of a slot, 0 A, 1 B (Table CPU-2). -/
def slotBase (n : Nat) : Nat := 0x300000 * n

/-- The inactive slot (08, Staging). -/
def State.spareSlot (s : State) : Nat := 1 - s.fld F.DSK_BOOT_slot

/-- This chip's member number. -/
def State.ownMember (s : State) : Nat := if s.isManager then 0 else s.nodeId % 16

/-- The address of part `i` in the staging area: packed in part order (08, Staging). -/
def State.stageAddr (s : State) (man : Manifest) (i : Nat) : Nat :=
  0x60000000 + 4096 * s.fld F.UPD_STAGE_BASE_base + stageNeed { man with parts := man.parts.take i }

/-- The part names this chip. -/
def State.ownPart (s : State) (p : ManPart) : Bool := p.mask.testBit s.ownMember

/-- The address at which this chip stages part `i`. -/
def State.partAddr (s : State) (man : Manifest) (i : Nat) : Nat :=
  let p := man.parts.getD i default
  if s.ownPart p && !s.is F.UPD_STATUS_restage then slotBase s.spareSlot + p.off else s.stageAddr man i

/-- This chip stages the part: its own, or on a Manager one for a Worker; a restage ignores the Manager's own (R161). -/
def State.stages (s : State) (p : ManPart) : Bool :=
  (s.ownPart p && !(s.isManager && s.is F.UPD_STATUS_restage)) || (s.isManager && p.remote)

/-- A block's bytes written where this chip stages them (08, Staging). -/
def State.stageBlock (s : State) (man : Manifest) (i index : Nat) (data : List Byte) : State :=
  let p := man.parts.getD i default
  let s1 := if s.ownPart p && !(s.isManager && s.is F.UPD_STATUS_restage) then
      (s.writeBytes (slotBase s.spareSlot + p.off + 4096 * index) data).mramWrote 512
    else s
  if s.isManager && p.remote then s1.writeBytes (s1.stageAddr man i + 4096 * index) data else s1

/-- The bytes of part `i` as this chip staged them. -/
def State.partBytes (s : State) (man : Manifest) (i : Nat) : List Byte := s.readBytes (s.partAddr man i) (man.parts.getD i default).len

/-- What is staged of part `i`. -/
def State.stagedPart (s : State) (i : Nat) : Staged := s.update.parts.getD i {}

/-- What is staged of part `i` changed. -/
def State.onPart (s : State) (i : Nat) (f : Staged → Staged) : State := s.onUpd (fun k => { k with parts := upd k.parts i f })

/-- Every block of part `i` is held. -/
def State.partComplete (s : State) (man : Manifest) (i : Nat) : Bool :=
  (s.stagedPart i).held.length = (man.parts.getD i default).len / 4096

/-- Every part this chip stages of its own is verified (R155). -/
def State.ownVerified (s : State) (man : Manifest) : Bool :=
  (List.range man.parts.length).all (fun i => !s.ownPart (man.parts.getD i default) || (s.stagedPart i).verified)

/-- Every part with a Worker bit is verified in the staging area. -/
def State.workerVerified (s : State) (man : Manifest) : Bool :=
  (List.range man.parts.length).all (fun i => !(man.parts.getD i default).remote || (s.stagedPart i).verified)

/-- The parts of member `m`, as a bit map. -/
def partBits (man : Manifest) (m : Nat) : Nat :=
  ((List.range man.parts.length).filter (fun i => (man.parts.getD i default).mask.testBit m)).foldl (fun a i => a + 2 ^ i) 0

/-- Member `m` has reported PART_OK for all its parts (R155). -/
def State.memberReady (s : State) (man : Manifest) (m : Nat) : Bool :=
  s.update.ready.getD m 0 &&& partBits man m = partBits man m

/-- Admitted Workers. -/
def State.admittedList (s : State) : List Nat := allMembers.filter (fun m => (s.member m).state = 3)

/-! ## Messages (Table UPD-4) -/

/-- A control message sent to a node's queue 0x0021. -/
def State.updSend (s : State) (dst code member fault set parts : Nat) : State :=
  let l := leBytes 1 code ++ leBytes 1 member ++ leBytes 2 fault ++ leBytes 4 set ++ leBytes 4 parts ++ leBytes 20 0
  ((s.txAccept dst 0x0021 l .block).2).txRun

/-- A control message to member `m`. -/
def State.updToMember (s : State) (m code set : Nat) : State := s.updSend (16 * s.postNo + m) code m 0 set 0

/-- A Worker's control message to its Manager. -/
def State.updToManager (s : State) (code fault set parts : Nat) : State :=
  if s.fld F.STF_MGR_owner = 0 then s else s.updSend (s.fld F.STF_MGR_owner) code s.ownMember fault set parts

/-! ## Forwarding (08, Staging) -/

/-- A block unit (Table UPD-3). -/
def blockUnit (set part index : Nat) (data : List Byte) : List Byte :=
  leBytes 4 0x4B4C4255 ++ leBytes 4 set ++ leBytes 1 part ++ leBytes 1 0 ++ leBytes 2 index ++ leBytes 4 4096 ++
    leBytes 4 (crc32c crcInit data).toNat ++ List.replicate 12 0 ++ data

/-- The manifest whose blocks go to a member: the retained one while that member joins late (R161). -/
def State.manFor (s : State) (m : Nat) : Option Manifest :=
  match s.update.late.find? (fun p => p.1 = m) with
  | some _ => s.update.retained
  | none => s.update.man

/-- Blocks that wait to be forwarded enter the transmit buffer as long as it has room. -/
def State.updPump : Nat → State → State
  | 0, s => s
  | fuel + 1, s =>
    match s.update.outbox with
    | [] => s
    | (m, part, index) :: rest =>
      if 64 ≤ s.qe.tx.length then s
      else
        let s1 := s.onUpd (fun k => { k with outbox := rest })
        match s.manFor m with
        | none => State.updPump fuel s1
        | some man =>
          let data := if part = 0xFF then man.data else s1.readBytes (s1.stageAddr man part + 4096 * index) 4096
          State.updPump fuel ((s1.txAccept (16 * s1.postNo + m) 0x0020 (blockUnit man.set part index data) .block).2).txRun

/-- The waiting blocks forwarded. -/
def State.pump (s : State) : State := State.updPump 64 s

/-- Blocks to be forwarded. -/
def State.forward (s : State) (l : List (Nat × Nat × Nat)) : State := (s.onUpd (fun k => { k with outbox := k.outbox ++ l })).pump

/-- The manifest and every block held of a member's parts. -/
def State.allBlocks (s : State) (man : Manifest) (m : Nat) : List (Nat × Nat × Nat) :=
  (m, 0xFF, 0) :: (List.range man.parts.length).flatMap (fun i =>
    if (man.parts.getD i default).mask.testBit m then (s.stagedPart i).held.map (fun b => (m, i, b)) else [])

/-! ## Staging begins and ends -/

/-- The engine takes a manifest as the staged one (R151, Table UPD-12). -/
def State.stageManifest (s : State) (man : Manifest) (restage : Bool) : State :=
  let s1 := s.onUpd (fun k => { k with man := some man, parts := man.parts.map (fun _ => {}), boot := none, ready := List.replicate 16 0,
                                       outbox := k.outbox.filter (fun p => k.late.any (fun q => q.1 = p.1)) })
  let s2 := ((s1.setFld F.UPD_STATUS_restage (bit restage)).setFld F.UPD_STATUS_part_count man.parts.length).setWord Reg.UPD_SET (w32 man.set)
  (s2.setFld F.UPD_MEMBERS_named (namedMask man)).setUpdState 1

/-- All staging discarded. -/
def State.unstage (s : State) : State :=
  let s1 := s.onUpd (fun k => { k with man := none, parts := [], boot := none, ready := List.replicate 16 0, checking := none,
                                       outbox := k.outbox.filter (fun p => k.late.any (fun q => q.1 = p.1)) })
  let s2 := ((s1.setFld F.UPD_STATUS_restage 0).setFld F.UPD_STATUS_part_count 0).setWord Reg.UPD_SET 0
  (s2.setFld F.UPD_MEMBERS_named 0).setUpdState 0

/-- A refused manifest (R151): its fault, UPDATE code 2. -/
def State.manRefuse (s : State) (man : Manifest) (code : Nat) : State :=
  ((s.updFault code).logUpdate 2 code man.set none).updResult 2 code 0

/-- The Manager reaches STAGED once its own parts and every admitted named Worker's are verified (R155); a restage once the staging area is refilled (R161). -/
def State.judgeStaged (s : State) : State :=
  match s.update.man with
  | none => s
  | some man =>
    if !s.isManager || s.updState ≠ 1 then s
    else if s.is F.UPD_STATUS_restage then
      if s.workerVerified man then
        ((s.onUpd (fun k => { k with retained := some man })).setUpdState 2).updResult 3 0 (namedMask man)
      else s
    else if s.ownVerified man && s.update.boot.isSome &&
        s.admittedList.all (fun m => !(namedMask man).testBit m || s.memberReady man m) then
      ((s.setUpdState 2).logUpdate 3 man.parts.length man.set none).updResult 3 0 (namedMask man)
    else s

/-- A Worker admitted during staging receives its parts, and the state returns to RECEIVING (R155). -/
def State.stageMember (s : State) (m : Nat) : State :=
  match s.update.man with
  | some man =>
    if (s.updState = 1 || s.updState = 2) && !s.is F.UPD_STATUS_restage && (namedMask man).testBit m then
      ((s.onUpd (fun k => { k with ready := upd k.ready m (fun _ => 0) })).setUpdState 1).forward (s.allBlocks man m)
    else s
  | none => s

/-! ## Activation records (R159) -/

/-- A record is valid (R159). -/
def ActRec.valid (r : ActRec) : Bool := r.crcOk && r.committed

/-- The newer of two records. -/
def newerRec (a b : Option ActRec) : Option ActRec :=
  match a, b with
  | some x, some y => if x.seq < y.seq then b else a
  | none, _ => b
  | _, none => a

/-- The activated record with the highest sequence number, from which a chip boots (R159). -/
def State.bootRec (s : State) : Option ActRec :=
  let ok := fun (o : Option ActRec) => o.filter (fun r => r.valid && r.activated)
  newerRec (ok (s.update.banks.getD 0 none)) (ok (s.update.banks.getD 1 none))

/-- The prepared record: valid, not activated, newer than the activated one (R159). -/
def State.prepRec (s : State) : Option ActRec :=
  let old := match s.bootRec with | some r => r.seq | none => 0
  let ok := fun (o : Option ActRec) => o.filter (fun r => r.valid && !r.activated && old < r.seq)
  newerRec (ok (s.update.banks.getD 0 none)) (ok (s.update.banks.getD 1 none))

/-- The bank that does not hold the newest activated record (R159). -/
def State.spareBank (s : State) : Nat := if s.update.banks.getD 0 none = s.bootRec then 1 else 0

/-- The counter index and floor of this chip's image (R162). -/
def State.ownFloor (s : State) (man : Manifest) : Nat × Nat :=
  match (partsOf man s.ownMember).find? (fun p => p.off = 0) with
  | some p => (p.ctr, p.floor)
  | none => (0, 0)

/-- A new activation record written without its activate word, and whether it reads back (R159, R162). -/
def State.writeRecord (s : State) (man : Manifest) (good : Bool) : State :=
  match s.bootRec with
  | none => s
  | some old =>
    let cf := s.ownFloor man
    let slot := 1 - old.slot
    let dig := s.update.boot.getD []
    let r : ActRec :=
      { seq := (old.seq + 1) % 2 ^ 32, set := man.set, slot := slot, digA := if slot = 0 then dig else old.digA,
        digB := if slot = 1 then dig else old.digB, ctrs := upd old.ctrs cf.1 (fun c => max c cf.2), crcOk := good, committed := true }
    s.onUpd (fun k => { k with banks := upd k.banks s.spareBank (fun _ => some r) })

/-- UPDATE code 7 for each counter that differs between two records (R162). -/
def State.logCounters (s : State) (old new : ActRec) : State :=
  (List.range 32).foldl (fun t i => if old.ctrs.getD i 0 = new.ctrs.getD i 0 then t else t.logUpdate 7 i (new.ctrs.getD i 0) none) s

/-- The activate word of the prepared record written: the flip of a Manager, the commit of a Worker (R158, R162). -/
def State.activate (s : State) : State :=
  match s.bootRec, s.prepRec with
  | some old, some new =>
    let s1 := s.onUpd (fun k => { k with banks := k.banks.map (fun o => if o = some new then some { new with activated := true } else o) })
    (s1.logUpdate 5 old.slot new.set (some s1.mt)).logCounters old new
  | _, _ => s

/-- An anti-rollback counter of this chip (R162). -/
def State.antiRollback (s : State) (i : Nat) : Nat := match s.bootRec with | some r => r.ctrs.getD i 0 | none => 0

/-- The prepared record invalidated: its commit word overwritten with zero (R158). -/
def State.dropPrepared (s : State) : State :=
  match s.prepRec with
  | some r => s.onUpd (fun k => { k with banks := k.banks.map (fun o => if o = some r then some { r with committed := false } else o) })
  | none => s

/-! ## The update hold and aborts (R156 to R158) -/

/-- The update hold turns on: contactors and gates are forced off (Table UPD-5 step 1). -/
def State.updHoldOn (s : State) : State := ((s.setFld F.UPD_STATUS_hold_on 1).gateStop 1).openAll true

/-- The reasons that hold a requested activation, as the bits of UPD_STATUS.held (R156). -/
def State.heldReasons (s : State) : Nat :=
  let ms := allMembers.filter (fun m => (s.member m).state = 3)
  bit ((List.range 4).any (fun n => (s.ctr n).on) || ms.any (fun m => (s.member m).beatFb ≠ 0)) +
    2 * bit ((1 ≤ s.pwrState && s.pwrState ≤ 4) || ms.any (fun m => (s.member m).beatFlags.testBit 2)) +
    4 * bit (s.bil.session.isSome || s.bil.opening.isSome) + 8 * bit (s.kv.lcNext.isSome || s.kv.nvPending.isSome) + 16 * bit s.duskWarn +
    32 * bit (allMembers.any (fun m => (s.member m).rollAt.isSome))

/-- An activation between its accepted request and its flip. -/
def State.activating (s : State) : Bool := s.isManager && s.updState = 3

/-- An abort before the flip (R158), with its cause and the members involved. -/
def State.updAbort (s : State) (code members : Nat) : State :=
  if !s.activating then s
  else
    let set := (s.word Reg.UPD_SET).toNat
    let s1 := (allMembers.filter (fun m => s.update.prepared.testBit m)).foldl (fun t m => t.updToMember m 5 set) s
    let s2 := ((s1.onUpd (fun k => { k with waitPrep := 0, prepared := 0 })).dropPrepared).setFld F.UPD_STATUS_hold_on 0
    let lacking := match s2.update.man with
      | some man => s2.admittedList.any (fun m => (namedMask man).testBit m && !s2.memberReady man m)
      | none => true
    ((s2.setUpdState (if lacking then 1 else 2)).logUpdate 4 code members none).updResult 6 code members

/-- The membership changed during an activation before its flip (Table UPD-9). -/
def State.updMember (s : State) (m : Nat) : State := if s.activating then (s.updFault 0x0E0A).updAbort 0x0E0A (2 ^ m) else s

/-! ## Members that join late (R160, R161) -/

/-- Where member `m` stands among those that join late. -/
def State.lateOf (s : State) (m : Nat) : Option Late := (s.update.late.find? (fun p => p.1 = m)).map (·.2)

/-- Member `m` put at a stage of a late join, or taken out. -/
def State.setLate (s : State) (m : Nat) (l : Option Late) : State :=
  s.onUpd (fun k => { k with late := (match l with | some x => [(m, x)] | none => []) ++ k.late.filter (fun p => p.1 ≠ m) })

/-- The retained parts cover member `m`, and their digests match where they are staged (R161 case 3). -/
def State.retainedCovers (s : State) (man : Manifest) (m : Nat) : Bool :=
  (namedMask man).testBit m && (List.range man.parts.length).all (fun i =>
    let p := man.parts.getD i default
    !p.mask.testBit m || decide (Config.sha384 (s.readBytes (s.stageAddr man i) p.len) = p.digest))

/-- The vault verifies the retained manifest again; whether it took the command. -/
def State.verifyRetained (s : State) (man : Manifest) (m : Nat) : State :=
  let l := man.data
  let n := manBody l
  (s.kvPort (.retained m) 0x09 (s.fld F.UPD_ANCHOR_slot) (l.take n) ((l.drop n).take 96)).2

/-- Member `m` is not admitted for want of an image (R161 case 4). -/
def State.noImage (s : State) (m : Nat) : State :=
  if (s.member m).noImage then s
  else ((s.onMember m (fun k => { k with noImage := true })).updFault 0x0E0C).updResult 10 0x0E0C (2 ^ m)

/-- The sets of a Worker not admitted yet compared with the Manager's own (R160, R161); joinOk where it may be admitted. -/
def State.joinCheck (s : State) (m activated prepared : Nat) (hold : Bool) : State :=
  let own := match s.bootRec with | some r => r.set | none => 0
  let off := s.onMember m (fun k => { k with joinOk := false })
  if (s.lateOf m).isSome && s.lateOf m ≠ some (.committing false) && s.lateOf m ≠ some (.committing true) then off
  else if !hold && activated = own then
    let s1 := if prepared ≠ 0 then s.updToMember m 5 prepared else s
    (s1.onMember m (fun k => { k with joinOk := true })).setLate m none
  else if !hold && prepared = own then (off.setLate m (some (.committing false))).updToMember m 3 own
  else
    match s.update.retained with
    | some man =>
      if man.set = own && off.retainedCovers man m then (off.setLate m (some .verifying)).verifyRetained man m
      else (off.setLate m none).noImage m
    | none => (off.setLate m none).noImage m

end Sys2Proof.Machine
end

