-- ==== Sys2Proof/Machine/DawnOps.lean ====
section
/-! DEFINITION. The steps of Dawn (05_dawn_dusk_reset.md, Table DSK-1): the hold (R97), what each step loads, save recovery (R93), the boot image (R94),
the safety image and the sealed set (R96, R299, R306), the start of the cores (R68). -/

namespace Sys2Proof.Machine

open Sys2Proof

/-! ## The Dawn hold (R97, R204) -/

/-- A descriptor of the hold table (R204): its ring and its layout. -/
def holdDesc (base esize depth span : Nat) : Desc :=
  { base := base, ctrl := 1 + 2 * esize + 8 * depth + 2 ^ 8 * (span - 1) + 2 ^ 16 + 2 ^ 19 }

/-- The hold table: 256 descriptors, queue 0x0020 and on a Worker queue 0x0021 enabled (R204). -/
def State.holdTable (s : State) : State :=
  let m := s.mem.filter (fun p => p.1 < 0x201FE000 || 0x20200000 ≤ p.1)
  let t := ({ s with mem := m }.writeBytes (0x201FE000 + 32 * 0x20) (holdDesc 0x20100000 2 7 65).bytes)
  let t1 := if s.isWorker then t.writeBytes (0x201FE000 + 32 * 0x21) (holdDesc 0x20102000 1 4 1).bytes else t
  (t1.onQe (fun e => { e with cache := [], openResv := [], enabled := if s.isWorker then [0x20, 0x21] else [0x20] })).setFld F.QE_STATUS_hold_table 1

/-- Dawn stops in the hold after a step, with a fault (R97, Table DSK-9): the fault is logged, and seen in DSK_DAWN_STATUS (R107). -/
def State.dawnHold (s : State) (step code : Nat) : State :=
  let s1 := ((s.setFld F.DSK_DAWN_STATUS_step step).setFld F.DSK_DAWN_STATUS_hold 1).setFld F.DSK_DAWN_STATUS_hold_code code
  let s2 := ((s1.setFld F.HSP_ATTN_hold 1).holdTable).log (faultEvent code)
  allPorts.foldl (fun t p => t.trainStart p) (s2.setPilot .low)

/-- Dawn runs and waits after a step of Table DSK-1, the supply in order. -/
def State.dawnAt (s : State) (step : Nat) : Bool :=
  !s.dsk.off && !s.inHold && !s.dawnDone && !s.duskWarn && s.fld F.DSK_DAWN_STATUS_step = step

/-- A fault found during Dawn, to be reported once CC0 runs (R107). -/
def State.foundFault (s : State) (code : Nat) : State :=
  if s.dsk.found.contains code then s else s.onDsk (fun d => { d with found := d.found ++ [code] })

/-! ## Steps 8 to 11 -/

/-- The largest valid floor slot (R34). -/
def State.floorTop (s : State) : Option Nat :=
  s.nj.floors.foldl (fun m f => match f, m with
    | some a, some b => some (max a b)
    | some a, none => some a
    | none, _ => m) none

/-- A high value written into the next floor slot (R34). -/
def State.floorCommit (s : State) (hi : Nat) : State :=
  { s with nj := { s.nj with floors := upd s.nj.floors s.nj.floorNext (fun _ => some hi), floorNext := (s.nj.floorNext + 1) % 16, floorHeld := true } }

/-- Step 8: meter time loaded, its high value committed (R34, R46). -/
def State.dawnMeterTime (s : State) : State :=
  let hi := match s.floorTop with | some h => h + 1 | none => 0
  let s1 := if s.floorTop.isNone && s.nj.floorHeld then (s.setFld F.TMK_STATUS_mt_untrusted 1).foundFault 0x0107 else s
  let s2 := s1.floorCommit hi
  let s3 := { s2 with tmk := { s2.tmk with mt := hi * 2 ^ 32, mtRun := true, drainFrom := hi * 2 ^ 32 } }
  (s3.setFld F.TMK_STATUS_xtal_mt_lost 0).onDsk (fun d => { d with dawnFrom := hi * 2 ^ 32 })

/-- The newest valid copy of the life counters (R442, R450). -/
def State.lifeCopy (s : State) : Option (Nat × LifeCopy) :=
  match s.life.copies.getD 0 none, s.life.copies.getD 1 none with
  | some a, some b => if a.sound && (!b.sound || b.seq ≤ a.seq) then some (0, a) else if b.sound then some (1, b) else none
  | some a, none => if a.sound then some (0, a) else none
  | none, some b => if b.sound then some (1, b) else none
  | none, none => none

/-- The life counters loaded (R450). -/
def State.dawnLife (s : State) : State :=
  let l := match s.lifeCopy with
    | some (_, c) => { s.life with minutes := c.minutes, writes := c.writes }
    | none => { s.life with minutes := List.replicate 9 0, writes := 0 }
  ({ s with life := { l with peak := none, minuteFrom := some s.mt, unstored := 0 } }).setBit F.SYS_LIFE_SEL_valid s.lifeCopy.isSome

/-- taps_per_tick lies in its valid range (Table TMK-5). -/
def tapsOk (n : Nat) : Bool := 400 ≤ n && n ≤ 1900

/-- The count a line keeps; 0 marks a line that is not used (TMK_EP_CAL_FAIL). -/
def lineTaps (n : Nat) : Nat := if tapsOk n then n else 0

/-- All 24 lines calibrated, line 0 of each output first (R42). -/
def State.edgeAll (s : State) (taps : List Nat) : State :=
  let pairs := (List.range 12).map (fun i => (lineTaps (taps.getD (2 * i) 0), lineTaps (taps.getD (2 * i + 1) 0)))
  let s1 := { s with tmk := { s.tmk with epTaps := pairs, epSwap := List.replicate 12 false } }
  s1.setFld F.TMK_EP_CAL_taps_per_tick (taps.getD 0 0)

/-- Step 10 (R42, TMK_EP_CAL_FAIL). -/
def State.dawnEdge (s : State) (taps : List Nat) : State :=
  let s1 := s.edgeAll taps
  if taps.all tapsOk then s1 else (s1.setFld F.TMK_STATUS_ep_cal_fail 1).foundFault 0x0104

/-- Steps 8 to 11: the strap decides the role, or Dawn holds with SYS_STRAP_BAD (R91). -/
def State.dawnClock (s : State) (taps : List Nat) (strap : Nat) : State :=
  let s1 := ((s.dawnMeterTime.dawnLife).dawnEdge taps).setFld F.DSK_DAWN_STATUS_step 11
  if strap = 1 then (s1.setFld F.SYS_ROLE_role 1).setFld F.SYS_ROLE_solo 1
  else if strap = 2 then s1.setFld F.SYS_ROLE_role 2
  else (s1.setWord Reg.SYS_ROLE 0).dawnHold 11 0x0002

/-! ## Step 13: what is loaded -/

/-- The lifecycle state at Dawn: KV NV's, never below the highest fuse (R143). -/
def State.lcDawn (s : State) : Nat :=
  let f := s.kv.fuses
  max s.kv.nvState (if f.testBit 2 then 4 else if f.testBit 1 then 2 else if f.testBit 0 then 1 else 0)

/-- The vault loads its slots, its state and the serial, and completes a pending transition (R145, R147, R150). -/
def State.dawnVault (s : State) : State :=
  let s1 := (s.onKv (fun k => { k with loaded := true })).setFld F.KV_LC_state s.lcDawn
  let s2 := (s1.setWord Reg.KV_SERIAL_LO (w32 s1.kv.serial)).setWord Reg.KV_SERIAL_HI (w32 (s1.kv.serial / 2 ^ 32))
  let id := Config.sha256 (s2.key 0).pub
  let s3 := (List.range 8).foldl (fun t n => t.setFld (F.KV_DIK_IDn_id n) (leNat ((id.drop (4 * n)).take 4))) s2
  ((s3.kvShow).tapFollow).lcResume

/-- The metrology block's user layer (R371). -/
def State.dawnMtr (s : State) : State :=
  match newestCopy s.mtr.copies with
  | some (i, c) =>
    let older := match s.mtr.copies.getD (1 - i) none with | some o => !o.sound | none => false
    let s1 := s.mtrLoad c.words
    if older then s1.logMetro 4 1 c.seq none else s1
  | none => ((s.setFld F.MTR_STATUS_user_default 1).logMetro 4 2 0 none).foundFault 0x0A02

/-- The earth-fault block's settings (R322). -/
def State.dawnEfm (s : State) : State :=
  let s1 := match newestCopy s.efm.copies with
    | some (_, c) => s.efmLoad c.words
    | none => s.setFld F.EFM_STATUS_cfg_default 1
  s1.efmNvShow

/-- The billing settings record (R408). -/
def State.dawnBil (s : State) : State :=
  match newestCopy s.bil.copies with
  | some (_, c) => s.bilLoad c.words
  | none => s

/-! ## Step 13: save recovery (R93, R408, R402) -/

/-- Accumulators, credit and tariff state restored from an image (R93, R407). -/
def State.restoreImage (s : State) (l : List Byte) : State :=
  let sets := (List.range 4).map (fun n =>
    { (default : MtrSet) with acc := (List.range 8).map (fun i => imgAt l (0x20 + 64 * n + 8 * i) 8 * 2 ^ 32) })
  let s1 := (s.onMtr (fun m => { m with sets := sets })).onBil (fun b =>
    { b with credit := sgn 64 (imgAt l 0x1A0 8), residue := imgAt l 0x1A8 4, topSeq := imgAt l 0x1D0 4,
             pstate := (List.range 8).map (fun i => w32 (imgAt l (0x1B0 + 4 * i) 4)) })
  (s1.setBit F.BIL_PP_STATUS_exhausted ((imgAt l 0x1AC 1).testBit 0)).setBit F.BIL_PP_STATUS_low ((imgAt l 0x1AC 1).testBit 1)

/-- A record open in the image closes at the freeze with POWER_LOSS in the slot reserved for its number; its signature follows Dawn (R93, R408). -/
def State.recoverRecord (s : State) (l : List Byte) (kind rate : Nat) (r : OpenRec) : State :=
  match (List.range 8).find? (fun i => (s.bil.slots.getD i {}).state = 1 && (s.bil.slots.getD i {}).num = r.num) with
  | none => s
  | some i =>
    let flags := ((r.flags ||| 128) ||| (if s.fld F.NJD_TAMPER_STATUS_latch ≠ 0 then 4 else 0) ||| (if imgAt l 0x18 1 = 1 then 2 else 0)) % 256
    let body := s.recordBody kind 2 flags (imgAt l 8 8) (imgAt l 0x10 4) rate r absentAmount
    s.onSlot i (fun _ => { state := 2, num := r.num, body := body, amountFrom := if kind = 2 then some 0 else none })

/-- The records open in an image are closed, the other reserved slots freed (R93, R408). -/
def State.recoverRecords (s : State) (l : List Byte) : State :=
  let set := s.billed
  let int : OpenRec :=
    { num := imgAt l 0x120 4, era := imgAt l 0x124 4, start := imgAt l 0x128 8, planned := imgAt l 0x130 8, wall := imgAt l 0x138 4,
      rate := imgAt l 0x13C 1, flags := imgAt l 0x13D 1, a0 := imgAt l 0x140 8, b0 := imgAt l 0x148 8, slot := 0, set := set }
  let ses : OpenRec :=
    { num := imgAt l 0x150 4, era := imgAt l 0x154 4, start := imgAt l 0x158 8, wall := imgAt l 0x160 4, flags := imgAt l 0x164 1,
      a0 := imgAt l 0x170 8, b0 := imgAt l 0x178 8, slot := 0, set := set }
  let s1 := if imgAt l 0x13E 1 = 1 then s.recoverRecord l 1 int.rate int else s
  if imgAt l 0x165 1 ≠ 0 then s1.recoverRecord l 2 (imgAt l 0x1AD 1) ses else s1

/-- The demand windows that ended at the freeze are evaluated (R402). -/
def State.recoverDemand (s : State) (l : List Byte) : State :=
  (List.range 8).foldl (fun t i =>
    let d := t.bil.demand.getD i {}
    if d.en then t.demandIs i (demandOf (imgAt l (0x180 + 4 * i) 4 * 1000 * energyDen) d.w) (imgAt l 0x10 4) else t) s

/-- The end values of the newest closed record of a kind, as the next record's gap_before compares them (Table BIL-1). -/
def lastEnd (slots : List RecSlot) (kind : Nat) : Option (Nat × Nat × Nat × Nat) :=
  let mine := slots.filter (fun r => 2 ≤ r.state && r.state ≤ 4 && leNat ((r.body.drop 5).take 1) = kind)
  let best := mine.foldl (fun (m : Option RecSlot) r => match m with
    | some k => if k.num < r.num then some r else m
    | none => some r) none
  best.map (fun r => (leNat ((r.body.drop 0x30).take 8), leNat ((r.body.drop 0x38).take 8), leNat ((r.body.drop 0x50).take 1) % 4,
    leNat ((r.body.drop 0x20).take 8)))

/-- Reserved slots without an open record become FREE (R408). -/
def State.freeReserved (s : State) : State :=
  s.onBil (fun b => { b with slots := b.slots.map (fun r => if r.state = 1 then {} else r) })

/-- Billing at step 13 (R93, R402, R408). -/
def State.recoverBilling (s : State) (c : Option SaveImg) : State :=
  let s1 := match c with
    | some i => ((s.restoreImage i.bytes).recoverRecords i.bytes).recoverDemand i.bytes
    | none => s
  let s2 := s1.freeReserved
  s2.onBil (fun b => { b with lastInt := lastEnd b.slots 1, lastSes := lastEnd b.slots 2 })

/-- The faults of save recovery (R93, Table DSK-9). -/
def State.recoverFaults (s : State) (c : Option SaveImg) : State :=
  match c with
  | none => if s.nj.saveSeq = 0 then s else (s.foundFault 0x1104).onBil (fun b => { b with noSave := true })
  | some i =>
    let ck := decide (imgAt i.bytes 0x18 1 = 1)
    let s1 := s.setBit F.DSK_STATUS_from_ckpt ck
    let lost := s.fld F.DSK_CAUSE_cause ≤ 1 && !s.dsk.warned
    let s2 := if lost then s1.foundFault (if s.dsk.begun then 0x1102 else 0x1101) else s1
    if ck || lost then s2.setFld F.DSK_STATUS_gap 1 else s2

/-- The POWER entry and the registers of the candidate (R93). -/
def State.recoverLog (s : State) (c : Option SaveImg) : State :=
  let l := match c with | some i => i.bytes | none => []
  let mt := imgAt l 8 8
  let s1 := ((s.setWord Reg.DSK_SAVE_SEQ (w32 (imgAt l 4 4))).setWord Reg.DSK_SAVE_MT_LO (w32 mt)).setWord Reg.DSK_SAVE_MT_HI (w32 (mt / 2 ^ 32))
  if s.dsk.powerLogged then s1
  else (s1.onDsk (fun d => { d with powerLogged := true })).log ⟨0, s.fld F.DSK_CAUSE_cause, imgAt l 0x18 1, imgAt l 4 4, none, some mt⟩

/-- Step 13 (R93, R99, R306). -/
def State.dawnRecover (s : State) : State :=
  let c := s.candidate
  let s1 := (s.dawnVault.dawnEfm).setBit F.DSK_CAUSE_warned s.dsk.warned
  let s2 := if s.isManager then (s1.dawnMtr.dawnBil).recoverBilling c else s1
  let s3 := ((s2.recoverFaults c).recoverLog c).lockShow
  let s4 := if s3.dsk.shortDue then (s3.foundFault 0x1103).onDsk (fun d => { d with shortDue := false }) else s3
  s4.setFld F.DSK_DAWN_STATUS_step 13

/-- Steps 12 and 13, once the seal reading is accepted or given up (R92). -/
def State.dawnSealed (s : State) : State := ((s.sealPost).setFld F.DSK_DAWN_STATUS_step 12).dawnRecover

/-! ## Steps 14 and 15 -/

/-- The fault of step 14, 0 where R94 holds. -/
def State.bootFault (s : State) (r : ActRec) : Nat :=
  let base := slotBase r.slot
  let h := s.readBytes base 256
  let ok := headerOk h base && u h 8 4 = r.set && s.roleOk h &&
    decide (Config.sha384 (s.readBytes base (u h 0x18 4)) = (if r.slot = 0 then r.digA else r.digB))
  if !ok then 0x0003 else if u h 0x10 4 < r.ctrs.getD (u h 0x14 4) 0 then 0x0004 else 0

/-- The safety image copied, the rest of safety SRAM and system SRAM zero-filled (R94, Table DSK-1). -/
def State.bootCopy (s : State) (r : ActRec) : State :=
  let base := slotBase r.slot
  let h := s.readBytes base 256
  let image := s.readBytes (base + u h 0x20 4) (u h 0x24 4)
  let m := s.mem.filter (fun p => !(0x20000000 ≤ p.1 && p.1 < 0x20200000) && !(0x30000000 ≤ p.1 && p.1 < 0x30040000))
  ({ s with mem := m, cpu := { s.cpu with eccBad := [], eccOne := [] } }.writeBytes 0x30000000 image).setFld F.CPU_SFC_CTRL_code_limit (u h 0x28 4)

/-- The connection entries at Dawn (R343): consumers OPENING, producers in RUN from seq 0, all IDLE without a valid set. -/
def connDawn (t : SafSet) (valid : Bool) : List Conn :=
  (List.range 64).map (fun c => { state := if !valid || !t.connEn c then 0 else if t.producer c then 2 else 1 })

/-- A held group is LOCKED_ACTIVE or LOCKED_CLEAR as its causes stand (R306). -/
def groupsAt (l : List Grp) (live : DWord) : List Grp :=
  l.map (fun k => if k.state = 0 then k else { k with state := if k.causes &&& live = 0 then 2 else 1 })

/-- Step 15: the sealed set, or source 54 with SYS_PARAM_BAD; the trip network takes over (R96, R99, R299, R306). -/
def State.dawnSafety (s : State) : State :=
  let c := s.bestCopy
  let s1 := match c with
    | some k => ((s.loadSealed k.others).sealShow k).onSaf (fun f => { f with staged := k.set })
    | none => (s.foundFault 0x0005).onSaf (fun f => { f with live := f.live ||| (1#64 <<< 54) })
  let s2 := s1.onSaf (fun f =>
    { f with armed := true, groups := groupsAt f.groups f.live, quietFrom := List.replicate 64 s1.mt, lowFrom := some s1.mt,
             conns := connDawn f.eff c.isSome })
  let s3 := if s.isManager then s2 else s2.setFld F.STF_NODE_post 0
  let s4 := if s.isManager && s3.postNo ≠ 0 then (s3.setNode (16 * s3.postNo)).setFld F.STF_STATUS_post_src 1 else s3
  ((List.range 57).foldl (fun t n => if t.srcLive n then t.latch n (t.saf.eff.mask n) else t) s4).lockShow

/-! ## Steps 16 and 17 -/

/-- The SFC, then CC0, start; every core as R68 and R87 say. -/
def State.dawnCores (s : State) (entry : Nat) : State :=
  let cores := (List.range 5).map (fun n =>
    let k := Core.reset n
    if n = 0 then { k with running := true, started := true, pc := w32 entry }
    else if n = 4 then { k with running := true, started := true, pc := 0x30000000#32 } else k)
  let base : Cpu := {}
  let t := { s with cpu := { base with cores := cores, tmonFrom := s.mt, stestFrom := s.mt } }
  (t.setFld F.CPU_STATUS_cc_running 1).setFld F.CPU_STATUS_sfc_running 1

/-- The fault register of a fault found during Dawn. -/
def foundReg (code : Nat) : Option Nat :=
  match code / 256 with
  | 0x0A => some Reg.MTR_FAULT
  | 0x0C => some Reg.NJD_FAULT
  | 0x0F => some Reg.RBN_FAULT
  | 0x01 => none
  | _ => some Reg.DSK_FAULT

/-- Faults found during Dawn are reported through EVT_NJD once CC0 runs (R107); those of the tag side with them (R281). -/
def State.reportFound (s : State) : State :=
  let l := s.dsk.found ++ (if s.nj.reportLost then [0x0C06] else []) ++ (if s.isManager then s.rbn.late else [])
  let s1 := l.foldl (fun t c => t.fault c (foundReg c)) s
  let s2 := if l.isEmpty then s1 else s1.njEvent
  { s2 with dsk := { s2.dsk with found := [] }, nj := { s2.nj with reportLost := false },
            rbn := { s2.rbn with late := if s.isManager then [] else s2.rbn.late } }

/-- Billing starts (R397, R408, R411). -/
def State.bilStart (s : State) : State :=
  if !s.isManager then s
  else
    let s1 := (s.evalRate).2.onBil (fun b => { b with slots := b.slots.map (fun r => { r with amountFrom := r.amountFrom.map (fun _ => s.mt) }) })
    (List.range 8).foldl (fun t i =>
      let r := t.bil.slots.getD i {}
      if r.state = 2 && r.amountFrom.isNone && !r.signing then t.signSubmit i else t) s1

/-- Dawn is complete (R68, R108, Table DSK-10). -/
def State.dawnFinish (s : State) (entry : Nat) : State :=
  let s1 := ((s.dawnCores entry).setFld F.DSK_DAWN_STATUS_step 17).setFld F.DSK_DAWN_STATUS_done 1
  let t := s1.roundFree ((s1.mt - s1.dsk.dawnFrom : Nat) : Int) usTicks
  let s2 := (t.2.setWord Reg.DSK_DAWN_TIME (w32 t.1.toNat)).onDsk (fun d => { d with begun := false, warned := false, ckptAt := s1.mt })
  let s3 := if s2.isWorker && s2.pwr.ssLock then s2.setPwrState 5 else s2
  let s4 := { s3 with hsp := { s3.hsp with heardAt := s3.mt } }
  let s5 := if s4.isManager then (s4.setPilot .high).pilotUpdate else s4
  ((allPorts.foldl (fun u p => u.trainStart p) s5).bilStart).reportFound

/-- Steps 14 to 17 (R94 to R96). -/
def State.dawnBoot (s : State) : State :=
  match s.bootRec with
  | none => s.dawnHold 13 0x0003
  | some r =>
    let h := s.readBytes (slotBase r.slot) 256
    let s1 := (s.setFld F.DSK_BOOT_slot r.slot).setWord Reg.DSK_ACTIVE_SET (w32 r.set)
    let f := s1.bootFault r
    if f ≠ 0 then s1.dawnHold 13 f
    else
      let s2 := (s1.setFld F.DSK_BOOT_ctr_index (u h 0x14 4)).setFld F.DSK_BOOT_version_lo (u h 0x10 4 % 65536)
      ((s2.bootCopy r).dawnSafety).dawnFinish (u h 0x1C 4)

end Sys2Proof.Machine
end

