-- ==== Sys2Proof/Machine/Dsk.lean ====
section
/-! DEFINITION. The commands of Dawn, Dusk and the resets (05_dawn_dusk_reset.md). -/

namespace Sys2Proof.Machine

open Sys2Proof

/-! ## Power and Dawn (R88 to R97) -/

/-- Power-on reset releases (R88): the machine starts at Dawn step 2. -/
def execPorRelease (s : State) : Host.Outcome State Fault Refusal :=
  .next (if s.dsk.off || s.fld F.DSK_DAWN_STATUS_step = 0 then s.hardReset 0 else s)

/-- The hold-up from the warning to BOR, in 1/32,768 s, with its judgement against 2 ms (R106, DSK_HOLDUP_SHORT). -/
def State.holdupTaken (s : State) : State :=
  match s.nj.holdupFrom with
  | none => s
  | some c =>
    let n := min (s.nj.wallSec * 32768 + s.nj.wallSub - c) 65535
    let short := decide (n * 1000 < 2 * 32768)
    let s1 := ((s.setFld F.DSK_HOLDUP_holdup n).setFld F.DSK_HOLDUP_valid 1).setBit F.DSK_HOLDUP_short short
    { s1 with nj := { s1.nj with holdupFrom := none }, dsk := { s1.dsk with shortDue := s1.dsk.shortDue || short } }

/-- Brownout reset (R88); with the powered side already off, only the hold-up measurement ends (R106). -/
def execBrownoutReset (s : State) : Host.Outcome State Fault Refusal :=
  .next (if s.fld F.DSK_DAWN_STATUS_step = 0 then s else if s.dsk.off then s.holdupTaken else (s.holdupTaken).hardReset 1)

/-- VSUP_MON has been above the clear level for clear_delay (R90): steps 3 to 6. `otpOk` is the check of step 5, `calBad` the metrology channels
whose factory record fails its check (SYS_CAL_BAD), `sensorBad` the tamper sensors 4 to 6 that fail. -/
def State.dawnSupply (s : State) (otpOk : Bool) (calBad sensorBad : Nat) : State :=
  let s1 := ((s.setFld F.DSK_STATUS_vsup_ok 1).setFld F.SYS_SUPPLY_buck_run 1)
  let s2 := { s1 with nj := { s1.nj with isolated := false } }
  if !otpOk then s2.dawnHold 4 0x0001
  else
    let s3 := s2.onMtr (fun m => { m with otp := (List.range 8).map (fun ch => { m.otp.getD ch {} with ok := !calBad.testBit ch }) })
    let s4 := if calBad = 0 then s3 else s3.foundFault 0x0006
    let s5 := ((List.range 3).filter (fun i => sensorBad.testBit i)).foldl (fun t i => (t.tamperAssert (4 + i) 0).foundFault 0x0C07) s4
    s5.setFld F.DSK_DAWN_STATUS_step 6

/-- DAWN_SUPPLY_READY (R90). -/
def execDawnSupplyReady (otpOk : Bool) (calBad sensorBad : Nat) (s : State) : Host.Outcome State Fault Refusal :=
  .next (if !s.dsk.off && !s.inHold && !s.dawnDone && s.fld F.DSK_DAWN_STATUS_step = 2 then
    ((s.setFld F.DSK_STATUS_warn 0).setFld F.SYS_POST_STATUS_dusk_warn 0).dawnSupply otpOk calBad sensorBad else s)

/-- The crystal has started (R90): steps 7 to 11, with the tap counts of the 24 lines and STRAP_ROLE[1:0]. -/
def execXtalMtStarted (taps : List Nat) (strap : Nat) (s : State) : Host.Outcome State Fault Refusal :=
  .next (if s.dawnAt 6 then s.dawnClock taps strap else s)

/-- The crystal has not started within 5 ms (R47). -/
def execXtalStartTimeout (s : State) : Host.Outcome State Fault Refusal :=
  .next (if s.dawnAt 6 then s.dawnHold 6 0x0101 else s)

/-- A sample of the Dawn seal scan; three that agree are an accepted reading of Nightjar too (R92, R121). -/
def execDawnSealSample (sw : Nat) (loop : Bool) (s : State) : Host.Outcome State Fault Refusal :=
  .next (if s.dawnAt 11 then
    let s1 := s.onNj (fun k => { k with dawnSeal := ((sw, loop) :: k.dawnSeal).take 3 })
    if s1.nj.dawnSeal = List.replicate 3 (sw, loop) then
      let s2 := ((s1.setFld F.NJD_SEAL_raw sw).setBit F.NJD_SEAL_loop_raw loop).onNj (fun k =>
        { k with sealScanned := true, sealFallback := false, dawnSeal := [] })
      ((s2.acceptSw sw).acceptLoop loop).dawnSealed
    else s1
  else s)

/-- The samples do not agree within 2 ms (R92). -/
def execDawnSealTimeout (s : State) : Host.Outcome State Fault Refusal :=
  .next (if s.dawnAt 11 then (s.onNj (fun k => { k with sealFallback := true, dawnSeal := [] })).dawnSealed else s)

/-- The verification of the active slot ends (R94). -/
def execBootVerifyDone (s : State) : Host.Outcome State Fault Refusal :=
  .next (if s.dawnAt 13 then s.dawnBoot else s)

/-! ## Resets (R98, R456) -/

/-- RESET_N low for at least 10 µs (R98). -/
def execExtReset (s : State) : Host.Outcome State Fault Refusal := .next (if s.fld F.DSK_DAWN_STATUS_step = 0 then s else s.resetRequest 3)

/-- A write to DSK_RESET (R456, Table DSK-4): the keys 0x0000_A5A5 and 0x0000_5A5A by one initiator within 1 ms; ignored during Dusk. -/
def State.wrDskReset (s : State) (who : Init) (v : Word) : State :=
  if s.duskWarn || s.dsk.saving.isSome then s
  else if v = 0x0000A5A5#32 then s.onDsk (fun d => { d with swKey := some (who, s.mt) })
  else
    let s1 := s.onDsk (fun d => { d with swKey := none })
    match s.dsk.swKey with
    | some (w, t) => if v = 0x00005A5A#32 && w = who && s.mt ≤ t + msTicks then s1.resetRequest 4 else s1
    | none => s1

/-- DSK_RESET (R456). -/
def execDskReset (who : Init) (v : Word) (s : State) : Host.Outcome State Fault Refusal :=
  .next (s.port who Reg.DSK_RESET (fun t => t.wrDskReset who v))

/-- A reset instruction through the test access port, where the lifecycle state opens it (Table KV-8). -/
def execTapReset (s : State) : Host.Outcome State Fault Refusal :=
  .next (if s.fld F.DSK_DAWN_STATUS_step ≠ 0 && s.is F.KV_TAP_session && 1 < s.kv.tapLevel then s.resetRequest 6 else s)

/-- The reset save completes and the reset takes effect (R98). -/
def execResetSaveDone (s : State) : Host.Outcome State Fault Refusal :=
  .next (match s.dsk.saving with
  | some r => if r.kind = 2 then s else ((s.saveFreeze).saveCommit).hardReset r.kind
  | none => s)

/-! ## Dusk (R101 to R106) -/

/-- The warning shows (R101). -/
def State.warnSet (s : State) (on : Bool) : State :=
  (((s.setBit F.DSK_STATUS_warn on).setBit F.DSK_STATUS_vsup_ok (!on)).setBit F.SYS_POST_STATUS_dusk_warn on).setBit F.HSP_ATTN_dusk (on || s.is F.HSP_ATTN_dusk)

/-- The Dusk warning asserts (R101): a Dusk save, in Dawn a return to step 3 (Table DSK-8), in the Dawn hold the flags alone. -/
def execDuskWarning (s : State) : Host.Outcome State Fault Refusal :=
  .next (if s.dsk.off || s.duskWarn || s.fld F.DSK_DAWN_STATUS_step < 3 then s
    else
      let s1 := s.warnSet true
      if s1.inHold then s1
      else if s1.dawnDone then
        let s2 := s1.onNj (fun k => { k with holdupFrom := some (k.wallSec * 32768 + k.wallSub) })
        if s2.dsk.saving.isSome then s2.pilotUpdate else s2.saveBegin 2
      else
        let s2 := { s1 with tmk := { s1.tmk with mtRun := false } }
        s2.setFld F.DSK_DAWN_STATUS_step 2)

/-- VSUP_MON is above the clear level again; a save already begun still completes (R101, R105). -/
def execDuskWarningClear (s : State) : Host.Outcome State Fault Refusal :=
  .next (if s.dsk.off || !s.duskWarn then s else (s.warnSet false).pilotUpdate)

/-- 100 µs after step 3 the accumulators freeze and the save body is written (R102). -/
def execDuskFreeze (s : State) : Host.Outcome State Fault Refusal :=
  .next (match s.dsk.saving with
  | some r => if r.bank.isNone && (!s.tmk.mtRun || 100 * usTicks ≤ s.mt - r.from_) then s.saveFreeze else s
  | none => s)

/-- The Dusk save commits, Nightjar is isolated, and a DUSK reset follows where VDD33 is still up (R105, R106). -/
def execDuskSaveDone (vddUp : Bool) (s : State) : Host.Outcome State Fault Refusal :=
  .next (match s.dsk.saving with
  | some r =>
    if r.kind = 2 && r.bank.isSome then
      let s1 := (s.saveCommit).count F.DSK_COUNT_dusks
      let s2 := s1.onNj (fun k => { k with isolated := true })
      if vddUp then (s2.onNj (fun k => { k with holdupFrom := none })).hardReset 2
      else s2.onDsk (fun d => { d with off := true })
    else s
  | none => s)

/-! ## Checkpoints (R104) -/

/-- A checkpoint is due and begins: its number first, then its snapshot; the slot it goes to holds no valid image meanwhile (R103, R104). -/
def execCheckpoint (s : State) : Host.Outcome State Fault Refusal :=
  .next (if s.dawnDone && !s.dsk.off && s.is F.DSK_CTRL_ckpt_en && s.tmk.mtRun && s.dsk.saving.isNone && s.dsk.ckpt.isNone &&
      s.dsk.ckptAt + s.fld F.DSK_CKPT_CFG_period * secTicks ≤ s.mt then
    let n := s.saveNumber
    let i := n.2.saveImage n.1 1
    (i.2.onDsk (fun d => { d with ckpt := some i.1, ckptAt := s.mt, ckpts := upd d.ckpts d.ckptNext (fun _ => none) })).setFld F.DSK_STATUS_ckpt_busy 1
  else s)

/-- A checkpoint write ends: committed, or failed with DSK_CKPT_FAIL; the next one uses the following slot (R104, Table DSK-9). -/
def execCheckpointDone (good : Bool) (s : State) : Host.Outcome State Fault Refusal :=
  .next (match s.dsk.ckpt with
  | none => s
  | some b =>
    let i : SaveImg := ⟨b, if good then commitWord (imgAt b 4 4) else 0⟩
    let s1 := (s.onDsk (fun d =>
      { d with ckpt := none, ckpts := upd d.ckpts d.ckptNext (fun _ => some i), ckptNext := (d.ckptNext + 1) % 8 })).setFld F.DSK_STATUS_ckpt_busy 0
    if good then s1 else (s1.count F.DSK_COUNT_ckpt_fail).dskFault 0x1105)

/-! ## Registers (Table DSK-12) -/

/-- A write to a DSK register without a row of its own (Table DSK-12, R5). -/
def State.wrDsk (s : State) (a : Nat) (v : Word) : State :=
  if a = Reg.DSK_WARN_CFG || a = Reg.DSK_CKPT_CFG then
    let r := s.wrCols (colsOf a) v (fun _ _ => true)
    if r.refused then ((r.finish a none).setFld F.DSK_FAULT_code 0).setFld F.DSK_FAULT_valid 1 else r.finish a none
  else s.wrPlain a v

end Sys2Proof.Machine
end

