-- ==== Sys2Proof/Machine/Mtr.lean ====
section
/-! DEFINITION. The commands of the metrology block (18_metrology.md). -/

namespace Sys2Proof.Machine

open Sys2Proof

/-! ## Samples (R368, R369, R373, R381) -/

/-- What one sample instant brings: for each channel the input code behind the delay filter of step 3, the DC part of x that its high-pass filter
removes, x shifted by −90° (both over valueDen), and the channels whose modulator has failed (assumption 16). -/
structure SampleIn where
  u : List Int
  dc : List Int
  v90 : List Int
  bad : Nat

/-- The calibrated value of a channel at a sample (R369): 0 where it gives no sample or its modulator has failed. -/
def State.sampleX (s : State) (i : SampleIn) (ch : Nat) : Int :=
  if !s.chSettled ch || i.bad.testBit ch then 0
  else s.calX ch (i.u.getD ch 0) - (if s.is (F.MTR_CH_CFG_hpf ch) then i.dc.getD ch 0 else 0)

/-- The active and the reactive product of an element (R373). -/
def State.samplePQ (s : State) (i : SampleIn) (x : List Int) (e : Nat) : Int × Int :=
  if !s.is (F.MTR_ELEM_en e) then (0, 0)
  else
    let v := s.fld (F.MTR_ELEM_v e)
    let c := x.getD (s.fld (F.MTR_ELEM_i e)) 0
    (x.getD v 0 * c, if s.is (F.MTR_CH_CFG_hpf v) && s.chSettled v && !i.bad.testBit v then i.v90.getD v 0 * c else 0)

/-- A sample of 0.49 V or more (R367). -/
def clips (u : Int) : Bool := 49 * 2 ^ 24 ≤ u.natAbs * 100

/-- The clip state of a channel judged: the start is flagged, counted, logged and raised, the end is logged (Tables MTR-1, MTR-8, MTR-9). -/
def State.judgeClip (s : State) (u : Int) (ch : Nat) : State :=
  let now := s.chSettled ch && clips u
  let was := s.fldBit F.MTR_CLIP_live ch
  if now = was then s
  else if now then
    let s1 := ((s.setFldBit F.MTR_CLIP_live ch true).setFldBit F.MTR_CLIP_seen ch true).count F.MTR_CLIP_count
    ((s1.logMetro 5 (ch + 256) (s1.fld F.MTR_CLIP_count) none).mtrFault 0x0A01).mtrEvent F.MTR_EVT_clip
  else (s.setFldBit F.MTR_CLIP_live ch false).logMetro 5 ch (s.fld F.MTR_CLIP_count) none

/-- The modulator of a channel judged: MTR_CH_FAIL once until it recovers (Table MTR-9). -/
def State.judgeChannel (s : State) (bad : Bool) (ch : Nat) : State :=
  let on := s.fldBit F.MTR_CTRL_ch_en ch
  let s1 := s.setFldBit F.MTR_STATUS_ch_ok ch (s.chSettled ch && !bad)
  if on && bad && !s1.mtr.chBad.getD ch false then (s1.onMtr (fun m => { m with chBad := upd m.chBad ch (fun _ => true) })).mtrFault 0x0A07
  else if !bad then s1.onMtr (fun m => { m with chBad := upd m.chBad ch (fun _ => false) })
  else s1

/-- The sample words of a capture frame (R381): u4 in input codes; out of 24 bits the spec states no value. -/
def State.frameWords (s : State) (i : SampleIn) : List Nat → List Word × State
  | [] => ([], s)
  | ch :: chs =>
    let r := if s.chSettled ch && !i.bad.testBit ch then s.roundFree (s.u4 ch (i.u.getD ch 0)) (10 ^ 21) else (0, s)
    let c := if -8388608 ≤ r.1 ∧ r.1 < 8388608 then (unsgn 24 r.1, r.2) else r.2.takeFree 24
    let t := c.2.frameWords i chs
    (w32 (c.1 + 2 ^ 24 * ch) :: t.1, t.2)

/-- The frame of a sample instant in a capture unit (R382). -/
def State.capSample (s : State) (i : SampleIn) (u : Nat) : State :=
  let st := s.fld (F.MTR_CAPu_STATUS_state u)
  if st ≠ 1 && st ≠ 2 then s
  else
    let r := s.frameWords i ((List.range 8).filter (fun ch => s.fldBit (F.MTR_CAPu_CFG_mask u) ch))
    if st = 1 then r.2.onCap u (fun k => { k with hist := (r.1 :: k.hist).take 256 })
    else
      let s1 := r.2.capFrame u r.1
      if s1.fld (F.MTR_CAPu_CFG_mode u) = 1 then s1
      else
        let s2 := s1.onCap u (fun k => { k with left := k.left - 1 })
        if (s2.cap u).left = 0 then ((s2.capFlush u).setFld (F.MTR_CAPu_STATUS_state u) 3).mtrEvent F.MTR_EVT_cap else s2

/-- Sampling runs: the block works, ICG-M is locked and meter time counts (R368, Table MTR-8). -/
def State.sampling (s : State) : Bool := s.mtrOn && s.icgLocked 1 && s.tmk.mtRun && !s.is F.MTR_STATUS_frozen

/-- A sample instant: every 3,125 ticks of meter time (R368). -/
def execMtrSample (u dc v90 : List Int) (bad : Nat) (s : State) : Host.Outcome State Fault Refusal :=
  .next (if !s.sampling || s.mt % 3125 ≠ 0 then s
  else
    let i : SampleIn := ⟨u, dc, v90, bad⟩
    let s1 := (List.range 8).foldl (fun t ch => (t.judgeChannel (bad.testBit ch) ch).judgeClip (u.getD ch 0) ch) s
    let x := (List.range 8).map (s1.sampleX i)
    let pq := [0, 1, 2, 3].map (s1.samplePQ i x)
    let add := fun (l m : List Int) => List.zipWith (fun a b => a + b) l m
    let s2 := s1.onMtr (fun m =>
      { m with vals := x, sumX := add m.sumX x, sumXX := add m.sumXX (x.map (fun a => a * a)), sumP := add m.sumP (pq.map (·.1)),
               sumQ := add m.sumQ (pq.map (·.2)), sumN := m.sumN + 1 })
    let s3 := [0, 1, 2, 3].foldl (fun t n =>
      if (t.mset n).live then
        let es := t.setElems n
        let tot := fun (f : Int × Int → Int) => (es.map (fun e => f (pq.getD e (0, 0)))).sum
        t.onSet n (fun k => { k with p := k.p + tot (·.1), q := k.q + tot (·.2), n := k.n + 1 })
      else t) s2
    let s4 := [0, 1].foldl (fun t c => t.capSample i c) s3
    let clip := ((List.range 8).filter (fun ch => s4.chSettled ch && clips (u.getD ch 0))).foldl (fun m ch => m + 2 ^ ch) 0
    if clip = 0 then s4 else s4.capTriggerAll 2 3 clip)

/-! ## Step and second (R375, R463, R370) -/

/-- A set begins its first step at a boundary where it is enabled and its channels have settled (R386). -/
def State.startSets (s : State) : State :=
  if !s.sampling then s
  else [0, 1, 2, 3].foldl (fun t n =>
    if t.setEn n && !(t.mset n).live && t.setSettled n then t.onSet n (fun k => { k with live := true, p := 0, q := 0, n := 0 }) else t) s

/-- A 25,000-tick boundary (R463): the sets accumulate, gaps end, sets begin, then the billing work of the boundary is done. -/
def execAccumulationStep (s : State) : Host.Outcome State Fault Refusal :=
  .next (if !s.mtrOn || !s.tmk.mtRun || s.mt % msTicks ≠ 0 || s.mtr.lastStep = s.mt || s.is F.MTR_STATUS_frozen then s
  else
    let s1 := [0, 1, 2, 3].foldl (fun t n => if (t.mset n).live then t.closeStep n else t) s
    let s2 := if s1.sampling && s1.mtr.gapFrom.isSome then (s1.mtrGapEnd).recordFlags 2 2 else s1
    let s3 := (s2.startSets).onMtr (fun m => { m with lastStep := s.mt })
    (s3.bilBoundary).onMtr (fun m => { m with sets := m.sets.map (fun k => { k with lastP := 0 }) }))

/-- The one-second value of a channel: RMS with the high-pass filter, otherwise the mean, in 0.001 units (Table MTR-11). -/
def State.chValue (s : State) (ch : Nat) : Int × State :=
  let n : Int := (max 1 s.mtr.sumN : Nat)
  if s.is (F.MTR_CH_CFG_hpf ch) then
    let sq := (s.mtr.sumXX.getD ch 0 * 1000000).toNat / ((n * valueDen * valueDen).toNat)
    let r := isqrt sq
    let b := s.takeFree 1
    (((if r * r = sq && (s.mtr.sumXX.getD ch 0 * 1000000) % (n * valueDen * valueDen) = 0 then r else r + b.1 : Nat)), b.2)
  else s.roundFree (s.mtr.sumX.getD ch 0 * 1000) (n * valueDen).toNat

/-- The second ends: temperature, effective calibration, channel values, element means, line frequency (R369, R370, R373). -/
def execMtrSecond (temp : Int) (mhz : Nat) (s : State) : Host.Outcome State Fault Refusal :=
  .next (if !s.mtrOn then s
  else
    let n : Int := (max 1 s.mtr.sumN : Nat)
    let s1 := (List.range 8).foldl (fun t ch =>
      let v := t.chValue ch
      let f := v.2.fit32 v.1
      f.2.setWord (Reg.MTR_CH0_VAL + 4 * ch) (w32 f.1)) s
    let mean := fun (t : State) (sum : Int) (a : Nat) =>
      let v := t.roundFree sum (n * valueDen * valueDen).toNat
      let f := v.2.fit32 v.1
      f.2.setWord a (w32 f.1)
    let s2 := [0, 1, 2, 3].foldl (fun t e =>
      mean (mean t (s.mtr.sumP.getD e 0) (Reg.MTR_EL0_P + 4 * e)) (s.mtr.sumQ.getD e 0) (Reg.MTR_EL0_Q + 4 * e)) s1
    let s3 := s2.onMtr (fun m => { m with temp := temp, sumX := m.sumX.map (fun _ => 0), sumXX := m.sumXX.map (fun _ => 0),
                                          sumP := m.sumP.map (fun _ => 0), sumQ := m.sumQ.map (fun _ => 0), sumN := 0 })
    (((s3.setFld F.MTR_TEMP_t (temp + 64).toNat).setFld F.MTR_FREQ_mhz mhz).mtrEff).mtrEvent F.MTR_EVT_second)

/-! ## Sealed fields (R372) -/

/-- No enabled set uses a channel. -/
def State.chIdle (s : State) (ch : Nat) : Bool :=
  [0, 1, 2, 3].all (fun n => !s.setEn n ||
    [0, 1, 2, 3].all (fun e => !(s.fldBit (F.MTR_SET_MAP_el n) e) || !(s.fld (F.MTR_ELEM_v e) = ch || s.fld (F.MTR_ELEM_i e) = ch)))

/-- No enabled set has an element in its mask. -/
def State.elemIdle (s : State) (e : Nat) : Bool := [0, 1, 2, 3].all (fun n => !s.setEn n || !s.fldBit (F.MTR_SET_MAP_el n) e)

/-- The scope of a sealed field is idle (R372). -/
def State.mtrIdle (s : State) (c : Col) : Bool :=
  if c.reg = Reg.MTR_CH_CFG then s.chIdle (c.lo / 4)
  else if c.reg = Reg.MTR_ELEM then s.elemIdle (c.lo / 8)
  else if c.reg = Reg.MTR_SET_MAP then !s.setEn (c.lo / 4)
  else if c.reg = Reg.MTR_NL then !s.setEn (c.lo / 8)
  else if Reg.MTR_SET0_NOM ≤ c.reg && c.reg ≤ Reg.MTR_SET3_NOM then !s.setEn ((c.reg - Reg.MTR_SET0_NOM) / 4)
  else if c.reg = Reg.MTR_PULSE_CFG then !s.setEn (s.fld F.MTR_PULSE_CFG_set)
  else s.chIdle (s.fld F.MTR_CAL_SEL_ch)

/-- The channel or set of a METRO code 1 entry: that of the lowest field changed. -/
def State.mtrIndex (s : State) (a : Nat) (old new : Word) : Nat :=
  let low := ((List.range 32).find? (fun i => (old ^^^ new).getLsbD i)).getD 0
  if a = Reg.MTR_CH_CFG || a = Reg.MTR_SET_MAP then low / 4
  else if a = Reg.MTR_ELEM || a = Reg.MTR_NL then low / 8
  else if a = Reg.MTR_CTRL then low - 12
  else if Reg.MTR_SET0_NOM ≤ a && a ≤ Reg.MTR_SET3_NOM then (a - Reg.MTR_SET0_NOM) / 4
  else if a = Reg.MTR_PULSE_CFG then getBits new 1 0
  else s.fld F.MTR_CAL_SEL_ch

/-- The user-layer word of the selected channel behind an MTR_UCAL register. -/
def State.ucalWord (s : State) (a : Nat) : Word :=
  let u := s.user (s.fld F.MTR_CAL_SEL_ch)
  if a = Reg.MTR_UCAL_GAIN then w32 (unsgn 16 u.gain)
  else if a = Reg.MTR_UCAL_OFS then w32 (unsgn 16 u.ofs)
  else if a = Reg.MTR_UCAL_DLY then w32 (unsgn 16 u.dly)
  else w32 u.scale

/-- The register is one of MTR_UCAL. -/
def isUcal (a : Nat) : Bool := Reg.MTR_UCAL_GAIN ≤ a && a ≤ Reg.MTR_UCAL_SCALE

/-- The user-layer word of the selected channel replaced. -/
def State.setUcal (s : State) (a : Nat) (w : Word) : State :=
  s.onMtr (fun m => { m with user := upd m.user (s.fld F.MTR_CAL_SEL_ch) (fun u =>
    if a = Reg.MTR_UCAL_GAIN then { u with gain := sgn 16 w.toNat }
    else if a = Reg.MTR_UCAL_OFS then { u with ofs := sgn 16 w.toNat }
    else if a = Reg.MTR_UCAL_DLY then { u with dly := sgn 16 w.toNat }
    else { u with scale := w.toNat }) })

/-- An accepted write of sealed fields (R372): the older copy, read-back, then the effect with METRO code 1; a mismatch applies nothing and raises
MTR_NV. `t` is the state with the fields changed. -/
def State.mtrStore (s t : State) (a : Nat) (old new : Word) (good : Bool) : State :=
  let cp := writeCopy s.mtr.copies t.mtrWords good
  if good then
    let s1 := (t.onMtr (fun m => { m with copies := cp })).count F.MTR_UCAL_STATUS_writes
    let v := fun (i : Nat) => match cp.getD i none with | some c => c.sound | none => false
    let s2 := (s1.setBit F.MTR_UCAL_STATUS_copy_a (v 0)).setBit F.MTR_UCAL_STATUS_copy_b (v 1)
    ((s2.logMetro 1 (a % 4096 + 4096 * s.mtrIndex a old new) new.toNat (some s.mt)).mtrEff).mtrEvent F.MTR_EVT_cal
  else (s.onMtr (fun m => { m with copies := cp })).mtrFault 0x0A03

/-- A refused sealed write (R372). -/
def State.mtrRefused (s : State) (a : Nat) : State := (s.setFld F.MTR_STATUS_cfg_refused 1).logConfig 1 a

/-- A write to a register of sealed fields (R372); `good` is the read-back of the copy. -/
def State.wrMtrSealed (s : State) (a : Nat) (v : Word) (good : Bool) : State :=
  let old := if isUcal a then s.ucalWord a else s.word a
  let ch := s.fld F.MTR_CAL_SEL_ch
  let ok := fun (c : Col) (n : Nat) => s.mtrIdle c &&
    (if a = Reg.MTR_UCAL_DLY then ((s.factory ch).dly + sgn 16 n).natAbs ≤ 32767 else true)
  let r := (s.setWord a old).wrCols (colsOf a) v ok
  let new := r.st.word a
  let back := if isUcal a then (r.st.setWord a 0).setUcal a new else r.st
  let s1 := if r.changed then s.mtrStore back a old new good else s
  if r.refused then s1.mtrRefused a else s1

/-- A write to a sealed register of the block (R372). -/
def execMtrUserWrite (who : Init) (a : Nat) (v : Word) (good : Bool) (s : State) : Host.Outcome State Fault Refusal :=
  .next (if (mtrCopyRegs.contains a || isUcal a) && s.isManager then s.port who a (fun t => t.wrMtrSealed a v good) else s)

/-! ## MTR_CTRL, MTR_CMD, pulses, snapshots, captures -/

/-- The set enables replaced: each change appends METRO code 2; a set that stops adds its partial step (R376, Table MTR-8). -/
def State.wrSetEn (s : State) (v : Nat) : State :=
  [0, 1, 2, 3].foldl (fun t n =>
    let b := v.testBit n
    if b = t.setEn n then t
    else
      let t1 := if b then t else t.stopSet n
      (t1.setFldBit F.MTR_CTRL_set_en n b).logMetro 2 (n + 256 * bit b) (t1.accInt n 0 % 2 ^ 32) (some t1.mt)) s

/-- The channel enables replaced, or refused whole (R368). -/
def State.wrChEn (s : State) (v : Nat) : State :=
  let old := s.fld F.MTR_CTRL_ch_en
  let up := (List.range 8).filter (fun ch => v.testBit ch && !old.testBit ch)
  if up ≠ [] && (!s.icgLocked 1 || up.any (fun ch => !(s.factory ch).ok)) then s.setFld F.MTR_STATUS_cfg_refused 1
  else
    (s.setFld F.MTR_CTRL_ch_en v).onMtr (fun m => { m with chFrom := (List.range 8).map (fun ch =>
      if !v.testBit ch then none else if up.contains ch then some s.mt else m.chFrom.getD ch none) })

/-- The accumulation modes replaced: sealed, and idle with all accumulators 0 for each set that changes (R372). -/
def State.wrAccumMode (s : State) (v : Nat) (good : Bool) : State :=
  let old := s.fld F.MTR_CTRL_accum_mode
  let ok := [0, 1, 2, 3].all (fun n => v.testBit n = old.testBit n || (!s.setEn n && (List.range 8).all (fun a => s.accInt n a = 0)))
  if v = old then s
  else if s.metroEn && ok then
    let t := s.setFld F.MTR_CTRL_accum_mode v
    s.mtrStore t Reg.MTR_CTRL (s.word Reg.MTR_CTRL) (t.word Reg.MTR_CTRL) good
  else s.mtrRefused Reg.MTR_CTRL

/-- A write to MTR_CTRL: accumulation modes, channels, sets, event mask (R368, R372, R376). -/
def State.wrMtrCtrl (s : State) (v : Word) (good : Bool) : State :=
  (((s.wrAccumMode (getBits v 15 12) good).wrChEn (getBits v 7 0)).wrSetEn (getBits v 11 8)).setFld F.MTR_CTRL_evt_mask (getBits v 19 16)

/-- A write to MTR_CTRL (R368). -/
def execMtrCtrlWrite (who : Init) (v : Word) (good : Bool) (s : State) : Host.Outcome State Fault Refusal :=
  .next (s.port who Reg.MTR_CTRL (fun t => if t.isManager then t.wrMtrCtrl v good else t))

/-- A write to MTR_CMD (R376): CLEAR of the named sets, or refused. -/
def State.wrMtrCmd (s : State) (v : Word) : State :=
  if getBits v 31 16 ≠ 0xC1A4 || getBits v 1 0 ≠ 1 then s
  else
    let m := getBits v 11 8
    if s.metroEn && s.fld F.KV_LC_state ≤ 1 && [0, 1, 2, 3].all (fun n => !m.testBit n || !s.setEn n) then
      let s1 := if m.testBit s.billed && s.bil.interval.isSome then
          (s.closeInterval 7 s.mtr.lastStep s.nj.wallSec).onBil (fun b => { b with gapped := true })
        else s
      let s2 := [0, 1, 2, 3].foldl (fun t n => if m.testBit n then t.onSet n (fun k => { k with acc := List.replicate 8 0 }) else t) s1
      s2.logMetro 3 m (s2.fld F.KV_LC_state) (some s2.mt)
    else s.setFld F.MTR_STATUS_cfg_refused 1

/-- MTR_CMD op CLEAR (R376). -/
def execClear (who : Init) (v : Word) (s : State) : Host.Outcome State Fault Refusal :=
  .next (s.port who Reg.MTR_CMD (fun t => if t.isManager then t.wrMtrCmd v else t))

/-- A held pulse is emitted once the last one and its low time have ended (R378). -/
def execPulseEmit (s : State) : Host.Outcome State Fault Refusal :=
  .next (let free := match s.mtr.pulseAt with | some t => 10 * msTicks ≤ s.mt - t | none => true
    if s.mtrOn && s.mtr.pulses ≠ 0 && free then s.onMtr (fun m => { m with pulses := m.pulses - 1, pulseAt := some s.mt }) else s)

/-- The snapshot bank of an initiator (R379). -/
def Init.bank (who : Init) (m : Mtr) : SnapBank := match who with | .host => m.hostBank | .core _ => m.coreBank

/-- The snapshot bank of an initiator changed. -/
def State.onBank (s : State) (who : Init) (f : SnapBank → SnapBank) : State :=
  s.onMtr (fun m => match who with
    | .host => { m with hostBank := f m.hostBank }
    | .core _ => { m with coreBank := f m.coreBank })

/-- A write to MTR_SNAP (R379). -/
def State.wrMtrSnap (s : State) (who : Init) (v : Word) : State :=
  if v.getLsbD 0 then
    s.onBank who (fun b => { b with vals := (List.range 32).map (fun i => s.accInt (i / 8) (i % 8)), mt := s.mtr.lastStep,
                                    seq := (b.seq + 1) % 65536 })
  else s

/-- MTR_SNAP.take (R379). -/
def execMtrSnap (who : Init) (v : Word) (s : State) : Host.Outcome State Fault Refusal :=
  .next (s.port who Reg.MTR_SNAP (fun t => if t.isManager then t.wrMtrSnap who v else t))

/-- A write to MTR_CAP_TRIG (R382). -/
def State.wrCapTrig (s : State) (v : Word) : State :=
  [0, 1].foldl (fun t u =>
    if v.getLsbD u && t.fld (F.MTR_CAPu_CFG_mode u) = 2 && t.fld (F.MTR_CAPu_CFG_trig u) = 0 then t.capTrigger u 1 else t) s

/-- MTR_CAP_TRIG (R382). -/
def execMtrCapTrig (who : Init) (v : Word) (s : State) : Host.Outcome State Fault Refusal :=
  .next (s.port who Reg.MTR_CAP_TRIG (fun t => if t.isManager then t.wrCapTrig v else t))

/-- An entry is free again after frames were dropped: the resume header, MTR_CAP_LOST (R382). -/
def execCaptureResume (u : Nat) (s : State) : Host.Outcome State Fault Refusal :=
  .next (if s.fld (F.MTR_CAPu_STATUS_state u) ≠ 2 || (s.cap u).lost = 0 then s
  else
    let planned := if s.fld (F.MTR_CAPu_CFG_mode u) = 1 then 0 else (s.cap u).left
    let s1 := s.capHead u 4 0 planned s.nextSample
    if (s1.cap u).lost = 0 then s1.mtrFault 0x0A06 else s1)

/-- A write to MTR_CAPu_CFG: while the unit is not off it can only be switched off (Table MTR-11). -/
def State.wrCapCfg (s : State) (u : Nat) (v : Word) : State :=
  let a := Reg.MTR_CAP0_CFG + 8 * u
  if s.fld (F.MTR_CAPu_CFG_mode u) ≠ 0 then
    if getBits v 9 8 = 0 then ((s.capFlush u).setFld (F.MTR_CAPu_CFG_mode u) 0).setFld (F.MTR_CAPu_STATUS_state u) 0 else s
  else
    let s1 := s.wrPlain a v
    let m := s1.fld (F.MTR_CAPu_CFG_mode u)
    let s2 := s1.onCap u (fun _ => {})
    if m = 1 then (s2.capHead u 0 0 0 s2.nextSample).setFld (F.MTR_CAPu_STATUS_state u) 2
    else if m = 2 then s2.setFld (F.MTR_CAPu_STATUS_state u) 1
    else s1

/-- Any other register of the block written. -/
def State.wrMtr (s : State) (who : Init) (a : Nat) (v : Word) : State :=
  if a = Reg.MTR_CAP0_CFG then s.wrCapCfg 0 v
  else if a = Reg.MTR_CAP1_CFG then s.wrCapCfg 1 v
  else if a = Reg.MTR_ACC_SEL then s.onBank who (fun b => { b with sel := getBits v 4 0 })
  else s.wrPlain a v

end Sys2Proof.Machine
end

