-- ==== Sys2Proof/Machine/Pwr.lean ====
section
/-! DEFINITION. The commands of the power stage (17_power_stage.md). -/

namespace Sys2Proof.Machine

open Sys2Proof

/-! ## Timing (R345 to R347, R353) -/

/-- The staged timing (R347). -/
def State.staged (s : State) : Timing :=
  { period := s.fld F.PWR_PERIOD_period,
    on := (List.range 6).map (fun n => s.word (Reg.PWR_CH0_ON + 16 * n)),
    off := (List.range 6).map (fun n => s.word (Reg.PWR_CH0_OFF + 16 * n)),
    dt := (List.range 6).map (fun n => s.word (Reg.PWR_CH0_DT + 16 * n)) }

/-- t_on of a channel. -/
def Timing.tOn (t : Timing) (n : Nat) : Nat := getBits (t.on.getD n 0) 24 0
/-- t_off of a channel. -/
def Timing.tOff (t : Timing) (n : Nat) : Nat := getBits (t.off.getD n 0) 24 0
/-- dt_h of a channel. -/
def Timing.dtH (t : Timing) (n : Nat) : Nat := getBits (t.dt.getD n 0) 15 0
/-- dt_l of a channel. -/
def Timing.dtL (t : Timing) (n : Nat) : Nat := getBits (t.dt.getD n 0) 31 16
/-- The period in units of 100 ps. -/
def Timing.units (t : Timing) : Nat := 400 * t.period

/-- The timing passes R347 for the enabled channels. -/
def Timing.ok (t : Timing) (chEn : Nat) : Bool :=
  (List.range 6).all (fun n => !chEn.testBit n ||
    (t.tOn n < t.units && t.tOff n < t.units && 100 ≤ t.dtH n && t.dtH n ≤ 50000 && 100 ≤ t.dtL n && t.dtL n ≤ 50000))

/-- L of R346: the high-side width of a channel. -/
def Timing.width (t : Timing) (n : Nat) : Nat := (t.tOff n + t.units - t.tOn n % t.units) % t.units

/-- The gates of a channel for a high-side width (R346): rise and fall positions, none where the gate stays low. -/
def Timing.wave (t : Timing) (n w : Nat) (lowOff : Bool) : Wave :=
  let p := t.units
  let e := t.tOn n + w
  { high := if w ≤ t.dtH n then none else some ((t.tOn n + t.dtH n) % p, e % p),
    low := if lowOff || p - w ≤ t.dtL n then none else some ((e + t.dtL n) % p, t.tOn n) }

/-- The width of a channel under the soft-start ceiling (R353), with the rounding of c × L left open (assumption 12). -/
def State.ceiling (s : State) (w : Nat) : Nat × State :=
  let t := s.mt - s.pwr.rampFrom
  let r := msTicks * s.fld F.PWR_SS_CFG_ramp
  if s.pwrState = 1 && t < r then
    let x := s.roundFree ((w * t : Nat) : Int) r
    (min x.1.toNat w, x.2)
  else (w, s)

/-- The gates of the next period: the enabled channels run in SOFTSTART and RUN, all others stay low. -/
def State.nextWave (s : State) : State :=
  if s.pwrState = 1 || s.pwrState = 2 then
    (List.range 6).foldl (fun t n =>
      if t.fldBit F.PWR_RUN_ch_en n then
        let c := t.ceiling (t.pwr.eff.width n)
        c.2.onPwr (fun p => { p with wave := upd p.wave n (fun _ => p.eff.wave n c.1 (c.2.is (F.PWR_CHn_ON_low_off n))) })
      else t) s.gatesLow
  else s.gatesLow

/-- A pending load takes effect at the first boundary at least 400 ns after its write (R347). -/
def State.applyLoad (s : State) : State :=
  match s.pwr.load with
  | some (t, at_) =>
    if 10 ≤ s.mt - at_ then (s.onPwr (fun p => { p with eff := t, load := none })).setFld F.PWR_STATUS_load_pending 0 else s
  | none => s

/-! ## Soft start (R353 to R355) -/

/-- The output is below a percentage of its target. -/
def State.outBelow (s : State) (pct : Nat) : Bool := s.pwr.sample * 100 < pct * s.fld F.PWR_SS_TARGET_target

/-- A soft-start short (R354, R355): the attempt count rises, PWR_SS_RETRY is raised, and a controlled stop begins. -/
def State.ssShort (s : State) : State :=
  (((s.setFld F.PWR_SS_RETRY_attempt (min (s.fld F.PWR_SS_RETRY_attempt + 1) 7)).count F.PWR_CNT_ss_shorts).gateStop 2).pwrFault 0x0902

/-- The period that ends is counted, and in SOFTSTART it is judged (R348, R353, R354). -/
def State.judgePeriod (s : State) : State :=
  if s.pwrState = 1 || s.pwrState = 2 then
    let s1 := if s.pwr.limited then s.count F.PWR_STATUS_lim_run else s.setFld F.PWR_STATUS_lim_run 0
    let run := if s.pwr.limited && s1.outBelow 10 then s1.pwr.lowRun + 1 else 0
    let s2 := s1.onPwr (fun p => { p with lowRun := run, limited := false })
    if s2.pwrState = 1 then
      let late := decide (msTicks * s2.fld F.PWR_SS_CFG_tmax ≤ s2.mt - s2.pwr.rampFrom)
      if 8 ≤ run || (late && s2.outBelow (s2.fld F.PWR_SS_CFG_vmin_pct)) then s2.ssShort
      else if late then (s2.setFld F.PWR_SS_RETRY_attempt 0).setPwrState 2
      else s2
    else s2
  else s

/-- The boundary that ends a controlled stop (Table PWR-2, R355). -/
def State.stopEnds (s : State) : State :=
  if s.fld F.PWR_STATUS_cause = 2 then
    if s.fld F.PWR_SS_RETRY_attempt ≤ s.fld F.PWR_SS_RETRY_retries then
      (s.onPwr (fun p => { p with backoffFrom := s.mt })).setPwrState 4
    else
      (((s.onPwr (fun p => { p with ssLock := true })).setFld F.PWR_RUN_go 0).setPwrState 5).pwrFault 0x0901
  else s.setPwrState (if s.gateOk && s.fld F.PWR_STATUS_cause ≠ 8 then 0 else 6)

/-- The edge-placer lines that wait to change roles do so (R42). -/
def State.applySwaps (s : State) : State :=
  { s with tmk := { s.tmk with epEdge := List.zipWith (fun a b => xor a b) s.tmk.epEdge s.tmk.epSwap,
                               epSwap := s.tmk.epSwap.map (fun _ => false) } }

/-- A PWM period boundary (R345): the stop in progress ends, the period is judged, a load and line swaps apply, the next period's gates are
placed. -/
def execPwmPeriodBoundary (s : State) : Host.Outcome State Fault Refusal :=
  .next ((if s.pwrState = 3 then s.stopEnds.applyLoad else s.judgePeriod.applyLoad).applySwaps.nextWave)

/-! ## PWR_RUN (R347, R350, R351) -/

/-- A load is requested (R347). -/
def State.pwmLoad (s : State) : State :=
  let t := s.staged
  if t.ok (s.fld F.PWR_RUN_ch_en) then (s.onPwr (fun p => { p with load := some (t, s.mt) })).setFld F.PWR_STATUS_load_pending 1
  else s.setFld F.PWR_STATUS_load_refused 1

/-- Every edge-placer line of the enabled channels is calibrated; outputs 0 to 5 are GATE_H, 6 to 11 GATE_L. -/
def State.linesOk (s : State) : Bool :=
  (List.range 12).all (fun o => !s.fldBit F.PWR_RUN_ch_en (o % 6) ||
    (let l := s.tmk.epTaps.getD o (0, 0); l.1 ≠ 0 && l.2 ≠ 0))

/-- The first failing condition of R350, 0 for none. -/
def State.goRefuse (s : State) : Nat :=
  let en := s.fld F.PWR_RUN_ch_en
  if (List.range 6).any (fun n => en.testBit n && (s.saf.groups.getD n {}).state ≠ 0) then 1
  else if s.pwr.load.isSome || !s.pwr.eff.ok en then 2
  else if en = 0 then 3
  else if s.is F.TMK_STATUS_op_busy || !s.linesOk then 4
  else if s.duskWarn || s.updateHold || s.stf.leaving then 5
  else if s.is F.PWR_SS_TARGET_ss_en && !(s.is (F.PWR_TRIGn_en 0) && s.fldBit F.PWR_TRIG_MASK_mask0 (s.fld F.PWR_SS_TARGET_vch)) then 6
  else if s.is F.SAF_STATUS_commit_busy then 7
  else 0

/-- A write of go = 1 (R350). -/
def State.go (s : State) : State :=
  if (s.pwrState = 1 || s.pwrState = 2) && s.is F.PWR_RUN_go then s
  else
    let r := s.goRefuse
    if s.pwrState ≠ 0 || r ≠ 0 then (s.setFld F.PWR_STATUS_run_refused 1).setFld F.PWR_STATUS_refuse r
    else
      let s1 := ((s.setFld F.PWR_RUN_go 1).setFld F.PWR_SS_RETRY_attempt 0).onPwr
        (fun p => { p with rampFrom := s.mt, lowRun := 0, limited := false })
      s1.setPwrState (if s.is F.PWR_SS_TARGET_ss_en then 1 else 2)

/-- A write to PWR_RUN: channels taking part in IDLE and HELD, then a load, then go (Table PWR-10). -/
def State.wrPwrRun (s : State) (v : Word) : State :=
  let s1 := if s.pwrState = 0 || s.pwrState = 6 then s.setFld F.PWR_RUN_ch_en (getBits v 13 8) else s
  let s2 := if v.getLsbD 16 then s1.pwmLoad else s1
  if v.getLsbD 0 then s2.go else if s2.is F.PWR_RUN_go then s2.gateStop 1 else s2

/-- A write of PWR_RUN.load (R347). -/
def execPwmLoad (who : Init) (v : Word) (s : State) : Host.Outcome State Fault Refusal :=
  .next (s.port who Reg.PWR_RUN (fun t => t.wrPwrRun v))

/-- A write of go = 1 (R350). -/
def execGo (who : Init) (v : Word) (s : State) : Host.Outcome State Fault Refusal :=
  .next (s.port who Reg.PWR_RUN (fun t => t.wrPwrRun v))

/-- A write of go = 0 (R351). -/
def execStop (who : Init) (v : Word) (s : State) : Host.Outcome State Fault Refusal :=
  .next (s.port who Reg.PWR_RUN (fun t => t.wrPwrRun v))

/-! ## Limit and sample unit (R348, R349) -/

/-- A position lies after the blanking of a gate and before its programmed fall. -/
def inGate (p blank pos : Nat) (g : Nat × Nat) : Bool :=
  let w := (pos + p - g.1 % p) % p
  400 * blank ≤ w && w < (g.2 + p - g.1 % p) % p

/-- A limit comparator asserts at a position of the period (R348): it ends its gate, and the low gate follows a high one dt_l later. -/
def execCurrentLimit (n : Nat) (high : Bool) (pos : Nat) (s : State) : Host.Outcome State Fault Refusal :=
  .next (let w := s.pwr.wave.getD n {}
    let t := s.pwr.eff
    let p := t.units
    let blank := s.fld (F.PWR_BLANK_blank n)
    match (if high then w.high else w.low) with
    | none => s
    | some g =>
      let cs := if high then s.fld (F.PWR_CHn_ON_cs_h n) else s.fld (F.PWR_CHn_OFF_cs_l n)
      if cs = 15 || !inGate p blank pos g then s
      else
        let w' : Wave := if high then
            let used := (pos + p - t.tOn n % p) % p
            { high := some (g.1, pos),
              low := if s.is (F.PWR_CHn_ON_low_off n) || p - used ≤ t.dtL n then none else some ((pos + t.dtL n) % p, t.tOn n) }
          else { w with low := some (g.1, pos) }
        (s.onPwr (fun k => { k with wave := upd k.wave n (fun _ => w'), limited := true })).pwrEvent F.PWR_EVT_limit)

/-- A trigger of the sample unit fires (R349). -/
def execAdcTrigger (t : Nat) (s : State) : Host.Outcome State Fault Refusal :=
  .next (if !s.is (F.PWR_TRIGn_en t) then s
    else if s.pwr.seq.isSome then s.count F.PWR_CNT_adc_ovr
    else s.onPwr (fun p => { p with seq := some t }))

/-- A conversion sequence completes: the results of its mask are written together (R349). -/
def execAdcSequenceDone (codes : List Nat) (s : State) : Host.Outcome State Fault Refusal :=
  .next (match s.pwr.seq with
    | none => s
    | some t =>
      let m := if t = 0 then s.fld F.PWR_TRIG_MASK_mask0 else s.fld F.PWR_TRIG_MASK_mask1
      let s1 := (List.range 16).foldl (fun u i =>
        if m.testBit i then
          u.setFld (if i % 2 = 0 then F.PWR_ADCn_in_lo (i / 2) else F.PWR_ADCn_in_hi (i / 2)) (codes.getD i 0)
        else u) s
      let vch := s.fld F.PWR_SS_TARGET_vch
      let s2 := s1.onPwr (fun p => { p with seq := none, sample := if t = 0 && m.testBit vch then codes.getD vch 0 else p.sample })
      s2.pwrEvent (if t = 0 then F.PWR_EVT_trig0 else F.PWR_EVT_trig1))

/-- The backoff time of the attempt has passed (R355). -/
def execBackoffEnd (s : State) : Host.Outcome State Fault Refusal :=
  .next (if s.pwrState = 4 && secTicks * 2 ^ (s.fld F.PWR_SS_RETRY_attempt - 1) ≤ s.mt - s.pwr.backoffFrom then
    (s.onPwr (fun p => { p with rampFrom := s.mt, lowRun := 0, limited := false })).setPwrState 1
  else s)

/-- A write to PWR_SS_RETRY: retries, and the release of SS_LOCK from the SFC or a Kernel CC core (R356). -/
def State.wrSsRetry (s : State) (who : Init) (v : Word) : State :=
  let s1 := s.wrPlain Reg.PWR_SS_RETRY v
  let may := match who with
    | .host => false
    | .core c => c = 4 || !(s.core c).task
  if getBits v 31 16 = 0x5C1E && may then s1.ssReleased else s1

/-- PWR_SS_RETRY.release (R356). -/
def execSsRelease (who : Init) (v : Word) (s : State) : Host.Outcome State Fault Refusal :=
  .next (s.port who Reg.PWR_SS_RETRY (fun t => t.wrSsRetry who v))

/-! ## Contactors (R357 to R360) -/

/-- The contactor voltages of a contactor's channels. -/
def State.ctrVolts (s : State) (n : Nat) : Nat × Nat :=
  (s.pwr.volts.getD (s.fld (F.PWR_CTR_MAP_ch_a n)) 0, s.pwr.volts.getD (s.fld (F.PWR_CTR_MAP_ch_b n)) 0)

/-- The difference of two codes. -/
def codeDiff (v : Nat × Nat) : Nat := if v.1 ≤ v.2 then v.2 - v.1 else v.1 - v.2

/-- Why a close of contactor `n` is refused (R357, Table PWR-10), 0 where it is not. -/
def State.closeRefuse (s : State) (n : Nat) (byPrecharge : Bool) : Nat :=
  if (s.saf.groups.getD (6 + n) {}).state ≠ 0 then 1
  else if s.ctrState n = 4 || s.ctrState n = 5 then 2
  else if !byPrecharge && (match s.pwr.pre with | some p => p.pc = n || p.main = n | none => false) then 3
  else if s.duskWarn || s.updateHold || s.stf.leaving then 4
  else if s.isWorker && !s.is F.SYS_ROLE_admitted then 5
  else if s.is (F.PWR_CTR_MODE_close_chk n) && s.fld F.PWR_PC_CFG_dv < codeDiff (s.ctrVolts n) then 6
  else if s.is F.SAF_STATUS_commit_busy then 7
  else 0

/-- Contactor `n` commanded closed (R358). -/
def State.closeCtr (s : State) (n : Nat) : State :=
  let st := s.ctrState n
  if st = 1 || st = 2 then s
  else
    let s1 := s.onCtr n (fun c => { c with on := true, since := s.mt, window := false })
    s1.setCtrState n (if s.is (F.PWR_CTR_MODE_fb_en n) then 1 else 2)

/-- A close refused with its reason (R357). -/
def State.refuseClose (s : State) (r : Nat) : State := (s.setFld F.PWR_CTR_STATUS_ctr_refused 1).setFld F.PWR_CTR_STATUS_reason r

/-- pc_start (R361). -/
def State.prechargeStart (s : State) : State :=
  let pc := s.fld F.PWR_PC_CFG_pc
  let main := s.fld F.PWR_PC_CFG_main
  let r := s.closeRefuse pc true
  if s.pwr.pre.isSome then s.refuseClose 3
  else if pc = main || s.ctrState pc ≠ 0 || s.ctrState main ≠ 0 then s.refuseClose 2
  else if r ≠ 0 then s.refuseClose r
  else
    ((s.onPwr (fun p => { p with pre := some ⟨pc, main, s.mt, 0, 0⟩ })).setFld F.PWR_CTR_STATUS_pc 1).closeCtr pc

/-- An open command written for contactor `n` (R357): one in FB_FAULT clears where feedback has read open (R359). -/
def State.openCmd (s : State) (n : Nat) : State :=
  if s.ctrState n = 5 && !s.fbClosed n then (s.openCtr n true).setCtrState n 0 else s.openCtr n true

/-- A write to PWR_CTR_CMD: opens, then closes of the contactors not opened, then the precharge commands (R357, R361). -/
def State.wrCtrCmd (s : State) (v : Word) : State :=
  let s1 := [0, 1, 2, 3].foldl (fun t n => if v.getLsbD (4 + n) then t.openCmd n else t) s
  let s2 := if v.getLsbD 9 then s1.prechargeFail true else s1
  let s3 := [3, 2, 1, 0].foldl (fun t n =>
    if v.getLsbD n && !v.getLsbD (4 + n) then
      let r := t.closeRefuse n false
      if r = 0 then t.closeCtr n else t.refuseClose r
    else t) s2
  if v.getLsbD 8 then s3.prechargeStart else s3

/-- PWR_CTR_CMD.close (R357). -/
def execCtrClose (who : Init) (v : Word) (s : State) : Host.Outcome State Fault Refusal :=
  .next (s.port who Reg.PWR_CTR_CMD (fun t => t.wrCtrCmd v))

/-- PWR_CTR_CMD.open (R357). -/
def execCtrOpen (who : Init) (v : Word) (s : State) : Host.Outcome State Fault Refusal :=
  .next (s.port who Reg.PWR_CTR_CMD (fun t => t.wrCtrCmd v))

/-- PWR_CTR_CMD.pc_start (R361). -/
def execPrechargeStart (who : Init) (v : Word) (s : State) : Host.Outcome State Fault Refusal :=
  .next (s.port who Reg.PWR_CTR_CMD (fun t => t.wrCtrCmd v))

/-- PWR_CTR_CMD.pc_abort (R361). -/
def execPrechargeAbort (who : Init) (v : Word) (s : State) : Host.Outcome State Fault Refusal :=
  .next (s.port who Reg.PWR_CTR_CMD (fun t => t.wrCtrCmd v))

/-- A contactor fault (R359): opened, FB_FAULT, PWR_CTR_FB; its precharge fails; a Worker stops. -/
def State.ctrFault (s : State) (n : Nat) : State :=
  let s1 := (s.onCtr n (fun c => { c with on := false, window := false })).setCtrState n 5
  let s2 := match s1.pwr.pre with
    | some p => if p.pc = n || p.main = n then s1.prechargeFail true else s1
    | none => s1
  let s3 := s2.pwrFault 0x0903
  if s3.isWorker then s3.pwrStop 9 else s3

/-- The voltage method finds a weld (R360). -/
def State.voltWeld (s : State) (n : Nat) : Bool :=
  let v := s.ctrVolts n
  s.fld F.PWR_CTR_MODE_weld_vmin ≤ v.1 && codeDiff v ≤ s.fld F.PWR_PC_CFG_weld_dv

/-- The weld check of a contactor's method (R360). -/
def State.weldFound (s : State) (n : Nat) : Bool :=
  if s.is (F.PWR_CTR_MODE_weld_volt n) then s.voltWeld n else s.is (F.PWR_CTR_MODE_fb_en n) && s.fbClosed n

/-- Contactor `n` is WELDED: source 53, PWR_WELD (R360). -/
def State.welded (s : State) (n : Nat) : State :=
  let s1 := (s.onCtr n (fun c => { c with window := false, clear := 0 })).setCtrState n 4
  let s2 := match s1.pwr.pre with
    | some p => if p.pc = n || p.main = n then s1.prechargeFail true else s1
    | none => s1
  (s2.sourceAssert 53).pwrFault 0x0904

/-- An open contactor judged as at the end of a weld window (R359, R360). -/
def State.judgeOpen (s : State) (n : Nat) : State :=
  if s.weldFound n then s.welded n
  else if s.is (F.PWR_CTR_MODE_fb_en n) && s.fbClosed n then s.ctrFault n
  else (s.onCtr n (fun c => { c with window := false })).setCtrState n 0

/-- The main contactor of a precharge is confirmed: the overlap begins (Table PWR-3, step 4). -/
def State.mainConfirmed (s : State) : State :=
  match s.pwr.pre with
  | some p =>
    if s.fld F.PWR_CTR_STATUS_pc = 2 && s.ctrState p.main = 2 then
      (s.onPwr (fun w => { w with pre := some { p with overlapFrom := s.mt } })).setFld F.PWR_CTR_STATUS_pc 3
    else s
  | none => s

/-- What an accepted feedback level means for its contactor (R358 to R360). -/
def State.fbAccepted (s : State) (n : Nat) : State :=
  let st := s.ctrState n
  let closed := s.fbClosed n
  if st = 1 && closed then (s.setCtrState n 2).mainConfirmed
  else if st = 3 && !closed && s.mt - (s.ctr n).since ≤ 10 * msTicks * s.fld F.PWR_CTR_CFG_fb_open then
    let s1 := if s.is (F.PWR_CTR_MODE_weld_volt n) then s else s.onCtr n (fun c => { c with window := false })
    s1.setCtrState n 0
  else if st = 2 && !closed then s.ctrFault n
  else if st = 0 && closed then s.judgeOpen n
  else s

/-- A 1 ms sample of CTR_FB[n], by its level; the third equal one is accepted (R358). -/
def execCtrFbSample (n : Nat) (level : Bool) (s : State) : Host.Outcome State Fault Refusal :=
  .next (if !s.is (F.PWR_CTR_MODE_fb_en n) || !s.dawnDone then s
  else
    let closed := level != s.is (F.PWR_CTR_MODE_fb_pol n)
    let c := s.ctr n
    let run := if c.fbRaw = closed then min (c.fbRun + 1) 3 else 1
    let s1 := s.onCtr n (fun k => { k with fbRun := run, fbRaw := closed })
    if run = 3 then
      let s2 := if s1.fbClosed n = closed then s1 else s1.bilFeedback n closed
      (s2.setFldBit F.PWR_CTR_STATUS_fb n closed).fbAccepted n
    else s1)

/-- A close is not confirmed within fb_close (R359). -/
def execCtrCloseTimeout (n : Nat) (s : State) : Host.Outcome State Fault Refusal :=
  .next (if s.ctrState n = 1 && 10 * msTicks * s.fld F.PWR_CTR_CFG_fb_close ≤ s.mt - (s.ctr n).since then s.ctrFault n else s)

/-- The weld window after an open ends (R360). -/
def execWeldWindowEnd (n : Nat) (s : State) : Host.Outcome State Fault Refusal :=
  .next (let w := if s.is (F.PWR_CTR_MODE_weld_volt n) then s.fld F.PWR_CTR_CFG_weld_win else s.fld F.PWR_CTR_CFG_fb_open
    if (s.ctr n).window && 10 * msTicks * w ≤ s.mt - (s.ctr n).since then s.judgeOpen n else s)

/-- The 100 ms check of a WELDED contactor; two failures in a row clear it (R360). -/
def execWeldRecheck (n : Nat) (s : State) : Host.Outcome State Fault Refusal :=
  .next (if s.ctrState n ≠ 4 then s
    else if s.weldFound n then s.onCtr n (fun c => { c with clear := 0 })
    else if (s.ctr n).clear = 0 then s.onCtr n (fun c => { c with clear := 1 })
    else
      let s1 := (s.onCtr n (fun c => { c with clear := 0 })).setCtrState n 0
      if [0, 1, 2, 3].any (fun k => s1.ctrState k = 4) then s1 else s1.sourceDeassert 53)

/-! ## Precharge (R361, Table PWR-3) -/

/-- The contactor voltages are converted; ten matching samples with pc closed close main (Table PWR-3). -/
def execCtrVoltageSample (codes : List Nat) (s : State) : Host.Outcome State Fault Refusal :=
  .next (let s1 := s.onPwr (fun p => { p with volts := codes })
    match s1.pwr.pre with
    | none => s1
    | some p =>
      if s1.fld F.PWR_CTR_STATUS_pc ≠ 1 || s1.ctrState p.pc ≠ 2 then s1
      else
        let run := if codeDiff (s1.ctrVolts p.main) ≤ s1.fld F.PWR_PC_CFG_dv then p.run + 1 else 0
        let s2 := s1.onPwr (fun w => { w with pre := some { p with run := run } })
        if run < 10 then s2
        else
          let r := s2.closeRefuse p.main true
          if r ≠ 0 then (s2.refuseClose r).prechargeFail true
          else ((s2.setFld F.PWR_CTR_STATUS_pc 2).closeCtr p.main).mainConfirmed)

/-- No match within pc_tmax (Table PWR-3, step 2). -/
def execPrechargeTimeout (s : State) : Host.Outcome State Fault Refusal :=
  .next (match s.pwr.pre with
    | some p =>
      if s.fld F.PWR_CTR_STATUS_pc = 1 && 100 * msTicks * s.fld F.PWR_CTR_CFG_pc_tmax ≤ s.mt - p.from_ then
        (s.prechargeFail true).pwrFault 0x0905
      else s
    | none => s)

/-- The overlap ends: the precharge contactor opens with its weld check (Table PWR-3, step 4). -/
def execPrechargeOverlapEnd (s : State) : Host.Outcome State Fault Refusal :=
  .next (match s.pwr.pre with
    | some p =>
      if s.fld F.PWR_CTR_STATUS_pc = 3 && 10 * msTicks * s.fld F.PWR_CTR_CFG_pc_overlap ≤ s.mt - p.overlapFrom then
        ((s.onPwr (fun w => { w with pre := none })).setFld F.PWR_CTR_STATUS_pc 4).openCtr p.pc true
      else s
    | none => s)

/-! ## Setpoints (R362) -/

/-- The PWR block of a Worker takes the oldest entry of queue 0x000C (R362, Table PWR-4). -/
def execSetpoint (s : State) : Host.Outcome State Fault Refusal :=
  .next (if !s.isWorker then s
  else
    let r := s.blockTake 0x000C
    match r.1 with
    | none => r.2
    | some l =>
      let n := fun (o k : Nat) => leNat ((l.drop o).take k)
      if n 0 1 ≠ r.2.nodeId % 16 then r.2
      else
        let old := r.2.fld F.PWR_SP_INFO_seq
        let s1 := (((r.2.setWord Reg.PWR_SP_POWER (w32 (n 4 4))).setFld F.PWR_SP_LIMITS_v_target (n 8 2)).setFld
          F.PWR_SP_LIMITS_i_max (n 10 2)).setFld F.PWR_SP_INFO_seq (n 2 2)
        let s2 := (s1.setFld F.PWR_SP_INFO_flags (n 1 1)).onPwr (fun p => { p with spAt := s1.mt })
        if n 2 2 = old then s2 else s2.pwrEvent F.PWR_EVT_setpoint)

/-! ## The other registers -/

/-- The field's part is in use (17_power_stage.md, Registers; assumption 15). -/
def State.pwrInUse (s : State) (c : Col) : Bool :=
  let gates := s.pwrState ≠ 0 && s.pwrState ≠ 6
  let ctrBusy := fun n => s.ctrState n ≠ 0 || (match s.pwr.pre with | some p => p.pc = n || p.main = n | none => false)
  let anyCtr := [0, 1, 2, 3].any ctrBusy
  if c.reg = Reg.PWR_BLANK || c.reg = Reg.PWR_TRIG0 || c.reg = Reg.PWR_TRIG1 || c.reg = Reg.PWR_TRIG_MASK then gates
  else if Reg.PWR_CH0_ON ≤ c.reg && c.reg < Reg.PWR_TRIG0 then gates && 25 ≤ c.lo
  else if c.reg = Reg.PWR_CTR_CFG || c.reg = Reg.PWR_PC_CFG then anyCtr
  else if c.reg = Reg.PWR_CTR_MODE then if 16 ≤ c.lo then anyCtr else ctrBusy (c.lo / 4)
  else if c.reg = Reg.PWR_CTR_MAP then ctrBusy (c.lo / 8)
  else false

/-- A write to PWR_SS_CFG: one that leaves ramp above tmax is ignored whole (Table PWR-10). -/
def State.wrSsCfg (s : State) (v : Word) : State := if getBits v 31 16 < getBits v 15 8 then s else s.wrPlain Reg.PWR_SS_CFG v

/-- A write to PWR_LIM_LVL sets the level of the selected input; its readback is a free value (assumption 2). -/
def State.wrLimLvl (s : State) (v : Word) : State :=
  let i := s.fld F.PWR_LIM_SEL_cs
  if getBits v 9 0 ≤ 1000 then
    let r := s.takeFree 10
    r.2.onPwr (fun p => { p with limLvl := upd p.limLvl i (fun _ => getBits v 9 0), limRb := upd p.limRb i (fun _ => r.1) })
  else s

/-- Any other register of the block written (Table PWR-10). -/
def State.wrPwr (s : State) (a : Nat) (v : Word) : State :=
  if a = Reg.PWR_SS_CFG then s.wrSsCfg v
  else if a = Reg.PWR_LIM_LVL then s.wrLimLvl v
  else s.wrPlain a v none (fun c _ => !s.pwrInUse c)

end Sys2Proof.Machine
end

