-- ==== Sys2Proof/Machine/Qe.lean ====
section
/-! DEFINITION. The commands of the queue engine and of the memory port (10_queues_memory_port.md). -/

namespace Sys2Proof.Machine

open Sys2Proof

/-! ## The table (R191, R192) -/

/-- A table of 2^k queues at a base may be put in force: k from 8 to 16, at most 13 in system SRAM, aligned to its size, wholly in system
SRAM or one PSRAM region (R191; a table that is not is refused, assumption 11). -/
def State.tabFits (s : State) (base k : Nat) : Bool :=
  8 ≤ k && k ≤ 16 && base % (32 * 2 ^ k) = 0 && ((inSram base (32 * 2 ^ k) && k ≤ 13) || s.inPsram base (32 * 2 ^ k))

/-- A write to QE_TABLE_CFG (R191, R192, Table QE-9). -/
def State.wrTableCfg (s : State) (v : Word) : State :=
  let en := v.getLsbD 0
  if s.is F.QE_TABLE_CFG_en then
    if en || !s.qe.enabled.isEmpty then s
    else (s.setFld F.QE_TABLE_CFG_en 0).onQe (fun e => { e with cache := [], openResv := [] })
  else
    let k := getBits v 4 1
    let s1 := s.setFld F.QE_TABLE_CFG_base (getBits v 31 13)
    let s2 := if 8 ≤ k && k ≤ 16 then s1.setFld F.QE_TABLE_CFG_k k else s1
    if en && s2.tabFits (8192 * getBits v 31 13) (s2.fld F.QE_TABLE_CFG_k) then
      (((s2.setFld F.QE_TABLE_CFG_en 1).setFld F.QE_STATUS_table_busy 1).setFld F.QE_STATUS_hold_table 0).onQe
        (fun e => { e with cache := [], openResv := [], enabled := [], tableDown := false })
    else s2

/-- Setting QE_TABLE_CFG.en (R192). -/
def execQeTableEnable (who : Init) (v : Word) (s : State) : Host.Outcome State Fault Refusal :=
  .next (s.port who Reg.QE_TABLE_CFG (fun t => t.wrTableCfg v))

/-- The zero-fill completes: the whole table reads 0 (R192). -/
def execTableZeroFillDone (s : State) : Host.Outcome State Fault Refusal :=
  .next (if s.is F.QE_STATUS_table_busy then
    let b := s.tabBase
    let n := 32 * 2 ^ s.tabK
    State.setFld { s with mem := s.mem.filter (fun p => p.1 < b || b + n ≤ p.1) } F.QE_STATUS_table_busy 0
  else s)

/-! ## QE_DESC_CMD (Table QE-9) -/

/-- The RW bits of QE_DESC_CTRL. -/
def descRw : Word := 0x03C7FFFE#32

/-- LOAD: the current descriptor into the DESC registers. -/
def State.descLoad (s : State) (q : Nat) : State :=
  let d := s.qDesc q
  let s1 := (s.setWord Reg.QE_DESC_BASE (w32 d.base)).setWord Reg.QE_DESC_CTRL (w32 d.ctrl)
  let s2 := (s1.setFld F.QE_DESC_NOTIFY_notify d.notify).setFld F.QE_DESC_NOTIFY_src d.src
  let s3 := ((s2.setWord Reg.QE_DESC_PROD d.prod).setWord Reg.QE_DESC_RESV d.resv).setWord Reg.QE_DESC_CONS d.cons
  (s3.setFld F.QE_DESC_CNT_refused d.refused).setFld F.QE_DESC_CNT_rollbacks d.rollbacks

/-- The staged descriptor (R203). -/
def State.descStaged (s : State) (d : Desc) (engine : Bool) : Desc :=
  let c := (s.word Reg.QE_DESC_CTRL &&& descRw).toNat + (if engine then 2 ^ 19 else 0) + d.ctrl % 2
  { d with base := (s.word Reg.QE_DESC_BASE &&& 0xFFFFFFC0#32).toNat, ctrl := c, notify := s.fld F.QE_DESC_NOTIFY_notify,
           src := s.fld F.QE_DESC_NOTIFY_src }

/-- The fields of a staged descriptor are valid for its queue: no reserved encoding, span at most the depth, the ring wholly in system SRAM
or one PSRAM region, and a system queue's fixed properties (R203, R206, R328, Table QE-5). -/
def State.descOk (s : State) (q : Nat) (d : Desc) : Bool :=
  d.c 2 1 ≠ 3 && 1 ≤ d.c 7 3 && d.c 7 3 ≤ 15 && d.span ≤ d.depth && s.masterOk d.base (d.depth * d.esize) &&
  (if q ≤ 0xFF then
    match sysQueue q with
    | none => false
    | some p => d.c 2 1 = p.esize && d.span = p.span && (p.remote.all (· = d.remoteOk)) && (p.direct.all (· = d.prodDirect)) &&
        (if 0x40 ≤ q && q ≤ 0x7F then s.connQueueOk (q - 0x40) d.src d.postOnly else true)
  else true)

/-- APPLY (R203, Table QE-6): while the queue is enabled only notify, src and evt_mask may change. -/
def State.descApply (s : State) (q : Nat) : Nat × State :=
  let d := s.qDesc q
  let engine := match sysQueue q with | some p => p.engine | none => false
  let n := s.descStaged d engine
  if d.en then
    if n.base = d.base && n.ctrl &&& 0xFC3FFFFF = d.ctrl &&& 0xFC3FFFFF then (0, s.qPut q (fun _ => n)) else (3, s)
  else if s.descOk q n then (0, s.qPut q (fun _ => n)) else (2, s)

/-- Queue `q` taken out of the enabled queues, its reservation rolled back and its pin released (R201, R205). -/
def State.descDisable (s : State) (q : Nat) : State :=
  let s1 := s.qRollback q true
  (s1.qPut q (fun d => d.setEn false)).onQe
    (fun e => { e with enabled := e.enabled.filter (· ≠ q),
                       cache := e.cache.map (fun l => if l.queue = q then { l with pinned := false } else l) })

/-- A write of a command to QE_DESC_CMD for the selected queue; an unlisted code changes nothing (Table QE-9). -/
def State.descCmd (s : State) (cmd : Nat) : State :=
  let q := s.fld F.QE_DESC_SEL_queue
  if cmd = 0 then s
  else if s.is F.QE_STATUS_table_busy || !s.qExists q then s.setFld F.QE_DESC_CMD_result 1
  else
    let s1 := s.qTouch q
    let d := s1.qDesc q
    let r : Nat × State :=
      if cmd = 1 then (0, s1.descLoad q)
      else if cmd = 2 then s1.descApply q
      else if cmd = 3 then
        if d.en then (0, s1)
        else if (d.setEn true).bad then (2, s1)
        else (0, (s1.qPut q (fun x => x.setEn true)).onQe (fun e => { e with enabled := q :: e.enabled }))
      else if cmd = 4 then (0, s1.descDisable q)
      else if cmd = 5 then
        if d.en then (3, s1) else (0, s1.qPut q (fun x => { x with prod := 0, resv := 0, cons := 0 }))
      else if cmd = 6 then
        if s1.qe.cache.any (fun l => l.queue = q && l.pinned) then (0, s1)
        else if 64 ≤ (s1.qe.cache.filter (·.pinned)).length then (4, s1)
        else (0, s1.onQe (fun e => { e with cache := e.cache.map (fun l => if l.queue = q then { l with pinned := true } else l) }))
      else (0, s1.onQe (fun e => { e with cache := e.cache.map (fun l => if l.queue = q then { l with pinned := false } else l) }))
    r.2.setFld F.QE_DESC_CMD_result r.1

/-- QE_DESC_CMD LOAD (R192). -/
def execQeLoad (who : Init) (s : State) : Host.Outcome State Fault Refusal := .next (s.port who Reg.QE_DESC_CMD (fun t => t.descCmd 1))
/-- QE_DESC_CMD APPLY (R203). -/
def execQeApply (who : Init) (s : State) : Host.Outcome State Fault Refusal := .next (s.port who Reg.QE_DESC_CMD (fun t => t.descCmd 2))
/-- QE_DESC_CMD ENABLE (R192). -/
def execQeEnable (who : Init) (s : State) : Host.Outcome State Fault Refusal := .next (s.port who Reg.QE_DESC_CMD (fun t => t.descCmd 3))
/-- QE_DESC_CMD DISABLE (R201). -/
def execQeDisable (who : Init) (s : State) : Host.Outcome State Fault Refusal := .next (s.port who Reg.QE_DESC_CMD (fun t => t.descCmd 4))
/-- QE_DESC_CMD RESET (R192). -/
def execQeReset (who : Init) (s : State) : Host.Outcome State Fault Refusal := .next (s.port who Reg.QE_DESC_CMD (fun t => t.descCmd 5))
/-- QE_DESC_CMD PIN (R205). -/
def execQePin (who : Init) (s : State) : Host.Outcome State Fault Refusal := .next (s.port who Reg.QE_DESC_CMD (fun t => t.descCmd 6))
/-- QE_DESC_CMD UNPIN (R205). -/
def execQeUnpin (who : Init) (s : State) : Host.Outcome State Fault Refusal := .next (s.port who Reg.QE_DESC_CMD (fun t => t.descCmd 7))

/-! ## Doorbells and QE_EVT (R197, R202) -/

/-- A refused doorbell (R197). -/
def State.dbRefused (s : State) : State := (s.setFld F.QE_STATUS_db_refused 1).count F.QE_CNT_MISC_db_refused

/-- The initiator is a core at Task level. -/
def State.atTask (s : State) (who : Init) : Bool :=
  match who with
  | .host => false
  | .core c => (s.core c).task

/-- The Task-level conditions of R196. -/
def State.taskDenied (s : State) (who : Init) (q : Nat) : Bool := s.atTask who && (q ≤ 0xFF || !(s.qDesc q).taskOk)

/-- A write to QE_DB_PROD (R196, R197). -/
def State.dbProd (s : State) (who : Init) (v : Word) : State :=
  let q := getBits v 15 0
  let n := getBits v 23 16
  let r := s.qReady q
  let d := r.2.qDesc q
  if r.1 = .done && d.prodDirect && 1 ≤ n && n % d.span = 0 && n ≤ d.free && (r.2.resvOf q).isNone && !r.2.taskDenied who q then
    (r.2.qPut q (fun x => { x with resv := x.resv + BitVec.ofNat 32 n })).qPublish q
  else r.2.dbRefused

/-- A write to QE_DB_CONS (R196, R197). -/
def State.dbCons (s : State) (who : Init) (v : Word) : State :=
  let q := getBits v 15 0
  let n := getBits v 23 16
  let r := s.qReady q
  let d := r.2.qDesc q
  if r.1 = .done && !r.2.qEngine q && 1 ≤ n && n ≤ d.held && !r.2.taskDenied who q then r.2.qDrop q n else r.2.dbRefused

/-- A producer doorbell (R197). -/
def execProducerDoorbell (who : Init) (v : Word) (s : State) : Host.Outcome State Fault Refusal :=
  .next (s.port who Reg.QE_DB_PROD (fun t => t.dbProd who v))

/-- A consumer doorbell (R197). -/
def execConsumerDoorbell (who : Init) (v : Word) (s : State) : Host.Outcome State Fault Refusal :=
  .next (s.port who Reg.QE_DB_CONS (fun t => t.dbCons who v))

/-- A read of QE_EVT (R202, R454): a core's read removes the oldest number, or reads 0xFFFF_FFFF; a host read is 0. -/
def State.qeEvtRead (s : State) (who : Init) : Word × State :=
  match who with
  | .host => (0, s)
  | .core c =>
    if !s.coreReads c Reg.QE_EVT then (0, s)
    else
      match s.qe.evtFifo with
      | [] => (0xFFFFFFFF#32, s)
      | q :: t => (w32 q, s.onQe (fun e => { e with evtFifo := t }))

/-- A read of QE_EVT; the word read is State.readOut. -/
def execQeEvtRead (who : Init) (s : State) : Host.Outcome State Fault Refusal :=
  .next (let r := s.qeEvtRead who; { r.2 with readOut := r.1 })

/-! ## Time-outs of remote delivery (R199, R201) -/

/-- No byte of a fabric message has arrived for resv_to: its reservation is rolled back (R201). -/
def execResvTimeout (q : Nat) (s : State) : Host.Outcome State Fault Refusal :=
  .next (match s.resvOf q with
    | some ⟨_, .fabric _ _ _, _, t0⟩ => if 10 * msTicks * s.fld F.QE_CFG_resv_to ≤ s.mt - t0 then s.qRollback q true else s
    | _ => s)

/-- 200 µs after FULL or BUSY the message is sent again (R199). -/
def execFullRetry (seq : Nat) (s : State) : Host.Outcome State Fault Refusal :=
  .next (match s.qe.tx.find? (fun m => m.seq = seq) with
    | some m =>
      if m.phase = .again && 200 * usTicks ≤ s.mt - m.since then
        let s1 := s.onTx seq (fun x => { x with fulls := x.fulls + 1, rtx := 0, phase := .ready })
        s1.txRun
      else s
    | none => s)

/-- No answer within ack_to after the last attempt: NO_ACK (R199). -/
def execAckTimeout (seq : Nat) (s : State) : Host.Outcome State Fault Refusal :=
  .next (match s.qe.tx.find? (fun m => m.seq = seq) with
    | some m =>
      if m.phase = .last && msTicks * s.fld F.QE_CFG_ack_to ≤ s.mt - m.since then
        ((s.count F.STF_CNT_RTX_no_ack).txDone m 6).txRun
      else s
    | none => s)

/-! ## Copy channels (R206, R207) -/

/-- A copy channel ends: state 2 done or 3 error, its cause, and EVT_QE where asked (R202, R207; its cores, assumption 9). -/
def State.copyEnd (s : State) (n st cause : Nat) : State :=
  let s1 := (s.setFld (F.QE_CPYn_STATUS_state n) st).setFld (F.QE_CPYn_STATUS_cause n) cause
  let s2 := s1.onQe (fun e => { e with copies := upd e.copies n (fun _ => none) })
  if s2.is (F.QE_CPYn_CTRL_evt n) then s2.deliver 14 (maskCores (Config.eventCores 14)) else s2

/-- A copy channel ends with error and QE_CPY_ERR (R206, R207). -/
def State.copyFail (s : State) (n cause : Nat) : State := (s.copyEnd n 3 cause).qeFault 0x0303 0

/-- What a copy channel may read (R206): system SRAM, PSRAM and NOR regions, MRAM data. -/
def State.copyReads (s : State) (a n : Nat) : Bool :=
  inSram a n || (s.csOf a n).isSome || (0x600000 ≤ a && a + n ≤ 0x800000)

/-- The source address of a channel. -/
def State.copySrc (s : State) (n : Nat) : Nat := 4 * s.fld (F.QE_CPYn_SRC_src n)
/-- The length of a channel. -/
def State.copyLen (s : State) (n : Nat) : Nat := s.fld (F.QE_CPYn_CTRL_len n)
/-- The message bytes of a channel. -/
def State.copyBytes (s : State) (n : Nat) : List Byte := s.readBytes (s.copySrc n) (s.copyLen n)

/-- A message-mode channel tries to place its message: it opens the local reservation, or enters the transmit buffer. A local queue that
does not take it at all ends the channel (R207), and a remote one waits while QE_CTRL.tx_en is 0 (Table QE-9). -/
def State.copyPlace (s : State) (n : Nat) : State :=
  let dst := s.fld (F.QE_CPYn_DST_dst n)
  let node := dst / 65536
  let q := dst % 65536
  let placed := fun (t : State) => t.onQe (fun e => { e with copies := upd e.copies n (fun o => o.map (fun k => { k with placed := true })) })
  if node = 0 || node = s.nodeId then
    let r := s.qReady q
    if r.1 = .paused then r.2
    else if r.1 ≠ .done then r.2.copyEnd n 3 2
    else
      let d := r.2.qDesc q
      if d.prodDirect || !d.accepts (r.2.copyBytes n) then r.2.copyEnd n 3 3
      else
        let a := r.2.qReserve q (.copy n)
        if a.1 = .done then placed a.2 else a.2
  else if !s.is F.QE_CTRL_tx_en then s
  else
    let a := s.txAccept node q (s.copyBytes n) (.copy n)
    if a.1 then (placed a.2).txRun else a.2

/-- A write of go to an idle channel (R206, R207). -/
def State.copyStart (s : State) (n : Nat) : State :=
  let src := s.copySrc n
  let len := s.copyLen n
  let s1 := (s.setFld (F.QE_CPYn_STATUS_state n) 1).setFld (F.QE_CPYn_STATUS_cause n) 0
  let s2 := s1.onQe (fun e => { e with copies := upd e.copies n (fun _ => some {}) })
  if s.is (F.QE_CPYn_CTRL_mode n) then
    if len = 0 || 8192 < len then
      let t := s2.takeFree 8
      t.2.copyFail n t.1
    else if !s.copyReads src len then s2.copyFail n 0x10
    else s2.copyPlace n
  else
    let dst := s.fld (F.QE_CPYn_DST_dst n)
    if len = 0 || 2 ^ 24 < len || len % 4 ≠ 0 || dst % 4 ≠ 0 then
      let t := s2.takeFree 8
      t.2.copyFail n t.1
    else if !s.copyReads src len || !s.masterOk dst len then s2.copyFail n 0x10
    else if src < dst + len && dst < src + len then s2.copyFail n 0x11
    else s2

/-- A write of abort to a busy channel (R207): memory mode has moved whole 32-byte blocks, how many is open; a message is rolled back. -/
def State.copyStop (s : State) (n : Nat) : State :=
  let dst := s.fld (F.QE_CPYn_DST_dst n)
  let s1 :=
    if s.is (F.QE_CPYn_CTRL_mode n) then
      let t := s.qRollbackAll (fun w => decide (w = .copy n)) true
      t.onQe (fun e => { e with tx := e.tx.filter (fun m => decide (m.origin ≠ .copy n)) })
    else
      let f := s.takeFree 32
      let moved := 32 * (f.1 % (s.copyLen n / 32 + 1))
      f.2.writeBytes dst (s.readBytes (s.copySrc n) moved)
  (s1.setFld F.QE_STATUS_tx_held s1.qe.tx.length).copyEnd n 3 0x12

/-- A write to QE_CPYn_CTRL (R207, Table QE-9): its stored fields change while the channel is idle. -/
def State.wrCopyCtrl (s : State) (n : Nat) (v : Word) : State :=
  if s.fld (F.QE_CPYn_STATUS_state n) = 1 then
    if v.getLsbD 27 then s.copyStop n else s
  else
    let s1 := ((s.setFld (F.QE_CPYn_CTRL_len n) (getBits v 24 0)).setBit (F.QE_CPYn_CTRL_mode n) (v.getLsbD 25)).setBit
      (F.QE_CPYn_CTRL_evt n) (v.getLsbD 28)
    if v.getLsbD 26 then s1.copyStart n else s1

/-- A Kernel write of go (R207). -/
def execCopyGo (who : Init) (n : Nat) (v : Word) (s : State) : Host.Outcome State Fault Refusal :=
  .next (s.port who (Reg.QE_CPY0_CTRL + 16 * n) (fun t => t.wrCopyCtrl n v))

/-- A write of abort (R207). -/
def execCopyAbort (who : Init) (n : Nat) (v : Word) (s : State) : Host.Outcome State Fault Refusal :=
  .next (s.port who (Reg.QE_CPY0_CTRL + 16 * n) (fun t => t.wrCopyCtrl n v))

/-- A busy channel completes: the bytes are copied, the local message is published, or the remote one has its outcome; a message that could
not be placed yet is tried again (R207). -/
def State.copyFinish (s : State) (n : Nat) (k : CopyRun) : State :=
  let dst := s.fld (F.QE_CPYn_DST_dst n)
  if !s.is (F.QE_CPYn_CTRL_mode n) then (s.writeBytes dst (s.copyBytes n)).copyEnd n 2 0
  else if !k.placed then s.copyPlace n
  else if dst / 65536 = 0 || dst / 65536 = s.nodeId then
    let q := dst % 65536
    let s1 := s.qTouch q
    ((s1.qWrite q 0 ((s1.qDesc q).fill (s1.copyBytes n))).qPublish q).copyEnd n 2 0
  else
    match k.outcome with
    | none => s
    | some o => s.copyEnd n (if o = 0 then 2 else 3) o

/-- A copy channel completes (R207). -/
def execCopyDone (n : Nat) (s : State) : Host.Outcome State Fault Refusal :=
  .next (match (s.qe.copies.getD n none) with
    | some k => s.copyFinish n k
    | none => s)

/-! ## Memory port (R208 to R213) -/

/-- The address lies in the memory-port window (Table CPU-2). -/
def inWindow (a : Nat) : Bool := 0x60000000 ≤ a && a < 0x70000000

/-- The port is in use: an enabled queue's ring or the table lies in the window, a copy channel or a command runs, or an update is in
progress (R213). -/
def State.xmpUsed (s : State) : Bool :=
  s.qe.enabled.any (fun q => inWindow (s.qTouch q |>.qDesc q).base) || (s.is F.QE_TABLE_CFG_en && inWindow s.tabBase) ||
  s.fld (F.QE_CPYn_STATUS_state 0) = 1 || s.fld (F.QE_CPYn_STATUS_state 1) = 1 || s.fld F.XMP_CMD_STATUS_state = 1 ||
  s.is F.UPD_STATUS_state

/-- A write to XMP_CTRL (R213). -/
def State.wrXmpCtrl (s : State) (v : Word) : State :=
  let s1 := s.setBit F.XMP_CTRL_rst (v.getLsbD 1)
  let on := s.is F.XMP_CTRL_en
  if v.getLsbD 0 && !on then
    if s.icgLocked 0 then s1.setFld F.XMP_CTRL_en 1 else s1.setFld F.XMP_STATUS_en_refused 1
  else if !v.getLsbD 0 && on then
    if s.xmpUsed then s1.setFld F.XMP_STATUS_en_refused 1 else s1.setFld F.XMP_CTRL_en 0
  else s1

/-- A write to XMP_CTRL (R213). -/
def execXmpCtrlWrite (who : Init) (v : Word) (s : State) : Host.Outcome State Fault Refusal :=
  .next (s.port who Reg.XMP_CTRL (fun t => t.wrXmpCtrl v))

/-- A memory-port fault (R214). -/
def State.xmpFault (s : State) (code : Nat) : State := s.fault code (some Reg.XMP_FAULT)

/-- The command engine ends with XMP_CMD_ERR (R212). -/
def State.xmpCmdErr (s : State) : State := (s.setFld F.XMP_CMD_STATUS_state 3).xmpFault 0x0403

/-- A write to XMP_CMD (R212): ignored while a command runs. -/
def State.wrXmpCmd (s : State) (v : Word) : State :=
  if s.fld F.XMP_CMD_STATUS_state = 1 then s
  else
    let s1 := s.setWord Reg.XMP_CMD (v &&& 0x01FFFFFF#32)
    if v.getLsbD 31 && s.is F.XMP_CTRL_en then
      if 256 < getBits v 24 16 || !inSram (4 * s.fld F.XMP_CMD_BUF_buf) (getBits v 24 16) then s1.xmpCmdErr
      else (s1.setFld F.XMP_CMD_STATUS_state 1).setFld F.XMP_STATUS_busy 1
    else s1

/-- A write of XMP_CMD.go (R212). -/
def execXmpCommand (who : Init) (v : Word) (s : State) : Host.Outcome State Fault Refusal :=
  .next (s.port who Reg.XMP_CMD (fun t => t.wrXmpCmd v))

/-- The command's transaction ends: the bytes the device sent go to the buffer of a read, and the device's cells hold what it says
(R212; what an opcode does is the device's). -/
def execXmpCmdDone (good : Bool) (data : List Byte) (cells : List (Nat × Byte)) (s : State) : Host.Outcome State Fault Refusal :=
  .next (if s.fld F.XMP_CMD_STATUS_state = 1 then
    let s1 := s.setFld F.XMP_STATUS_busy 0
    if good then
      let n := s.fld F.XMP_CMD_len
      let s2 := if s.is F.XMP_CMD_dir then s1
        else s1.writeBytes (4 * s.fld F.XMP_CMD_BUF_buf) ((data ++ List.replicate (n - data.length) 0).take n)
      let i := s.fld F.XMP_CMD_cs
      let s3 := cells.foldl (fun (t : State) p =>
        if t.csOf p.1 1 = some i then { t with mem := Store.set t.mem p.1 p.2 } else t) s2
      s3.setFld F.XMP_CMD_STATUS_state 2
    else s1.xmpCmdErr
  else s)

/-- A transaction without a data strobe ends (R209, Table QE-7): a load raises LOAD_ACCESS; a queue is disabled with QE_XMP_ERR; a copy
channel and a command end with error. -/
def execXmpTimeout (user : XmpUser) (s : State) : Host.Outcome State Fault Refusal :=
  .next (let s1 := (s.count F.XMP_CNT_timeouts).xmpFault 0x0401
    match user with
    | .load c a => if s.coreReady c && inWindow a.toNat then s1.raise c excLoad (some a) else s
    | .queue q =>
      if s.qExists q then
        let s2 := if inWindow s.tabBase then s1.onQe (fun e => { e with tableDown := true }) else s1
        ((s2.qTouch q).descDisable q).qeFault 0x0304 q
      else s
    | .copy n =>
      if s.fld (F.QE_CPYn_STATUS_state n) = 1 then
        let t := s1.takeFree 8
        (t.2.copyEnd n 3 t.1).qeFault 0x0304 0
      else s
    | .command => if s.fld F.XMP_CMD_STATUS_state = 1 then (s1.setFld F.XMP_STATUS_busy 0).xmpCmdErr else s)

/-- The oldest posted store's burst ends: its bytes are in the device, or it is lost with XMP_POST_LOST (R211). -/
def execPostedStoreDrain (good : Bool) (s : State) : Host.Outcome State Fault Refusal :=
  .next (match s.qe.posted with
    | [] => s
    | p :: t =>
      let s1 := s.onQe (fun e => { e with posted := t })
      let s2 := s1.setFld F.XMP_STATUS_posted t.length
      if good then s2.writeBytes p.addr p.bytes else (s2.count F.XMP_CNT_post_lost).xmpFault 0x0402)

end Sys2Proof.Machine
end

