-- ==== Sys2Proof/Machine/Rbn.lean ====
section
/-! DEFINITION. The commands of Robin (13_contactless_robin.md): reader, detection, tag engine, tag memory, dead-post readout, harvest. -/

namespace Sys2Proof.Machine

open Sys2Proof

/-! ## Reader (R265 to R268) -/

/-- A write to RBN_CTRL, with the external field in 0.01 A/m and the driver current in 2 mA units that a turn-on measures (R265). -/
def execRbnModeWrite (who : Init) (v : Word) (ext i : Nat) (s : State) : Host.Outcome State Fault Refusal :=
  .next (s.port who Reg.RBN_CTRL (fun t => t.wrRbnCtrl v ext i))

/-- The external field is checked again (R266). -/
def execExtFieldRecheck (ext i : Nat) (s : State) : Host.Outcome State Fault Refusal :=
  .next (if !s.rbnOn || !s.rbn.waiting then s
    else if s.fld F.RBN_EXT_THR_thr ≤ ext then ((s.extSeen).onRbn (fun r => { r with extFrom := none })).rdDrain 6
    else
      match s.rbn.extFrom with
      | none => s.onRbn (fun r => { r with extFrom := some s.mt })
      | some t => if t + 10 * msTicks ≤ s.mt then s.rbnFieldOn ext i else s)

/-- The guard time ends (R265). -/
def execGuardEnd (s : State) : Host.Outcome State Fault Refusal :=
  .next (if s.is F.RBN_STATUS_guard && s.rbn.guardEnd ≤ s.mt then s.setFld F.RBN_STATUS_guard 0 else s)

/-- A transaction header that sends nothing (R267, Table RBN-1). -/
def rdBad (l : List Byte) : Bool :=
  let p := u l 0 1
  p % 4 = 0 || 16 ≤ p || (p % 4 = 3 && p / 4 ≠ 0) || (u l 1 1).testBit 4 || u l 2 2 = 0 || 256 < u l 2 2 || u l 4 2 = 0 || l.length < 8 + u l 2 2

/-- Robin takes the next transaction (R267); EXT_FIELD while an external field keeps its own off (R266). -/
def execReaderTransaction (s : State) : Host.Outcome State Fault Refusal :=
  .next (
    let go := s.rbn.waiting || (s.is F.RBN_STATUS_field_on && !s.is F.RBN_STATUS_guard)
    if !s.rbnOn || s.fld F.RBN_STATUS_mode_now ≠ 2 || !go || s.rbn.txn.isSome || s.rbn.leave.isSome then s
    else
      let room := s.qRoom 0x0089
      if !room.1 then room.2
      else
        let r := room.2.blockTake 0x0088
        match r.1 with
        | none => r.2
        | some l =>
          if s.rbn.waiting then r.2.rdResult l 6 0 0xFFFF []
          else if rdBad l then r.2.rdResult l 8 0 0xFFFF []
          else (r.2.onRbn (fun k => { k with txn := some ⟨l.take 8, (l.drop 8).take (u l 2 2)⟩ })).setFld F.RBN_RD_STATUS_busy 1)

/-- The transaction on the air ends: its status (Table RBN-2), the valid bits of the last byte, the collision position, the bytes received (R267);
then a mode change that waited takes effect (R265). -/
def execReaderTransactionDone (status lastBits coll : Nat) (rx : List Byte) (s : State) : Host.Outcome State Fault Refusal :=
  .next (match s.rbn.txn with
    | none => s
    | some t =>
      if 6 ≤ status && status ≤ 8 then s
      else
        let c := if u t.head 0 1 % 4 = 1 then coll else 0xFFFF
        let s1 := ((s.onRbn (fun r => { r with txn := none })).setFld F.RBN_RD_STATUS_busy 0).rdResult t.head status lastBits c (rx.take 256)
        match s.rbn.leave with
        | some m => s1.rbnEnter m 0 0
        | none => s1)

/-! ## Detection (R269, R270) -/

/-- The distance of two codes. -/
def dist (a b : Nat) : Nat := (a - b) + (b - a)

/-- A code moved by one sixteenth of its difference toward a measurement; the rounding the spec leaves open (R270, assumption 12). -/
def State.follow (s : State) (r m : Nat) : Nat × State :=
  let d := s.roundFree (15 * (r : Int) + (m : Int)) 16
  (d.1.toNat, d.2)

/-- A ping in DETECT mode: the external field, whether a field arrived during it, the measured amplitude and phase, and the driver current of a
field-on that follows (R269, R270, Table RBN-9). -/
def execDetectPing (ext : Nat) (spoilt : Bool) (amp phase i : Nat) (s : State) : Host.Outcome State Fault Refusal :=
  .next (if !s.rbnOn || s.fld F.RBN_STATUS_mode_now ≠ 1 then s
    else if s.fld F.RBN_EXT_THR_thr ≤ ext then s.extSeen
    else if spoilt then s.setFld F.RBN_STATUS_ext_field 0
    else
      let s1 := ((s.setFld F.RBN_STATUS_ext_field 0).setFld F.RBN_DET_LAST_amp amp).setFld F.RBN_DET_LAST_phase phase
      let s2 := s1.count F.RBN_CNT_DET_pings
      let ra := s.fld F.RBN_DET_REF_amp
      let rp := s.fld F.RBN_DET_REF_phase
      if s.fld F.RBN_DET_THR_amp ≤ dist amp ra || s.fld F.RBN_DET_THR_phase ≤ dist phase rp then
        let n := s.rbn.positives + 1
        if n < s.fld F.RBN_DET_CFG_det_cnt then s2.onRbn (fun r => { r with positives := n })
        else
          let s3 := ((s2.onRbn (fun r => { r with positives := 0 })).rbnEvent F.RBN_EVT_detect).count F.RBN_CNT_DET_detects
          if s3.is F.RBN_CTRL_auto_field then s3.rbnMode 2 ext i else s3
      else
        let a := s2.follow ra amp
        let p := a.2.follow rp phase
        let s3 := (p.2.setFld F.RBN_DET_REF_amp a.1).setFld F.RBN_DET_REF_phase p.1
        let far := 1024 < dist a.1 s.rbn.cal.1 || 300 < dist p.1 s.rbn.cal.2
        let s4 := s3.onRbn (fun r => { r with positives := 0, drift := far })
        if far && !s.rbn.drift then s4.rbnFault 0x0F02 else s4)

/-- A write to RBN_DET_CFG, with the averages of the 16 pings of a calibration (R270). -/
def execDetectCalibrate (who : Init) (v : Word) (amp phase : Nat) (s : State) : Host.Outcome State Fault Refusal :=
  .next (s.port who Reg.RBN_DET_CFG (fun t => if t.isWorker then t else t.wrDetCfg v amp phase))

/-! ## Activation of the tag engine (R271) -/

/-- The tag session ends; the field's pages are released (R274). -/
def State.tagEnd (s : State) : State :=
  let s1 := ((s.setFld F.RBN_TAG_STATUS_active 0).setFld F.RBN_TAG_STATUS_app 0).onRbn (fun r => { r with file := 0, energySeq := none })
  s1.fieldRelease

/-- An external field appears: its random UID bytes and its strength (R271). -/
def execFieldAppear (uid h : Nat) (s : State) : Host.Outcome State Fault Refusal :=
  .next (if s.is F.RBN_STATUS_field_on || s.nj.vnjLost then s
    else ((s.setFld F.RBN_TAG_STATUS_field 1).setFld F.RBN_FIELD_h h).setWord Reg.RBN_UID (w32 (0x08 + 256 * uid)))

/-- A reader activates the tag engine (R271). -/
def execTagActivation (s : State) : Host.Outcome State Fault Refusal :=
  .next (if s.is F.RBN_TAG_STATUS_field && !s.nj.vnjLost then
      (((s.setFld F.RBN_TAG_STATUS_active 1).setFld F.RBN_TAG_STATUS_app 0).count F.RBN_TAG_STATUS_sessions).onRbn (fun r =>
        { r with file := 0, energySeq := none })
    else s)

/-- 50 µs without carrier (R271). -/
def execFieldLost (s : State) : Host.Outcome State Fault Refusal :=
  .next (if s.is F.RBN_TAG_STATUS_field then ((s.setFld F.RBN_TAG_STATUS_field 0).setFld F.RBN_FIELD_h 0).tagEnd else s)

/-- S(DESELECT) (R274). -/
def execDeselect (s : State) : Host.Outcome State Fault Refusal := .next (if s.is F.RBN_TAG_STATUS_active then s.tagEnd else s)

/-! ## APDUs (R272, R273, R278, R279, Table RBN-4) -/

/-- The tag engine answers: data and a status word. -/
def State.tagAnswer (s : State) (sw : Nat) (data : List Byte := []) : State :=
  (s.count F.RBN_CNT_TAG_apdus).onRbn (fun r => { r with answer := data ++ leBytes 1 (sw / 256) ++ leBytes 1 sw })

/-- The NDEF application is served (R272, Table RBN-9). -/
def State.ndefOn (s : State) : Bool := s.rbnOn && !s.nj.isolated && s.is F.RBN_TAG_CFG_en

/-- The readout application is served (R278). -/
def State.readoutOn (s : State) : Bool := s.is F.RBN_DEAD_CFG_dead_en

/-- The NDEF application's identifier. -/
def aidNdef : List Byte := [0xD2, 0x76, 0x00, 0x00, 0x85, 0x01, 0x01]

/-- The readout application's identifier. -/
def aidReadout : List Byte := [0xF0, 0x47, 0x4E, 0x53, 0x52, 0x44]

/-- An APDU reaches the engine in a session. -/
def State.apdu (s : State) (f : State → State) : State := if s.is F.RBN_TAG_STATUS_active && !s.nj.vnjLost then f s else s

/-- SELECT by name (R272, R278). -/
def execSelectByName (aid : List Byte) (s : State) : Host.Outcome State Fault Refusal :=
  .next (s.apdu (fun t =>
    let go := fun (n : Nat) => (((t.setFld F.RBN_TAG_STATUS_app n).onRbn (fun r => { r with file := 0, energySeq := none })).tagAnswer 0x9000)
    if aid = aidNdef && t.ndefOn then go 1
    else if aid = aidReadout && t.readoutOn then go 2
    else t.tagAnswer 0x6A82))

/-- The signed meter record with the highest number (R278, R398). -/
def State.lastRecord (s : State) : List Byte :=
  let best := s.bil.slots.foldl (fun (b : Option RecSlot) r =>
    if r.state = 3 || r.state = 4 then (match b with | some x => if x.num < r.num then some r else b | none => some r) else b) none
  match best with
  | some r => r.body ++ r.sig
  | none => []

/-- The save image the readout serves (R279). -/
def State.energyFile (s : State) : List Byte := match s.candidate with | some i => i.bytes | none => []

/-- A byte of the log file (Table RBN-6). -/
def State.logByte (s : State) (a : Nat) : Byte :=
  match s.nj.log[a / 16]? with
  | some e => (e.head ++ leBytes 4 e.tag.toNat).getD (a % 16) 0
  | none => 0

/-- The bad-slot bitmap's byte `i` (Table RBN-7). -/
def State.badByte (s : State) (i : Nat) : Byte :=
  BitVec.ofNat 8 ((List.range 8).foldl (fun a b => match s.nj.log[8 * i + b]? with | some e => a + 2 ^ b * bit e.bad | none => a) 0)

/-- The info file (Table RBN-7). -/
def State.infoFile (s : State) : List Byte :=
  let set := match s.bootRec with | some r => r.set | none => 0
  leBytes 4 0x52444E47 ++ leBytes 2 1 ++ leBytes 2 640 ++ leBytes 8 s.kv.serial ++ leBytes 2 0x7420 ++ leBytes 1 (s.fld F.SYS_ID_stepping) ++
    leBytes 1 (bit (!s.dsk.off)) ++ leBytes 4 s.nj.wallSec ++ leBytes 2 (s.nj.wallSub + 32768 * bit s.nj.wallValid) ++ leBytes 2 0 ++
    leBytes 4 (s.word Reg.TMK_ERA).toNat ++ leBytes 4 set ++ leBytes 4 (s.fld F.NJD_LOG_COUNT_count + 8192 * s.fld F.NJD_LOG_COUNT_main_full) ++
    leBytes 4 (s.word Reg.NJD_LOG_HEAD).toNat ++ leBytes 4 (s.word Reg.NJD_LOG_SEED).toNat ++ s.nj.clsCount.flatMap (leBytes 4) ++
    leBytes 1 (s.fld F.NJD_TAMPER_STATUS_latch) ++ leBytes 1 (s.fld F.NJD_SEAL_sw) ++ leBytes 1 (s.fld F.NJD_SEAL_loop_ok) ++ leBytes 1 0 ++
    leBytes 4 (s.word Reg.NJD_STEP_CNT).toNat ++ leBytes 4 (s.word Reg.DSK_COUNT).toNat ++ leBytes 2 s.energyFile.length ++
    leBytes 2 s.lastRecord.length ++ (List.range 512).map s.badByte

/-- The capability container (R272). -/
def State.ccFile (s : State) : List Byte :=
  let n := 256 * s.fld F.RBN_TAG_CFG_ndef_pages
  [0x00, 0x0F, 0x20, 0x00, 0xF0, 0x00, 0xF0, 0x04, 0x06, 0xE1, 0x04] ++ leBytes 1 (n / 256) ++ leBytes 1 n ++
    [0x00, if s.is F.RBN_TAG_CFG_field_wr then 0x00 else 0xFF]

/-- The length of a file (R272, Table RBN-6). -/
def State.fileLen (s : State) (f : Nat) : Nat :=
  match f with
  | 1 => 15
  | 2 => 256 * s.fld F.RBN_TAG_CFG_ndef_pages
  | 3 => 640
  | 4 => s.energyFile.length
  | 5 => s.lastRecord.length
  | 6 => 65536
  | _ => 0

/-- Bytes of a file. -/
def State.fileBytes (s : State) (f off n : Nat) : List Byte :=
  match f with
  | 1 => (s.ccFile.drop off).take n
  | 2 => Store.bytes s.rbn.tagMem off n
  | 3 => (s.infoFile.drop off).take n
  | 4 => (s.energyFile.drop off).take n
  | 5 => (s.lastRecord.drop off).take n
  | 6 => (List.range n).map (fun i => s.logByte (off + i))
  | _ => []

/-- The file of an identifier in the current application. -/
def State.fileOf (s : State) (fid : Nat) : Nat :=
  if s.fld F.RBN_TAG_STATUS_app = 1 && s.ndefOn then (if fid = 0xE103 then 1 else if fid = 0xE104 then 2 else 0)
  else if s.fld F.RBN_TAG_STATUS_app = 2 && s.readoutOn then
    (if fid = 0xE1A2 then 3 else if fid = 0xE1A0 then 4 else if fid = 0xE1A1 then 5 else if fid = 0xE1A3 then 6 else 0)
  else 0

/-- SELECT by file identifier; the energy file's candidate is fixed (R272, R278, R279). -/
def execSelectFile (fid : Nat) (s : State) : Host.Outcome State Fault Refusal :=
  .next (s.apdu (fun t =>
    let f := t.fileOf fid
    if f = 0 then t.tagAnswer 0x6A82
    else (t.onRbn (fun r => { r with file := f, energySeq := if f = 4 then t.candidate.map SaveImg.seq else none })).tagAnswer 0x9000))

/-- The selected file is still served. -/
def State.fileOn (s : State) : Bool := if s.rbn.file = 0 then false else if s.rbn.file ≤ 2 then s.ndefOn else s.readoutOn

/-- The pages of a range of the NDEF file, one bit each. -/
def pagesOf (off n : Nat) : Nat := (List.range 32).foldl (fun a p => if off / 256 ≤ p && p ≤ (off + n - 1) / 256 then a + 2 ^ p else a) 0

/-- A field command needs pages: S(WTX) `wtx` times while a wire lock held one; a lock that still stands is answered 6985 after wtx_max (R277);
else the pages are taken (R274). -/
def State.takePages (s : State) (off n wtx : Nat) (f : State → State) : State :=
  let m := pagesOf off n
  if s.rbn.wire.any (fun x => m.testBit x.1) then (s.count F.RBN_CNT_TAG_wtx (s.fld F.RBN_TAG_CFG_wtx_max)).tagAnswer 0x6985
  else f ((s.count F.RBN_CNT_TAG_wtx wtx).setWord Reg.RBN_LOCK_FIELD (s.word Reg.RBN_LOCK_FIELD ||| w32 m))

/-- A read of the selected file (R273, R279, R281). -/
def State.fileRead (s : State) (off n wtx : Nat) (nvErr : Bool) : State :=
  let f := s.rbn.file
  let len := s.fileLen f
  if !s.fileOn then s.tagAnswer 0x6A82
  else if f = 4 && s.candidate.map SaveImg.seq ≠ s.rbn.energySeq then s.tagAnswer 0x6985
  else if len ≤ off then s.tagAnswer 0x6B00
  else if 3 ≤ f && nvErr then (s.rbnFault 0x0F04).tagAnswer 0x6985
  else
    let k := min n (len - off)
    let go := fun (t : State) => t.tagAnswer (if k < n then 0x6282 else 0x9000) (t.fileBytes f off k)
    if f = 2 then s.takePages off k wtx go else go s

/-- READ BINARY: P1, P2, Le, the S(WTX) requests sent, whether Nightjar NV failed to read (R273). -/
def execReadBinary (p1 p2 le wtx : Nat) (nvErr : Bool) (s : State) : Host.Outcome State Fault Refusal :=
  .next (s.apdu (fun t => if 128 ≤ p1 then t.tagAnswer 0x6A86 else t.fileRead (256 * p1 + p2) le wtx nvErr))

/-- READ BINARY with its odd instruction and an offset data object (R273). -/
def execReadBinaryOdd (off le wtx : Nat) (nvErr : Bool) (s : State) : Host.Outcome State Fault Refusal :=
  .next (s.apdu (fun t => t.fileRead off le wtx nvErr))

/-- UPDATE BINARY, once its last block is received (R272, R273, R278). -/
def execUpdateBinary (p1 p2 : Nat) (data : List Byte) (wtx : Nat) (s : State) : Host.Outcome State Fault Refusal :=
  .next (s.apdu (fun t =>
    let off := 256 * p1 + p2
    let len := t.fileLen 2
    if 128 ≤ p1 then t.tagAnswer 0x6A86
    else if !t.fileOn then t.tagAnswer 0x6A82
    else if t.rbn.file ≠ 2 || !t.is F.RBN_TAG_CFG_field_wr then t.tagAnswer 0x6982
    else if len ≤ off then t.tagAnswer 0x6B00
    else if data.isEmpty || len < off + data.length then t.tagAnswer 0x6700
    else t.takePages off data.length wtx (fun r =>
      ((r.tagStore off data).onRbn (fun k => { k with written := k.written ||| pagesOf off data.length })).tagAnswer 0x9000)))

/-! ## Tag memory from the wire (R275 to R277) -/

/-- The oldest wire command where `fits` says so of its op, taken once its result has room (R275). -/
def State.wireTake (s : State) (fits : Nat → Bool) (act : State → List Byte → State) : State :=
  if !s.rbnOn then s
  else
    let room := s.qRoom 0x008B
    if !room.1 then room.2
    else
      let r := room.2.blockPeek 0x008A
      match r.1 with
      | some l => if fits (u l 0 1) then act (r.2.blockTake 0x008A).2 l else r.2
      | none => r.2

/-- The page, offset and length of a WRITE or READ are valid (Table RBN-5). -/
def wireOk (l : List Byte) : Bool := u l 1 1 ≤ 31 && 1 ≤ u l 4 2 && u l 4 2 ≤ 256 && u l 2 2 + u l 4 2 ≤ 256

/-- A wire WRITE, or a command with an op outside Table RBN-5 (R275, R276). -/
def execTagWrite (s : State) : Host.Outcome State Fault Refusal :=
  .next (s.wireTake (fun op => op < 2 || 4 < op) (fun t l =>
    let tag := u l 6 2
    let d := (l.drop 8).take (u l 4 2)
    if u l 0 1 ≠ 1 || !wireOk l || l.length < 8 + u l 4 2 then t.tagResult 2 tag []
    else if (t.word Reg.RBN_LOCK_FIELD).getLsbD (u l 1 1) then
      if 2048 < t.fld F.RBN_DEFER_bytes + d.length then t.tagResult 3 tag []
      else ((t.onRbn (fun r => { r with deferred := r.deferred ++ [⟨u l 1 1, u l 2 2, d, tag⟩] })).tagShow).tagResult 1 tag []
    else (t.tagStore (256 * u l 1 1 + u l 2 2) d).tagResult 0 tag []))

/-- A wire READ (R275). -/
def execTagRead (s : State) : Host.Outcome State Fault Refusal :=
  .next (s.wireTake (fun op => op = 2) (fun t l =>
    if !wireOk l then t.tagResult 2 (u l 6 2) []
    else t.tagResult 0 (u l 6 2) (Store.bytes t.rbn.tagMem (256 * u l 1 1 + u l 2 2) (u l 4 2))))

/-- A wire LOCK (R277). -/
def execTagLock (s : State) : Host.Outcome State Fault Refusal :=
  .next (s.wireTake (fun op => op = 3) (fun t l =>
    let mask := u l 2 4
    let held := mask &&& (t.word Reg.RBN_LOCK_FIELD).toNat
    let t1 := t.wireLock (mask - held)
    if held = 0 then t1.tagResult 0 (u l 6 2) []
    else (t1.onRbn (fun r => { r with locks := r.locks ++ [(held, u l 6 2)] })).tagResult 1 (u l 6 2) []))

/-- A wire UNLOCK (R277). -/
def execTagUnlock (s : State) : Host.Outcome State Fault Refusal :=
  .next (s.wireTake (fun op => op = 4) (fun t l => (t.wireFree (u l 2 4)).tagResult 0 (u l 6 2) []))

/-- A wire lock has stood for lock_ms (R277). -/
def execWireLockExpire (page : Nat) (s : State) : Host.Outcome State Fault Refusal :=
  .next (if s.rbn.wire.any (fun x => x.1 = page && x.2 + s.fld F.RBN_TAG_CFG_lock_ms * (10 * msTicks) ≤ s.mt) then s.wireFree (2 ^ page) else s)

/-! ## Harvest (R280) -/

/-- VHARV at or above 3.3 V for 1 ms (R280). -/
def execHarvestOn (mv : Nat) (s : State) : Host.Outcome State Fault Refusal :=
  .next (
    let s1 := s.setFld F.RBN_HARV_STATUS_vharv mv
    if 3300 ≤ mv && s.is F.RBN_HARV_CFG_out_en && !s.is F.RBN_STATUS_field_on && !s.rbn.ovlOff then s1.setFld F.RBN_HARV_STATUS_out_on 1 else s1)

/-- VHARV below 3.1 V (R280). -/
def execHarvestOff (mv : Nat) (s : State) : Host.Outcome State Fault Refusal :=
  .next (
    let s1 := s.setFld F.RBN_HARV_STATUS_vharv mv
    if mv < 3100 then s1.setFld F.RBN_HARV_STATUS_out_on 0 else s1)

/-- A load at the current limit for 1 ms (R280, R281). -/
def execHarvestOverload (s : State) : Host.Outcome State Fault Refusal :=
  .next (if !s.is F.RBN_HARV_STATUS_out_on then s
    else
      let s1 := ((s.setFld F.RBN_HARV_STATUS_out_on 0).setFld F.RBN_HARV_STATUS_ovl 1).setFld F.RBN_EVT_harv_ovl 1
      let s2 := s1.onRbn (fun r => { r with ovlOff := true })
      let due := match s.rbn.ovlLog with | some t => decide (t + 60 * secTicks ≤ s.mt) | none => true
      if due then (s2.onRbn (fun r => { r with ovlLog := some s.mt })).rbnFault 0x0F03
      else (s2.setFld F.RBN_FAULT_code 0x0F03).setFld F.RBN_FAULT_valid 1)

/-- The 100 ms of an overload end (R280). -/
def execHarvestOvlEnd (s : State) : Host.Outcome State Fault Refusal :=
  .next (if !s.rbn.ovlOff then s
    else
      let s1 := s.onRbn (fun r => { r with ovlOff := false })
      if 3300 ≤ s.fld F.RBN_HARV_STATUS_vharv && s.is F.RBN_HARV_CFG_out_en && !s.is F.RBN_STATUS_field_on then s1.setFld F.RBN_HARV_STATUS_out_on 1
      else s1)

end Sys2Proof.Machine
end

