-- ==== Sys2Proof/Machine/Sc.lean ====
section
/-! DEFINITION. The commands of the safety connections (16_safety_over_fabric.md): sending, judging, watchdog, twin copies, payload, rearm. -/

namespace Sys2Proof.Machine

open Sys2Proof

/-- ENVELOPE_SEND: every period producer `c` sends (R330). -/
def execEnvelopeSend (c : Nat) (s : State) : Host.Outcome State Fault Refusal := .next (if s.mayProduce c then s.sendEnvelope c false else s)

/-! ## Consumer checks (R333 to R336) -/

/-- The sequence number of an envelope. -/
def envSeq (e : List Byte) : Nat := leNat (e.take 2)
/-- The ctl byte of an envelope. -/
def envCtl (e : List Byte) : Nat := leNat ((e.drop 2).take 1)
/-- The payload of an envelope. -/
def envPayload (e : List Byte) : List Byte := (e.drop 4).take 16

/-- Steps 1 to 3 of R333. -/
def State.envOk (s : State) (c : Nat) (e : List Byte) : Bool :=
  let t := s.saf.eff
  let at_ := fun (o n : Nat) => leNat ((e.drop o).take n)
  e.length = 32 && envCtl e < 16 && at_ 3 1 = 0 && at_ 0x17 1 = 0 && at_ 0x14 2 = s.peerOf t c && at_ 0x16 1 = t.cfg c 13 8 &&
    at_ 0x1C 4 = scCheck (t.connWord c 0) e && (t.twin c || envCtl e % 2 = 0)

/-- A check error (R333, R340). -/
def State.checkError (s : State) (c : Nat) : State :=
  let errs := s.mt :: ((s.conn c).errs.filter (fun t => s.mt < t + 3600 * secTicks))
  let s1 := s.onConn c (fun k => { k with chkErr := satAdd k.chkErr 1 255, errs := errs })
  if (s1.conn c).state = 2 && s1.saf.eff.time c 31 28 < errs.length then s1.enterSafe c 5 else s1

/-- A stale envelope (R333). -/
def State.staleEnv (s : State) (c : Nat) : State := s.onConn c (fun k => { k with stale := satAdd k.stale 1 255 })

/-- An envelope or pair is accepted `d` after the last: last_seq, payload, flags, watchdog; in OPENING and REARM it counts toward RUN (R333). -/
def State.acceptEnv (s : State) (c : Nat) (e : List Byte) (d : Nat) : State :=
  let k := s.conn c
  let run := k.state = 2
  let count := if run then 0 else if k.count ≠ 0 && d = 1 then k.count + 1 else 1
  let s1 := s.onConn c (fun q =>
    { q with lastSeq := envSeq e, rx := envPayload e, demand := (envCtl e).testBit 1, peerOk := (envCtl e).testBit 2, okAt := s.mt, count := count,
             held := none, skipped := if run then satAdd q.skipped (d - 1) 255 else q.skipped })
  if !run && count = 3 then
    (((s1.onConn c (fun q => { q with state := 2, count := 0 })).linesFollow).logSafety 9 c 0 none).postLockout c
  else s1.linesFollow

/-- The distance of an envelope from the last accepted one (R333). -/
def Conn.dist (k : Conn) (e : List Byte) : Nat := (envSeq e + 65536 - k.lastSeq) % 65536

/-- A copy or a single envelope is fresh in RUN, or the entry still counts: `good` takes it. -/
def State.judgeSeq (s : State) (c : Nat) (e : List Byte) (good : State → State) : State :=
  let k := s.conn c
  let d := k.dist e
  if k.state ≠ 2 then good s
  else if d = 0 || 32768 ≤ d then s.staleEnv c
  else if d ≤ s.saf.eff.time c 27 25 + 1 then good s
  else s.enterSafe c 2

/-- Two copies agree in every byte except ctl[0] and the check (R335). -/
def twinEqual (a b : List Byte) : Bool :=
  a.take 2 = b.take 2 && envCtl a / 2 = envCtl b / 2 && (a.drop 3).take 25 = (b.drop 3).take 25

/-- A twin fault (R335): SAFE from RUN; an entry that counts starts its count again. -/
def State.twinFault (s : State) (c cause : Nat) : State :=
  if (s.conn c).state = 2 then s.enterSafe c cause else s.onConn c (fun k => { k with held := none, count := 0 })

/-- Skew in ticks (10 µs units). -/
def State.skewTicks (s : State) (c : Nat) : Nat := 10 * usTicks * s.saf.eff.time c 24 16

/-- A copy that passes steps 1 to 3 in twin mode (R335). -/
def State.judgeTwin (s : State) (c : Nat) (e : List Byte) : State :=
  let hold := fun (t : State) => t.onConn c (fun k => { k with held := some (e, t.mt) })
  match (s.conn c).held with
  | none => s.judgeSeq c e hold
  | some (h, t) =>
    let d := (envSeq e + 65536 - envSeq h) % 65536
    if d = 0 then
      if envCtl e % 2 = envCtl h % 2 then s.staleEnv c
      else if s.skewTicks c < s.mt - t then s.twinFault c 3
      else if twinEqual e h then s.acceptEnv c e ((s.conn c).dist e)
      else s.twinFault c 4
    else if d < 32768 then
      let s1 := s.twinFault c 3
      if (s1.conn c).state = 1 || (s1.conn c).state = 4 then hold s1 else s1
    else s.staleEnv c

/-- An envelope is judged by consumer `c` (R333, R335, R336). -/
def State.judge (s : State) (c : Nat) (e : List Byte) : State :=
  let k := s.conn c
  if !s.envOk c e then s.checkError c
  else if (envCtl e).testBit 3 then
    if k.state = 2 then
      ((s.onConn c (fun q => { q with state := 1, count := 0, held := none, demand := false, peerOk := false })).linesFollow).postLockout c
    else s
  else if k.state = 3 || k.state = 0 then s
  else if s.saf.eff.twin c then s.judgeTwin c e
  else s.judgeSeq c e (fun t => t.acceptEnv c e (k.dist e))

/-- ENVELOPE: the safety block takes the oldest entry of queue 0x0040 + c (R328, R333). -/
def execEnvelope (c : Nat) (s : State) : Host.Outcome State Fault Refusal :=
  .next (let r := s.blockTake (0x40 + c)
    match r.1 with
    | some e => if r.2.saf.armed && r.2.consumer c then r.2.judge c e else r.2
    | none => r.2)

/-- TWIN_SKEW_TIMEOUT (R335). -/
def execTwinSkewTimeout (c : Nat) (s : State) : Host.Outcome State Fault Refusal :=
  .next (match (s.conn c).held with
  | some (_, t) => if s.skewTicks c < s.mt - t then s.twinFault c 3 else s
  | none => s)

/-- CONNECTION_TIMEOUT: no acceptance for window, while the Dusk warning is not asserted (R334). -/
def execConnectionTimeout (c : Nat) (s : State) : Host.Outcome State Fault Refusal :=
  .next (if s.consumer c && (s.conn c).state = 2 && !s.duskWarn && msTicks * s.saf.eff.time c 15 8 ≤ s.mt - (s.conn c).okAt then s.enterSafe c 1
  else s)

/-! ## Registers of the connections -/

/-- A write to SAF_SC_TXSEL or SAF_SC_TX0 to TX3 (R331): from the SFC alone; TX3 commits the four words for the selected producer. -/
def State.wrScTx (s : State) (who : Init) (a : Nat) (v : Word) : State :=
  if who ≠ .core 4 then s
  else if a = Reg.SAF_SC_TXSEL then s.wrPlain a v
  else
    let n := (a - Reg.SAF_SC_TX0) / 4
    let s1 := s.onSaf (fun k => { k with txWords := upd k.txWords n (fun _ => v) })
    if n = 3 then s1.onConn (s1.fld F.SAF_SC_TXSEL_conn) (fun k => { k with tx := s1.saf.txWords.flatMap (fun w => leBytes 4 w.toNat) }) else s1

/-- PAYLOAD_COMMIT: a write to SAF_SC_TX3 (R331). -/
def execPayloadCommit (who : Init) (v : Word) (s : State) : Host.Outcome State Fault Refusal :=
  .next (s.port who Reg.SAF_SC_TX3 (fun t => t.wrScTx who Reg.SAF_SC_TX3 v))

/-- A write to SAF_SC_CMD (R339). -/
def State.wrScCmd (s : State) (v : Word) : State :=
  let c := getBits v 5 0
  if getBits v 31 16 = 0x5C0A && getBits v 7 6 = 1 then
    if s.consumer c && (s.conn c).state = 3 then s.onConn c (fun k => { k with state := 4, count := 0 })
    else s.setFld F.SAF_SC_STATUS_cmd_refused 1
  else s

/-- SAF_SC_CMD op REARM (R339). -/
def execSafScCmd (who : Init) (v : Word) (s : State) : Host.Outcome State Fault Refusal :=
  .next (s.port who Reg.SAF_SC_CMD (fun t => t.wrScCmd v))

end Sys2Proof.Machine
end

