-- ==== Sys2Proof/Machine/Stf.lean ====
section
/-! DEFINITION. The commands of the Starling fabric (11_starling_fabric.md): training, credits, frames, answers, site and post roll call, admission,
hierarchy messages, loss and removal. -/

namespace Sys2Proof.Machine

open Sys2Proof

/-! ## Links (R218 to R221, Table STF-2) -/

/-- PRESENT_N has been low for 10 ms on a Worker (R218). -/
def execPresentAssert (s : State) : Host.Outcome State Fault Refusal :=
  .next (if s.isWorker then
      let s1 := s.onStf (fun k => { k with present := true, leaving := false })
      allPorts.foldl (fun t p => if t.portUp p then t else t.trainStart p) s1
    else s)

/-- The training step of a port that is not UP and may train, else 0. -/
def State.trainStep (s : State) (p : Nat) : Nat := if s.mayTrain p && !s.portUp p then (s.sport p).step else 0

/-- Step 2: 16 TRAIN at one bit offset (R220). -/
def execTrainAligned (p : Nat) (s : State) : Host.Outcome State Fault Refusal :=
  .next (if s.trainStep p = 1 then
      (s.onPort p (fun k => { k with step := 2, since := s.mt, peerFrom := some (k.peerFrom.getD s.mt) })).setFld (F.STF_PORTn_STATUS_state p) 2
    else s)

/-- Step 3: 8 valid word pairs received and sent; a link kind that either side does not allow stays here (R220). -/
def execTrainWordsExchanged (p role rate : Nat) (peerAllows : Bool) (s : State) : Host.Outcome State Fault Refusal :=
  .next (if s.trainStep p = 2 then
      let site := s.isManager && role = 1
      let allowed := peerAllows && s.is (if site then F.STF_PORTn_CFG_site_ok p else F.STF_PORTn_CFG_post_ok p)
      let s1 := s.onPort p (fun k => { k with step := 3, since := s.mt, peerRate := rate, barred := if allowed then none else some s.mt })
      (s1.setFld (F.STF_PORTn_STATUS_peer_role p) role).setBit (F.STF_PORTn_STATUS_kind p) site
    else s)

/-- Step 4: 8 TRAIN_ACK received and sent; the lower of the two maximum rates (R220). -/
def execTrainAcked (p : Nat) (s : State) : Host.Outcome State Fault Refusal :=
  .next (if s.trainStep p = 3 && (s.sport p).barred.isNone then
      (s.onPort p (fun k => { k with step := 4, since := s.mt })).setFld (F.STF_PORTn_STATUS_rate p)
        (min (s.fld (F.STF_PORTn_CFG_max_rate p)) (s.sport p).peerRate)
    else s)

/-- Step 5: UP, its buffers empty and its credits sent (R220, R222); STF_RATE_LOW below both maxima (R221). -/
def execLinkUp (p : Nat) (s : State) : Host.Outcome State Fault Refusal :=
  .next (if s.trainStep p = 4 then
      let s1 := s.onPort p (fun k =>
        { k with step := 5, since := s.mt, waitS := [], waitB := [], creditB := 0, creditS := 0, usedB := 0, usedS := 0, freedB := 64, freedS := 16,
                 sentB := 64, sentS := 16, rcvdB := 0, rcvdS := 0, out := none, symErrs := [], greeted := false })
      let s2 := (s1.setFld (F.STF_PORTn_STATUS_state p) 3).siteShow
      let r := s2.fld (F.STF_PORTn_STATUS_rate p)
      if r < s2.fld (F.STF_PORTn_CFG_max_rate p) && r < (s2.sport p).peerRate then s2.stfFault 0x0504 else s2
    else s)

/-- A training step has exceeded its bound: an earlier step, or step 4 at the next lower rate (Table STF-2). -/
def execTrainStepTimeout (p : Nat) (s : State) : Host.Outcome State Fault Refusal :=
  .next (
    let k := s.sport p
    let back := fun (n st : Nat) => (s.onPort p (fun k => { k with step := n, since := s.mt })).setFld (F.STF_PORTn_STATUS_state p) st
    match s.trainStep p with
    | 1 => if k.since + 2 * msTicks ≤ s.mt then back 1 1 else s
    | 2 => if k.since + msTicks ≤ s.mt then back 1 1 else s
    | 3 => if k.barred.isNone && k.since + msTicks ≤ s.mt then back 1 1 else s
    | 4 =>
      if k.since + msTicks ≤ s.mt then
        let r := s.fld (F.STF_PORTn_STATUS_rate p)
        if r = 0 then back 1 1 else (back 4 2).setFld (F.STF_PORTn_STATUS_rate p) (r - 1)
      else s
    | _ => s)

/-- 1 s after a disallowed link kind the port starts again (R220). -/
def execTrainRetry (p : Nat) (s : State) : Host.Outcome State Fault Refusal :=
  .next (match (s.sport p).barred with
    | some t => if s.trainStep p = 3 && t + secTicks ≤ s.mt then s.trainStart p else s
    | none => s)

/-- No UP within 20 ms while the peer's TRAIN is seen (R245, Table STF-12). -/
def execTrainFail (p : Nat) (s : State) : Host.Outcome State Fault Refusal :=
  .next (match (s.sport p).peerFrom with
    | some t =>
      if s.trainStep p ≠ 0 && !(s.sport p).failed && t + 20 * msTicks ≤ s.mt then (s.onPort p (fun k => { k with failed := true })).stfFault 0x0502
      else s
    | none => s)

/-- An UP receiver has seen no transition for its disconnect time (R218, R221). -/
def execDisconnect (p : Nat) (s : State) : Host.Outcome State Fault Refusal := .next (s.linkDown p)

/-- A symbol error, and the units of the frame it ended, 0 for none (R219, R221). -/
def execSymbolError (p : Nat) (laneS : Bool) (units : Nat) (s : State) : Host.Outcome State Fault Refusal :=
  .next (
    let s1 := (s.count (F.STF_PORTn_ERR_symbol p)).onPort p (fun k => { k with symErrs := s.mt :: k.symErrs.filter (fun t => s.mt < t + msTicks) })
    if !s1.portUp p then s1
    else
      let s2 := (s1.onPort p (fun k =>
        if laneS then { k with rcvdS := (k.rcvdS + units) % 256 } else { k with rcvdB := (k.rcvdB + units) % 256 })).freeUnits p laneS units
      if 4 ≤ (s2.sport p).symErrs.length then s2.linkDown p else s2)

/-- A write to STF_PORTn_CFG with retrain (R221). -/
def execRetrain (who : Init) (n : Nat) (v : Word) (s : State) : Host.Outcome State Fault Refusal :=
  .next (s.port who (Reg.STF_PORT0_CFG + 4 * n) (fun t => t.wrPortCfg n v))

/-! ## Credits and frames out (R222, R223) -/

/-- CRED_B or CRED_S with its cumulative count (R222). -/
def execCreditUpdate (p : Nat) (laneS : Bool) (n : Nat) (s : State) : Host.Outcome State Fault Refusal :=
  .next (if s.portUp p then s.onPort p (fun k => if laneS then { k with creditS := n } else { k with creditB := n }) else s)

/-- The cumulative counts sent again (R222). -/
def execCreditRefresh (p : Nat) (s : State) : Host.Outcome State Fault Refusal :=
  .next (if s.portUp p then s.onPort p (fun k => { k with sentB := k.freedB, sentS := k.freedS }) else s)

/-- A port holds the credit units of a frame (R222). -/
def Port.credit (k : Port) (f : Frame) : Bool :=
  f.units ≤ (if f.laneS then (k.creditS + 256 - k.usedS) % 256 else (k.creditB + 256 - k.usedB) % 256)

/-- The frame that starts next on a port: lane S before lane B (R223). -/
def Port.next (k : Port) : Option Waiting := (k.waitS.head?.filter (fun w => k.credit w.frame)).or (k.waitB.head?.filter (fun w => k.credit w.frame))

/-- A waiting frame starts on a port; the buffer it arrived in is freed (R222, R223). -/
def execFrameSend (p : Nat) (s : State) : Host.Outcome State Fault Refusal :=
  .next (if !s.portUp p then s
    else
      match (s.sport p).next with
      | none => s
      | some w =>
        let f := w.frame
        let s1 := s.onPort p (fun k =>
          if f.laneS then { k with waitS := k.waitS.drop 1, usedS := (k.usedS + f.units) % 256, out := some f }
          else { k with waitB := k.waitB.drop 1, usedB := (k.usedB + f.units) % 256, out := some f })
        (s1.count F.STF_CNT_FRAMES_tx).freeWaiting w)

/-! ## Frames in (R226 to R234) -/

/-- A frame that is not for this node (R229): source-routed, route-inserted, table-routed, dropped. -/
def execFrameForward (p : Nat) (f : Frame) (s : State) : Host.Outcome State Fault Refusal :=
  .next (match s.wayOf p f, f.body with
    | .here, .bad _ => s.arrive p f id
    | .here, _ => s
    | .spread _, .msg _ => s
    | _, _ => s.arrive p f id)

/-- A message segment for this node, and a member that it declared lost during an activation (R228, R243, Table UPD-9). -/
def State.msgFrame (s : State) (p : Nat) (f : Frame) : State :=
  let m := f.src % 16
  let t := s.msgArrive p f
  if (s.member m).state ≠ 5 && (t.member m).state = 5 then t.updMember m else t

/-- A MSG frame (R228). -/
def execMsg (p : Nat) (f : Frame) (s : State) : Host.Outcome State Fault Refusal :=
  .next (if f.body.kind = 0 then s.msgFrame p f else s)

/-- An ANS frame (R199, R233); room in the transmit buffer takes the next update block. -/
def execAns (p : Nat) (f : Frame) (s : State) : Host.Outcome State Fault Refusal :=
  .next (match f.body with
    | .ans o _ => (s.arrive p f (fun t => t.ansTake f o)).pump
    | _ => s)

/-- No ANS within rtx_to: the message again with rtx set on the other route, or, after the last attempt, the wait of R199 (R233). -/
def execRtxTimeout (seq : Nat) (s : State) : Host.Outcome State Fault Refusal :=
  .next (match s.qe.tx.find? (fun m => m.seq = seq) with
    | none => s
    | some m =>
      if m.phase ≠ .sent || s.mt < m.since + 250 * usTicks * s.fld F.STF_CFG_rtx_to then s
      else if m.rtx < s.fld F.STF_CFG_rtx_max then
        let m1 : TxMsg := { m with rtx := m.rtx + 1 }
        ((s.onTx seq (fun x => { x with rtx := x.rtx + 1 })).count F.STF_CNT_RTX_rtx).txSend m1 (decide (m1.rtx % 2 = 1))
      else s.onTx seq (fun x => { x with phase := .last, since := s.mt }))

/-! ## Site roll call (R235, R236) -/

/-- HELLO on each UP site port: the first after UP, then every period while hello_en = 1 (R235). -/
def execHelloSend (s : State) : Host.Outcome State Fault Refusal :=
  .next (allPorts.foldl (fun t p =>
    if t.isManager && t.siteUp p && (t.is F.STF_CTRL_hello_en || !(t.sport p).greeted) then
      (t.onPort p (fun k => { k with greeted := true })).queueFrame p
        { src := t.nodeId, hops := 1, body := .hello t.nodeId t.serial p (t.fld F.STF_STATUS_post_src) } none
    else t) s)

/-- A neighbour's HELLO stored (R235); its post number is this one's: STF_DUP_NODE (R226). -/
def State.helloTake (s : State) (p node serial nport : Nat) : State :=
  if !s.siteUp p then s
  else if s.postNo ≠ 0 && node / 16 = s.postNo then ((s.count F.STF_CNT_DROP_dup).setFld F.STF_STATUS_dup_node 1).stfFault 0x0503
  else
    let same := s.is (F.STF_PORTn_NBR_valid p) && s.fld (F.STF_PORTn_NBR_node p) = node && s.fld (F.STF_PORTn_NBR_port p) = nport
    let s1 := s.onPort p (fun k => { k with helloAt := s.mt })
    if same then s1
    else
      let s2 := ((s1.setFld (F.STF_PORTn_NBR_node p) node).setFld (F.STF_PORTn_NBR_port p) nport).setFld (F.STF_PORTn_NBR_valid p) 1
      (s2.siteEntry 1 p node serial nport [] []).evtStf

/-- A HELLO frame (R235). -/
def execHello (p : Nat) (f : Frame) (s : State) : Host.Outcome State Fault Refusal :=
  .next (match f.body with
    | .hello node serial nport _ => s.arrive p f (fun t => t.helloTake p node serial nport)
    | _ => s)

/-- A neighbour entry without HELLO for age periods is cleared (R235). -/
def execNeighbourAge (p : Nat) (s : State) : Host.Outcome State Fault Refusal :=
  .next (if (s.sport p).helloAt + s.fld F.STF_SITE_CFG_age * s.fld F.STF_SITE_CFG_hello_period * (100 * msTicks) ≤ s.mt then s.nbrClear p else s)

/-- A program's entry in queue 0x000A: PROBE or ASSIGN_POST along its route (R236; the entry's layout is the model's: kind, route_len, route, serial,
post). -/
def execStfRequest (s : State) : Host.Outcome State Fault Refusal :=
  .next (if !s.isManager then s
    else
      let r := s.blockTake 0x000A
      match r.1 with
      | none => r.2
      | some l =>
        let route := routeOf (u l 2 2) (min 8 (u l 1 1))
        let go := fun (b : Body) => (r.2.onStf (fun k => { k with probes := k.probes ++ [⟨route, u l 4 8, s.mt⟩] })).sendRoute { body := b } route
        if u l 0 1 = 5 then go .probe
        else if u l 0 1 = 10 then go (.assignPost (u l 4 8) (u l 12 2))
        else r.2)

/-- PROBE_ANS along the path back (R236). -/
def State.probeAnswer (s : State) (p : Nat) (f : Frame) : State :=
  let b := Body.probeAns s.nodeId s.serial (s.fld F.SYS_ROLE_role) (s.fld F.STF_STATUS_post_src)
    (allPorts.map (fun n => s.word (Reg.STF_PORT0_NBR + 4 * n)))
  s.sendRoute { dst := f.src, body := b } (backPath p f)

/-- A PROBE at the end of its route (R236). -/
def execProbe (p : Nat) (f : Frame) (s : State) : Host.Outcome State Fault Refusal :=
  .next (if f.body = .probe then s.arrive p f (fun t => t.probeAnswer p f) else s)

/-- A PROBE_ANS: its result to queue 0x0009 (R236). -/
def execProbeAns (p : Nat) (f : Frame) (s : State) : Host.Outcome State Fault Refusal :=
  .next (match f.body with
    | .probeAns node serial role src nbrs => s.arrive p f (fun t =>
      match t.stf.probes.find? (fun q => q.route = backPath p f) with
      | some q => (t.onStf (fun k => { k with probes := k.probes.erase q })).siteEntry 2 p node serial (role + 4 * src) q.route nbrs
      | none => t)
    | _ => s)

/-- No answer to the oldest PROBE or ASSIGN_POST in 2 ms (R236). -/
def execProbeTimeout (s : State) : Host.Outcome State Fault Refusal :=
  .next (match s.stf.probes with
    | q :: rest =>
      if q.since + 2 * msTicks ≤ s.mt then (s.onStf (fun k => { k with probes := rest })).siteEntry 3 (q.route.headD 0) 0 q.serial 0 q.route []
      else s
    | [] => s)

/-- ASSIGN_POST at a Manager (R236, Table STF-11). -/
def execAssignPost (p : Nat) (f : Frame) (s : State) : Host.Outcome State Fault Refusal :=
  .next (match f.body with
    | .assignPost serial post => s.arrive p f (fun t =>
      if !t.isManager then t
      else if t.postNo ≠ 0 then t.setFld F.STF_STATUS_post_refused 1
      else if t.is F.STF_CTRL_assign_ok && serial = t.serial && 1 ≤ post && post ≤ 4095 then (t.takePost post 2).probeAnswer p f
      else t)
    | _ => s)

/-- A write to STF_NODE (R225). -/
def execPostWrite (who : Init) (v : Word) (s : State) : Host.Outcome State Fault Refusal := .next (s.port who Reg.STF_NODE (fun t => t.wrNode v))

/-- A write of rt_clear (Table STF-14). -/
def execRtClear (who : Init) (v : Word) (s : State) : Host.Outcome State Fault Refusal := .next (s.port who Reg.STF_CTRL (fun t => t.wrStfCtrl v))

/-! ## Post roll call (R237 to R239) -/

/-- A sweep at one of the moments of R237. -/
def execSweepStart (s : State) : Host.Outcome State Fault Refusal := .next s.sweepStart

/-- A write of sweep_now (R237). -/
def execSweepNow (who : Init) (v : Word) (s : State) : Host.Outcome State Fault Refusal := .next (s.port who Reg.STF_CTRL (fun t => t.wrStfCtrl v))

/-- The flags of ROLL_ANS (Table STF-6). -/
def State.rollFlags (s : State) : Nat :=
  bit s.inHold + 2 * s.fld F.CPU_STATUS_sfc_running + 4 * bit (s.is F.SAF_PARAM_STATUS_valid) + 8 * s.fld F.SYS_POST_STATUS_lockout_any +
    16 * (allPorts.filter s.postUp).foldl (fun a p => a + 2 ^ p) 0

/-- A ROLL at the end of its route (R237, Table STF-6). -/
def execRoll (p : Nat) (f : Frame) (s : State) : Host.Outcome State Fault Refusal :=
  .next (if f.body = .roll then s.arrive p f (fun t =>
      if !t.isWorker then t
      else
        let set := fun (o : Option ActRec) => match o with | some r => r.set | none => 0
        let b := Body.rollAns t.serial (t.stf.ownerSerial.getD 0) t.nodeId t.rollFlags p (t.fld F.DSK_DAWN_STATUS_hold_code)
          (set t.bootRec) (set t.prepRec)
        t.sendRoute { dst := f.src, body := b } (backPath p f))
    else s)

/-- The sweep's next step after an answer or its absence, with the routes an answering Worker adds. -/
def State.sweepOn (s : State) (more : List (List Nat)) : State :=
  (s.onStf (fun k => { k with sweep := k.sweep.map (fun w => { w with waiting := none, next := w.next ++ more }) })).sweepNext

/-- The member number of a Worker newly found (R238). -/
def State.memberNumber (s : State) (serial : Nat) (route : List Nat) : Option Nat :=
  let free := fun (m : Nat) => (s.member m).state = 0 || (s.member m).serial = serial
  match allMembers.find? (fun m => (s.member m).pinned && (s.member m).pathA = route) with
  | some m => some m
  | none =>
    match (s.stf.held.find? (fun h => h.1 = serial)).map (·.2) with
    | some m =>
      if free m && !(s.member m).pinned then some m
      else allMembers.find? (fun m => (s.member m).state = 0 && !(s.member m).pinned && !(m = 15 && s.postNo = 4095))
    | none => allMembers.find? (fun m => (s.member m).state = 0 && !(s.member m).pinned && !(m = 15 && s.postNo = 4095))

/-- A Worker newly found is assigned (R238). -/
def State.assign (s : State) (m serial : Nat) (route : List Nat) (hold : Bool) : State :=
  let other := allMembers.filter (fun n => n ≠ m && (s.member n).serial = serial && (s.member n).state ≠ 0)
  let s0 := other.foldl (fun t n => t.onMember n (fun k => { k with state := 0, serial := 0 })) s
  let s1 := s0.onMember m (fun k =>
    { k with state := if hold then 6 else 1, serial := serial, pathA := route, pathB := [], beatAt := none, beats := 0, rollAt := none,
             noImage := false,
             permitted := if k.serial = serial then k.permitted else false })
  let s2 := s1.onStf (fun k => { k with held := (serial, m) :: k.held.filter (fun h => h.1 ≠ serial && h.2 ≠ m) })
  (((s2.memberEntry m 1).sendAssign m route false).memberEntry m 2).memberShow

/-- A ROLL_ANS from a Worker with no other owner (R237, R238, R240, Table STF-11). -/
def State.rollTake (s : State) (w : Sweep) (route : List Nat) (serial owner flags port act prep : Nat) : State :=
  let hold := flags.testBit 0
  let more := (allPorts.filter (fun q => q ≠ port && (flags / 16).testBit q)).map (fun q => route ++ [q])
  match w.found.find? (fun x => x.1 = serial) with
  | some (_, a, port0) =>
    if port = port0 then ((s.setFld F.STF_STATUS_dup_node 1).stfFault 0x0503).sweepOn []
    else
      let apart := a.length ≤ 1 || route.length ≤ 1 || a.head? ≠ route.head?
      match allMembers.find? (fun m => (s.member m).serial = serial && (s.member m).state ≠ 0 && (s.member m).pathB.isEmpty) with
      | some m => if apart then ((s.onMember m (fun k => { k with pathB := route })).sendAssign m route true).sweepOn [] else s.sweepOn []
      | none => s.sweepOn []
  | none =>
    let s1 := s.onStf (fun k => { k with sweep := k.sweep.map (fun w => { w with found := (serial, route, port) :: w.found }) })
    let now := allMembers.find? (fun m => (s.member m).serial = serial && (s.member m).state ≠ 0 && (s.member m).state ≠ 5)
    let seen := fun (t : State) (m : Nat) =>
      let t1 := t.onMember m (fun k =>
      { k with flags := flags, activated := act, prepared := prep, rollAt := if k.state = 3 then none else some (k.rollAt.getD t.mt) })
      if (t1.member m).state = 3 then t1 else t1.joinCheck m act prep hold
    match now with
    | some m =>
      if owner = 0 then (seen (s1.assign m serial route hold) m).sweepOn more
      else
        let k := s.member m
        let s2 := if k.pathA = route then s1
          else (s1.onMember m (fun k => { k with pathA := route, pathB := [] })).sendAssign m route false
        let s3 := s2.onMember m (fun k => { k with state := if hold then 6 else if k.state = 6 then 1 else k.state })
        (seen s3.memberShow m).sweepOn more
    | none =>
      match s1.memberNumber serial route with
      | none => (s1.stfFault 0x0506).sweepOn more
      | some m => ((seen (s1.assign m serial route hold) m).updMember m).sweepOn more

/-- A ROLL_ANS during a sweep (R237, R238). -/
def execRollAns (p : Nat) (f : Frame) (s : State) : Host.Outcome State Fault Refusal :=
  .next (match f.body with
    | .rollAns serial owner _ flags port _ act prep => s.arrive p f (fun t =>
      match t.stf.sweep with
      | some w =>
        match w.waiting with
        | some (r, _) =>
          if backPath p f ≠ r || t.duskWarn then t
          else if owner ≠ 0 && owner ≠ t.serial then ((t.setFld F.STF_STATUS_foreign 1).count F.STF_CNT_DROP_foreign).sweepOn []
          else t.rollTake w r serial owner flags port act prep
        | none => t
      | none => t)
    | _ => s)

/-- No ROLL_ANS in 2 ms (R237). -/
def execRollTimeout (s : State) : Host.Outcome State Fault Refusal :=
  .next (match s.stf.sweep with
    | some w =>
      match w.waiting with
      | some (_, t) => if t + 2 * msTicks ≤ s.mt then s.sweepOn [] else s
      | none => s
    | none => s)

/-- ASSIGN_MEMBER at a Worker (R238, Table STF-11). -/
def execAssignMember (p : Nat) (f : Frame) (s : State) : Host.Outcome State Fault Refusal :=
  .next (match f.body with
    | .assignMember post m mgr serial pathB => s.arrive p f (fun t =>
      if !t.isWorker || t.duskWarn || m = 0 || !(t.stf.ownerSerial = none || t.stf.ownerSerial = some serial) then t
      else
        let back := backPath p f
        let t1 := t.onStf (fun k =>
          { k with ownerSerial := some serial, mgrAt := t.mt, revA := if pathB then k.revA else back, revB := if pathB then back else k.revB })
        let t2 := (((t1.setNode (16 * post + m)).setFld F.STF_NODE_post post).setFld F.STF_MGR_owner mgr).setFld F.STF_STATUS_has_owner 1
        t2.setBit F.STF_MGR_rev_b (!t2.stf.revB.isEmpty))
    | _ => s)

/-- A Worker has heard nothing from its Manager for forget (R239). -/
def execManagerForget (s : State) : Host.Outcome State Fault Refusal :=
  .next (if s.isWorker && s.is F.STF_STATUS_has_owner && s.stf.mgrAt + s.fld F.STF_CFG_forget * (100 * msTicks) ≤ s.mt then s.dropOwner else s)

/-- A Worker has heard nothing from its Manager for 30 ms: a controlled stop with its contactors open (R23). -/
def execManagerSilent (s : State) : Host.Outcome State Fault Refusal :=
  .next (if s.isWorker && s.is F.STF_STATUS_has_owner && !s.stf.mgrSilent && s.stf.mgrAt + 30 * msTicks ≤ s.mt then
      ((s.onStf (fun k => { k with mgrSilent := true, mgrReport := true })).pwrStop 4).stfFault 0x0507
    else s)

/-! ## Admission (R240) -/

/-- Every condition of R240 for member `m`, but for the activation in progress. -/
def State.admissible (s : State) (m : Nat) : Bool :=
  let k := s.member m
  s.isManager && (k.state = 1 || k.state = 2 || k.state = 4) && k.rollAt.isSome && !k.flags.testBit 0 && k.flags.testBit 1 && k.flags.testBit 2 &&
    k.joinOk && 3 ≤ k.beats && s.connEstablished m && (!s.is F.STF_CTRL_admit_gate || k.permitted) && !s.duskWarn && s.updState ≠ 4 &&
    !(k.cause = 2 && k.flags.testBit 3)

/-- The Manager admits member `m` (R240); an activation before its flip is aborted first. -/
def execAdmission (m : Nat) (s : State) : Host.Outcome State Fault Refusal :=
  .next (if !s.admissible m then s
    else
      let s1 := (s.updMember m).onMember m (fun k => { k with state := 3, cause := 0, rollAt := none, permitted := false })
      ((s1.memberShow.memberEntry m 3).stfCommand m 1).stageMember m)

/-- The checks were not all met within 300 ms of the ROLL_ANS (R240). -/
def execAdmitTimeout (m : Nat) (s : State) : Host.Outcome State Fault Refusal :=
  .next (match (s.member m).rollAt with
    | some t =>
      if s.isManager && t + 300 * msTicks ≤ s.mt then
        (s.onMember m (fun k => { k with rollAt := none, state := if k.state = 2 then 1 else k.state })).stfFault 0x0505
      else s
    | none => s)

/-- A write to STF_CMD: 1 ADMIT, 2 EXPEL, 3 RESET with its key, 4 RELEASE (Table STF-14). -/
def State.wrStfCmd (s : State) (v : Word) : State :=
  let m := getBits v 3 0
  let code := getBits v 7 4
  let key := getBits v 31 16
  let st := (s.member m).state
  if !s.isManager || st = 0 || key ≠ (if code = 3 then 0x5A17 else 0) then s
  else
    match code with
    | 1 => s.onMember m (fun k => { k with permitted := true })
    | 2 =>
      let s1 := if st = 5 then s else (s.onMember m (fun k => { k with state := 4, permitted := false, rollAt := none })).memberShow.memberEntry m 4
      s1.stfCommand m 2
    | 3 => s.stfCommand m 3
    | 4 => s.stfCommand m 4
    | _ => s

/-- A write of STF_CMD with code ADMIT (R240). -/
def execStfCmdAdmit (who : Init) (v : Word) (s : State) : Host.Outcome State Fault Refusal := .next (s.port who Reg.STF_CMD (fun t => t.wrStfCmd v))
/-- A write of STF_CMD with code EXPEL (R243). -/
def execStfCmdExpel (who : Init) (v : Word) (s : State) : Host.Outcome State Fault Refusal := .next (s.port who Reg.STF_CMD (fun t => t.wrStfCmd v))
/-- A write of STF_CMD with code RESET (R241). -/
def execStfCmdReset (who : Init) (v : Word) (s : State) : Host.Outcome State Fault Refusal := .next (s.port who Reg.STF_CMD (fun t => t.wrStfCmd v))
/-- A write of STF_CMD with code RELEASE (R356). -/
def execStfCmdRelease (who : Init) (v : Word) (s : State) : Host.Outcome State Fault Refusal := .next (s.port who Reg.STF_CMD (fun t => t.wrStfCmd v))

/-- ADMIT at a Worker: admitted, its gates released from hold with setpoint 0 (R240); never in the Dawn hold (R97). -/
def execAdmitMsg (s : State) : Host.Outcome State Fault Refusal :=
  .next (s.obey 1 (fun t _ => if t.inHold then t else ((t.setFld F.SYS_ROLE_admitted 1).setWord Reg.PWR_SP_POWER 0).pwrAdmission))

/-- EXPEL at a Worker: a controlled stop, the card contactors open, HELD (R351). -/
def execExpel (s : State) : Host.Outcome State Fault Refusal := .next (s.obey 2 (fun t _ => (t.pwrStop 8).setFld F.SYS_ROLE_admitted 0))

/-- RESET at a Worker: a reset save and a FAB reset (R98). -/
def execFabReset (s : State) : Host.Outcome State Fault Refusal := .next (s.obey 3 (fun t l => if u l 2 2 = 0x5A17 then t.resetRequest 5 else t))

/-- STOP_DUSK at a Worker: its gates stop as for R23 (R102). -/
def execStopDusk (s : State) : Host.Outcome State Fault Refusal := .next (s.obey 5 (fun t _ => t.pwrStop 5))

/-- RELEASE at a Worker (R356). -/
def execRelease (s : State) : Host.Outcome State Fault Refusal := .next (s.obey 4 (fun t _ => t.ssReleased))

/-! ## Hierarchy messages (R241) -/

/-- A heartbeat (Table STF-8). -/
def State.beatBytes (s : State) : List Byte :=
  let st := s.pwrState
  leBytes 1 (s.nodeId % 16) ++
    leBytes 1 (s.fld F.SYS_ROLE_admitted + 2 * s.fld F.SYS_POST_STATUS_lockout_any + 4 * bit (st = 1 || st = 2) + 8 * bit (st = 3) + 16 * bit s.duskWarn +
      32 * bit s.updateHold) ++
    leBytes 2 s.stf.beatSeq ++ leBytes 2 s.stf.lastFault ++ leBytes 2 (s.fld F.PWR_SP_INFO_seq) ++ leBytes 4 s.mt ++
    leBytes 4 (s.word Reg.PWR_TELEM).toNat ++ leBytes 1 (s.fld F.PWR_CTR_STATUS_fb) ++ List.replicate 15 0

/-- Every 10 ms an assigned Worker's heartbeat (R241). -/
def execHeartbeatSend (s : State) : Host.Outcome State Fault Refusal :=
  .next (if s.isWorker && s.is F.STF_STATUS_has_owner then
      (s.sendMsg (s.fld F.STF_MGR_owner) 0x000B s.beatBytes true).onStf (fun k => { k with beatSeq := (k.beatSeq + 1) % 65536 })
    else s)

/-- A heartbeat arrives (R241). -/
def execHeartbeat (p : Nat) (f : Frame) (s : State) : Host.Outcome State Fault Refusal :=
  .next (if f.body.kind = 0 && f.queue = 0x000B then s.msgFrame p f else s)

/-- The latest setpoint of member `m` sent to it (R241). -/
def State.sendSetpoint (s : State) (m : Nat) : State :=
  let k := s.member m
  if s.isManager && 1 ≤ k.state && k.state ≤ 4 then
    s.sendMsg (16 * s.postNo + m) 0x000C (if k.setpoint.isEmpty then leBytes 1 m ++ List.replicate 31 0 else k.setpoint) true
  else s

/-- Every 10 ms each member's latest setpoint (R241). -/
def execSetpointSend (s : State) : Host.Outcome State Fault Refusal := .next (allMembers.foldl (fun t m => t.sendSetpoint m) s)

/-- A program's setpoint in queue 0x000D: kept, and sent at once (R241). -/
def execSetpointWrite (s : State) : Host.Outcome State Fault Refusal :=
  .next (if !s.isManager then s
    else
      let r := s.blockTake 0x000D
      match r.1 with
      | none => r.2
      | some l => (r.2.onMember (u l 0 1 % 16) (fun k => { k with setpoint := l })).sendSetpoint (u l 0 1 % 16))

/-! ## Loss and removal (R242, R243) -/

/-- A Worker's fault report (R243). -/
def execFaultReport (p : Nat) (f : Frame) (s : State) : Host.Outcome State Fault Refusal :=
  .next (if f.body.kind = 0 && f.queue = 0x000E then s.msgFrame p f else s)

/-- No heartbeat for 30 ms after the last (R243). -/
def execHeartbeatSilence (m : Nat) (s : State) : Host.Outcome State Fault Refusal :=
  .next (match (s.member m).beatAt with
    | some t =>
      let st := (s.member m).state
      if s.isManager && st ≠ 0 && st ≠ 5 && t + 30 * msTicks ≤ s.mt then (s.memberLost m 1).updMember m else s
    | none => s)

/-- A LEAVING frame (R243). -/
def execLeaving (p : Nat) (f : Frame) (s : State) : Host.Outcome State Fault Refusal :=
  .next (match f.body with
    | .leaving m _ => s.arrive p f (fun t =>
      let st := (t.member m).state
      if t.isManager && t.samePost f.src && f.src % 16 = m && m ≠ 0 && st ≠ 0 && st ≠ 5 then (t.memberLost m 3).updMember m else t)
    | _ => s)

/-- LEAVING put on the wire along a route. -/
def State.sendLeaving (s : State) (route : List Nat) : State :=
  match route with
  | [] => s
  | p :: _ =>
    if s.portUp p then
      let f : Frame := { dst := s.fld F.STF_MGR_owner, src := s.nodeId, hops := 1, rp := 1, route := route, laneS := true, body := .leaving (s.nodeId % 16) s.mt }
      (s.onPort p (fun k => { k with out := some f })).count F.STF_CNT_FRAMES_tx
    else s

/-- PRESENT_N high for 1 µs: the gates stop, the contactors open, LEAVING, the ports go down (R242). -/
def execRemoval (s : State) : Host.Outcome State Fault Refusal :=
  .next (if !s.isWorker then s
    else
      let s1 := s.pwrStop 6
      let s2 := if s1.is F.STF_STATUS_has_owner then (s1.sendLeaving s1.stf.revA).sendLeaving s1.stf.revB else s1
      let s3 := s2.onStf (fun k => { k with present := false, leaving := true })
      allPorts.foldl (fun t p =>
        let sent := (t.sport p).out
        if t.portUp p then (t.linkDown p).onPort p (fun k => { k with out := sent }) else t.trainStart p) s3)

end Sys2Proof.Machine
end

