-- ==== Sys2Proof/Machine/Sys.lean ====
section
/-! DEFINITION. The commands of the supply monitors and of the life counters (20_package_balls_supplies.md, 21_electrical_life.md). -/

namespace Sys2Proof.Machine

open Sys2Proof

/-! ## Supplies (R430, R431) -/

/-- VANA below 2.95 V for 10 µs, the Dusk warning not asserted (R430); a fault that persists is not logged again (R432). -/
def execVanaLow (s : State) : Host.Outcome State Fault Refusal :=
  .next (if s.duskWarn || s.dsk.off || (!s.is F.SYS_SUPPLY_vana_ok && s.is F.SYS_SUPPLY_vana_low) then s
  else ((s.setFld F.SYS_SUPPLY_vana_ok 0).setFld F.SYS_SUPPLY_vana_low 1).fault 0x0007)

/-- VANA above 3.05 V for 1 ms (R430). -/
def execVanaOk (s : State) : Host.Outcome State Fault Refusal := .next (if s.dsk.off then s else s.setFld F.SYS_SUPPLY_vana_ok 1)

/-- The buck at its peak current limit for 100 µs (R431, R432). -/
def execBuckLimit (s : State) : Host.Outcome State Fault Refusal :=
  .next (if s.dsk.off || s.is F.SYS_SUPPLY_buck_limit then s else (s.setFld F.SYS_SUPPLY_buck_limit 1).fault 0x0008)

/-! ## Powered life (R442, R446, R449) -/

/-- The bin of a temperature in 0.1 °C: each band of Table SYS-40 from its lower end. -/
def lifeBin (t : Int) : Nat :=
  if t < -200 then 0 else if t < 0 then 1 else if t < 250 then 2 else if t < 500 then 3 else if t < 750 then 4 else if t < 1000 then 5
  else if t < 1150 then 6 else 7

/-- The life counters changed. -/
def State.onLife (s : State) (f : Life → Life) : State := { s with life := f s.life }

/-- A minute of meter time ends (R442); a minute without a TH0 reading counts as powered alone. -/
def execLifeMinute (s : State) : Host.Outcome State Fault Refusal :=
  .next (match s.life.minuteFrom with
  | none => s
  | some t =>
    if s.tmk.mtRun && t + 60 * secTicks ≤ s.mt then
      let inc := fun (n : Nat) => satAdd n 1 (2 ^ 32 - 1)
      s.onLife (fun l =>
        let m := match l.peak with | some p => upd l.minutes (lifeBin p) inc | none => l.minutes
        { l with minutes := upd m 8 inc, peak := none, minuteFrom := some (t + 60 * secTicks), unstored := l.unstored + 1 })
    else s)

/-- SYS_MRAM_WR: word writes in units of 2^20, saturating (R446). -/
def State.mramUnits (s : State) : Nat := min (s.life.writes / 2 ^ 20) (2 ^ 32 - 1)

/-- The profile check of R449 holds. -/
def State.profileOver (s : State) : Bool :=
  let m := fun (i : Nat) => s.life.minutes.getD i 0
  60000 ≤ m 8 && (2 * m 8 < 100 * (m 6 + m 7) || m 8 < 1000 * m 7)

/-- The MRAM rate check of R449 holds. -/
def State.rateOver (s : State) : Bool :=
  let m := s.life.minutes.getD 8 0
  60000 ≤ m && 2500000 * m < 13149000 * s.mramUnits

/-- The hourly store and its checks (R442, R449). -/
def execLifeStore (s : State) : Host.Outcome State Fault Refusal :=
  .next (if s.life.unstored < 60 then s
  else
    let put := match s.lifeCopy with
      | some (i, c) => upd s.life.copies (1 - i) (fun _ => some ⟨true, c.seq + 1, s.life.minutes, s.life.writes⟩)
      | none => upd s.life.copies 0 (fun _ => some ⟨true, 1, s.life.minutes, s.life.writes⟩)
    let s1 := s.onLife (fun l => { l with copies := put, unstored := 0 })
    let s2 := if s1.profileOver && !s1.life.profiled then
        ((s1.onLife (fun l => { l with profiled := true })).setFld F.SYS_LIFE_SEL_profile 1).fault 0x0009
      else s1
    if s2.rateOver && !s2.life.rated then
      ((s2.onLife (fun l => { l with rated := true })).setFld F.SYS_LIFE_SEL_mram_rate 1).fault 0x000A
    else s2)

end Sys2Proof.Machine
end

