-- ==== Sys2Proof/Machine/Tmk.lean ====
section
/-! DEFINITION. The commands of the Timekeeper (02_time_without_a_clock.md). -/

namespace Sys2Proof.Machine

open Sys2Proof

/-- The Timekeeper changed. -/
def State.onTmk (s : State) (f : Tmk → Tmk) : State := { s with tmk := f s.tmk }

/-! ## Operating points (R29, R30) -/

/-- The edge placer is enabled for a channel: from the acceptance of go until IDLE (R30, R350). -/
def State.edgeOn (s : State) : Bool := 1 ≤ s.pwrState && s.pwrState ≤ 4

/-- A write to TMK_OPCTL (R29, R30). -/
def State.wrOpctl (s : State) (v : Word) : State :=
  let p := getBits v 1 0
  if s.edgeOn || s.is F.TMK_STATUS_op_busy then s.setFld F.TMK_STATUS_op_refused 1
  else
    let s1 := s.setFld F.TMK_OPCTL_op_req p
    if p = s.fld F.TMK_OPCTL_op_now then s1
    else (s1.setFld F.TMK_STATUS_op_busy 1).onTmk (fun k => { k with opTarget := some p })

/-- TMK_OPCTL (R29, R30). -/
def execOpctlWrite (who : Init) (v : Word) (s : State) : Host.Outcome State Fault Refusal :=
  .next (s.port who Reg.TMK_OPCTL (fun t => t.wrOpctl v))

/-- A TMK_EP_CAL_FAIL (Table TMK-7); a running power stage stops in a controlled way (Table PWR-2, PWR_EP_STOP). -/
def State.edgeFail (s : State) : State :=
  let s1 := (s.setFld F.TMK_STATUS_ep_cal_fail 1).fault 0x0104
  if s1.edgeOn then (s1.gateStop 7).pwrFault 0x0906 else s1

/-- An operating-point change reaches its target, all lines recalibrated (Table TMK-2). -/
def execOpChangeDone (taps : List Nat) (s : State) : Host.Outcome State Fault Refusal :=
  .next (match s.tmk.opTarget with
  | none => s
  | some p =>
    let s1 := (s.edgeAll taps).onTmk (fun k => { k with opTarget := none })
    let s2 := ((s1.setFld F.TMK_OPCTL_op_now p).setFld F.TMK_STATUS_op_busy 0).deliver 8 allCores
    if taps.all tapsOk then s2 else s2.edgeFail)

/-- A change is not complete after 100 µs: op_now reports the point last reached (TMK_OP_FAIL). -/
def execOpChangeTimeout (reached : Nat) (s : State) : Host.Outcome State Fault Refusal :=
  .next (match s.tmk.opTarget with
  | none => s
  | some _ =>
    let s1 := (s.onTmk (fun k => { k with opTarget := none })).setFld F.TMK_STATUS_op_busy 0
    ((s1.setFld F.TMK_OPCTL_op_now reached).setFld F.TMK_STATUS_op_fail 1).fault 0x0103)

/-! ## Meter time (R32 to R34) -/

/-- The high word of meter time has increased and goes to the next floor slot (R34). -/
def execMtFloorCommit (s : State) : Host.Outcome State Fault Refusal :=
  .next (if s.tmk.mtRun && (match s.floorTop with | some h => decide (h < s.mt / 2 ^ 32) | none => true) then s.floorCommit (s.mt / 2 ^ 32) else s)

/-- An initiator may read a register (R48, R52, R451). -/
def State.mayRead (s : State) (who : Init) (a : Nat) : Bool :=
  match who with
  | .host => true
  | .core c => c < 5 && s.coreReads c a

/-- TMK_MT_LO read: the low word, the high word latched for the reader (R33). -/
def State.readMtLo (s : State) (who : Init) : Word × State :=
  (w32 s.mt, s.onTmk (fun k => { k with mtHi := upd k.mtHi (Init.reader who) (fun _ => w32 (s.mt / 2 ^ 32)) }))

/-- TMK_WALL_SEC read: the seconds, TMK_WALL_SUB latched for the reader (R35). -/
def State.readWallSec (s : State) (who : Init) : Word × State :=
  (w32 s.nj.wallSec, s.onTmk (fun k =>
    { k with wallSub := upd k.wallSub (Init.reader who) (fun _ => s.nj.wallSub % 32768 + 32768 * bit s.nj.wallValid) }))

/-- MT_LO_READ (R33). -/
def execMtLoRead (who : Init) (s : State) : Host.Outcome State Fault Refusal :=
  .next (if s.mayRead who Reg.TMK_MT_LO then let r := s.readMtLo who; { r.2 with readOut := r.1 } else s)

/-- WALL_SEC_READ (R35). -/
def execWallSecRead (who : Init) (s : State) : Host.Outcome State Fault Refusal :=
  .next (if s.mayRead who Reg.TMK_WALL_SEC then let r := s.readWallSec who; { r.2 with readOut := r.1 } else s)

/-! ## Wall time (R36 to R39, R116) -/

/-- A small step of a magnitude in seconds (R36, R37, R116). -/
def State.smallStep (s : State) (mag : Nat) : State :=
  if mag = 0 then s
  else
    let s1 := { s with nj := { s.nj with bucketMs := s.nj.bucketMs + 1000 * mag } }
    (s1.count F.NJD_STEP_CNT_small_count).count F.NJD_STEP_CNT_small_sum_s mag

/-- TMK_LAST_STEP of a large step: clamped, or 0x8000_0000 where wall time was invalid (R38). -/
def lastStepWord (valid : Bool) (step : Int) : Word :=
  if valid then BitVec.ofInt 32 (max (-2147483647) (min 2147483647 step)) else 0x80000000#32

/-- A large step (R38, R392): the TIME entry, the era, TMK_LAST_STEP, the event, billing's closure at the next step boundary. -/
def State.largeStep (s : State) (new : Nat) (step : Int) : State :=
  let valid := s.nj.wallValid
  let old := s.nj.wallSec
  let s1 := s.log ⟨1, if valid then 1 else 2, 0, new, some old, some s.mt⟩
  let s2 := (s1.setWord Reg.TMK_ERA (s1.word Reg.TMK_ERA + 1#32)).setWord Reg.TMK_LAST_STEP (lastStepWord valid step)
  let s3 := ((s2.setFld F.TMK_STATUS_step_large 1).onNj (fun k => { k with bucketMs := 0, wallValid := true })).deliver 10 allCores
  if s3.isManager then s3.onBil (fun b => { b with steps := b.steps ++ [(old, s3.mt, s3.era)] }) else s3

/-- The step is small (R36). -/
def State.stepSmall (s : State) (mag : Nat) : Bool :=
  s.nj.wallValid && mag ≤ s.fld F.TMK_STEP_CFG_limit_s && 1000 * mag + s.nj.bucketMs ≤ 1000 * s.fld F.TMK_STEP_CFG_budget_s || (s.nj.wallValid && mag = 0)

/-- A write to TMK_WALL_SET (R36 to R38, Table TMK-6). -/
def State.wrWallSet (s : State) (v : Word) : State :=
  if s.duskWarn then s.setFld F.TMK_STATUS_set_refused 1
  else
    let step : Int := (v.toNat : Int) - s.nj.wallSec
    let s1 := if s.stepSmall step.natAbs then s.smallStep step.natAbs else s.largeStep v.toNat step
    s1.onNj (fun k => { k with wallSec := v.toNat, wallSub := 0 })

/-- TMK_WALL_SET (R36). -/
def execWallSet (who : Init) (v : Word) (s : State) : Host.Outcome State Fault Refusal :=
  .next (s.port who Reg.TMK_WALL_SET (fun t => t.wrWallSet v))

/-- 3,600 s of meter time drain 1 s of the bucket (R37). -/
def execBucketDrain (s : State) : Host.Outcome State Fault Refusal :=
  .next (if s.tmk.mtRun && s.tmk.drainFrom + 3600 * secTicks ≤ s.mt then
    { s with nj := { s.nj with bucketMs := s.nj.bucketMs - 1000 }, tmk := { s.tmk with drainFrom := s.tmk.drainFrom + 3600 * secTicks } }
  else s)

/-! ## Compare units (R40) -/

/-- Unit `n` fires where it is armed and its target is reached (R40). -/
def State.cmpFire (s : State) (n : Nat) : State :=
  if s.is (F.TMK_CMPn_HI_en n) && s.tmk.cmpTarget.getD n 0 ≤ s.mt then
    let m := s.fld (F.TMK_CMPn_HI_core_mask n)
    ((s.setFld (F.TMK_CMPn_HI_fired n) 1).setFld (F.TMK_CMPn_HI_en n) 0).deliver n (maskCores m)
  else s

/-- A write to TMK_CMPn_HI (R40): the target captured, bits [63:56] from meter time; one already passed fires at once. -/
def State.wrCmpHi (s : State) (n : Nat) (v : Word) : State :=
  let s1 := s.wrPlain (Reg.TMK_CMP0_HI + 8 * n) v
  if v.getLsbD 24 then
    let t := s.mt / 2 ^ 56 * 2 ^ 56 + getBits v 23 0 * 2 ^ 32 + s.fld (F.TMK_CMPn_LO_target_lo n)
    (s1.onTmk (fun k => { k with cmpTarget := upd k.cmpTarget n (fun _ => t) })).cmpFire n
  else s1

/-- TMK_CMPn_HI (R40). -/
def execCmpArm (who : Init) (n : Nat) (v : Word) (s : State) : Host.Outcome State Fault Refusal :=
  .next (s.port who (Reg.TMK_CMP0_HI + 8 * n) (fun t => t.wrCmpHi n v))

/-- Meter time reaches the target of unit `n` (R40). -/
def execCmpFire (n : Nat) (s : State) : Host.Outcome State Fault Refusal := .next (s.cmpFire n)

/-! ## Interface clock generators (R41, R321) -/

/-- The subsystem that owns generator `n` is active (R41). -/
def State.icgUsed (s : State) (n : Nat) : Bool :=
  match n with
  | 0 => s.is F.XMP_CTRL_en || !s.qe.posted.isEmpty
  | 1 => s.fld F.MTR_CTRL_ch_en ≠ 0
  | 2 => s.is F.RBN_STATUS_field_on
  | _ => s.veh.asm.isSome

/-- Generator `n` is enabled. -/
def State.icgOn (s : State) (n : Nat) : Bool := (s.word Reg.TMK_ICG_CTRL).getLsbD n

/-- One enable bit written: clearing it is ignored while its subsystem is active, and ends the lock (R41, R44). -/
def State.icgEnable (s : State) (n : Nat) (b : Bool) : State :=
  if b then s.setBit ⟨Reg.TMK_ICG_CTRL, n, n⟩ true
  else if s.icgUsed n then s
  else (s.setBit ⟨Reg.TMK_ICG_CTRL, n, n⟩ false).setFldBit F.TMK_ICG_CTRL_locked n false

/-- ICG-M stops or loses lock (R321, Table MTR-9). -/
def State.clkLost (s : State) : State :=
  let s1 := s.efmClkLost
  if s1.isManager && s1.fld F.MTR_CTRL_ch_en ≠ 0 then (s1.mtrGapBegin).mtrFault 0x0A04 else s1

/-- A write to TMK_ICG_CTRL (R41, Table TMK-15). -/
def State.wrIcg (s : State) (v : Word) : State :=
  let s1 := if s.icgOn 0 then s else s.setFld F.TMK_ICG_CTRL_x_freq (getBits v 5 4)
  let s2 := if s.icgOn 3 then s1 else s1.setFld F.TMK_ICG_CTRL_a_freq (getBits v 7 6)
  let s3 := [0, 1, 2, 3].foldl (fun t n => t.icgEnable n (v.getLsbD n)) s2
  if s.icgLocked 1 && !s3.icgLocked 1 then s3.efmClkLost else s3

/-- TMK_ICG_CTRL (R41). -/
def execIcgCtrlWrite (who : Init) (v : Word) (s : State) : Host.Outcome State Fault Refusal :=
  .next (s.port who Reg.TMK_ICG_CTRL (fun t => t.wrIcg v))

/-- An enabled generator locks (R41); with ICG-M source 35 loses its clock cause (R321). -/
def execIcgLock (n : Nat) (s : State) : Host.Outcome State Fault Refusal :=
  .next (if s.tmk.mtRun && s.icgOn n && !s.icgLocked n then
    let s1 := s.setFldBit F.TMK_ICG_CTRL_locked n true
    if n = 1 then s1.efmClkBack else s1
  else s)

/-- An enabled generator loses lock while the crystal runs (R321). -/
def execIcgLockLost (n : Nat) (s : State) : Host.Outcome State Fault Refusal :=
  .next (if s.tmk.mtRun && s.icgLocked n then
    let s1 := s.setFldBit F.TMK_ICG_CTRL_locked n false
    if n = 1 then s1.clkLost else s1
  else s)

/-! ## Edge placer (R42) -/

/-- The line of gate output `out` that serves no edges is recalibrated; the lines swap roles at the next period boundary, at once where no period
runs; a count outside the range keeps the line out of use (R42, TMK_EP_CAL_FAIL). -/
def execEpCalibrate (out taps : Nat) (s : State) : Host.Outcome State Fault Refusal :=
  .next (if s.dawnDone && s.tmk.mtRun then
    let serves1 := s.tmk.epEdge.getD out false
    let n := lineTaps taps
    let running := 1 ≤ s.pwrState && s.pwrState ≤ 3
    let s1 := s.onTmk (fun k =>
      { k with epTaps := upd k.epTaps out (fun p => if serves1 then (n, p.2) else (p.1, n)),
               epSwap := upd k.epSwap out (fun b => if n = 0 then b else running),
               epEdge := upd k.epEdge out (fun b => if n = 0 || running then b else !b) })
    let s2 := if out = 0 then s1.setFld F.TMK_EP_CAL_taps_per_tick taps else s1
    if n = 0 then s2.edgeFail else s2
  else s)

/-! ## Wear (R43) -/

/-- A condition of R43 is reached by a monitor: its status bit; its fault and EVT_WEAR to CC0 to CC3 once per Dawn. -/
def State.wearRaise (s : State) (f : Field) (code : Nat) (first : Bool) : State :=
  let s1 := s.setFld f 1
  if first then (s1.fault code).deliver 11 ccCores else s1

/-- A wear measurement, in 0.01 %; discarded during an operating-point change and outside −20 to +110 °C (R43). -/
def execWearMeasure (mon wear : Nat) (tj : Int) (s : State) : Host.Outcome State Fault Refusal :=
  .next (if !s.is F.TMK_CTRL_wear_en || s.is F.TMK_STATUS_op_busy || tj < -20 || 110 < tj || !s.tmk.mtRun || !s.dawnDone then s
  else
    let was := (s.tmk.wear.getD mon none).getD 0
    let s1 := s.onTmk (fun k => { k with wear := upd k.wear mon (fun _ => some wear) })
    let s2 := if 600 ≤ wear && was < 600 then
        (s1.wearRaise F.TMK_STATUS_wear_warn 0x0105 (!s1.tmk.wearWarned)).onTmk (fun k => { k with wearWarned := true })
      else s1
    let s3 := if 1000 ≤ wear && was < 1000 then
        (s2.wearRaise F.TMK_STATUS_wear_limit 0x0106 (!s2.tmk.wearLimited)).onTmk (fun k => { k with wearLimited := true })
      else s2
    let s4 := if mon = 5 && 600 ≤ wear && !s3.tmk.mon5Warned then (s3.deliver 11 [4]).onTmk (fun k => { k with mon5Warned := true }) else s3
    if mon = 5 && 1000 ≤ wear && !s4.tmk.mon5Limited then (s4.deliver 11 [4]).onTmk (fun k => { k with mon5Limited := true }) else s4)

/-! ## The crystals (R44, R45) -/

/-- No 25 MHz edge for 1 µs (R44): meter time freezes, every generator stops, EVT_XTAL_FAIL; the time base of the safety connections fails (R334). -/
def execXtalMtLost (s : State) : Host.Outcome State Fault Refusal :=
  .next (if !s.tmk.mtRun then s
  else
    let s1 := ((s.setFld F.TMK_STATUS_xtal_mt_lost 1).setFld F.TMK_STATUS_xtal_mt_fail 1).fault 0x0101
    let s2 := (if s1.icgOn 1 then s1.clkLost else s1).setFld F.TMK_ICG_CTRL_locked 0
    ((s2.onTmk (fun k => { k with mtRun := false })).deliver 9 allCores).scTimebase)

/-- 25,000 good edges: meter time resumes from its frozen value; open records carry gap_inside (R44, Table BIL-5). -/
def execXtalMtResume (s : State) : Host.Outcome State Fault Refusal :=
  .next (if s.is F.TMK_STATUS_xtal_mt_lost then
    ((s.setFld F.TMK_STATUS_xtal_mt_lost 0).onTmk (fun k => { k with mtRun := true })).recordFlags 2 2
  else s)

/-- The check of the 32.768 kHz crystal (R45): an edge lost for 100 µs, or the ratio off by more than 200 ppm over 1 s. -/
def execWtXtalCheck (edgeLost : Bool) (ppm : Int) (s : State) : Host.Outcome State Fault Refusal :=
  .next (if s.fld F.DSK_DAWN_STATUS_step < 11 || s.dsk.off then s
  else if edgeLost || (s.is F.TMK_CTRL_ratio_en && s.tmk.mtRun && 200 < ppm.natAbs) then (s.setFld F.TMK_STATUS_xtal_wt_fail 1).fault 0x0102
  else s)

/-! ## Other registers (Tables TMK-10 to TMK-17) -/

/-- A write to TMK_STEP_CFG (R5, Tables TMK-5, TMK-6 and TMK-11): a field out of its range is refused and keeps its value, a write that would leave
budget_s below limit_s is ignored whole, and one with METRO_EN off is refused with cfg_refused. -/
def State.wrStepCfg (s : State) (v : Word) : State :=
  let r := s.wrCols (colsOf Reg.TMK_STEP_CFG) v (fun _ _ => true)
  if r.shut then r.finish Reg.TMK_STEP_CFG (some F.TMK_STATUS_cfg_refused)
  else if r.st.fld F.TMK_STEP_CFG_budget_s < r.st.fld F.TMK_STEP_CFG_limit_s then s
  else r.finish Reg.TMK_STEP_CFG none

/-- A write to a TMK register without a row of its own. -/
def State.wrTmk (s : State) (a : Nat) (v : Word) : State :=
  if a = Reg.TMK_STEP_CFG then s.wrStepCfg v else s.wrPlain a v

end Sys2Proof.Machine
end

