-- ==== Sys2Proof/Machine/Upd.lean ====
section
/-! DEFINITION. The commands of the update engine (08_update_manifests.md). -/

namespace Sys2Proof.Machine

open Sys2Proof

/-! ## Block units (Table UPD-3, R151, R153) -/

/-- A block unit's header and CRC are correct (R153). -/
def unitOk (l : List Byte) : Bool :=
  let d := (l.drop 32).take 4096
  u l 0 4 = 0x4B4C4255 && u l 9 1 = 0 && u l 12 4 = 4096 && ((l.drop 0x14).take 12).all (· = 0) && u l 0x10 4 = (crc32c crcInit d).toNat &&
  (u l 8 1 < 32 || (u l 8 1 = 0xFF && u l 10 2 = 0))

/-- The oldest block unit where it is of the kind asked for: the manifest or a part's block. -/
def State.unitFront (s : State) (man : Bool) : Option (List Byte) × State :=
  let r := s.peekFrom 0x0020
  match r.1 with
  | some (l, _) => if (u l 8 1 = 0xFF) = man then ((s.takeFrom 0x0020).1.map (·.1), (s.takeFrom 0x0020).2) else (none, r.2)
  | none => (none, r.2)

/-- A unit dropped and counted (R153). -/
def State.updDrop (s : State) : State := s.count F.UPD_COUNT_dropped

/-- The anchor key may verify (R151 check 5). -/
def State.anchorOk (s : State) : Bool :=
  let n := s.fld F.UPD_ANCHOR_slot
  let k := s.key n
  n ≠ 0xFF && k.state = 1 && (k.alg = 0x11 || k.alg = 0x91) && k.usage.testBit 1

/-- A manifest at a Manager, up to its signature (R151 checks 2 to 5, Table UPD-9). -/
def State.manManager (s : State) (l : List Byte) : State :=
  let man := manifestOf l
  let old := match s.update.man with | some m => decide (man.set ≤ m.set) | none => false
  let own := s.fld F.DSK_ACTIVE_SET_active_set
  if s.updState = 3 || s.updState = 4 || s.update.checking.isSome || old then s.updDrop
  else if s.manBarred then s.manRefuse man 0x0E02
  else if !formatOk l then s.manRefuse man 0x0E01
  else if !s.targetOk l then s.manRefuse man 0x0E02
  else if man.set < own then s.manRefuse man 0x0E03
  else if !s.anchorOk then s.manRefuse man 0x0E04
  else
    let n := manBody l
    let r := s.kvPort .manifest 0x09 (s.fld F.UPD_ANCHOR_slot) (l.take n) ((l.drop n).take 96)
    if r.1 = 0 then r.2.manRefuse man 0x0E04 else r.2.onUpd (fun k => { k with checking := some man })

/-- A manifest at a Worker, which its Manager has accepted; one that it holds already is dropped, and it reports the parts it has verified again, since
its Manager sends parts once more to a Worker that returns (Table UPD-9, R155). -/
def State.manWorker (s : State) (l : List Byte) : State :=
  let man := manifestOf l
  let held := match s.update.man with | some m => decide (man.set = m.set) | none => false
  if s.updState = 6 || s.updState = 4 || held || !formatOk l then
    let good := ((List.range s.update.parts.length).filter (fun i => (s.stagedPart i).verified)).foldl (fun a i => a + 2 ^ i) 0
    if held && good ≠ 0 then s.updDrop.updToManager 6 0 man.set good else s.updDrop
  else s.stageManifest man false

/-- MANIFEST_ARRIVE: the oldest block unit is a manifest (R151, R153). -/
def execManifestArrive (s : State) : Host.Outcome State Fault Refusal :=
  .next (let r := s.unitFront true
    match r.1 with
    | none => r.2
    | some l =>
      if !unitOk l then r.2.count F.UPD_COUNT_crc_bad
      else
        let d := (l.drop 32).take 4096
        if r.2.isManager then r.2.manManager d else if r.2.isWorker then r.2.manWorker d else r.2)

/-- A verified manifest: coverage, space, and its staging (R151 checks 6 and 7, Table UPD-9). -/
def State.manAccept (s : State) (man : Manifest) : State :=
  if !coverageOk man then s.manRefuse man 0x0E05
  else if !s.stageOk man then s.manRefuse man 0x0E06
  else
    let restage := decide (man.set = s.fld F.DSK_ACTIVE_SET_active_set)
    let s1 := match s.update.man with
      | some old => s.admittedList.foldl (fun (t : State) m => t.updToMember m 5 old.set) s
      | none => s
    let s2 := ((s1.stageManifest man restage).logUpdate 1 (bit restage) man.set none).updResult 1 0 0
    if restage then s2 else s2.forward ((s2.admittedList.filter (fun m => (namedMask man).testBit m)).map (fun m => (m, 0xFF, 0)))

/-- The retained manifest verified again for a member (R161 case 3). -/
def State.retainedDone (s : State) (m : Nat) (ok : Bool) : State :=
  match s.update.retained with
  | some man =>
    if !ok then (s.setLate m none).noImage m
    else
      let blocks := (List.range man.parts.length).flatMap (fun i =>
        let p := man.parts.getD i default
        if p.mask.testBit m then (List.range (p.len / 4096)).map (fun b => (m, i, b)) else [])
      let s1 := (s.setLate m (some .staging)).onUpd (fun k => { k with ready := upd k.ready m (fun _ => 0) })
      s1.forward ((m, 0xFF, 0) :: blocks)
  | none => (s.setLate m none).noImage m

/-- A VERIFY of the engine's vault port has ended: the staged manifest's, and the retained one's for each member (R151, R161). -/
def State.verifyDone (s : State) : State :=
  let s1 := match s.kvJob .manifest, s.update.checking with
    | some t, some man =>
      if t.phase = 3 || t.phase = 4 then
        let r := (s.kvRelease t.id).onUpd (fun k => { k with checking := none })
        if t.phase = 3 then r.manAccept man else r.manRefuse man 0x0E04
      else s
    | some t, none => if t.phase = 3 || t.phase = 4 then s.kvRelease t.id else s
    | none, _ => s
  allMembers.foldl (fun r m =>
    match r.kvJob (.retained m) with
    | some t => if t.phase = 3 || t.phase = 4 then (r.kvRelease t.id).retainedDone m (decide (t.phase = 3)) else r
    | none => r) s1

/-- MANIFEST_VERIFY_DONE (R151). -/
def execManifestVerifyDone (s : State) : Host.Outcome State Fault Refusal := .next s.verifyDone

/-! ## Part blocks (R153, R154) -/

/-- An index put into a rising list. -/
def insertIx (n : Nat) : List Nat → List Nat
  | [] => [n]
  | a :: t => if n < a then n :: a :: t else if n = a then a :: t else a :: insertIx n t

/-- The header of this chip's image fails R154: its fault. -/
def State.headerFault (s : State) (man : Manifest) (p : ManPart) (d : List Byte) : Option Nat :=
  let v := u d 0x10 4
  if v < s.antiRollback (u d 0x14 4) && u d 0x14 4 ≤ 31 then some 0x0E09
  else if headerOk d (slotBase s.spareSlot) && u d 8 4 = man.set && s.roleOk d && u d 0x18 4 = imageEnd man s.ownMember && u d 0x14 4 = p.ctr && p.floor ≤ v
  then none else some 0x0E08

/-- A block of a part this chip stages (R153, R154). -/
def State.takeBlock (s : State) (man : Manifest) (i index : Nat) (d : List Byte) : State :=
  let p := man.parts.getD i default
  let s1 := (s.stageBlock man i index d).onPart i (fun k => { k with held := insertIx index k.held })
  let own := s.ownPart p && !(s.isManager && s.is F.UPD_STATUS_restage)
  let s2 := if own && p.off = 0 && index = 0 then
      match s.headerFault man p d with
      | some c =>
        let t := s1.updFault c
        if t.isManager then (t.setUpdState 5).updResult 2 c 1 else (t.updToManager 8 c man.set (2 ^ i)).setUpdState 5
      | none => s1
    else s1
  if s2.isManager && p.remote && !s2.is F.UPD_STATUS_restage && s2.updState ≠ 5 then
    s2.forward ((s2.admittedList.filter (fun m => p.mask.testBit m)).map (fun m => (m, i, index)))
  else s2

/-- UPD_BLOCK_ARRIVE: the oldest block unit carries a part's block (R153 to R155). -/
def execUpdBlockArrive (s : State) : Host.Outcome State Fault Refusal :=
  .next (let r := s.unitFront false
    match r.1 with
    | none => r.2
    | some l =>
      if !unitOk l then r.2.count F.UPD_COUNT_crc_bad
      else
        match r.2.update.man with
        | none => r.2.updDrop
        | some man =>
          let i := u l 8 1
          let index := u l 10 2
          let p := man.parts.getD i default
          if u l 4 4 ≠ man.set || man.parts.length ≤ i || !(r.2.updState = 1 || r.2.updState = 2) || !r.2.stages p then r.2.updDrop
          else if p.len / 4096 ≤ index then r.2.count F.UPD_COUNT_crc_bad
          else if (r.2.stagedPart i).held.contains index then r.2.updDrop
          else r.2.takeBlock man i index ((l.drop 32).take 4096))

/-! ## Digests (R155) -/

/-- PART_DIGEST_DONE: the SHA-384 of a complete part (R155). -/
def execPartDigestDone (i : Nat) (s : State) : Host.Outcome State Fault Refusal :=
  .next (match s.update.man with
    | some man =>
      let p := man.parts.getD i default
      if man.parts.length ≤ i || !s.partComplete man i || (s.stagedPart i).verified || !s.stages p then s
      else if Config.sha384 (s.partBytes man i) = p.digest then
        let s1 := s.onPart i (fun k => { k with verified := true, bad := false })
        if s1.isWorker then s1.updToManager 6 0 man.set (2 ^ i) else s1.judgeStaged
      else
        let s1 := (s.onPart i (fun _ => { bad := true })).updFault 0x0E07
        if s1.isWorker then s1.updToManager 7 0x0E07 man.set (2 ^ i) else s1
    | none => s)

/-- BOOT_DIGEST_DONE: the SHA-384 over this chip's whole image (R155). -/
def execBootDigestDone (s : State) : Host.Outcome State Fault Refusal :=
  .next (match s.update.man with
    | some man =>
      if s.updState ≠ 1 || s.update.boot.isSome || (s.isManager && s.is F.UPD_STATUS_restage) || !s.ownVerified man || (partsOf man s.ownMember).isEmpty then s
      else
        let d := Config.sha384 (s.readBytes (slotBase s.spareSlot) (imageEnd man s.ownMember))
        let s1 := s.onUpd (fun k => { k with boot := some d })
        if s1.isWorker then s1.setUpdState 2 else s1.judgeStaged
    | none => s)

/-! ## Activation (R156 to R158) -/

/-- UPD_ACTIVATE written with its key (R156). -/
def State.wrActivate (s : State) (v : Word) : State :=
  if getBits v 15 0 ≠ 0xAC71 || !s.isManager then s
  else
    match s.update.man with
    | some man =>
      if s.updState = 2 && !s.is F.UPD_STATUS_restage && getBits v 31 16 = man.set % 65536 then
        let s1 := s.setUpdState 3
        if s1.heldReasons = 0 then s1 else s1.updResult 4 0 0
      else s.updResult 5 0 0
    | none => s.updResult 5 0 0

/-- A write to UPD_ACTIVATE (R156). -/
def execUpdActivate (who : Init) (v : Word) (s : State) : Host.Outcome State Fault Refusal :=
  .next (s.port who Reg.UPD_ACTIVATE (fun t => t.wrActivate v))

/-- UPD_ABORT written with its key (R158, Table UPD-12). -/
def State.wrAbort (s : State) (v : Word) : State :=
  if getBits v 15 0 ≠ 0x5AB0 then s
  else if s.activating then s.updAbort 0 0
  else if s.updState = 4 || s.updState = 6 then s.updResult 2 0 0
  else s.unstage.updResult 6 0 0

/-- A write to UPD_ABORT (R158). -/
def execUpdAbort (who : Init) (v : Word) (s : State) : Host.Outcome State Fault Refusal :=
  .next (s.port who Reg.UPD_ABORT (fun t => t.wrAbort v))

/-- Steps 5 to 7 on the Manager: its record read back, its activate word, COMMIT to each Worker (Table UPD-5, R164). -/
def State.flip (s : State) (man : Manifest) (good act : Bool) : State :=
  let s1 := s.writeRecord man good
  if !good then (s1.updFault 0x0E0D).updAbort 0x0E0D 1
  else if !act then (s1.updFault 0x0E0D).hardReset 1
  else
    let s2 := ((s1.activate.setUpdState 4).updResult 7 0 0).onUpd (fun k =>
      { k with waitCommit := s.update.prepared, prepared := 0, sentAt := s.mt, retained := some man })
    let s3 := (allMembers.filter (fun m => s.update.prepared.testBit m)).foldl (fun t m => t.updToMember m 3 man.set) s2
    if s.update.prepared = 0 then s3.resetRequest 4 else s3

/-- ACTIVATION_RELEASE: the hold has cleared; a flip that the Dusk warning held goes on once it clears (R157, Tables UPD-5, UPD-9). -/
def execActivationRelease (good act : Bool) (s : State) : Host.Outcome State Fault Refusal :=
  .next (match s.update.man with
    | some man =>
      if s.activating && s.updateHold && s.update.waitPrep = 0 && s.update.prepared ≠ 0 && !s.duskWarn then s.flip man good act
      else if !s.activating || s.updateHold || s.heldReasons ≠ 0 then s
      else
        let ws := s.admittedList
        let lacking := ws.filter (fun m => !(namedMask man).testBit m || !s.memberReady man m)
        if !lacking.isEmpty then
          let s1 := ((s.updFault 0x0E05).setUpdState 1).updResult 5 0x0E05 (lacking.foldl (fun a m => a + 2 ^ m) 0)
          lacking.foldl (fun t m => if (namedMask man).testBit m then t.forward (t.allBlocks man m) else t) s1
        else
          let s1 := s.updHoldOn.onUpd (fun k => { k with waitPrep := ws.foldl (fun a m => a + 2 ^ m) 0, prepared := 0, sentAt := s.mt })
          if ws.isEmpty then s1.flip man good act else ws.foldl (fun t m => t.updToMember m 1 man.set) s1
    | none => s)

/-- The oldest update control message where its code is `code`, with its member, taken and acted on where its sender may send it (Table UPD-4). -/
def State.updObey (s : State) (code : Nat) (act : State → List Byte → Nat → State) : State :=
  let r := s.peekFrom 0x0021
  match r.1 with
  | none => r.2
  | some (l, who) =>
    if u l 0 1 ≠ code then r.2
    else
      let t := (r.2.takeFrom 0x0021).2
      let src := match who with | some m => m.src | none => 0
      if t.isWorker then (if t.is F.STF_STATUS_has_owner && src = t.fld F.STF_MGR_owner then act t l (u l 1 1) else t)
      else if t.isManager && t.samePost src && src % 16 = u l 1 1 && src % 16 ≠ 0 then act t l (src % 16)
      else t

/-- PREPARE at a Worker: its record, and PREPARED once it reads back; its activation aborts where it does not (Table UPD-5 step 3, R158, R164). -/
def execPrepare (good : Bool) (s : State) : Host.Outcome State Fault Refusal :=
  .next (if !s.isWorker then s else s.updObey 1 (fun t l _ =>
    match t.update.man with
    | some man =>
      if u l 4 4 = man.set && t.updState = 2 then
        let s1 := t.updHoldOn.writeRecord man good
        if good then (s1.setUpdState 6).updToManager 2 0 man.set 0 else (s1.setFld F.UPD_STATUS_hold_on 0).updFault 0x0E0D
      else t
    | none => t))

/-- PREPARED at the Manager: when all have arrived, the flip, which a Dusk warning holds; a Worker whose reply comes after an abort receives DISCARD
(Table UPD-5 steps 4 to 7, Table UPD-9, R158). -/
def execPrepared (good act : Bool) (s : State) : Host.Outcome State Fault Refusal :=
  .next (if !s.isManager then s else s.updObey 2 (fun t l m =>
    if t.lateOf m = some .preparing then (t.updToMember m 3 (u l 4 4)).setLate m (some (.committing true))
    else if t.activating && t.update.waitPrep.testBit m then
      let s1 := t.onUpd (fun k => { k with waitPrep := k.waitPrep - 2 ^ m, prepared := k.prepared + 2 ^ m })
      if s1.update.waitPrep = 0 && !s1.duskWarn then
        match s1.update.man with
        | some man => s1.flip man good act
        | none => s1
      else s1
    else if t.updState ≠ 3 && t.updState ≠ 4 then t.updToMember m 5 (u l 4 4)
    else t))

/-- COMMIT at a Worker: its activate word, and COMMITTED (R162, R164). -/
def execCommit (act : Bool) (s : State) : Host.Outcome State Fault Refusal :=
  .next (if !s.isWorker then s else s.updObey 3 (fun t l _ =>
    match t.prepRec with
    | some r =>
      if u l 4 4 ≠ r.set then t
      else if act then (t.activate.setUpdState 4).updToManager 4 0 r.set 0
      else (t.updFault 0x0E0D).hardReset 1
    | none => t))

/-- COMMITTED at the Manager: that Worker's FAB reset, and the Manager's own once all have committed (Table UPD-5 steps 8 and 9, R160, R161). -/
def execCommitted (s : State) : Host.Outcome State Fault Refusal :=
  .next (if !s.isManager then s else s.updObey 4 (fun t l m =>
    match t.lateOf m with
    | some (.committing restaged) =>
      (((t.setLate m none).stfCommand m 3).logUpdate 6 m (u l 4 4) none).updResult (if restaged then 9 else 8) 0 (2 ^ m)
    | _ =>
      if t.updState = 4 && t.update.waitCommit.testBit m then
        let s1 := (t.onUpd (fun k => { k with waitCommit := k.waitCommit - 2 ^ m })).stfCommand m 3
        if s1.update.waitCommit = 0 then s1.resetRequest 4 else s1
      else t))

/-- DISCARD at a Worker: its prepared record is invalidated and the update hold released (R158). -/
def execDiscard (s : State) : Host.Outcome State Fault Refusal :=
  .next (if !s.isWorker then s else s.updObey 5 (fun t _ _ =>
    let s1 := t.dropPrepared.setFld F.UPD_STATUS_hold_on 0
    if s1.updState = 6 then s1.setUpdState 2 else s1))

/-- PART_OK at the Manager (R155); of a member that joins late, PREPARE once all its parts are verified (R161). -/
def execPartOk (s : State) : Host.Outcome State Fault Refusal :=
  .next (if !s.isManager then s else s.updObey 6 (fun t l m =>
    match t.manFor m with
    | some man =>
      if u l 4 4 ≠ man.set then t
      else
        let s1 := t.onUpd (fun k => { k with ready := upd k.ready m (fun b => b ||| u l 8 4) })
        if s1.lateOf m = some .staging then
          if s1.memberReady man m then (s1.setLate m (some .preparing)).updToMember m 1 man.set else s1
        else s1.judgeStaged
    | none => t))

/-- PART_BAD at the Manager: the part's blocks are sent again (R155). -/
def execPartBad (s : State) : Host.Outcome State Fault Refusal :=
  .next (if !s.isManager then s else s.updObey 7 (fun t l m =>
    match t.manFor m with
    | some man =>
      if u l 4 4 ≠ man.set then t
      else
        let bits := u l 8 4
        let s1 := t.onUpd (fun k => { k with ready := upd k.ready m (fun b => b &&& (2 ^ 32 - 1 - bits)) })
        s1.forward ((List.range man.parts.length).flatMap (fun i =>
          if bits.testBit i then (List.range ((man.parts.getD i default).len / 4096)).map (fun b => (m, i, b)) else []))
    | none => t))

/-- IMAGE_BAD at the Manager: the manifest enters FAILED (R154). -/
def execImageBad (s : State) : Host.Outcome State Fault Refusal :=
  .next (if !s.isManager then s else s.updObey 8 (fun t l m =>
    match t.update.man with
    | some man => if u l 4 4 = man.set && (t.updState = 1 || t.updState = 2) then (t.setUpdState 5).updResult 2 (u l 2 2) (2 ^ m) else t
    | none => t))

/-- PREPARE_TIMEOUT: 200 ms without every PREPARED (Table UPD-5 step 4). -/
def execPrepareTimeout (s : State) : Host.Outcome State Fault Refusal :=
  .next (if s.activating && s.updateHold && s.update.waitPrep ≠ 0 && s.update.sentAt + 200 * msTicks ≤ s.mt then
    (s.updFault 0x0E0B).updAbort 0x0E0B s.update.waitPrep
  else s)

/-- COMMIT_TIMEOUT: 200 ms without COMMITTED; the Worker stays awaiting commit (R160). -/
def execCommitTimeout (s : State) : Host.Outcome State Fault Refusal :=
  .next (if s.isManager && s.updState = 4 && s.update.waitCommit ≠ 0 && s.update.sentAt + 200 * msTicks ≤ s.mt then
    (s.onUpd (fun k => { k with awaiting := k.awaiting ||| k.waitCommit, waitCommit := 0 })).resetRequest 4
  else s)

/-! ## Registers (Table UPD-12) -/

/-- Any other register of the block written: the staging area in IDLE only (Table UPD-9). -/
def State.wrUpd (s : State) (a : Nat) (v : Word) : State :=
  if a = Reg.UPD_STAGE_BASE || a = Reg.UPD_STAGE_SIZE then (if s.updState = 0 then s.wrPlain a v else s) else s.wrPlain a v

end Sys2Proof.Machine
end

