-- ==== Sys2Proof/Machine/Veh.lean ====
section
/-! DEFINITION. The commands of the vehicle interface (12_vehicle_interface.md). -/

namespace Sys2Proof.Machine

open Sys2Proof

/-- The vehicle interface works: a Manager after Dawn (R247, R262). -/
def State.vehOn (s : State) : Bool := s.isManager && s.dawnDone

/-- A pilot period boundary (R248): while the pilot is not forced the stored duty applies. -/
def execPilotPeriod (s : State) : Host.Outcome State Fault Refusal :=
  .next (if s.vehOn && !s.is F.VEH_STATUS_forced then
    let d := s.fld F.VEH_CP_PWM_duty
    (s.setFld F.VEH_CP_PWM_duty_now d).setPilot (if d = 0 then .low else if d = 1000 then .high else .pulse)
  else s)

/-- A write to VEH_CTRL (R249, Table VEH-11). -/
def State.wrVehCtrl (s : State) (v : Word) : State :=
  let s1 := s.wrPlain Reg.VEH_CTRL v (some F.VEH_STATUS_cfg_refused)
  let s2 := if v.getLsbD 0 then
      s1.onVeh (fun k => { k with released := true, timers := k.timers.map (fun t => { t with forced := 0 }) })
    else s1
  s2.pilotUpdate

/-- VEH_CTRL.release (R249). -/
def execPilotRelease (who : Init) (v : Word) (s : State) : Host.Outcome State Fault Refusal :=
  .next (s.port who Reg.VEH_CTRL (fun t => if t.isWorker then t else t.wrVehCtrl v))

/-! ## Pilot sensing (R250 to R253) -/

/-- A pilot reading of `uv` microvolts at CP_SENSE, in units of 1 nV of pilot voltage (R250). -/
def State.pilotNv (s : State) (uv : Nat) : Int :=
  ((uv : Int) - 1650000) * (10000 + sgn 16 (s.fld F.VEH_CP_CAL_gain)) + sgn 16 (s.fld F.VEH_CP_CAL_offset) * 1000000

/-- The band of Table VEH-1 that holds a reading, 0 for none. -/
def pilotBand (nv : Int) : Nat :=
  let v := fun (mv : Int) => mv * 1000000
  if v 11000 ≤ nv ∧ nv ≤ v 13000 then 1
  else if v 8000 ≤ nv ∧ nv ≤ v 10000 then 2
  else if v 5000 ≤ nv ∧ nv ≤ v 7000 then 3
  else if v 2000 ≤ nv ∧ nv ≤ v 4000 then 4
  else if v (-1000) ≤ nv ∧ nv ≤ v 1000 then 5
  else if v (-13000) ≤ nv ∧ nv ≤ v (-11000) then 6
  else 0

/-- A state of Table VEH-1 is accepted (R252, R253, R261). -/
def State.pilotAccept (s : State) (b : Nat) : State :=
  let s1 := ((s.setFld F.VEH_CP_STATE_prev (s.fld F.VEH_CP_STATE_state)).setFld F.VEH_CP_STATE_state b).setBit F.VEH_CP_STATE_pwm
    (decide (s.veh.cp = .pulse))
  let s2 := (s1.count F.VEH_CP_STATE_changes).setFld F.VEH_CP_TIME_mt s1.mt
  let s3 := s2.vehEvent F.VEH_EVT_cp_state
  if b = 5 then
    if s3.veh.shortLogged then s3 else (s3.onVeh (fun k => { k with shortLogged := true })).vehFault 0x0801 F.VEH_EVT_cp_fault
  else s3.onVeh (fun k => { k with shortLogged := false, diodeLogged := false, driverLogged := false, invalidLogged := false })

/-- The count of consecutive samples in one band, and the acceptance it reaches (R252). -/
def State.pilotHigh (s : State) (b : Nat) : State :=
  let run := if b ≠ 0 && b = s.veh.band then s.veh.bandRun + 1 else if b = 0 then 0 else 1
  let s1 := s.onVeh (fun k => { k with band := b, bandRun := run,
                                       invalidFrom := if b = 0 then some (k.invalidFrom.getD s.mt) else none })
  if b ≠ 0 && b ≠ s1.fld F.VEH_CP_STATE_state && s1.fld F.VEH_CP_CFG_deb ≤ run then s1.pilotAccept b else s1

/-- A sample of a steady-low output (R253): deb consecutive ones outside the F band raise VEH_CP_DRIVER. -/
def State.pilotDriver (s : State) (b : Nat) : State :=
  let run := if s.veh.cp = .low && b ≠ 6 then s.veh.driverRun + 1 else 0
  let s1 := s.onVeh (fun k => { k with driverRun := run })
  if 0 < run && s1.fld F.VEH_CP_CFG_deb ≤ run && !s1.veh.driverLogged then
    (s1.onVeh (fun k => { k with driverLogged := true })).vehFault 0x0803 F.VEH_EVT_cp_fault
  else s1

/-- A low-plateau sample (R253): deb consecutive ones above −11.0 V in an accepted state B, C or D raise VEH_CP_DIODE. -/
def State.pilotLow (s : State) (nv : Int) : State :=
  let st := s.fld F.VEH_CP_STATE_state
  let run := if 2 ≤ st && st ≤ 4 && -11000000000 < nv then s.veh.diodeRun + 1 else 0
  let s1 := s.onVeh (fun k => { k with diodeRun := run })
  if 0 < run && s1.fld F.VEH_CP_CFG_deb ≤ run && !s1.veh.diodeLogged then
    (s1.onVeh (fun k => { k with diodeLogged := true })).vehFault 0x0802 F.VEH_EVT_cp_fault
  else s1

/-- A control-pilot sample of the high or the low plateau, in microvolts at CP_SENSE (R250 to R253). -/
def execCpSample (high : Bool) (uv : Nat) (s : State) : Host.Outcome State Fault Refusal :=
  .next (if !s.vehOn then s
  else
    let pulse := decide (s.veh.cp = .pulse)
    let width := if high then s.fld F.VEH_CP_PWM_duty_now else 1000 - s.fld F.VEH_CP_PWM_duty_now
    if (pulse && width < s.fld F.VEH_CP_CFG_delay + 5) || (!pulse && !high) then s
    else
      let nv := s.pilotNv uv
      let r := s.roundFree nv 1000000
      if high then
        let b := pilotBand nv
        ((r.2.setFld F.VEH_CP_LEVEL_high_mv (unsgn 16 r.1)).pilotHigh b).pilotDriver b
      else (r.2.setFld F.VEH_CP_LEVEL_low_mv (unsgn 16 r.1)).pilotLow nv)

/-- Every high-plateau sample for inv_ms has been invalid (R253). -/
def execCpInvalidTimeout (s : State) : Host.Outcome State Fault Refusal :=
  .next (match s.veh.invalidFrom with
    | some t =>
      if s.vehOn && msTicks * s.fld F.VEH_CP_CFG_inv_ms ≤ s.mt - t && !s.veh.invalidLogged then
        (s.onVeh (fun k => { k with invalidLogged := true })).vehFault 0x0804 F.VEH_EVT_cp_fault
      else s
    | none => s)

/-! ## Proximity (R254) -/

/-- The code of Table VEH-3 for a coding resistance num ÷ den ohms. -/
def proxCode (num den : Nat) : Nat :=
  let within := fun (a b : Nat) => a * den ≤ num && num ≤ b * den
  if 4500 * den < num then 0
  else if within 1100 2200 then 1
  else if within 470 1000 then 2
  else if within 150 330 then 3
  else if within 50 110 then 4
  else if num < 50 * den then 6
  else 5

/-- A PP_SENSE conversion: five samples of one code different from the accepted one are accepted (R254, R261). -/
def execPpSample (code : Nat) (s : State) : Host.Outcome State Fault Refusal :=
  .next (if !s.vehOn || !s.is F.VEH_PP_CFG_en then s
  else
    let num := s.fld F.VEH_PP_CFG_r_pu * code
    let den := 4096 - code
    let k := proxCode num den
    let run := if k = s.veh.ppBand then min (s.veh.ppRun + 1) 5 else 1
    let r := s.roundFree num den
    let s1 := (r.2.setFld F.VEH_PP_STATE_ohms (min r.1.toNat 65535)).onVeh (fun v => { v with ppBand := k, ppRun := run })
    if run = 5 && k ≠ s1.fld F.VEH_PP_STATE_code then
      let s2 := ((s1.setFld F.VEH_PP_STATE_code k).count F.VEH_PP_STATE_changes).vehEvent F.VEH_EVT_pp_change
      if k < 5 then s2.onVeh (fun v => { v with ppLogged := false })
      else if s2.veh.ppLogged then s2.vehEvent F.VEH_EVT_pp_fault
      else (s2.onVeh (fun v => { v with ppLogged := true })).vehFault (if k = 6 then 0x0805 else 0x0806) F.VEH_EVT_pp_fault
    else s1)

/-! ## Auxiliary serial master (R256 to R258) -/

/-- A transaction begins on the wire: ASM_CS_N falls. -/
def State.asmStart (s : State) (r : AsmRun) : State :=
  (s.onVeh (fun v => { v with asm := some r, csN := false })).setFld F.VEH_ASM_STATUS_busy 1

/-- The template transaction of R258. -/
def State.asmTemplate (s : State) : AsmRun :=
  { template := true, evt := false, rdLen := s.fld F.VEH_ASM_CTRL_int_rd_len, tag := 0,
    wr := (leBytes 4 (s.word Reg.VEH_ASM_INT).toNat).take (s.fld F.VEH_ASM_CTRL_int_wr_len) }

/-- A queued transaction: its header, or status 3 (R257, Table VEH-5). -/
def State.asmQueued (s : State) (m : List Byte) : State :=
  let n := fun (o k : Nat) => leNat ((m.drop o).take k)
  let wr := n 2 2
  let rd := n 4 2
  let r : AsmRun := { template := false, evt := (n 0 1).testBit 0, rdLen := rd, tag := n 6 2, wr := (m.drop 8).take wr }
  if wr + rd = 0 || 2048 < wr || 2048 < rd || m.length < 8 + wr || 1 < n 0 1 || n 1 1 ≠ 0 then s.asmFinish r 3 []
  else s.asmStart r

/-- The ASM takes its next transaction: the template one first, then the oldest of queue 0x0080, where the result queue has room (R257, R258). -/
def execAsmTransaction (s : State) : Host.Outcome State Fault Refusal :=
  .next (if !s.vehOn || !s.is F.VEH_ASM_CTRL_en || s.veh.asm.isSome || s.duskWarn then s
  else if s.veh.template then
    let r := s.qRoom 0x82
    if r.1 then (r.2.onVeh (fun v => { v with template := false })).asmStart r.2.asmTemplate else r.2
  else
    let r := s.qRoom 0x81
    if r.1 then
      let t := r.2.blockTake 0x80
      match t.1 with
      | some m => t.2.asmQueued m
      | none => t.2
    else r.2)

/-- The transaction on the wire has read its bytes (R257). -/
def execAsmTransactionDone (rd : List Byte) (s : State) : Host.Outcome State Fault Refusal :=
  .next (match s.veh.asm with
    | some r => if rd.length = r.rdLen then s.asmFinish r 0 rd else s
    | none => s)

/-- ASM_INT_N changes (R258). -/
def execAsmInterrupt (low : Bool) (s : State) : Host.Outcome State Fault Refusal :=
  .next (if s.vehOn then (s.setBit F.VEH_ASM_STATUS_int (!low)).asmIntCheck else s)

/-- A write to VEH_ASM_CTRL (R256, Table VEH-9). -/
def State.wrAsmCtrl (s : State) (v : Word) : State :=
  let bad := v.getLsbD 0 && !s.icgLocked 3
  let s1 := s.wrPlain Reg.VEH_ASM_CTRL v none (fun c _ => !(c.lo = 0 && bad))
  let s2 := if bad then s1.setFld F.VEH_STATUS_cfg_refused 1 else s1
  let s3 := if s.is F.VEH_ASM_CTRL_en && !s2.is F.VEH_ASM_CTRL_en then s2.asmAbort else s2
  s3.asmIntCheck

/-- Clearing VEH_ASM_CTRL.en (R256, Table VEH-9). -/
def execAsmDisable (who : Init) (v : Word) (s : State) : Host.Outcome State Fault Refusal :=
  .next (s.port who Reg.VEH_ASM_CTRL (fun t => if t.isWorker then t else t.wrAsmCtrl v))

/-! ## Sequence timers and SLAC (R259) -/

/-- A timer changed. -/
def State.onTimer (s : State) (n : Nat) (f : SeqTimer → SeqTimer) : State := s.onVeh (fun v => { v with timers := upd v.timers n f })

/-- A write to VEH_TMRn (R259); a start wins over a stop in one word (assumption 14). -/
def State.wrTimer (s : State) (n : Nat) (v : Word) : State :=
  let s1 := s.wrPlain (Reg.VEH_TMR0 + 4 * n) v
  if v.getLsbD 22 && s1.fld (F.VEH_TMRn_ms n) ≠ 0 then
    (s1.onTimer n (fun t => { t with from_ := s1.mt, ms := s1.fld (F.VEH_TMRn_ms n) })).setFld (F.VEH_TMRn_running n) 1
  else if v.getLsbD 23 then s1.setFld (F.VEH_TMRn_running n) 0
  else s1

/-- A write of start to VEH_TMRn (R259). -/
def execVehTmrStart (who : Init) (n : Nat) (v : Word) (s : State) : Host.Outcome State Fault Refusal :=
  .next (s.port who (Reg.VEH_TMR0 + 4 * n) (fun t => if t.isWorker then t else t.wrTimer n v))

/-- A write of stop to VEH_TMRn (R259). -/
def execVehTmrStop (who : Init) (n : Nat) (v : Word) (s : State) : Host.Outcome State Fault Refusal :=
  .next (s.port who (Reg.VEH_TMR0 + 4 * n) (fun t => if t.isWorker then t else t.wrTimer n v))

/-- A running timer expires at the first millisecond boundary of meter time at or after start + ms (R259). -/
def execVehTmrExpire (n : Nat) (s : State) : Host.Outcome State Fault Refusal :=
  .next (let t := s.veh.timers.getD n {}
    let due := (t.from_ + msTicks * t.ms + msTicks - 1) / msTicks * msTicks
    if s.vehOn && s.is (F.VEH_TMRn_running n) && s.tmk.mtRun && due ≤ s.mt then
      let a := s.fld (F.VEH_TMRn_action n)
      let s1 := (s.setFld (F.VEH_TMRn_running n) 0).onTimer n (fun t => if a = 0 then t else { t with forced := a })
      (s1.vehEvent ⟨F.VEH_EVT_tmr.addr, F.VEH_EVT_tmr.lo + n, F.VEH_EVT_tmr.lo + n⟩).pilotUpdate
    else s)

/-- A write to VEH_SLAC (R259): a change to MATCHED or FAILED sets the event. -/
def State.wrSlac (s : State) (v : Word) : State :=
  let old := s.fld F.VEH_SLAC_state
  let s1 := s.wrPlain Reg.VEH_SLAC v
  let new := s1.fld F.VEH_SLAC_state
  if new ≠ old && (new = 3 || new = 4) then s1.vehEvent F.VEH_EVT_slac else s1

/-- A write to VEH_SLAC (R259). -/
def execSlacWrite (who : Init) (v : Word) (s : State) : Host.Outcome State Fault Refusal :=
  .next (s.port who Reg.VEH_SLAC (fun t => if t.isWorker then t else t.wrSlac v))

end Sys2Proof.Machine
end

