-- ==== Sys2Proof/Machine/Views.lean ====
section
/-! DEFINITION. What a read of each register returns: the stored word, with the fields that show state behind selectors, in nonvolatile memory
or in an engine (R453 to R455 and the field tables). -/

namespace Sys2Proof.Machine

open Sys2Proof

/-- The stored word of a register with some of its fields shown from elsewhere. -/
def State.shown (s : State) (a : Nat) (l : List (Field × Nat)) : Word := l.foldl (fun w p => putBits w p.1.hi p.1.lo p.2) (s.word a)

/-- A count as a saturating field shows it. -/
def sat (f : Field) (n : Nat) : Nat := min n (2 ^ (f.hi + 1 - f.lo) - 1)

/-- The numbers below a bound that pass a test, as a bit map. -/
def bitMap (n : Nat) (p : Nat → Bool) : Nat := ((List.range n).filter p).foldl (fun a i => a + 2 ^ i) 0

/-- SYS (Tables SYS-46, SYS-49). -/
def State.viewSys (s : State) (a : Nat) : Word :=
  if a = Reg.SYS_LIFE_MIN then w32 (min (s.life.minutes.getD (s.fld F.SYS_LIFE_SEL_bin) 0) (2 ^ 32 - 1))
  else if a = Reg.SYS_MRAM_WR then w32 s.mramUnits
  else s.word a

/-- TMK, for a reader's latches (R33, R35). -/
def State.viewTmk (s : State) (who : Init) (a : Nat) : Word :=
  if a = Reg.TMK_MT_LO then w32 s.mt
  else if a = Reg.TMK_MT_HI then s.tmk.mtHi.getD (Init.reader who) 0
  else if a = Reg.TMK_WALL_SEC then w32 s.nj.wallSec
  else if a = Reg.TMK_WALL_SUB then w32 (s.tmk.wallSub.getD (Init.reader who) 0)
  else if a = Reg.TMK_WEAR then
    let w := s.tmk.wear.getD (s.fld F.TMK_WEAR_sel) none
    s.shown a [(F.TMK_WEAR_valid, bit w.isSome), (F.TMK_WEAR_wear, sat F.TMK_WEAR_wear (w.getD 0))]
  else s.word a

/-- HSP (Table HSP-9). -/
def State.viewHsp (s : State) (a : Nat) : Word :=
  if a = Reg.HSP_STATUS then s.shown a [(F.HSP_STATUS_host_alive, s.fld F.SYS_POST_STATUS_host_alive)]
  else if a = Reg.HSP_ATTN then
    s.shown a [(F.HSP_ATTN_ostr, bitMap 8 (fun n => !(s.hsp.outs.getD n {}).buf.isEmpty)), (F.HSP_ATTN_hold, bit s.inHold)]
  else if Reg.HSP_OSTR0_CFG ≤ a && a < Reg.HSP_OSTR0_CFG + 32 && a % 4 = 0 then
    let n := (a - Reg.HSP_OSTR0_CFG) / 4
    let o := s.hsp.outs.getD n {}
    s.shown a [(F.HSP_OSTRn_CFG_level n, o.buf.length), (F.HSP_OSTRn_CFG_pending n, bit (decide (o.delivered ≠ 0)))]
  else if Reg.HSP_ISTR0_CFG ≤ a && a < Reg.HSP_ISTR0_CFG + 16 && a % 4 = 0 then
    let n := (a - Reg.HSP_ISTR0_CFG) / 4
    s.shown a [(F.HSP_ISTRn_CFG_space n, 1024 - ((s.hsp.ins.getD n []).length + 7) / 8)]
  else s.word a

/-- A route as its 16 bits (Table STF-3). -/
def routeBits (l : List Nat) : Nat := l.foldr (fun e a => e + 4 * a) 0

/-- STF: the selected member and routing entry (Table STF-14). -/
def State.viewStf (s : State) (a : Nat) : Word :=
  let k := s.member (s.fld F.STF_MEMBER_SEL_member)
  if a = Reg.STF_MEMBER_STATE then
    s.shown a [(F.STF_MEMBER_STATE_state, k.state), (F.STF_MEMBER_STATE_pinned, bit k.pinned), (F.STF_MEMBER_STATE_cause, k.cause),
      (F.STF_MEMBER_STATE_len_a, k.pathA.length), (F.STF_MEMBER_STATE_len_b, k.pathB.length), (F.STF_MEMBER_STATE_last_fault, k.lastFault)]
  else if a = Reg.STF_MEMBER_PATH then
    s.shown a [(F.STF_MEMBER_PATH_path_a, if k.pinned then k.pinPath else routeBits k.pathA), (F.STF_MEMBER_PATH_path_b, routeBits k.pathB)]
  else if a = Reg.STF_MEMBER_RATING then w32 (k.rating % 65536)
  else if a = Reg.STF_MEMBER_SER_LO then w32 k.serial
  else if a = Reg.STF_MEMBER_SER_HI then w32 (k.serial / 2 ^ 32)
  else if a = Reg.STF_RT_ENTRY then Store.get s.stf.rt (s.fld F.STF_RT_SEL_index)
  else if a = Reg.STF_MGR then
    s.shown a [(F.STF_MGR_silent_ms, if s.isWorker then sat F.STF_MGR_silent_ms ((s.mt - s.stf.mgrAt) / msTicks) else 0)]
  else s.word a

/-- SAF: groups, sources, staged values, connections (Tables SAF-12, SAF-20). -/
def State.viewSaf (s : State) (a : Nat) : Word :=
  let g := s.grp (s.fld F.SAF_CAUSE_SEL_group)
  let c := s.fld F.SAF_SC_SEL_conn
  let k := s.conn c
  let live := s.saf.live
  let half := fun (w : DWord) (hi : Bool) => if hi then (w >>> 32).truncate 32 else w.truncate 32
  let states := fun (p : Nat → Bool) => bitMap 64 (fun i => p (s.conn i).state)
  if a = Reg.SAF_CMP_LVL then putBits (s.stagedWord a) 25 16 (s.saf.dacRb.getD (s.fld F.SAF_CMP_SEL_cmp) 0)
  else if isStaged a then s.stagedWord a
  else if a = Reg.SAF_GRP_STATE then w32 ((List.range 10).foldl (fun w i => w + (s.grp i).state * 4 ^ i) 0)
  else if a = Reg.SAF_CAUSE_LO then half g.causes false
  else if a = Reg.SAF_CAUSE_HI then half g.causes true
  else if a = Reg.SAF_SRC_LO then half live false
  else if a = Reg.SAF_SRC_HI then half live true
  else if a = Reg.SAF_STATUS then
    s.shown a [(F.SAF_STATUS_jam, bit (s.is F.SAF_STATUS_jam && !(match s.saf.lowFrom with | some t => decide (50 * msTicks ≤ s.mt - t) | none => false)))]
  else if a = Reg.SAF_RESET_IN then
    s.shown a [(F.SAF_RESET_IN_idle_ok, bit (match s.saf.lowFrom with | some t => decide (50 * msTicks ≤ s.mt - t) | none => false))]
  else if a = Reg.SAF_PARAM_STATUS then
    let v := fun (i : Nat) => match s.saf.copies.getD i none with | some x => bit (s.copyValid x) | none => 0
    s.shown a [(F.SAF_PARAM_STATUS_copy_a, v 0), (F.SAF_PARAM_STATUS_copy_b, v 1), (F.SAF_PARAM_STATUS_dirty, bit (decide (s.saf.staged ≠ s.saf.eff)))]
  else if a = Reg.SAF_SC_STATE then
    s.shown a [(F.SAF_SC_STATE_state, k.state), (F.SAF_SC_STATE_cause, k.cause), (F.SAF_SC_STATE_demand, bit k.demand),
      (F.SAF_SC_STATE_peer_ok, bit k.peerOk), (F.SAF_SC_STATE_line_on, bit (s.connLine c)), (F.SAF_SC_STATE_last_seq, k.lastSeq)]
  else if a = Reg.SAF_SC_CNT then
    s.shown a [(F.SAF_SC_CNT_chk_err, k.chkErr), (F.SAF_SC_CNT_skipped, k.skipped), (F.SAF_SC_CNT_stale, k.stale),
      (F.SAF_SC_CNT_safe_entries, k.safeEntries)]
  else if Reg.SAF_SC_RX0 ≤ a && a < Reg.SAF_SC_RX0 + 16 && a % 4 = 0 then w32 (leNat ((k.rx.drop (a - Reg.SAF_SC_RX0)).take 4))
  else if Reg.SAF_SC_TX0 ≤ a && a < Reg.SAF_SC_TX0 + 16 && a % 4 = 0 then s.saf.txWords.getD ((a - Reg.SAF_SC_TX0) / 4) 0
  else if a = Reg.SAF_SC_RUN_LO then w32 (states (· = 2))
  else if a = Reg.SAF_SC_RUN_HI then w32 (states (· = 2) / 2 ^ 32)
  else if a = Reg.SAF_SC_SAFE_LO then w32 (states (fun n => n = 3 || n = 4))
  else if a = Reg.SAF_SC_SAFE_HI then w32 (states (fun n => n = 3 || n = 4) / 2 ^ 32)
  else if a = Reg.SAF_SC_STATUS then s.shown a [(F.SAF_SC_STATUS_lines, bitMap 8 s.lineOn)]
  else
    match (List.range 4).find? (fun n => a = (F.SAF_THn_STAT_temp n).addr) with
    | some n =>
      s.shown a [(F.SAF_THn_STAT_changes n,
        sat (F.SAF_THn_STAT_changes n) ((s.saf.therm.getD n {}).changes.filter (fun t => s.mt - t ≤ 3600 * secTicks)).length)]
    | none => s.word a

/-- EFM (Table EFM-8). -/
def State.viewEfm (s : State) (a : Nat) : Word :=
  if a = Reg.EFM_STATUS then s.shown a [(F.EFM_STATUS_src, bitMap 4 (fun n => s.srcLive (32 + n)))]
  else if a = Reg.EFM_INS_STAT then s.shown a [(F.EFM_INS_STAT_age_ms, sat F.EFM_INS_STAT_age_ms ((s.mt - s.efm.validAt) / msTicks))]
  else s.word a

/-- PWR (Table PWR-9). -/
def State.viewPwr (s : State) (a : Nat) : Word :=
  if a = Reg.PWR_LIM_LVL then
    let i := s.fld F.PWR_LIM_SEL_cs
    s.shown a [(F.PWR_LIM_LVL_level, s.pwr.limLvl.getD i 0), (F.PWR_LIM_LVL_rb, s.pwr.limRb.getD i 0)]
  else if a = Reg.PWR_SS_RETRY then
    let all := secTicks * 2 ^ (s.fld F.PWR_SS_RETRY_attempt - 1)
    let left := if s.pwrState = 4 then all - (s.mt - s.pwr.backoffFrom) else 0
    s.shown a [(F.PWR_SS_RETRY_backoff_s, sat F.PWR_SS_RETRY_backoff_s ((left + secTicks - 1) / secTicks))]
  else if a = Reg.PWR_SP_INFO then s.shown a [(F.PWR_SP_INFO_age_ms, sat F.PWR_SP_INFO_age_ms ((s.mt - s.pwr.spAt) / msTicks))]
  else s.word a

/-- MTR: the selected channel's layers and the reader's snapshot bank (Table MTR-11, R379). -/
def State.viewMtr (s : State) (who : Init) (a : Nat) : Word :=
  let ch := s.fld F.MTR_CAL_SEL_ch
  let f := s.factory ch
  let e := s.mtr.eff.getD ch (0, 0)
  let b := match who with | .host => s.mtr.hostBank | .core _ => s.mtr.coreBank
  let v := b.vals.getD b.sel 0
  if isUcal a then s.ucalWord a
  else if a = Reg.MTR_FCAL_GAIN then w32 (unsgn 16 f.gain)
  else if a = Reg.MTR_FCAL_OFS then w32 (unsgn 24 f.ofs)
  else if a = Reg.MTR_FCAL_DLY_TC then w32 (unsgn 16 f.dly + 2 ^ 16 * unsgn 8 f.tc1 + 2 ^ 24 * unsgn 8 f.tc2)
  else if a = Reg.MTR_EFF_GAIN then w32 (unsgn 32 e.1)
  else if a = Reg.MTR_EFF_OFS then w32 (unsgn 24 e.2)
  else if a = Reg.MTR_EFF_DELAY then w32 (unsgn 16 (f.dly + (s.user ch).dly))
  else if a = Reg.MTR_SNAP then s.shown a [(F.MTR_SNAP_seq, b.seq)]
  else if a = Reg.MTR_SNAP_MT_LO then w32 b.mt
  else if a = Reg.MTR_SNAP_MT_HI then w32 (b.mt / 2 ^ 32)
  else if a = Reg.MTR_ACC_SEL then w32 b.sel
  else if a = Reg.MTR_ACC_LO then w32 v
  else if a = Reg.MTR_ACC_HI then w32 (v / 2 ^ 32)
  else s.word a

/-- A record closes at the next boundary or is about to: its reason. -/
def State.sesReason (s : State) : Option Nat :=
  match s.bil.closing with
  | some c => some c.1
  | none => s.bil.closeAt

/-- BIL_SES_STATE (Table BIL-9). -/
def State.sesStateWord (s : State) : Word :=
  let w := fun (st reason flags : Nat) => w32 (st + 256 * reason + 65536 * flags)
  match s.bil.session with
  | some r => match s.sesReason with | some n => w 3 n r.flags | none => w 2 0 r.flags
  | none =>
    match s.awaiting with
    | some i =>
      let l := (s.bil.slots.getD i {}).body
      w 4 (leNat ((l.drop 6).take 1)) (leNat ((l.drop 7).take 1))
    | none => if s.bil.opening.isSome then w 1 0 0 else 0

/-- BIL (Table BIL-9). -/
def State.viewBil (s : State) (a : Nat) : Word :=
  let rec_ := fun (o : Option OpenRec) (f : OpenRec → Nat) => w32 (match o with | some r => f r | none => 0)
  let d := s.bil.demand.getD (s.fld F.BIL_MD_SEL_reg) {}
  let credit := unsgn 64 s.bil.credit
  if a = Reg.BIL_STATUS then
    s.shown a [(F.BIL_STATUS_int_open, bit s.bil.interval.isSome), (F.BIL_STATUS_ses_open, bit s.bil.session.isSome),
      (F.BIL_STATUS_closing, bit (s.bil.session.isSome && s.sesReason.isSome)), (F.BIL_STATUS_store_full, bit (decide (s.freeSlots = 0))),
      (F.BIL_STATUS_unsigned, (s.bil.slots.filter (fun r => r.state = 2)).length)]
  else if a = Reg.BIL_SW_TIME then w32 (s.bil.switch.getD (s.fld F.BIL_SW_SEL_entry) (0, 0)).1
  else if a = Reg.BIL_SW_RATE then w32 (s.bil.switch.getD (s.fld F.BIL_SW_SEL_entry) (0, 0)).2
  else if a = Reg.BIL_INT_NUM then rec_ s.bil.interval (·.num)
  else if a = Reg.BIL_INT_START_LO then rec_ s.bil.interval (·.start)
  else if a = Reg.BIL_INT_START_HI then rec_ s.bil.interval (·.start / 2 ^ 32)
  else if a = Reg.BIL_INT_END_LO then rec_ s.bil.interval (·.planned)
  else if a = Reg.BIL_INT_END_HI then rec_ s.bil.interval (·.planned / 2 ^ 32)
  else if a = Reg.BIL_INT_FLAGS then rec_ s.bil.interval (fun r => r.flags % 256 + 256 * r.rate)
  else if a = Reg.BIL_SES_NUM then
    (match s.bil.session, s.awaiting with
    | some r, _ => w32 r.num
    | none, some i => w32 (s.bil.slots.getD i {}).num
    | none, none => 0)
  else if a = Reg.BIL_SES_STATE then s.sesStateWord
  else if a = Reg.BIL_SES_START_LO then rec_ s.bil.session (·.start)
  else if a = Reg.BIL_SES_START_HI then rec_ s.bil.session (·.start / 2 ^ 32)
  else if a = Reg.BIL_MD_CFG then w32 d.cfg
  else if a = Reg.BIL_MD_MAX then w32 d.max
  else if a = Reg.BIL_MD_MAX_TIME then w32 d.maxTime
  else if a = Reg.BIL_MD_PREV then w32 d.prev
  else if a = Reg.BIL_MD_NOW then w32 d.now
  else if a = Reg.BIL_PP_CREDIT_LO then w32 credit
  else if a = Reg.BIL_PP_CREDIT_HI then w32 (credit / 2 ^ 32)
  else if a = Reg.BIL_PP_PRICE then w32 (s.bil.prices.getD (s.fld F.BIL_PP_PRICE_SEL_rate) 0)
  else if a = Reg.BIL_REC_NEXT then w32 s.bil.next
  else if a = Reg.BIL_REC_LAST then
    w32 ((s.bil.slots.filter (fun r => r.state = 3 || r.state = 4)).foldl (fun m r => max m r.num) 0)
  else if a = Reg.BIL_STORE then w32 ((List.range 8).foldl (fun w i => w + (s.bil.slots.getD i {}).state * 8 ^ i) 0)
  else if a = Reg.BIL_PSTATE then s.bil.pstate.getD (s.fld F.BIL_PSTATE_SEL_word) 0
  else s.word a

/-- NJD: the selected log slot and counter (R124, R127). -/
def State.viewNjd (s : State) (a : Nat) : Word :=
  let e := s.nj.log[s.fld F.NJD_LOG_IDX_idx]?
  if a = Reg.NJD_LOG_IDX then
    s.shown a [(F.NJD_LOG_IDX_valid, bit e.isSome), (F.NJD_LOG_IDX_bad, match e with | some x => bit x.bad | none => 0)]
  else if Reg.NJD_LOG_D0 ≤ a && a < Reg.NJD_LOG_D0 + 16 && a % 4 = 0 then
    match e with
    | some x => w32 (leNat (((x.head ++ leBytes 4 x.tag.toNat).drop (a - Reg.NJD_LOG_D0)).take 4))
    | none => 0
  else if a = Reg.NJD_OVF_CNT then w32 (s.nj.clsCount.getD (s.fld F.NJD_OVF_SEL_class) 0)
  else s.word a

/-- KV: the selected slot, counts and tickets (Table KV-14). -/
def State.viewKv (s : State) (a : Nat) : Word :=
  let k := s.key (s.fld F.KV_SLOT_SEL_slot)
  let owned := fun (n : Nat) => min 31 (s.kv.tickets.filter (fun t => t.owner = n)).length
  if a = Reg.KV_STATUS then s.shown a [(F.KV_STATUS_queued, (s.kv.tickets.filter (fun t => t.phase = 1)).length)]
  else if a = Reg.KV_SLOT_ATTR then
    s.shown a [(F.KV_SLOT_ATTR_state, k.state), (F.KV_SLOT_ATTR_origin, k.origin), (F.KV_SLOT_ATTR_policy, k.policy), (F.KV_SLOT_ATTR_class, k.cls),
      (F.KV_SLOT_ATTR_alg, k.alg)]
  else if a = Reg.KV_SLOT_USE then w32 k.usage
  else if a = Reg.KV_SLOT_TREE then
    s.shown a [(F.KV_SLOT_TREE_parent, k.parent), (F.KV_SLOT_TREE_depth, k.depth), (F.KV_SLOT_TREE_generation, k.gen)]
  else if a = Reg.KV_SLOT_LABEL then w32 k.label
  else if a = Reg.KV_COUNT then
    s.shown a [(F.KV_COUNT_active, (s.kv.slots.filter (fun x => x.state = 1)).length),
      (F.KV_COUNT_awaiting, (s.kv.slots.filter (fun x => 2 ≤ x.state)).length)]
  else if a = Reg.KV_TICKETS then w32 (owned 0 + 32 * owned 1 + 32 ^ 2 * owned 2 + 32 ^ 3 * owned 3 + 32 ^ 4 * owned 5)
  else s.word a

/-- UPD: parts, members, counters (Table UPD-9). -/
def State.viewUpd (s : State) (a : Nat) : Word :=
  let i := s.fld F.UPD_PART_SEL_part
  let m := s.fld F.UPD_PART_SEL_member
  if a = Reg.UPD_STATUS then s.shown a [(F.UPD_STATUS_held, if s.updState = 3 then s.heldReasons else 0)]
  else if a = Reg.UPD_PART_DONE then
    (match s.update.man with
    | some man =>
      w32 (bitMap man.parts.length (fun p =>
        let mask := (man.parts.getD p default).mask
        (!mask.testBit 0 || (s.stagedPart p).verified) &&
          s.admittedList.all (fun w => !mask.testBit w || (s.update.ready.getD w 0).testBit p)))
    | none => 0)
  else if a = Reg.UPD_PART_INFO then
    (match s.update.man with
    | some man =>
      if man.parts.length ≤ i then 0
      else if m ≠ s.ownMember && (man.parts.getD i default).mask.testBit m && !s.isWorker then
        s.shown a [(F.UPD_PART_INFO_verified, bit ((s.update.ready.getD m 0).testBit i))]
      else
        let p := s.stagedPart i
        let n := (man.parts.getD i default).len / 4096
        let missing := ((List.range n).find? (fun x => !p.held.contains x)).getD 0
        s.shown a [(F.UPD_PART_INFO_held, p.held.length), (F.UPD_PART_INFO_first_missing, missing),
          (F.UPD_PART_INFO_complete, bit (s.partComplete man i)), (F.UPD_PART_INFO_verified, bit p.verified), (F.UPD_PART_INFO_bad, bit p.bad)]
    | none => 0)
  else if a = Reg.UPD_MEMBERS then
    (match s.update.man with
    | some man =>
      s.shown a [(F.UPD_MEMBERS_ready, bitMap 16 (fun w =>
        (namedMask man).testBit w && (if w = 0 then s.ownVerified man else s.memberReady man w)))]
    | none => s.word a)
  else if a = Reg.UPD_CTR then w32 (s.antiRollback (s.fld F.UPD_CTR_SEL_index))
  else if a = Reg.UPD_REC then w32 (match s.bootRec with | some r => r.seq | none => 0)
  else s.word a

/-- CPU, for a reader (Table CPU-12). -/
def State.viewCpu (s : State) (who : Init) (a : Nat) : Word :=
  if a = Reg.CPU_STATUS then
    s.shown a [(F.CPU_STATUS_last_signaller, match who with | .core c => (s.core c).lastSignaller | .host => 0)]
  else s.word a

/-- What a read of a register shows a reader, before the four side effects of R454; on a Worker the blocks that only a Manager has read 0. -/
def State.regView (s : State) (who : Init) (a : Nat) : Word :=
  match blockOf a with
  | 0 => s.viewSys a
  | 1 => s.viewTmk who a
  | 2 => s.viewHsp a
  | 5 => s.viewStf a
  | 6 => s.viewSaf a
  | 7 => s.viewEfm a
  | 8 => if s.isWorker then 0 else s.word a
  | 9 => s.viewPwr a
  | 10 => if s.isWorker then 0 else s.viewMtr who a
  | 11 => if s.isWorker then 0 else s.viewBil a
  | 12 => s.viewNjd a
  | 13 => s.viewKv a
  | 14 => s.viewUpd a
  | 15 => if s.isWorker then 0 else s.word a
  | 16 => s.viewCpu who a
  | _ => s.word a

/-- A register read by an initiator that may reach it (R454): the word, and the latches, queue numbers and mailbox words its side effects move.
The supply readings of SYS_SUPPLY are free values (assumption 2). -/
def State.readReg (s : State) (who : Init) (a : Nat) : Word × State :=
  if a = Reg.TMK_MT_LO then s.readMtLo who
  else if a = Reg.TMK_WALL_SEC then s.readWallSec who
  else if a = Reg.QE_EVT then s.qeEvtRead who
  else if Reg.CPU_MBOX0 ≤ a && a ≤ Reg.CPU_MBOX4 && a % 4 = 0 then s.mboxRead who ((a - Reg.CPU_MBOX0) / 4)
  else if a = Reg.SYS_SUPPLY then
    let x := s.takeFree 8
    let y := x.2.takeFree 8
    (s.shown a [(F.SYS_SUPPLY_vana, x.1), (F.SYS_SUPPLY_vdd33, y.1)], y.2)
  else (s.regView who a, s)

end Sys2Proof.Machine
end

