-- ==== Sys2Proof/Machine/Bus.lean ====
section
/-! DEFINITION. A write to any register, by the host or a core: which register does what (R5, R451 to R456), and what of a host write is ignored
(R176). -/

namespace Sys2Proof.Machine

open Sys2Proof

/-! ## Registers without a row of their own -/

/-- An inbound stream's binding written: a stream that is disabled or bound to another queue leaves its open reservation, which is rolled
back (R201). -/
def State.wrIstr (s : State) (n a : Nat) (v : Word) : State :=
  let t := s.wrPlain a v
  if s.is (F.HSP_ISTRn_CFG_en n) && (!t.is (F.HSP_ISTRn_CFG_en n) || t.fld (F.HSP_ISTRn_CFG_queue n) ≠ s.fld (F.HSP_ISTRn_CFG_queue n)) then
    t.qRollbackAll (fun w => decide (w = .stream n)) true
  else t

/-- HSP registers (Table HSP-9): HSP_ISTR0_CFG is read-only, HSP_ATTN_EN keeps its reserved positions 0. -/
def State.wrHsp (s : State) (who : Init) (a : Nat) (v : Word) : State :=
  if a = Reg.HSP_ISTR0_CFG then s
  else if a = Reg.HSP_ATTN_EN then s.wrPlain a (v &&& 0x00FF1FFF#32)
  else if a = Reg.HSP_ATTN_SET then
    (match who with
    | .host => s
    | .core _ => s.setFld F.HSP_ATTN_sw (s.fld F.HSP_ATTN_sw ||| getBits v 23 16))
  else if Reg.HSP_ISTR1_CFG ≤ a && a ≤ Reg.HSP_ISTR3_CFG then s.wrIstr ((a - Reg.HSP_ISTR0_CFG) / 4) a v
  else s.wrPlain a v

/-- XMP registers (R213): the chip-select configuration stands while the port is enabled. -/
def State.wrXmp (s : State) (a : Nat) (v : Word) : State :=
  if Reg.XMP_CS0_CFG ≤ a && a ≤ Reg.XMP_CS1_OPS && s.is F.XMP_CTRL_en then s else s.wrPlain a v

/-- The selected member's pin (R238, Table STF-14): pinned while its state is 0; its path_a while pinned; the rating at any time. -/
def State.wrMember (s : State) (a : Nat) (v : Word) : State :=
  let m := s.fld F.STF_MEMBER_SEL_member
  let k := s.member m
  if a = Reg.STF_MEMBER_RATING then (s.onMember m (fun x => { x with rating := getBits v 15 0 })).memberShow
  else if k.state ≠ 0 then s
  else if a = Reg.STF_MEMBER_STATE then
    let p := v.getLsbD 3
    let la := getBits v 11 8
    let lb := getBits v 15 12
    s.onMember m (fun x =>
      if p && la ≤ 8 && lb ≤ 8 then
        { x with pinned := true, pathA := routeOf x.pinPath la, pathB := routeOf (routeBits x.pathB) lb }
      else { x with pinned := p })
  else if k.pinned then
    s.onMember m (fun x => { x with pinPath := getBits v 15 0, pathA := routeOf (getBits v 15 0) x.pathA.length })
  else s

/-- STF registers (Table STF-14): STF_RT_ENTRY writes the selected entry whole. -/
def State.wrStf (s : State) (a : Nat) (v : Word) : State :=
  if a = Reg.STF_RT_ENTRY then
    s.onStf (fun k => { k with rt := Store.set k.rt (s.fld F.STF_RT_SEL_index) (v &&& 0x3FFFFFFF#32) })
  else if a = Reg.STF_MEMBER_STATE || a = Reg.STF_MEMBER_PATH || a = Reg.STF_MEMBER_RATING then s.wrMember a v
  else s.wrPlain a v

/-- CPU registers (Tables CPU-12 to CPU-14). -/
def State.wrCpu (s : State) (who : Init) (a : Nat) (v : Word) : State :=
  if a = Reg.CPU_ENTRY then s.wrPlain a (v &&& 0xFFFFFFFC#32)
  else if a = Reg.CPU_WDOG_CFG then
    let old := s.fld F.CPU_WDOG_CFG_en
    let s1 := s.wrPlain a (v ||| w32 old)
    let now := s1.fld F.CPU_WDOG_CFG_en
    { s1 with cpu := { s1.cpu with
        wdFrom := [0, 1, 2, 3].map (fun c => if now.testBit c && !old.testBit c then s.mt else s.cpu.wdFrom.getD c 0) } }
  else if a = Reg.CPU_SFC_CTRL then s.wrPlain a v (some F.CPU_SFC_STATUS_cfg_refused) (fun _ _ => who = .core 4)
  else if a = Reg.CPU_SFC_TMON then
    (if getBits v 31 16 ≤ getBits v 15 0 then s.setFld F.CPU_SFC_STATUS_cfg_refused 1
    else s.wrPlain a v (some F.CPU_SFC_STATUS_cfg_refused) (fun _ _ => who = .core 4))
  else s.wrPlain a v

/-! ## One register of each block -/

/-- The number of a register of a repeated set, where the address is one of the set. -/
def regNo (a base step n : Nat) : Option Nat := if base ≤ a && a < base + step * n && (a - base) % step = 0 then some ((a - base) / step) else none

/-- TMK. -/
def State.busTmk (s : State) (a : Nat) (v : Word) : State :=
  if a = Reg.TMK_OPCTL then s.wrOpctl v
  else if a = Reg.TMK_WALL_SET then s.wrWallSet v
  else if a = Reg.TMK_ICG_CTRL then s.wrIcg v
  else
    match regNo a Reg.TMK_CMP0_HI 8 8 with
    | some n => s.wrCmpHi n v
    | none => s.wrTmk a v

/-- QE. -/
def State.busQe (s : State) (who : Init) (a : Nat) (v : Word) : State :=
  if a = Reg.QE_TABLE_CFG then s.wrTableCfg v
  else if a = Reg.QE_DESC_CMD then s.descCmd (getBits v 2 0)
  else if a = Reg.QE_DB_PROD then s.dbProd who v
  else if a = Reg.QE_DB_CONS then s.dbCons who v
  else
    match regNo a Reg.QE_CPY0_CTRL 16 2 with
    | some n => s.wrCopyCtrl n v
    | none => s.wrPlain a v

/-- XMP. -/
def State.busXmp (s : State) (a : Nat) (v : Word) : State :=
  if a = Reg.XMP_CTRL then s.wrXmpCtrl v else if a = Reg.XMP_CMD then s.wrXmpCmd v else s.wrXmp a v

/-- STF. -/
def State.busStf (s : State) (a : Nat) (v : Word) : State :=
  if a = Reg.STF_CTRL then s.wrStfCtrl v
  else if a = Reg.STF_NODE then s.wrNode v
  else if a = Reg.STF_CMD then s.wrStfCmd v
  else
    match regNo a Reg.STF_PORT0_CFG 4 4 with
    | some n => s.wrPortCfg n v
    | none => s.wrStf a v

/-- SAF. -/
def State.busSaf (s : State) (who : Init) (a : Nat) (v : Word) : State :=
  if a = Reg.SAF_REL_REQ then s.relRequest who v
  else if a = Reg.SAF_REL_CONFIRM then s.relConfirm who v
  else if a = Reg.SAF_PARAM_CMD then s.wrParamCmd v
  else if a = Reg.SAF_TEST then s.wrSafTest v
  else if a = Reg.SAF_SFC_TRIP then s.wrSfcTrip who v
  else if a = Reg.SAF_SC_CMD then s.wrScCmd v
  else if a = Reg.SAF_SC_TXSEL || (regNo a Reg.SAF_SC_TX0 4 4).isSome then s.wrScTx who a v
  else s.wrSaf a v

/-- EFM. -/
def State.busEfm (s : State) (who : Init) (a : Nat) (v : Word) (good : Bool) : State :=
  if a = Reg.EFM_CMD then s.wrEfmCmd who v
  else if a = Reg.EFM_CTRL then s.wrEfmCtrl who v
  else if efmSettings.contains a then s.wrEfmSettings a v good
  else s.wrEfm a v

/-- VEH, on a Manager alone (R247). -/
def State.busVeh (s : State) (a : Nat) (v : Word) : State :=
  if s.isWorker then s
  else if a = Reg.VEH_CTRL then s.wrVehCtrl v
  else if a = Reg.VEH_ASM_CTRL then s.wrAsmCtrl v
  else if a = Reg.VEH_SLAC then s.wrSlac v
  else
    match regNo a Reg.VEH_TMR0 4 8 with
    | some n => s.wrTimer n v
    | none => s.wrPlain a v (some F.VEH_STATUS_cfg_refused)

/-- PWR. -/
def State.busPwr (s : State) (who : Init) (a : Nat) (v : Word) : State :=
  if a = Reg.PWR_RUN then s.wrPwrRun v
  else if a = Reg.PWR_SS_RETRY then s.wrSsRetry who v
  else if a = Reg.PWR_CTR_CMD then s.wrCtrCmd v
  else s.wrPwr a v

/-- MTR, on a Manager alone. -/
def State.busMtr (s : State) (who : Init) (a : Nat) (v : Word) (good : Bool) : State :=
  if !s.isManager then s
  else if mtrCopyRegs.contains a || isUcal a then s.wrMtrSealed a v good
  else if a = Reg.MTR_CTRL then s.wrMtrCtrl v good
  else if a = Reg.MTR_CMD then s.wrMtrCmd v
  else if a = Reg.MTR_SNAP then s.wrMtrSnap who v
  else if a = Reg.MTR_CAP_TRIG then s.wrCapTrig v
  else s.wrMtr who a v

/-- BIL. -/
def State.busBil (s : State) (a : Nat) (v : Word) (good : Bool) : State :=
  if a = Reg.BIL_SES_CMD then s.wrSesCmd v
  else if a = Reg.BIL_MD_CMD then s.wrMdCmd v
  else if a = Reg.BIL_PP_TOPUP_SEQ then s.wrTopup v
  else s.wrBil a v good

/-- NJD. -/
def State.busNjd (s : State) (who : Init) (a : Nat) (v : Word) : State :=
  if a = Reg.NJD_TAMPER_CLR then s.wrTamperClr v
  else if a = Reg.NJD_LOG_APP0 then s.wrApp0 who v
  else if a = Reg.NJD_LOG_APP1 then s.wrApp1 who v
  else s.wrNjd a v

/-- RBN: the external field, the antenna current and the calibration pings behind the two measuring registers are free values here
(assumption 2). -/
def State.busRbn (s : State) (a : Nat) (v : Word) : State :=
  if a = Reg.RBN_CTRL then
    let x := s.takeFree 8
    let y := x.2.takeFree 8
    y.2.wrRbnCtrl v x.1 y.1
  else if a = Reg.RBN_DET_CFG then
    if s.isWorker then s
    else
      let x := s.takeFree 12
      let y := x.2.takeFree 12
      y.2.wrDetCfg v x.1 y.1
  else s.wrRbn a v

/-- CPU. -/
def State.busCpu (s : State) (who : Init) (a : Nat) (v : Word) : State :=
  if a = Reg.CPU_START then s.startWrite v
  else if a = Reg.CPU_WDOG_KICK then s.wdogKick who v
  else
    match regNo a Reg.CPU_MBOX0 4 5 with
    | some n => s.mboxWrite who n v
    | none => s.wrCpu who a v

/-- A block's register written; whether a settings copy in nonvolatile memory reads back is a free value (assumption 2). -/
def State.busWrite (s : State) (who : Init) (a : Nat) (v : Word) : State :=
  let copies := (blockOf a = 7 && efmSettings.contains a) ||
    (blockOf a = 10 && (mtrCopyRegs.contains a || isUcal a || a = Reg.MTR_CTRL)) || blockOf a = 11
  let g := if copies then s.takeFree 1 else (0, s)
  let good := decide (g.1 = 0)
  let t := g.2
  match blockOf a with
  | 1 => t.busTmk a v
  | 2 => t.wrHsp who a v
  | 3 => t.busQe who a v
  | 4 => t.busXmp a v
  | 5 => t.busStf a v
  | 6 => t.busSaf who a v
  | 7 => t.busEfm who a v good
  | 8 => t.busVeh a v
  | 9 => t.busPwr who a v
  | 10 => t.busMtr who a v good
  | 11 => t.busBil a v good
  | 12 => t.busNjd who a v
  | 13 => if a = Reg.KV_LC_REQ then t.lcRequest who v else if a = Reg.KV_LC_CONFIRM then t.lcConfirm who v else t.wrPlain a v
  | 14 => if a = Reg.UPD_ACTIVATE then t.wrActivate v else if a = Reg.UPD_ABORT then t.wrAbort v else t.wrUpd a v
  | 15 => t.busRbn a v
  | 16 => t.busCpu who a v
  | 17 => if a = Reg.DSK_RESET then t.wrDskReset who v else t.wrDsk a v
  | _ => t.wrPlain a v

/-! ## Host writes (R176, R451) -/

/-- The host may write a field (Table SYS-48). -/
def hostCol (c : Col) : Bool :=
  let w1c := decide (c.acc = .w1c)
  let rws := match c.acc with | .rws _ => true | _ => false
  match blockOf c.reg with
  | 0 => w1c || (c.reg = Reg.SYS_LIFE_SEL && c.lo = 0)
  | 1 => c.reg = Reg.TMK_WALL_SET || c.reg = Reg.TMK_STEP_CFG || (w1c && c.reg = Reg.TMK_STATUS)
  | 2 => c.reg = Reg.HSP_CFG || c.reg = Reg.HSP_ATTN
  | 5 => c.reg = Reg.STF_NODE
  | 10 => c.reg = Reg.MTR_SNAP || c.reg = Reg.MTR_ACC_SEL
  | 12 => w1c || rws || c.reg = Reg.NJD_LOG_IDX || c.reg = Reg.NJD_OVF_SEL || c.reg = Reg.NJD_TAMPER_CLR
  | 14 => c.reg = Reg.UPD_PART_SEL || c.reg = Reg.UPD_CTR_SEL || c.reg = Reg.UPD_ACTIVATE || c.reg = Reg.UPD_ABORT
  | 17 => w1c || c.reg = Reg.DSK_RESET || c.reg = Reg.DSK_WARN_CFG || c.reg = Reg.DSK_CKPT_CFG
  | _ => false

/-- The word a host write amounts to: a field the host may not write keeps its value (R451). -/
def State.hostWord (s : State) (a : Nat) (v : Word) : Word :=
  let old := s.regView .host a
  (colsOf a).foldl (fun w c =>
    if hostCol c then w
    else match c.acc with
      | .w1c => putBits w c.hi c.lo 0
      | .wo => putBits w c.hi c.lo 0
      | _ => putBits w c.hi c.lo (getBits old c.hi c.lo)) v

/-- A host write to a register that holds a field the host may write (R451). -/
def State.hostWrite (s : State) (a : Nat) (v : Word) : State :=
  if (colsOf a).any hostCol then s.busWrite .host a (s.hostWord a v) else s

/-- A write to a write-only register of the host took effect: `t` is the state after it (R36, R119, R156, R158, R379, R456). -/
def State.hostTook (s t : State) (a : Nat) (v : Word) : Bool :=
  if a = Reg.TMK_WALL_SET then !s.duskWarn
  else if a = Reg.NJD_TAMPER_CLR then s.tamperEn && getBits v 7 0 &&& s.fld F.NJD_TAMPER_STATUS_live = 0
  else if a = Reg.UPD_ACTIVATE then s.updState ≠ 3 && t.updState = 3
  else if a = Reg.UPD_ABORT then getBits v 15 0 = 0x5AB0 && s.updState ≠ 4 && s.updState ≠ 6
  else if a = Reg.MTR_SNAP then s.isManager
  else if a = Reg.DSK_RESET then
    !s.duskWarn && s.dsk.saving.isNone && (v = 0x0000A5A5#32 || t.dsk.saving.isSome || t.fld F.DSK_DAWN_STATUS_step ≠ s.fld F.DSK_DAWN_STATUS_step)
  else true

/-- A host write to a field did not take effect, where R176 counts it. -/
def State.hostIgnoredCol (s t : State) (v : Word) (c : Col) : Bool :=
  let new := getBits v c.hi c.lo
  match c.acc with
  | .w1c => decide (new ≠ 0) && !hostCol c
  | .wo => decide (new ≠ 0) && (!hostCol c || !s.hostTook t c.reg v)
  | _ => decide (new ≠ getBits (s.regView .host c.reg) c.hi c.lo) && decide (new ≠ getBits (t.regView .host c.reg) c.hi c.lo)

/-- A host write to a word of the register region: the state after it, and whether the word is ignored in part (R176, R453). -/
def State.hostStore (s : State) (a : Nat) (v : Word) : Bool × State :=
  let t := s.hostWrite a v
  (!isListed a || (colsOf a).any (s.hostIgnoredCol t v), t)

/-! ## Any initiator -/

/-- A register write by an initiator, where it may make it (R48, R52, R451, R456): elsewhere it changes nothing. -/
def State.regWrite (s : State) (who : Init) (a : Nat) (v : Word) : State :=
  match who with
  | .host => s.hostWrite a v
  | .core _ => if s.mayWrite who a then s.busWrite who a v else s

/-- REGISTER_WRITE: a write to a register (R5); one that has a row of its own acts as that row does. -/
def execRegisterWrite (who : Init) (addr : Nat) (v : Word) (s : State) : Host.Outcome State Fault Refusal :=
  .next (if isRegAddr addr && addr % 4 = 0 then s.regWrite who addr v else s)

/-- HSP_ATTN_SET: a core sets program causes (R185). -/
def execHspAttnSet (who : Init) (v : Word) (s : State) : Host.Outcome State Fault Refusal :=
  .next (s.port who Reg.HSP_ATTN_SET (fun t => t.wrHsp who Reg.HSP_ATTN_SET v))

end Sys2Proof.Machine
end

