-- ==== Sys2Proof/Machine/Hsp.lean ====
section
/-! DEFINITION. The host serial port (09_host_serial_port.md): frames, their check and the alive counter (R170 to R173), replies (R174,
R175), register frames (R176 to R180, R188), streams (R181 to R183), select release (R184), host alive (R186). A command carries the frame's
fields as its bits spell them; the lanes and clocks that carry the bits are timing. -/

namespace Sys2Proof

/-! ## The frame CRC (R171) -/

/-- One bit into the CRC-16 of polynomial 0x1021. -/
def crc16Bit (c : Nat) (b : Bool) : Nat :=
  let top := c.testBit 15 != b
  (2 * c % 65536) ^^^ (if top then 0x1021 else 0)

/-- A field's bits into the CRC, most significant first. -/
def crc16Field (c : Nat) (v : Nat) : Nat → Nat
  | 0 => c
  | n + 1 => crc16Field (crc16Bit c (v.testBit n)) v n

/-- The CRC of a list of fields, each with its width, in the order they are sent. -/
def crc16 (l : List (Nat × Nat)) : Nat := l.foldl (fun c p => crc16Field c p.1 p.2) 0xFFFF

/-- The request CRC a frame must carry: CMD, ADDR, CTL and every unit, extension bits left out. -/
def HostFrame.goodCrc (f : HostFrame) : Nat :=
  crc16 ([(16 * f.op + 4 * f.alanes + f.dlanes, 8), (f.addr, 32), (f.ctl, 16)] ++ f.units.map (fun v => (v, f.bits)))

/-! ## What makes a frame malformed (R170) -/

/-- The layout of the frame is unknown: a reserved opcode or lane code. -/
def HostFrame.unknown (f : HostFrame) : Bool := f.op = 0 || 6 ≤ f.op || f.alanes = 3 || f.dlanes = 3

/-- A field of the frame breaks R170. -/
def HostFrame.malformed (f : HostFrame) : Bool :=
  if f.op = 5 then decide (f.addr ≠ 0) || decide (f.ctl % 4096 ≠ 0)
  else
    decide (f.bits < 4) ||
    ((f.op = 3 || f.op = 4) && (decide (f.addr - f.addr % 16 - 256 * (f.addr / 256 % 2) ≠ 0) ||
      decide ((if f.op = 3 then 7 else 3) < f.addr % 16) || (f.op = 4 && f.addr / 256 % 2 = 1)))

/-- The host sends units in this frame (Table HSP-2). -/
def HostFrame.writes (f : HostFrame) : Bool := f.op = 2 || f.op = 4

/-- The command describes a frame of the row's opcode: that opcode or a reserved one, and a write frame has its units. -/
def HostFrame.isFor (f : HostFrame) (op : Nat) : Bool :=
  f.op = 0 || 6 ≤ f.op || (f.op = op && (if f.writes then f.units.length = f.count else f.units.isEmpty))

/-- The stream of a stream frame (R170). -/
def HostFrame.stream (f : HostFrame) : Nat := f.addr % 16
/-- The commit bit of an STR_READ (R170). -/
def HostFrame.commit (f : HostFrame) : Bool := f.addr.testBit 8

/-- The bits of a frame's units, each from bit 0 (R181). -/
def HostFrame.unitBits (f : HostFrame) : List Bool := f.units.flatMap (fun v => (List.range f.bits).map (fun i => v.testBit i))

end Sys2Proof

namespace Sys2Proof.Machine

open Sys2Proof

/-! ## Judging a frame (R166, R172, R173, R178, R183) -/

/-- The host port's part of the state changed. -/
def State.onHsp (s : State) (f : Hsp → Hsp) : State := { s with hsp := f s.hsp }

/-- The port serves frames: on a Manager, in Solo and in the Dawn hold, once Dawn is done or the hold begins (R166, R190). -/
def State.hspOn (s : State) : Bool := !s.isWorker && (s.dawnDone || s.inHold) && !s.dsk.off

/-- HSP_ATTN_N is asserted: an enabled cause is set (R185). -/
def State.attn (s : State) : Bool := s.hspOn && s.viewHsp Reg.HSP_ATTN &&& s.word Reg.HSP_ATTN_EN &&& 0x00FF1FFF#32 != 0

/-- A frame is ignored: flagged in the next reply and counted among those since the last accepted one (R172, R173). -/
def State.frameIgnored (s : State) : State :=
  (s.setFld F.HSP_STATUS_bad 1).onHsp (fun h => { h with bad := true, ignored := min 14 (h.ignored + 1) })

/-- A frame ignored for its CRC or its format, with HSP_CRC_BURST at the sixteenth in a row (R172, Table HSP-7). -/
def State.frameBad (s : State) (fld : Field) : State :=
  let s1 := (s.count fld).frameIgnored
  if s.hsp.burst = 16 then s1
  else
    let s2 := s1.onHsp (fun h => { h with burst := h.burst + 1 })
    if s.hsp.burst = 15 then s2.fault 0x0202 (some Reg.HSP_FAULT) else s2

/-- A frame ignored for another reason ends a run of frames ignored for CRC or format. -/
def State.frameOther (s : State) : State :=
  s.frameIgnored.onHsp (fun h => { h with burst := if h.burst = 16 then 16 else 0 })

/-- A sequence error or repeat (R173, R174). -/
def State.frameSeq (s : State) : State :=
  ((s.count F.HSP_CNT_MISC_seq).setFld F.HSP_STATUS_seq 1).onHsp (fun h => { h with seq := true })

/-- A well-formed frame finds the port busy: both write buffers are applying (R178), or its bits do not fit an inbound stream that is
enabled and served (R183, R188). -/
def State.frameBusy (s : State) (f : HostFrame) : Bool :=
  if f.op = 2 then !s.inHold && decide (2 ≤ s.hsp.writes.length)
  else if f.op = 4 then
    (s.inHold && decide (f.stream ≠ 0)) || !s.is (F.HSP_ISTRn_CFG_en f.stream) ||
      decide (8192 < (s.hsp.ins.getD f.stream []).length + f.count * f.bits)
  else false

/-- A frame is accepted (R173, R186). -/
def State.frameAccept (s : State) (f : HostFrame) : State :=
  let s1 := s.setWord Reg.HSP_CNT_GOOD (s.word Reg.HSP_CNT_GOOD + 1)
  let s2 := (s1.setFld F.HSP_STATUS_last_alive f.alive).setFld F.HSP_STATUS_last_op f.op
  (s2.setFld F.SYS_POST_STATUS_host_alive 1).onHsp
    (fun h => { h with ignored := 0, restart := false, burst := 0, heardAt := s.mt })

/-- How far the frame's alive value is from the last accepted one, modulo 16 (R173). -/
def State.aliveGap (s : State) (f : HostFrame) : Nat := (f.alive + 16 - s.fld F.HSP_STATUS_last_alive) % 16

/-- A frame whose request is complete, judged: whether it is accepted, and the state. -/
def State.frameJudge (s : State) (f : HostFrame) : Bool × State :=
  if !s.hspOn then (false, s)
  else
    let s0 := s.setBit F.HSP_STATUS_mode3 f.mode3
    if f.unknown then (false, s0.frameBad F.HSP_CNT_BAD_format)
    else if f.crc ≠ f.goodCrc then (false, s0.frameBad F.HSP_CNT_BAD_crc)
    else if f.malformed then (false, s0.frameBad F.HSP_CNT_BAD_format)
    else
      let gap := s.aliveGap f
      let err := !s.hsp.restart && (gap = 0 || decide (1 + s.hsp.ignored < gap))
      let s1 := if err then s0.frameSeq else s0
      if err && (gap = 0 || s.is F.HSP_CTRL_seq_strict) then (false, s1.frameOther)
      else if s.frameBusy f then (false, ((s1.count F.HSP_CNT_MISC_busy).setFld F.HSP_STATUS_busy 1).frameOther)
      else (true, s1.frameAccept f)

/-! ## The reply (R174, R175) -/

/-- The status header of a reply to a frame (Table HSP-3). -/
def State.statusWord (s : State) (f : HostFrame) : Word :=
  let h := s.hsp
  w32 (f.alive + 16 * h.wrAlive + 2 ^ 8 * bit h.bad + 2 ^ 9 * bit h.wrOk + 2 ^ 10 * bit h.wrErr + 2 ^ 11 * bit h.trunc + 2 ^ 12 * bit h.seq +
    2 ^ 13 * bit s.attn + 2 ^ 14 * bit s.inHold + 2 ^ 15 * bit h.fresh + 2 ^ 16 * h.truncUnits +
    2 ^ 24 * bitMap 8 (fun n => !(h.outs.getD n {}).buf.isEmpty))

/-- The whole reply: its units, of which the first `valid` are valid and the others are zeros; what was reported is reported once. -/
def State.reply (s : State) (f : HostFrame) (units : List Nat) (valid : Nat) : State :=
  let st := s.statusWord f
  let crc := crc16 ([(st.toNat, 32)] ++ units.map (fun v => (v, f.bits)) ++ [(valid, 16)])
  s.onHsp (fun h => { h with reply := some ⟨st, f.bits, units, valid, crc, true⟩, bad := false, trunc := false, seq := false, fresh := false })

/-- A reply that select release ended: the whole units sent stay sent, and the flags wait for the next reply (R184). -/
def State.replyCut (s : State) (f : HostFrame) (units : List Nat) (valid sent : Nat) : State :=
  let st := s.statusWord f
  let crc := crc16 ([(st.toNat, 32)] ++ units.map (fun v => (v, f.bits)) ++ [(valid, 16)])
  s.onHsp (fun h => { h with reply := some ⟨st, f.bits, units.take sent, valid, crc, false⟩ })

/-- Units as they are sent: the valid ones, then zeros (R175). -/
def unitsSent (l : List Nat) (valid count : Nat) : List Nat := l.take valid ++ List.replicate (count - min valid l.length) 0

/-! ## Register frames (R176 to R180, R188) -/

/-- A word of a register frame is refused: a unit that is not 32 bits, a misaligned address, or outside the register region (R176). -/
def wordRefused (bits addr a : Nat) : Bool := bits ≠ 32 || addr % 4 ≠ 0 || a < 0x40000000 || 0x40012000 ≤ a

/-- A refused word is counted (R176). -/
def State.regErr (s : State) : State := (s.count F.HSP_CNT_MISC_reg_err).setFld F.HSP_STATUS_reg_err 1

/-- The host reads the words of a register frame in order (R176, R180, R188). -/
def State.hostReads (s : State) (f : HostFrame) : Nat → Nat → List Nat × State
  | _, 0 => ([], s)
  | k, n + 1 =>
    let a := (f.addr + 4 * k) % 2 ^ 32
    let r : Word × State :=
      if wordRefused f.bits f.addr a || (s.inHold && blockOf a ≠ 0 && blockOf a ≠ 17) then (0, s.regErr) else s.readReg .host a
    let t := State.hostReads r.2 f (k + 1) n
    (r.1.toNat :: t.1, t.2)

/-- The units of an accepted REG_READ and how many are valid: none while a write frame is still to be applied (R179). -/
def State.regUnits (s : State) (f : HostFrame) (ready : Nat) : List Nat × Nat × State :=
  if !s.hsp.writes.isEmpty then (List.replicate f.count 0, 0, s)
  else
    let r := s.hostReads f 0 f.count
    let v := min ready f.count
    (unitsSent r.1 v f.count, v, r.2)

/-- A host REG_READ frame (R175 to R180); `ready` says how many units had their bits when they were launched (R177). -/
def execRegRead (f : HostFrame) (ready : Nat) (s : State) : Host.Outcome State Fault Refusal :=
  .next (if f.isFor 1 then
    let j := s.frameJudge f
    if j.1 then
      let r := j.2.regUnits f ready
      r.2.2.reply f r.1 r.2.1
    else j.2
  else s)

/-- The most recent accepted write frame has been applied in full (R174). -/
def State.wrDone (s : State) (err : Bool) : State := s.onHsp (fun h => { h with wrOk := !err, wrErr := err })

/-- A host REG_WRITE frame goes into a write buffer; in the Dawn hold its words are ignored (R178, R188). -/
def execRegWrite (f : HostFrame) (s : State) : Host.Outcome State Fault Refusal :=
  .next (if f.isFor 2 then
    let j := s.frameJudge f
    if j.1 then
      let t := j.2.onHsp (fun h => { h with wrAlive := f.alive, wrOk := false, wrErr := false })
      if s.inHold then (t.setFld F.HSP_STATUS_wr_ign 1).wrDone true
      else t.onHsp (fun h => { h with writes := h.writes ++ [{ addr := f.addr, bits := f.bits, words := f.units.map w32 }] })
    else j.2
  else s)

/-- One word of a write frame (R176): whether it was refused or ignored in part. -/
def State.hostWord1 (s : State) (bits a : Nat) (v : Word) : Bool × State :=
  if wordRefused bits a (a % 2 ^ 32) then (true, s.regErr)
  else
    let r := s.hostStore a v
    if r.1 then (true, r.2.setFld F.HSP_STATUS_wr_ign 1) else r

/-- The next words of the oldest write buffer are applied (R178). -/
def State.applyWords (s : State) : Nat → State
  | 0 => s
  | n + 1 =>
    match s.hsp.writes with
    | [] => s
    | w :: rest =>
      match w.words with
      | [] => s.onHsp (fun h => { h with writes := rest })
      | v :: vs =>
        let r := s.hostWord1 w.bits w.addr v
        let err := w.err || r.1
        if vs.isEmpty then
          let t := r.2.onHsp (fun h => { h with writes := rest })
          if rest.isEmpty && !t.hsp.wrOk then t.wrDone err else t
        else
          State.applyWords (r.2.onHsp (fun h =>
            { h with writes := { w with addr := (w.addr + 4) % 2 ^ 32, words := vs, err := err } :: rest })) n

/-- WRITE_BUFFER_APPLY: the next `n` words of the oldest write buffer, or as many as it still has, are applied in order (R178). -/
def execWriteBufferApply (n : Nat) (s : State) : Host.Outcome State Fault Refusal :=
  .next (if s.hspOn then s.applyWords n else s)

/-! ## Streams (R181 to R183) -/

/-- The bits of bytes, each from bit 0 to bit 7 (R181). -/
def bytesBits (l : List Byte) : List Bool := l.flatMap (fun b => (List.range 8).map (fun i => b.getLsbD i))

/-- The number whose bits, lowest first, are given. -/
def bitsNat : List Bool → Nat
  | [] => 0
  | b :: t => bit b + 2 * bitsNat t

/-- The bytes of bits, eight at a time (R181). -/
def bitsBytes : Nat → List Bool → List Byte
  | 0, _ => []
  | n + 1, l => BitVec.ofNat 8 (bitsNat (l.take 8)) :: bitsBytes n (l.drop 8)

/-- A number cut into units of u bits, the first from its lowest bits (R181). -/
def natUnits (u : Nat) : Nat → Nat → List Nat
  | 0, _ => []
  | n + 1, v => v % 2 ^ u :: natUnits u n (v / 2 ^ u)

/-- The units of an outbound stream from its oldest bit not discarded (R181, R182). -/
def OutStream.unitsFrom (o : OutStream) (u count : Nat) : List Nat := natUnits u count (leNat o.buf / 2 ^ o.pos)

/-- Bits held and not discarded. -/
def OutStream.avail (o : OutStream) : Nat := 8 * o.buf.length - o.pos

/-- The units delivered by the previous STR_READ are discarded (R182). -/
def OutStream.commit (o : OutStream) : OutStream :=
  let p := o.pos + o.delivered
  { buf := o.buf.drop (p / 8), pos := p % 8, delivered := 0 }

/-- An outbound stream changed. -/
def State.onOut (s : State) (n : Nat) (f : OutStream → OutStream) : State := s.onHsp (fun h => { h with outs := upd h.outs n f })

/-- The stream after an accepted STR_READ's commit, its units and how many are valid: none in the Dawn hold (R182, R188). -/
def State.strUnits (s : State) (f : HostFrame) : List Nat × Nat × State :=
  if s.inHold then (List.replicate f.count 0, 0, s)
  else
    let s1 := if f.commit then s.onOut f.stream (fun o => o.commit) else s
    let o := s1.hsp.outs.getD f.stream {}
    let v := min f.count (o.avail / f.bits)
    (unitsSent (o.unitsFrom f.bits v) v f.count, v, s1)

/-- A host STR_READ frame (R182). -/
def execStrRead (f : HostFrame) (s : State) : Host.Outcome State Fault Refusal :=
  .next (if f.isFor 3 then
    let j := s.frameJudge f
    if j.1 then
      let r := j.2.strUnits f
      (r.2.2.reply f r.1 r.2.1).onOut f.stream (fun o => if s.inHold then o else { o with delivered := r.2.1 * f.bits })
    else j.2
  else s)

/-- A host STR_WRITE frame appends its units' bits (R183); it is a write frame, applied at once (R174). -/
def execStrWrite (f : HostFrame) (s : State) : Host.Outcome State Fault Refusal :=
  .next (if f.isFor 4 then
    let j := s.frameJudge f
    if j.1 then
      (j.2.onHsp (fun h => { h with ins := upd h.ins f.stream (fun l => l ++ f.unitBits), wrAlive := f.alive })).wrDone false
    else j.2
  else s)

/-- A host STATUS frame (R174). -/
def execStatus (f : HostFrame) (s : State) : Host.Outcome State Fault Refusal :=
  .next (if f.isFor 5 then
    let j := s.frameJudge f
    if j.1 then j.2.reply f [] 0 else j.2
  else s)

/-- Whole entries move from the bound queue into an outbound stream's buffer, oldest first, as they fit (R182). -/
def execOstrFill (n : Nat) (s : State) : Host.Outcome State Fault Refusal :=
  .next (if s.is (F.HSP_OSTRn_CFG_en n) && s.dawnDone then
    let q := s.fld (F.HSP_OSTRn_CFG_queue n)
    let r := s.qReady q
    if r.1 = .done then
      let d := r.2.qDesc q
      let k := min d.held ((1024 - (r.2.hsp.outs.getD n {}).buf.length) / d.esize)
      (r.2.qDrop q k).onOut n (fun o => { o with buf := o.buf ++ r.2.qFront q k })
    else r.2
  else s)

/-- The open reservation of a queue has taken bytes. -/
def State.resvGot (s : State) (q n : Nat) : State :=
  s.onQe (fun e => { e with openResv := e.openResv.map (fun r => if r.queue = q then { r with got := r.got + n, since := s.mt } else r) })

/-- A stream's entry goes into its message's reservation at a byte offset, and the last entry publishes the message (R195). -/
def State.streamEntry (s : State) (n q off : Nat) : State :=
  let d := s.qDesc q
  let s1 := (s.qWrite q off (bitsBytes d.esize (s.hsp.ins.getD n []))).onHsp
    (fun h => { h with ins := upd h.ins n (fun l => l.drop (8 * d.esize)) })
  if off + d.esize = d.span * d.esize then s1.qPublish q else s1.resvGot q d.esize

/-- One entry of an inbound stream pushed, or none (R183, R195); whether one went. -/
def State.streamPush1 (s : State) (n : Nat) : Bool × State :=
  let q := s.fld (F.HSP_ISTRn_CFG_queue n)
  let r := s.qReady q
  let t := r.2
  let d := t.qDesc q
  if r.1 ≠ .done || (t.hsp.ins.getD n []).length < 8 * d.esize then (false, t)
  else if d.prodDirect then (false, t.qPut q (fun x => { x with refused := satAdd x.refused 1 65535 }))
  else
    match t.resvOf q with
    | some v => if v.who = .stream n then (true, t.streamEntry n q v.got) else (false, t)
    | none =>
      let a := t.qReserve q (.stream n)
      if a.1 = .done then (true, a.2.streamEntry n q 0) else (false, a.2)

/-- The complete entries of an inbound stream pushed while its queue takes them. -/
def State.streamPush (s : State) (n : Nat) : Nat → State
  | 0 => s
  | k + 1 =>
    let r := s.streamPush1 n
    if r.1 then State.streamPush r.2 n k else r.2

/-- ISTR_PUSH: the port pushes each complete entry of an enabled inbound stream (R183); a buffer holds at most 64 entries. -/
def execIstrPush (n : Nat) (s : State) : Host.Outcome State Fault Refusal :=
  .next (if s.is (F.HSP_ISTRn_CFG_en n) && (s.dawnDone || s.inHold) then s.streamPush n 64 else s)

/-! ## Select release (R184) -/

/-- A frame was truncated, with the whole units transferred. -/
def State.truncated (s : State) (units : Nat) : State :=
  ((s.count F.HSP_CNT_MISC_trunc).setFld F.HSP_STATUS_trunc 1).onHsp (fun h => { h with trunc := true, truncUnits := units % 256 })

/-- The units a frame would have sent, how many are valid, and the state after its accesses; none for STATUS. -/
def State.frameUnits (s : State) (f : HostFrame) (ready : Nat) : List Nat × Nat × State :=
  if f.op = 1 then s.regUnits f ready else if f.op = 3 then s.strUnits f else ([], 0, s)

/-- SELECT_RELEASE: HSP_CS_N rises before the frame's natural end (R184). A request that was not complete commits nothing. A reply that had
begun stays sent, and an STR_READ's valid units among those sent count as delivered. -/
def execSelectRelease (f : HostFrame) (cut : HostCut) (s : State) : Host.Outcome State Fault Refusal :=
  .next (if !s.hspOn then s
    else
      match cut with
      | .request units => (s.setBit F.HSP_STATUS_mode3 f.mode3).truncated (if f.writes then min units f.count else 0)
      | .reply sent ready =>
        if f.writes || !f.isFor f.op then s
        else
          let j := s.frameJudge f
          if j.1 then
            let r := j.2.frameUnits f ready
            let n := min sent r.1.length
            let t := r.2.2.replyCut f r.1 r.2.1 n
            let t1 := if f.op = 3 && !s.inHold then t.onOut f.stream (fun o => { o with delivered := min r.2.1 n * f.bits }) else t
            t1.truncated n
          else j.2.truncated 0)

/-! ## Host alive (R186) -/

/-- HOST_ALIVE_TIMEOUT: no frame has been accepted for alive_to milliseconds of meter time (R186, R201). -/
def execHostAliveTimeout (s : State) : Host.Outcome State Fault Refusal :=
  .next (if s.is F.SYS_POST_STATUS_host_alive && msTicks * s.fld F.HSP_CFG_alive_to ≤ s.mt - s.hsp.heardAt then
    let s1 := ((s.setFld F.SYS_POST_STATUS_host_alive 0).fault 0x0201 (some Reg.HSP_FAULT)).deliver 15 [0, 1, 2, 3]
    (s1.onHsp (fun h => { h with restart := true, ignored := 0 })).qRollbackAll
      (fun w => match w with | .stream _ => true | _ => false) true
  else s)

end Sys2Proof.Machine
end

