-- ==== Sys2Proof/Machine/Mem.lean ====
section
/-! DEFINITION. Loads, stores and atomics of the cores (R48 to R52, R58, R61, R78), FENCE, the queue and vault instructions (R83, R84, R141), and
the accesses other nodes make through their remote windows (R61). -/

namespace Sys2Proof.Machine

open Sys2Proof

/-! ## Where a core may load and store (Table CPU-2, R52) -/

/-- The bytes lie wholly in safety SRAM. -/
def inSafety (a n : Nat) : Bool := 0x30000000 ≤ a && a + n ≤ 0x30040000

/-- The bytes touch the queue table while the queue engine owns it (R192). -/
def State.inTable (s : State) (a n : Nat) : Bool :=
  s.is F.QE_TABLE_CFG_en && a < s.tabBase + 32 * 2 ^ s.tabK && s.tabBase < a + n

/-- A load of memory is permitted (Table CPU-2, R52, R208). -/
def State.memLoadOk (s : State) (c a n : Nat) : Bool :=
  if c = 4 then inSafety a n
  else (a + n ≤ 0x800000 || inSram a n || inSafety a n || (s.csOf a n).isSome) && (!(s.core c).task || (s.core c).taskCovers a n 0)

/-- A store to memory is permitted (Table CPU-2, R52, R192, R208, R371). -/
def State.memStoreOk (s : State) (c a n : Nat) : Bool :=
  if c = 4 then inSafety a n && s.sfcLimit ≤ a
  else
    ((0x600000 ≤ a && a + n ≤ 0x7FF000) || ((inSram a n || s.inPsram a n) && !s.inTable a n)) &&
      (!(s.core c).task || (s.core c).taskCovers a n 1)

/-- An atomic is permitted at an address (R58). -/
def State.atomicOk (s : State) (c a : Nat) : Bool := if c = 4 then inSafety a 4 && s.sfcLimit ≤ a else inSram a 4

/-- Posted stores of a core that are not complete (R51, R211). -/
def State.storesOut (s : State) (c : Nat) : Bool := s.qe.posted.any (fun p => p.core = c)

/-- The value of a permitted load of memory; the bytes of the user-layer copies, whose layout the spec does not give, are free values
(assumption 2). -/
def State.loadMem (s : State) (a n : Nat) : Nat × State :=
  if 0x7FF000 ≤ a && a < 0x800000 then s.takeFree (8 * n) else (leNat (s.readBytes a n), s)

/-- A permitted store of up to 4 bytes, or of 8 bytes to SRAM: MRAM writes are counted (R446), a window store is posted (R211). -/
def State.storeMem (s : State) (c a n v : Nat) : State :=
  if 0x60000000 ≤ a && a < 0x70000000 then
    let q := s.qe.posted ++ [⟨c, a, leBytes n v⟩]
    (s.onQe (fun e => { e with posted := q })).setFld F.XMP_STATUS_posted q.length
  else
    let s1 := s.writeBytes a (leBytes n v)
    if a < 0x800000 then s1.mramWrote 1 else s1

/-- A store in its accesses: an 8-byte store outside SRAM is two of 32 bits, low word first (R78). -/
def State.storeAll (s : State) (c a n v : Nat) : State :=
  if n = 8 && !(inSram a 8 || inSafety a 8) then (s.storeMem c a 4 (v % 2 ^ 32)).storeMem c (a + 4) 4 (v / 2 ^ 32) else s.storeMem c a n v

/-- Free places of the posted-store buffer are too few (R211). -/
def State.postFull (s : State) (a n : Nat) : Bool :=
  decide (0x60000000 ≤ a ∧ a < 0x70000000 ∧ 8 < s.qe.posted.length + (if n = 8 then 2 else 1))

/-- The core goes on with the next word after a register access, unless the access has stopped it (a reset). -/
def State.proceed (s : State) (c : Nat) (f : Core → Core) : State := if (s.core c).running then s.retire c f else s

/-! ## The remote window (R61) -/

/-- An access beyond the target region of its window. -/
def State.beyond (s : State) (a n : Nat) : Bool :=
  (if s.fld (F.CPU_RWINn_target (windowOf a)) = 0 then 0x200000 else 0x10000000) < a % 0x20000000 + n

/-- The window is enabled: en, a target, a node (Table CPU-13). -/
def State.windowOn (s : State) (a : Nat) : Bool :=
  let n := windowOf a
  let node := s.fld (F.CPU_RWINn_node n)
  s.is (F.CPU_RWINn_en n) && s.fld (F.CPU_RWINn_target n) < 2 && node ≠ 0 && node ≠ 0xFFFF

/-- What a remote access raises before it is sent: REMOTE of a window that is off or refuses stores; the access exception of a Task without
task_ok and beyond the region, and of the SFC (R61, Tables CPU-2 and CPU-13). -/
def State.remoteExc (s : State) (c a n : Nat) (store : Bool) : Option Nat :=
  let acc := if store then excStore else excLoad
  if c = 4 then some acc
  else if !s.windowOn a then some excRemote
  else if (s.core c).task && !s.is (F.CPU_RWINn_task_ok (windowOf a)) then some acc
  else if store && !s.is (F.CPU_RWINn_write_ok (windowOf a)) then some excRemote
  else if s.beyond a n then some acc
  else none

/-! ## Loads -/

/-- A load of a register (R49, R51, R454): the word by the reader's side effects; a partial or misaligned access and a block the core may not
reach raise ACCESS_REG, and the first writes 0 to its destination. -/
def State.loadReg (s : State) (c a size : Nat) (w : Core → Word → Core) : State :=
  if size ≠ 4 || a % 4 ≠ 0 then (s.onCore c (fun k => w k 0)).raise c excReg (some (w32 a))
  else if !s.coreReads c a then s.raise c excReg (some (w32 a))
  else if s.storesOut c then s
  else
    let r := s.readReg (.core c) a
    r.2.proceed c (fun k => w k r.1)

/-- A load through the remote window: the request goes out and the core stalls (R61, R78). -/
def State.loadRemote (s : State) (c rd a size : Nat) (signed : Bool) : State :=
  match s.remoteExc c a size false with
  | some e => s.raise c e (some (w32 a))
  | none =>
    let t := s.remoteSend false a (min size 4) 0
    t.onCore c (fun k =>
      { k with stall := if size = 8 then .remoteLd rd (w32 a) none s.mt else .remoteLoad rd (w32 a) size signed s.mt })

/-- A load of 1, 2, 4 or 8 bytes at ra + sext(imm16) (Table CPU-21, R48, R49, R52). -/
def State.load (s : State) (c rd ra : Nat) (imm : BitVec 16) (size : Nat) (signed : Bool) : State :=
  s.insn c true (fun k t =>
    let a := (k.r ra + imm.signExtend 32).toNat
    let wr := fun (k1 : Core) (v : Nat) => if size = 8 then k1.wp rd (BitVec.ofNat 64 v) else k1.w rd (extend size signed v)
    if size = 8 && !isPair rd then t.raise c excIllegal none
    else if isRegAddr a then t.loadReg c a size (fun k1 v => wr k1 v.toNat)
    else if a % size ≠ 0 then t.raise c excAlign (some (w32 a))
    else if 0x80000000 ≤ a then t.loadRemote c rd a size signed
    else if t.memLoadOk c a size then
      t.eccCheck c a size (fun t =>
        let r := t.loadMem a size
        r.2.retire c (fun k1 => wr k1 r.1))
    else t.raise c excLoad (some (w32 a)))

/-- LW (Table CPU-21). -/
def execLw (c rd ra : Nat) (imm : BitVec 16) (s : State) : Host.Outcome State Fault Refusal := .next (s.load c rd ra imm 4 false)
/-- LH (Table CPU-21). -/
def execLh (c rd ra : Nat) (imm : BitVec 16) (s : State) : Host.Outcome State Fault Refusal := .next (s.load c rd ra imm 2 true)
/-- LHU (Table CPU-21). -/
def execLhu (c rd ra : Nat) (imm : BitVec 16) (s : State) : Host.Outcome State Fault Refusal := .next (s.load c rd ra imm 2 false)
/-- LB (Table CPU-21). -/
def execLb (c rd ra : Nat) (imm : BitVec 16) (s : State) : Host.Outcome State Fault Refusal := .next (s.load c rd ra imm 1 true)
/-- LBU (Table CPU-21). -/
def execLbu (c rd ra : Nat) (imm : BitVec 16) (s : State) : Host.Outcome State Fault Refusal := .next (s.load c rd ra imm 1 false)
/-- LD (Table CPU-21, R78). -/
def execLd (c rd ra : Nat) (imm : BitVec 16) (s : State) : Host.Outcome State Fault Refusal := .next (s.load c rd ra imm 8 false)

/-! ## Stores -/

/-- A store to a register (R49, R51, R52): the write by its core; where Task level may not write, ACCESS_REG, or nothing where the chapter
ignores the write. -/
def State.storeReg (s : State) (c a size : Nat) (v : Word) : State :=
  if size ≠ 4 || a % 4 ≠ 0 || !s.coreWrites c a || ((s.core c).task && kernelOnly a) then s.raise c excReg (some (w32 a))
  else if s.storesOut c then s
  else if (s.core c).task && taskIgnored a then s.retire c id
  else (s.busWrite (.core c) a v).proceed c id

/-- A store through the remote window (R61, R78). -/
def State.storeRemote (s : State) (c a size v : Nat) : State :=
  match s.remoteExc c a size true with
  | some e => s.raise c e (some (w32 a))
  | none =>
    let t := s.remoteSend true a (min size 4) (v % 2 ^ 32)
    t.onCore c (fun k => { k with stall := if size = 8 then .remoteSd (w32 a) (w32 (v / 2 ^ 32)) s.mt else .remoteStore (w32 a) s.mt })

/-- A store of a whole 64-bit word of SRAM writes its check bits anew (R78, assumption 48). -/
def State.eccMended (s : State) (a : Nat) : State :=
  { s with cpu := { s.cpu with eccBad := s.cpu.eccBad.filter (fun w => w ≠ a), eccOne := s.cpu.eccOne.filter (fun w => w ≠ a) } }

/-- A store of 1, 2, 4 or 8 bytes at ra + sext(imm16) (Table CPU-21, R48, R49, R52, R211). -/
def State.store (s : State) (c rs ra : Nat) (imm : BitVec 16) (size : Nat) : State :=
  s.insn c true (fun k t =>
    let a := (k.r ra + imm.signExtend 32).toNat
    let v := if size = 8 then (k.rp rs).toNat else (k.r rs).toNat % 2 ^ (8 * size)
    if size = 8 && !isPair rs then t.raise c excIllegal none
    else if isRegAddr a then t.storeReg c a size (k.r rs)
    else if a % size ≠ 0 then t.raise c excAlign (some (w32 a))
    else if 0x80000000 ≤ a then t.storeRemote c a size v
    else if !t.memStoreOk c a size then t.raise c excStore (some (w32 a))
    else if t.postFull a size then t
    else if size = 8 then ((t.eccMended a).storeAll c a size v).retire c id
    else t.eccCheck c a size (fun t => (t.storeAll c a size v).retire c id))

/-- SW (Table CPU-21). -/
def execSw (c rs ra : Nat) (imm : BitVec 16) (s : State) : Host.Outcome State Fault Refusal := .next (s.store c rs ra imm 4)
/-- SH (Table CPU-21). -/
def execSh (c rs ra : Nat) (imm : BitVec 16) (s : State) : Host.Outcome State Fault Refusal := .next (s.store c rs ra imm 2)
/-- SB (Table CPU-21). -/
def execSb (c rs ra : Nat) (imm : BitVec 16) (s : State) : Host.Outcome State Fault Refusal := .next (s.store c rs ra imm 1)
/-- SD (Table CPU-21, R78). -/
def execSd (c rs ra : Nat) (imm : BitVec 16) (s : State) : Host.Outcome State Fault Refusal := .next (s.store c rs ra imm 8)

/-! ## Atomics and FENCE -/

/-- An atomic on the word at ra (R51, R58, Table CPU-22): ATOMIC before alignment and permission; a fence before and after; `f` gives the word
stored, none where nothing is. -/
def State.atomic (s : State) (c rd ra : Nat) (f : Core → Word → Option Word) : State :=
  s.insn c true (fun k t =>
    let a := (k.r ra).toNat
    if !t.atomicOk c a then t.raise c excAtomic (some (k.r ra))
    else if a % 4 ≠ 0 then t.raise c excAlign (some (k.r ra))
    else if !t.memLoadOk c a 4 then t.raise c excLoad (some (k.r ra))
    else if !t.memStoreOk c a 4 then t.raise c excStore (some (k.r ra))
    else if t.storesOut c then t
    else t.eccCheck c a 4 (fun t =>
      let old := w32 (leNat (t.readBytes a 4))
      (match f k old with
      | some v => t.writeBytes a (leBytes 4 v.toNat)
      | none => t).retire c (fun k1 => k1.w rd old)))

/-- CAS (Table CPU-22). -/
def execCas (c rd ra rb rc : Nat) (s : State) : Host.Outcome State Fault Refusal :=
  .next (s.atomic c rd ra (fun k old => if old = k.r rb then some (k.r rc) else none))
/-- SWAP (Table CPU-22). -/
def execSwap (c rd ra rb : Nat) (s : State) : Host.Outcome State Fault Refusal := .next (s.atomic c rd ra (fun k _ => some (k.r rb)))
/-- FADD (Table CPU-22). -/
def execFadd (c rd ra rb : Nat) (s : State) : Host.Outcome State Fault Refusal := .next (s.atomic c rd ra (fun k old => some (old + k.r rb)))

/-- FENCE completes once the core's posted stores are complete; until then the core waits (R51, R211). -/
def execFence (c : Nat) (s : State) : Host.Outcome State Fault Refusal :=
  .next (s.insn c true (fun _ t => if t.storesOut c then t else t.retire c id))

/-! ## Queue instructions (R83, R196, R199) -/

/-- The code of a status in rd (R83); a queue held by another writer's reservation is PAUSED. -/
def QStat.insnCode : QStat → Nat
  | .busy => 6
  | q => q.code

/-- The bytes at rb may be read, or written, by the core (R83). -/
def State.entryOk (s : State) (c a n perm : Nat) : Bool := inSram a n && (!(s.core c).task || (s.core c).taskCovers a n perm)

/-- The node part names this node (R83). -/
def State.hereNode (s : State) (n : Nat) : Bool := n = 0 || n = s.nodeId

/-- A local QPUSH of the entry at an address (R195, R196); its outcome and state, none where the entry is not readable. -/
def State.pushLocal (s : State) (c q a : Nat) : Option (QStat × State) :=
  let r := s.qReady q
  let d := r.2.qDesc q
  if r.1 ≠ .done then some r
  else if d.span ≠ 1 || d.prodDirect || r.2.taskDenied (.core c) q then some (.denied, r.2)
  else if (r.2.resvOf q).isSome then some (.busy, r.2)
  else if d.free < 1 then some (.full, r.2)
  else if !r.2.entryOk c a d.esize 0 then none
  else some (r.2.qAppend q (r.2.readBytes a d.esize))

/-- A remote QPUSH of the 64 bytes at an address (R199, R200): into the transmit buffer. -/
def State.pushRemote (s : State) (c node q a : Nat) : Option (QStat × State) :=
  if (s.core c).task && q ≤ 0xFF then some (.denied, s)
  else if !s.entryOk c a 64 0 then none
  else if !s.is F.QE_CTRL_tx_en || (node ≠ 0xFFFF && (s.routesTo node).isEmpty) then some (.noRoute, s)
  else
    let n := (s.qe.txSeq.getD c 0 + 1) % 2 ^ 32
    let r := s.txAccept node q (s.readBytes a 64) (.core c n)
    if r.1 then some (.done, (r.2.onQe (fun e => { e with txSeq := upd e.txSeq c (fun _ => n) })).txRun) else some (.full, r.2)

/-- Bytes a QPUSH reads at its address: an entry where it is taken. -/
def State.pushReads (s : State) (c node q a : Nat) : Nat :=
  match (if s.hereNode node then s.pushLocal c q a else s.pushRemote c node q a) with
  | some (.done, _) => if s.hereNode node then ((s.qReady q).2.qDesc q).esize else 64
  | _ => 0

/-- QPUSH (R83, Table CPU-26). -/
def execQpush (c rd ra rb : Nat) (s : State) : Host.Outcome State Fault Refusal :=
  .next (s.insn c false (fun k t =>
    let a := (k.r rb).toNat
    let node := (k.r ra).toNat / 65536
    let q := (k.r ra).toNat % 65536
    if a % 16 ≠ 0 then t.raise c excAlign (some (k.r rb))
    else if !t.entryOk c a 16 0 then t.raise c excLoad (some (k.r rb))
    else t.eccCheck c a (t.pushReads c node q a) (fun t =>
      match (if t.hereNode node then t.pushLocal c q a else t.pushRemote c node q a) with
      | none => t.raise c excLoad (some (k.r rb))
      | some (st, u) => u.retire c (fun k1 => k1.w rd (w32 st.insnCode)))))

/-- A QPOP of a local queue to an address (R196). -/
def State.popLocal (s : State) (c q a : Nat) : Option (QStat × State) :=
  let r := s.qReady q
  let d := r.2.qDesc q
  if r.1 ≠ .done then some r
  else if r.2.qEngine q || r.2.taskDenied (.core c) q then some (.denied, r.2)
  else if d.held < 1 then some (.empty, r.2)
  else if !r.2.entryOk c a d.esize 1 || r.2.inTable a d.esize then none
  else some (.done, (r.2.writeBytes a (r.2.qFront q 1)).qDrop q 1)

/-- Where the entry stands that a QPOP removes, and its bytes: none where it removes nothing. -/
def State.popReads (s : State) (c q a : Nat) : Nat × Nat :=
  match s.popLocal c q a with
  | some (.done, _) =>
    let d := (s.qReady q).2.qDesc q
    (d.addr d.cons 0, d.esize)
  | _ => (0, 0)

/-- QPOP (R83, Table CPU-26). -/
def execQpop (c rd ra rb : Nat) (s : State) : Host.Outcome State Fault Refusal :=
  .next (s.insn c false (fun k t =>
    let a := (k.r rb).toNat
    if a % 16 ≠ 0 then t.raise c excAlign (some (k.r rb))
    else if !t.entryOk c a 16 1 then t.raise c excStore (some (k.r rb))
    else if (k.r ra).toNat / 65536 ≠ 0 then t.retire c (fun k1 => k1.w rd (w32 QStat.noQueue.insnCode))
    else
      let q := (k.r ra).toNat % 65536
      t.eccCheck c (t.popReads c q a).1 (t.popReads c q a).2 (fun t =>
        match t.popLocal c q a with
        | none => t.raise c excStore (some (k.r rb))
        | some (st, u) => u.retire c (fun k1 => k1.w rd (w32 st.insnCode)))))

/-- QSTAT (R83): entries held, entry size, enabled; 0 of a queue that does not exist, of another node, and during the zero-fill. -/
def execQstat (c rd ra : Nat) (s : State) : Host.Outcome State Fault Refusal :=
  .next (s.insn c false (fun k t =>
    let q := (k.r ra).toNat % 65536
    if (k.r ra).toNat / 65536 ≠ 0 || !t.qExists q || t.is F.QE_STATUS_table_busy then t.retire c (fun k1 => k1.w rd 0)
    else
      let u := t.qTouch q
      let d := u.qDesc q
      u.retire c (fun k1 => k1.w rd (w32 (d.held % 65536 + 65536 * d.c 2 1 + 262144 * bit d.en)))))

/-! ## Vault instructions (R84, R141) -/

/-- KSUBMIT (R84): the 64-byte block at ra, in system SRAM. -/
def execKsubmit (c rd ra : Nat) (s : State) : Host.Outcome State Fault Refusal :=
  .next (s.insn c false (fun k t => t.kernel c (fun t =>
    let a := (k.r ra).toNat
    if a % 64 ≠ 0 then t.raise c excAlign (some (k.r ra))
    else if !inSram a 64 then t.raise c excLoad (some (k.r ra))
    else t.eccCheck c a 64 (fun t =>
      let r := t.kvSubmit c (t.readBytes a 64) a none
      r.2.retire c (fun k1 => k1.w rd (w32 r.1))))))

/-- KPOLL (R84): the state of a ticket, which is released when it is done or failed. -/
def execKpoll (c rd ra : Nat) (s : State) : Host.Outcome State Fault Refusal :=
  .next (s.insn c false (fun k t => t.kernel c (fun t =>
    let n := getBits (k.r ra) 7 0
    match t.kv.tickets.find? (fun x => x.id = n && x.owner < 4) with
    | none => t.retire c (fun k1 => k1.w rd 0)
    | some x =>
      let u := if 3 ≤ x.phase then t.kvRelease n else t
      u.retire c (fun k1 => k1.w rd (w32 (x.phase + (if x.phase = 4 then 65536 * x.code else 0)))))))

/-- KRAND (R141): 32 bits of the generator, free values (assumption 2), or a stall until the noise source has recovered. -/
def execKrand (c rd : Nat) (s : State) : Host.Outcome State Fault Refusal :=
  .next (s.insn c false (fun _ t => t.kernel c (fun t =>
    if t.is F.KV_RNG_health_ok then
      let r := t.takeFree 32
      r.2.retire c (fun k1 => k1.w rd (w32 r.1))
    else t.onCore c (fun k1 => { k1 with stall := .krand rd }))))

/-- KRAND_RESUME: a core stalled in KRAND receives its bits once the noise source has recovered (R141), unless URGENT is due first (R76). -/
def execKrandResume (c : Nat) (s : State) : Host.Outcome State Fault Refusal :=
  .next (match (s.core c).stall with
    | .krand rd =>
      if (s.core c).running && s.is F.KV_RNG_health_ok && !(s.core c).urgentDue then
        let r := s.takeFree 32
        r.2.resume c (fun k => k.w rd (w32 r.1))
      else s
    | _ => s)

/-! ## Requests of other nodes (R61) -/

/-- An access of another node is served: remote_in, a target, inside the region, a store into PSRAM or system SRAM outside the queue table. -/
def State.rwinOk (s : State) (store : Bool) (target a size : Nat) : Bool :=
  s.is F.CPU_CTRL_remote_in && target < 2 && a % size = 0 &&
    (if target = 0 then inSram a size && !(store && s.inTable a size)
    else if store then s.inPsram a size && !s.inTable a size else (s.csOf a size).isSome)

/-- RWIN_REQ (R61): the access and its answer, or a refusal. -/
def execRwinReq (node : Nat) (store : Bool) (target off size data : Nat) (s : State) : Host.Outcome State Fault Refusal :=
  .next (let a := off + (if target = 0 then 0x20000000 else 0x60000000)
    let ok := s.rwinOk store target a size
    let s1 := if ok && store then s.writeBytes a (leBytes size data) else s
    let v := if ok && !store then leNat (s.readBytes a size) else 0
    (s1.launch { dst := node, body := .rwinAns (!ok) v }).2)

end Sys2Proof.Machine
end

