-- ==== Sys2Proof/Machine/MulDiv.lean ====
section
/-! DEFINITION. Multiply and divide (Table CPU-19) and the fixed-point and 64-bit instructions (Table CPU-20), with the arithmetic rules of R73. -/

namespace Sys2Proof.Machine

open Sys2Proof

/-! ## Arithmetic rules (R73) -/

/-- An exact result clamped to a signed range of `n` bits (R73, saturating). -/
def clampS (n : Nat) (x : Int) : Int := max (-(2 ^ (n - 1))) (min x (2 ^ (n - 1) - 1))

/-- An exact result clamped to an unsigned range of `n` bits (R73, saturating). -/
def clampU (n : Nat) (x : Int) : Int := max 0 (min x (2 ^ n - 1))

/-- round_sh(x, s): x when s = 0, else floor((x + 2^(s−1)) ÷ 2^s) (R73). -/
def roundSh (x : Int) (s : Nat) : Int := if s = 0 then x else (x + 2 ^ (s - 1)) / 2 ^ s

/-- The quotient rounded to the nearest integer, halves away from zero (R73, DIVR64). -/
def divRound (a b : Int) : Int :=
  let q := (2 * a.natAbs + b.natAbs) / (2 * b.natAbs)
  if (a < 0) = (b < 0) then q else -q

/-- A division by a register: DIVZERO where it is 0 (Table CPU-5). -/
def State.divide (s : State) (c rd rb : Nat) (f : Core → Word) : State :=
  s.insn c true (fun k t => if k.r rb = 0 then t.raise c excDivzero none else t.retire c (fun k1 => k1.w rd (f k)))

/-! ## Multiply and divide -/

/-- rd ← low 32 bits of ra × rb (R77, Table CPU-19). -/
def execMul (c rd ra rb : Nat) (s : State) : Host.Outcome State Fault Refusal :=
  .next (s.compute c rd (fun k => k.r ra * k.r rb))

/-- rd ← high 32 bits of sext(ra) × sext(rb) (R77, Table CPU-19). -/
def execMulh (c rd ra rb : Nat) (s : State) : Host.Outcome State Fault Refusal :=
  .next (s.compute c rd (fun k => (BitVec.ofInt 64 ((k.r ra).toInt * (k.r rb).toInt) >>> 32).truncate 32))

/-- rd ← high 32 bits of zext(ra) × zext(rb) (R77, Table CPU-19). -/
def execMulhu (c rd ra rb : Nat) (s : State) : Host.Outcome State Fault Refusal :=
  .next (s.compute c rd (fun k => (BitVec.ofNat 64 ((k.r ra).toNat * (k.r rb).toNat) >>> 32).truncate 32))

/-- rd ← ra ÷ rb signed, truncating toward zero; −2^31 by −1 gives −2^31 (R73) (R77, Table CPU-19). -/
def execDiv (c rd ra rb : Nat) (s : State) : Host.Outcome State Fault Refusal :=
  .next (s.divide c rd rb (fun k => BitVec.ofInt 32 ((k.r ra).toInt.tdiv (k.r rb).toInt)))

/-- rd ← ra ÷ rb unsigned (R77, Table CPU-19). -/
def execDivu (c rd ra rb : Nat) (s : State) : Host.Outcome State Fault Refusal :=
  .next (s.divide c rd rb (fun k => (k.r ra).udiv (k.r rb)))

/-- rd ← remainder of DIV, with the sign of the dividend (R73) (R77, Table CPU-19). -/
def execRem (c rd ra rb : Nat) (s : State) : Host.Outcome State Fault Refusal :=
  .next (s.divide c rd rb (fun k => BitVec.ofInt 32 ((k.r ra).toInt.tmod (k.r rb).toInt)))

/-- rd ← remainder of DIVU (R77, Table CPU-19). -/
def execRemu (c rd ra rb : Nat) (s : State) : Host.Outcome State Fault Refusal :=
  .next (s.divide c rd rb (fun k => (k.r ra).umod (k.r rb)))

/-! ## Fixed point and 64 bits -/

/-- rd ← ra + rb, wrapping 64-bit (R77, Table CPU-20). -/
def execAdd64 (c rd ra rb : Nat) (s : State) : Host.Outcome State Fault Refusal :=
  .next (s.compute64 c rd [rd, ra, rb] (fun k => k.rp ra + k.rp rb))

/-- rd ← ra − rb, wrapping 64-bit (R77, Table CPU-20). -/
def execSub64 (c rd ra rb : Nat) (s : State) : Host.Outcome State Fault Refusal :=
  .next (s.compute64 c rd [rd, ra, rb] (fun k => k.rp ra - k.rp rb))

/-- rd ← ra + rb, saturating signed 64-bit (R77, Table CPU-20). -/
def execAdds64 (c rd ra rb : Nat) (s : State) : Host.Outcome State Fault Refusal :=
  .next (s.compute64 c rd [rd, ra, rb] (fun k => BitVec.ofInt 64 (clampS 64 ((k.rp ra).toInt + (k.rp rb).toInt))))

/-- rd ← ra − rb, saturating signed 64-bit (R77, Table CPU-20). -/
def execSubs64 (c rd ra rb : Nat) (s : State) : Host.Outcome State Fault Refusal :=
  .next (s.compute64 c rd [rd, ra, rb] (fun k => BitVec.ofInt 64 (clampS 64 ((k.rp ra).toInt - (k.rp rb).toInt))))

/-- rd ← −1, 0 or 1 as ra <, =, > rb, signed; rd is one register (R77, Table CPU-20). -/
def execCmp64 (c rd ra rb : Nat) (s : State) : Host.Outcome State Fault Refusal :=
  .next (s.insn c true (fun k t =>
    if isPair ra && isPair rb then
      t.retire c (fun k1 => k1.w rd (if (k.rp ra).slt (k.rp rb) then -1 else if k.rp ra = k.rp rb then 0 else 1))
    else t.raise c excIllegal none))

/-- rd ← rd + sext(ra) × sext(rb), wrapping (R77, Table CPU-20). -/
def execMac64 (c rd ra rb : Nat) (s : State) : Host.Outcome State Fault Refusal :=
  .next (s.compute64 c rd [rd] (fun k => BitVec.ofInt 64 ((k.rp rd).toInt + (k.r ra).toInt * (k.r rb).toInt)))

/-- As MAC64, saturating signed 64-bit (R77, Table CPU-20). -/
def execMacs64 (c rd ra rb : Nat) (s : State) : Host.Outcome State Fault Refusal :=
  .next (s.compute64 c rd [rd] (fun k => BitVec.ofInt 64 (clampS 64 ((k.rp rd).toInt + (k.r ra).toInt * (k.r rb).toInt))))

/-- rd ← rd + zext(ra) × zext(rb), saturating unsigned 64-bit (R77, Table CPU-20). -/
def execMacu64 (c rd ra rb : Nat) (s : State) : Host.Outcome State Fault Refusal :=
  .next (s.compute64 c rd [rd] (fun k => BitVec.ofInt 64 (clampU 64 (((k.rp rd).toNat : Int) + (k.r ra).toNat * (k.r rb).toNat))))

/-- rd ← round_sh(ra × sext(rb), s), saturating signed 64-bit (R77, Table CPU-20). -/
def execMuls64q (c rd ra rb sh : Nat) (s : State) : Host.Outcome State Fault Refusal :=
  .next (s.compute64 c rd [rd, ra] (fun k => BitVec.ofInt 64 (clampS 64 (roundSh ((k.rp ra).toInt * (k.r rb).toInt) (sh % 32)))))

/-- rd ← ra ÷ sext(rb), rounded, saturating signed 64-bit; DIVZERO by 0 (R77, Table CPU-20). -/
def execDivr64 (c rd ra rb : Nat) (s : State) : Host.Outcome State Fault Refusal :=
  .next (s.insn c true (fun k t =>
    if !(isPair rd && isPair ra) then t.raise c excIllegal none
    else if k.r rb = 0 then t.raise c excDivzero none
    else t.retire c (fun k1 => k1.wp rd (BitVec.ofInt 64 (clampS 64 (divRound (k.rp ra).toInt (k.r rb).toInt))))))

/-- rd ← ra + rb, saturating signed 32-bit (R77, Table CPU-20). -/
def execAdds (c rd ra rb : Nat) (s : State) : Host.Outcome State Fault Refusal :=
  .next (s.compute c rd (fun k => BitVec.ofInt 32 (clampS 32 ((k.r ra).toInt + (k.r rb).toInt))))

/-- rd ← ra − rb, saturating signed 32-bit (R77, Table CPU-20). -/
def execSubs (c rd ra rb : Nat) (s : State) : Host.Outcome State Fault Refusal :=
  .next (s.compute c rd (fun k => BitVec.ofInt 32 (clampS 32 ((k.r ra).toInt - (k.r rb).toInt))))

/-- rd ← ra + rb, saturating unsigned 32-bit (R77, Table CPU-20). -/
def execAddus (c rd ra rb : Nat) (s : State) : Host.Outcome State Fault Refusal :=
  .next (s.compute c rd (fun k => BitVec.ofInt 32 (clampU 32 (((k.r ra).toNat : Int) + (k.r rb).toNat))))

/-- rd ← ra − rb, saturating unsigned 32-bit (R77, Table CPU-20). -/
def execSubus (c rd ra rb : Nat) (s : State) : Host.Outcome State Fault Refusal :=
  .next (s.compute c rd (fun k => BitVec.ofInt 32 (clampU 32 (((k.r ra).toNat : Int) - (k.r rb).toNat))))

/-- rd ← round_sh(sext(ra) × sext(rb), s), saturating signed 32-bit (R77, Table CPU-20). -/
def execMulq (c rd ra rb sh : Nat) (s : State) : Host.Outcome State Fault Refusal :=
  .next (s.compute c rd (fun k => BitVec.ofInt 32 (clampS 32 (roundSh ((k.r ra).toInt * (k.r rb).toInt) (sh % 32)))))

/-- rd ← ra clamped to −2^n to 2^n − 1 (R77, Table CPU-20). -/
def execSats (c rd ra n : Nat) (s : State) : Host.Outcome State Fault Refusal :=
  .next (s.compute c rd (fun k => BitVec.ofInt 32 (clampS (n % 32 + 1) (k.r ra).toInt)))

end Sys2Proof.Machine
end

