-- ==== Sys2Proof/Machine/Dispatch.lean ====
section
/-! DEFINITION. Dispatch: one arm per command. -/

namespace Sys2Proof.Machine

open Sys2Proof

def exec (i : Instr) (s : State) : Host.Outcome State Fault Refusal :=
  match i with
  | .registerWrite who addr v => Sys2Proof.Machine.execRegisterWrite who addr v s
  | .porRelease => Sys2Proof.Machine.execPorRelease s
  | .brownoutReset => Sys2Proof.Machine.execBrownoutReset s
  | .dawnSupplyReady otpOk calBad sensorBad => Sys2Proof.Machine.execDawnSupplyReady otpOk calBad sensorBad s
  | .xtalMtStarted taps strap => Sys2Proof.Machine.execXtalMtStarted taps strap s
  | .xtalStartTimeout => Sys2Proof.Machine.execXtalStartTimeout s
  | .dawnSealSample sw loop => Sys2Proof.Machine.execDawnSealSample sw loop s
  | .dawnSealTimeout => Sys2Proof.Machine.execDawnSealTimeout s
  | .bootVerifyDone => Sys2Proof.Machine.execBootVerifyDone s
  | .extReset => Sys2Proof.Machine.execExtReset s
  | .dskReset who v => Sys2Proof.Machine.execDskReset who v s
  | .resetSaveDone => Sys2Proof.Machine.execResetSaveDone s
  | .duskWarning => Sys2Proof.Machine.execDuskWarning s
  | .duskWarningClear => Sys2Proof.Machine.execDuskWarningClear s
  | .duskFreeze => Sys2Proof.Machine.execDuskFreeze s
  | .duskSaveDone vddUp => Sys2Proof.Machine.execDuskSaveDone vddUp s
  | .checkpoint => Sys2Proof.Machine.execCheckpoint s
  | .checkpointDone good => Sys2Proof.Machine.execCheckpointDone good s
  | .opctlWrite who v => Sys2Proof.Machine.execOpctlWrite who v s
  | .opChangeDone taps => Sys2Proof.Machine.execOpChangeDone taps s
  | .opChangeTimeout reached => Sys2Proof.Machine.execOpChangeTimeout reached s
  | .mtFloorCommit => Sys2Proof.Machine.execMtFloorCommit s
  | .mtLoRead who => Sys2Proof.Machine.execMtLoRead who s
  | .wallSecRead who => Sys2Proof.Machine.execWallSecRead who s
  | .wallSet who v => Sys2Proof.Machine.execWallSet who v s
  | .bucketDrain => Sys2Proof.Machine.execBucketDrain s
  | .cmpArm who n v => Sys2Proof.Machine.execCmpArm who n v s
  | .cmpFire n => Sys2Proof.Machine.execCmpFire n s
  | .icgCtrlWrite who v => Sys2Proof.Machine.execIcgCtrlWrite who v s
  | .icgLock n => Sys2Proof.Machine.execIcgLock n s
  | .epCalibrate out taps => Sys2Proof.Machine.execEpCalibrate out taps s
  | .wearMeasure mon wear tj => Sys2Proof.Machine.execWearMeasure mon wear tj s
  | .xtalMtLost => Sys2Proof.Machine.execXtalMtLost s
  | .xtalMtResume => Sys2Proof.Machine.execXtalMtResume s
  | .wtXtalCheck edgeLost ppm => Sys2Proof.Machine.execWtXtalCheck edgeLost ppm s
  | .add c rd ra rb => Sys2Proof.Machine.execAdd c rd ra rb s
  | .sub c rd ra rb => Sys2Proof.Machine.execSub c rd ra rb s
  | .and c rd ra rb => Sys2Proof.Machine.execAnd c rd ra rb s
  | .or c rd ra rb => Sys2Proof.Machine.execOr c rd ra rb s
  | .xor c rd ra rb => Sys2Proof.Machine.execXor c rd ra rb s
  | .sll c rd ra rb => Sys2Proof.Machine.execSll c rd ra rb s
  | .srl c rd ra rb => Sys2Proof.Machine.execSrl c rd ra rb s
  | .sra c rd ra rb => Sys2Proof.Machine.execSra c rd ra rb s
  | .rotl c rd ra rb => Sys2Proof.Machine.execRotl c rd ra rb s
  | .slli c rd ra n => Sys2Proof.Machine.execSlli c rd ra n s
  | .srli c rd ra n => Sys2Proof.Machine.execSrli c rd ra n s
  | .srai c rd ra n => Sys2Proof.Machine.execSrai c rd ra n s
  | .slt c rd ra rb => Sys2Proof.Machine.execSlt c rd ra rb s
  | .sltu c rd ra rb => Sys2Proof.Machine.execSltu c rd ra rb s
  | .min c rd ra rb => Sys2Proof.Machine.execMin c rd ra rb s
  | .max c rd ra rb => Sys2Proof.Machine.execMax c rd ra rb s
  | .minu c rd ra rb => Sys2Proof.Machine.execMinu c rd ra rb s
  | .maxu c rd ra rb => Sys2Proof.Machine.execMaxu c rd ra rb s
  | .clz c rd ra => Sys2Proof.Machine.execClz c rd ra s
  | .sextb c rd ra => Sys2Proof.Machine.execSextb c rd ra s
  | .sexth c rd ra => Sys2Proof.Machine.execSexth c rd ra s
  | .csel c rd ra rb rc => Sys2Proof.Machine.execCsel c rd ra rb rc s
  | .mul c rd ra rb => Sys2Proof.Machine.execMul c rd ra rb s
  | .mulh c rd ra rb => Sys2Proof.Machine.execMulh c rd ra rb s
  | .mulhu c rd ra rb => Sys2Proof.Machine.execMulhu c rd ra rb s
  | .div c rd ra rb => Sys2Proof.Machine.execDiv c rd ra rb s
  | .divu c rd ra rb => Sys2Proof.Machine.execDivu c rd ra rb s
  | .rem c rd ra rb => Sys2Proof.Machine.execRem c rd ra rb s
  | .remu c rd ra rb => Sys2Proof.Machine.execRemu c rd ra rb s
  | .add64 c rd ra rb => Sys2Proof.Machine.execAdd64 c rd ra rb s
  | .sub64 c rd ra rb => Sys2Proof.Machine.execSub64 c rd ra rb s
  | .adds64 c rd ra rb => Sys2Proof.Machine.execAdds64 c rd ra rb s
  | .subs64 c rd ra rb => Sys2Proof.Machine.execSubs64 c rd ra rb s
  | .cmp64 c rd ra rb => Sys2Proof.Machine.execCmp64 c rd ra rb s
  | .mac64 c rd ra rb => Sys2Proof.Machine.execMac64 c rd ra rb s
  | .macs64 c rd ra rb => Sys2Proof.Machine.execMacs64 c rd ra rb s
  | .macu64 c rd ra rb => Sys2Proof.Machine.execMacu64 c rd ra rb s
  | .muls64q c rd ra rb sh => Sys2Proof.Machine.execMuls64q c rd ra rb sh s
  | .divr64 c rd ra rb => Sys2Proof.Machine.execDivr64 c rd ra rb s
  | .adds c rd ra rb => Sys2Proof.Machine.execAdds c rd ra rb s
  | .subs c rd ra rb => Sys2Proof.Machine.execSubs c rd ra rb s
  | .addus c rd ra rb => Sys2Proof.Machine.execAddus c rd ra rb s
  | .subus c rd ra rb => Sys2Proof.Machine.execSubus c rd ra rb s
  | .mulq c rd ra rb sh => Sys2Proof.Machine.execMulq c rd ra rb sh s
  | .sats c rd ra n => Sys2Proof.Machine.execSats c rd ra n s
  | .addi c rd ra imm => Sys2Proof.Machine.execAddi c rd ra imm s
  | .andi c rd ra imm => Sys2Proof.Machine.execAndi c rd ra imm s
  | .ori c rd ra imm => Sys2Proof.Machine.execOri c rd ra imm s
  | .xori c rd ra imm => Sys2Proof.Machine.execXori c rd ra imm s
  | .slti c rd ra imm => Sys2Proof.Machine.execSlti c rd ra imm s
  | .sltiu c rd ra imm => Sys2Proof.Machine.execSltiu c rd ra imm s
  | .lui c rd imm => Sys2Proof.Machine.execLui c rd imm s
  | .auipc c rd imm => Sys2Proof.Machine.execAuipc c rd imm s
  | .lw c rd ra imm => Sys2Proof.Machine.execLw c rd ra imm s
  | .lh c rd ra imm => Sys2Proof.Machine.execLh c rd ra imm s
  | .lhu c rd ra imm => Sys2Proof.Machine.execLhu c rd ra imm s
  | .lb c rd ra imm => Sys2Proof.Machine.execLb c rd ra imm s
  | .lbu c rd ra imm => Sys2Proof.Machine.execLbu c rd ra imm s
  | .ld c rd ra imm => Sys2Proof.Machine.execLd c rd ra imm s
  | .sw c rs ra imm => Sys2Proof.Machine.execSw c rs ra imm s
  | .sh c rs ra imm => Sys2Proof.Machine.execSh c rs ra imm s
  | .sb c rs ra imm => Sys2Proof.Machine.execSb c rs ra imm s
  | .sd c rs ra imm => Sys2Proof.Machine.execSd c rs ra imm s
  | .cas c rd ra rb rc => Sys2Proof.Machine.execCas c rd ra rb rc s
  | .swap c rd ra rb => Sys2Proof.Machine.execSwap c rd ra rb s
  | .fadd c rd ra rb => Sys2Proof.Machine.execFadd c rd ra rb s
  | .beq c ra rb off => Sys2Proof.Machine.execBeq c ra rb off s
  | .bne c ra rb off => Sys2Proof.Machine.execBne c ra rb off s
  | .blt c ra rb off => Sys2Proof.Machine.execBlt c ra rb off s
  | .bge c ra rb off => Sys2Proof.Machine.execBge c ra rb off s
  | .bltu c ra rb off => Sys2Proof.Machine.execBltu c ra rb off s
  | .bgeu c ra rb off => Sys2Proof.Machine.execBgeu c ra rb off s
  | .j c off => Sys2Proof.Machine.execJ c off s
  | .jal c off => Sys2Proof.Machine.execJal c off s
  | .jalr c rd ra imm => Sys2Proof.Machine.execJalr c rd ra imm s
  | .ret c => Sys2Proof.Machine.execRet c s
  | .mfcr c rd crn => Sys2Proof.Machine.execMfcr c rd crn s
  | .mtcr c crn ra => Sys2Proof.Machine.execMtcr c crn ra s
  | .eret c => Sys2Proof.Machine.execEret c s
  | .fence c => Sys2Proof.Machine.execFence c s
  | .trap c k => Sys2Proof.Machine.execTrap c k s
  | .sigchk c k => Sys2Proof.Machine.execSigchk c k s
  | .tmon c => Sys2Proof.Machine.execTmon c s
  | .stest c n good => Sys2Proof.Machine.execStest c n good s
  | .rdmt c rd => Sys2Proof.Machine.execRdmt c rd s
  | .rdmtl c rd => Sys2Proof.Machine.execRdmtl c rd s
  | .rdwall c rd => Sys2Proof.Machine.execRdwall c rd s
  | .rdera c rd => Sys2Proof.Machine.execRdera c rd s
  | .wait c rd ra => Sys2Proof.Machine.execWait c rd ra s
  | .waitt c rd ra rb => Sys2Proof.Machine.execWaitt c rd ra rb s
  | .poll c rd ra => Sys2Proof.Machine.execPoll c rd ra s
  | .signal c m => Sys2Proof.Machine.execSignal c m s
  | .qpush c rd ra rb => Sys2Proof.Machine.execQpush c rd ra rb s
  | .qpop c rd ra rb => Sys2Proof.Machine.execQpop c rd ra rb s
  | .qstat c rd ra => Sys2Proof.Machine.execQstat c rd ra s
  | .ksubmit c rd ra => Sys2Proof.Machine.execKsubmit c rd ra s
  | .kpoll c rd ra => Sys2Proof.Machine.execKpoll c rd ra s
  | .krand c rd => Sys2Proof.Machine.execKrand c rd s
  | .krandResume c => Sys2Proof.Machine.execKrandResume c s
  | .waitWake c => Sys2Proof.Machine.execWaitWake c s
  | .waittDeadline c => Sys2Proof.Machine.execWaittDeadline c s
  | .urgentEntry c => Sys2Proof.Machine.execUrgentEntry c s
  | .sfcTmonTimeout => Sys2Proof.Machine.execSfcTmonTimeout s
  | .sfcTimebaseCheck => Sys2Proof.Machine.execSfcTimebaseCheck s
  | .sfcStestPeriodEnd => Sys2Proof.Machine.execSfcStestPeriodEnd s
  | .cpuWdogKick who v => Sys2Proof.Machine.execCpuWdogKick who v s
  | .cpuWdogExpire c => Sys2Proof.Machine.execCpuWdogExpire c s
  | .cpuMboxWrite who n v => Sys2Proof.Machine.execCpuMboxWrite who n v s
  | .cpuMboxRead who n => Sys2Proof.Machine.execCpuMboxRead who n s
  | .cpuStart who v => Sys2Proof.Machine.execCpuStart who v s
  | .cpuHalt who v => Sys2Proof.Machine.execCpuHalt who v s
  | .remoteTimeout c => Sys2Proof.Machine.execRemoteTimeout c s
  | .rwinReq node store target off size data => Sys2Proof.Machine.execRwinReq node store target off size data s
  | .rwinAns c refused data => Sys2Proof.Machine.execRwinAns c refused data s
  | .supplySelect vdd33 vbat vharv => Sys2Proof.Machine.execSupplySelect vdd33 vbat vharv s
  | .njPowerLost => Sys2Proof.Machine.execNjPowerLost s
  | .njRestart source torn mv => Sys2Proof.Machine.execNjRestart source torn mv s
  | .njFirstStart source => Sys2Proof.Machine.execNjFirstStart source s
  | .vbatMeasure mv => Sys2Proof.Machine.execVbatMeasure mv s
  | .rtcSecond temp => Sys2Proof.Machine.execRtcSecond temp s
  | .oscStop => Sys2Proof.Machine.execOscStop s
  | .oscResume ms => Sys2Proof.Machine.execOscResume ms s
  | .wrenCycle tmp mag lux temp => Sys2Proof.Machine.execWrenCycle tmp mag lux temp s
  | .tamperClear who v => Sys2Proof.Machine.execTamperClear who v s
  | .sealScan sw loop => Sys2Proof.Machine.execSealScan sw loop s
  | .logApp0 who v => Sys2Proof.Machine.execLogApp0 who v s
  | .logApp1 who v => Sys2Proof.Machine.execLogApp1 who v s
  | .kvGenerate => Sys2Proof.Machine.execKvGenerate s
  | .kvImportPlain => Sys2Proof.Machine.execKvImportPlain s
  | .kvImportWrapped => Sys2Proof.Machine.execKvImportWrapped s
  | .kvDeriveHkdf => Sys2Proof.Machine.execKvDeriveHkdf s
  | .kvAgree => Sys2Proof.Machine.execKvAgree s
  | .kvTls12Prf => Sys2Proof.Machine.execKvTls12Prf s
  | .kvTls13Keys => Sys2Proof.Machine.execKvTls13Keys s
  | .kvSign => Sys2Proof.Machine.execKvSign s
  | .kvVerify => Sys2Proof.Machine.execKvVerify s
  | .kvEncrypt => Sys2Proof.Machine.execKvEncrypt s
  | .kvDecrypt => Sys2Proof.Machine.execKvDecrypt s
  | .kvMac => Sys2Proof.Machine.execKvMac s
  | .kvHash => Sys2Proof.Machine.execKvHash s
  | .kvExportPub => Sys2Proof.Machine.execKvExportPub s
  | .kvExportWrapped => Sys2Proof.Machine.execKvExportWrapped s
  | .kvExportPlain => Sys2Proof.Machine.execKvExportPlain s
  | .kvInvalidate => Sys2Proof.Machine.execKvInvalidate s
  | .kvTighten => Sys2Proof.Machine.execKvTighten s
  | .kvAttest => Sys2Proof.Machine.execKvAttest s
  | .kvReadCert => Sys2Proof.Machine.execKvReadCert s
  | .kvCmdDone good => Sys2Proof.Machine.execKvCmdDone good s
  | .kvSweep bad => Sys2Proof.Machine.execKvSweep bad s
  | .kvLcReq who v => Sys2Proof.Machine.execKvLcReq who v s
  | .kvLcConfirm who v => Sys2Proof.Machine.execKvLcConfirm who v s
  | .rngHealthFail => Sys2Proof.Machine.execRngHealthFail s
  | .rngRestart good => Sys2Proof.Machine.execRngRestart good s
  | .kvSelftestDone good noise => Sys2Proof.Machine.execKvSelftestDone good noise s
  | .tapSessionOpen => Sys2Proof.Machine.execTapSessionOpen s
  | .tapDebugHalt c => Sys2Proof.Machine.execTapDebugHalt c s
  | .tapReset => Sys2Proof.Machine.execTapReset s
  | .tapRefused => Sys2Proof.Machine.execTapRefused s
  | .manifestArrive => Sys2Proof.Machine.execManifestArrive s
  | .manifestVerifyDone => Sys2Proof.Machine.execManifestVerifyDone s
  | .updBlockArrive => Sys2Proof.Machine.execUpdBlockArrive s
  | .partDigestDone k => Sys2Proof.Machine.execPartDigestDone k s
  | .bootDigestDone => Sys2Proof.Machine.execBootDigestDone s
  | .updActivate who v => Sys2Proof.Machine.execUpdActivate who v s
  | .updAbort who v => Sys2Proof.Machine.execUpdAbort who v s
  | .activationRelease good act => Sys2Proof.Machine.execActivationRelease good act s
  | .prepare good => Sys2Proof.Machine.execPrepare good s
  | .prepared good act => Sys2Proof.Machine.execPrepared good act s
  | .commit act => Sys2Proof.Machine.execCommit act s
  | .committed => Sys2Proof.Machine.execCommitted s
  | .discard => Sys2Proof.Machine.execDiscard s
  | .partOk => Sys2Proof.Machine.execPartOk s
  | .partBad => Sys2Proof.Machine.execPartBad s
  | .imageBad => Sys2Proof.Machine.execImageBad s
  | .prepareTimeout => Sys2Proof.Machine.execPrepareTimeout s
  | .commitTimeout => Sys2Proof.Machine.execCommitTimeout s
  | .regRead f ready => Sys2Proof.Machine.execRegRead f ready s
  | .regWrite f => Sys2Proof.Machine.execRegWrite f s
  | .writeBufferApply n => Sys2Proof.Machine.execWriteBufferApply n s
  | .strRead f => Sys2Proof.Machine.execStrRead f s
  | .strWrite f => Sys2Proof.Machine.execStrWrite f s
  | .status f => Sys2Proof.Machine.execStatus f s
  | .selectRelease f cut => Sys2Proof.Machine.execSelectRelease f cut s
  | .hostAliveTimeout => Sys2Proof.Machine.execHostAliveTimeout s
  | .ostrFill n => Sys2Proof.Machine.execOstrFill n s
  | .istrPush n => Sys2Proof.Machine.execIstrPush n s
  | .hspAttnSet who v => Sys2Proof.Machine.execHspAttnSet who v s
  | .qeTableEnable who v => Sys2Proof.Machine.execQeTableEnable who v s
  | .tableZeroFillDone => Sys2Proof.Machine.execTableZeroFillDone s
  | .qeLoad who => Sys2Proof.Machine.execQeLoad who s
  | .qeApply who => Sys2Proof.Machine.execQeApply who s
  | .qeEnable who => Sys2Proof.Machine.execQeEnable who s
  | .qeDisable who => Sys2Proof.Machine.execQeDisable who s
  | .qeReset who => Sys2Proof.Machine.execQeReset who s
  | .qePin who => Sys2Proof.Machine.execQePin who s
  | .qeUnpin who => Sys2Proof.Machine.execQeUnpin who s
  | .producerDoorbell who v => Sys2Proof.Machine.execProducerDoorbell who v s
  | .consumerDoorbell who v => Sys2Proof.Machine.execConsumerDoorbell who v s
  | .qeEvtRead who => Sys2Proof.Machine.execQeEvtRead who s
  | .resvTimeout q => Sys2Proof.Machine.execResvTimeout q s
  | .fullRetry seq => Sys2Proof.Machine.execFullRetry seq s
  | .ackTimeout seq => Sys2Proof.Machine.execAckTimeout seq s
  | .copyGo who n v => Sys2Proof.Machine.execCopyGo who n v s
  | .copyAbort who n v => Sys2Proof.Machine.execCopyAbort who n v s
  | .copyDone n => Sys2Proof.Machine.execCopyDone n s
  | .xmpCtrlWrite who v => Sys2Proof.Machine.execXmpCtrlWrite who v s
  | .xmpCommand who v => Sys2Proof.Machine.execXmpCommand who v s
  | .xmpCmdDone good data cells => Sys2Proof.Machine.execXmpCmdDone good data cells s
  | .xmpTimeout user => Sys2Proof.Machine.execXmpTimeout user s
  | .postedStoreDrain good => Sys2Proof.Machine.execPostedStoreDrain good s
  | .presentAssert => Sys2Proof.Machine.execPresentAssert s
  | .trainAligned p => Sys2Proof.Machine.execTrainAligned p s
  | .trainWordsExchanged p role rate peerAllows => Sys2Proof.Machine.execTrainWordsExchanged p role rate peerAllows s
  | .trainAcked p => Sys2Proof.Machine.execTrainAcked p s
  | .linkUp p => Sys2Proof.Machine.execLinkUp p s
  | .trainStepTimeout p => Sys2Proof.Machine.execTrainStepTimeout p s
  | .trainRetry p => Sys2Proof.Machine.execTrainRetry p s
  | .disconnect p => Sys2Proof.Machine.execDisconnect p s
  | .retrain who n v => Sys2Proof.Machine.execRetrain who n v s
  | .creditUpdate p laneS n => Sys2Proof.Machine.execCreditUpdate p laneS n s
  | .creditRefresh p => Sys2Proof.Machine.execCreditRefresh p s
  | .frameSend p => Sys2Proof.Machine.execFrameSend p s
  | .frameForward p f => Sys2Proof.Machine.execFrameForward p f s
  | .msg p f => Sys2Proof.Machine.execMsg p f s
  | .ans p f => Sys2Proof.Machine.execAns p f s
  | .rtxTimeout seq => Sys2Proof.Machine.execRtxTimeout seq s
  | .helloSend => Sys2Proof.Machine.execHelloSend s
  | .hello p f => Sys2Proof.Machine.execHello p f s
  | .neighbourAge p => Sys2Proof.Machine.execNeighbourAge p s
  | .stfRequest => Sys2Proof.Machine.execStfRequest s
  | .probe p f => Sys2Proof.Machine.execProbe p f s
  | .probeAns p f => Sys2Proof.Machine.execProbeAns p f s
  | .probeTimeout => Sys2Proof.Machine.execProbeTimeout s
  | .assignPost p f => Sys2Proof.Machine.execAssignPost p f s
  | .postWrite who v => Sys2Proof.Machine.execPostWrite who v s
  | .sweepStart => Sys2Proof.Machine.execSweepStart s
  | .sweepNow who v => Sys2Proof.Machine.execSweepNow who v s
  | .roll p f => Sys2Proof.Machine.execRoll p f s
  | .rollAns p f => Sys2Proof.Machine.execRollAns p f s
  | .rollTimeout => Sys2Proof.Machine.execRollTimeout s
  | .assignMember p f => Sys2Proof.Machine.execAssignMember p f s
  | .admission m => Sys2Proof.Machine.execAdmission m s
  | .admitTimeout m => Sys2Proof.Machine.execAdmitTimeout m s
  | .stfCmdAdmit who v => Sys2Proof.Machine.execStfCmdAdmit who v s
  | .stfCmdExpel who v => Sys2Proof.Machine.execStfCmdExpel who v s
  | .stfCmdReset who v => Sys2Proof.Machine.execStfCmdReset who v s
  | .stfCmdRelease who v => Sys2Proof.Machine.execStfCmdRelease who v s
  | .admitMsg => Sys2Proof.Machine.execAdmitMsg s
  | .expel => Sys2Proof.Machine.execExpel s
  | .fabReset => Sys2Proof.Machine.execFabReset s
  | .stopDusk => Sys2Proof.Machine.execStopDusk s
  | .release => Sys2Proof.Machine.execRelease s
  | .rtClear who v => Sys2Proof.Machine.execRtClear who v s
  | .heartbeatSend => Sys2Proof.Machine.execHeartbeatSend s
  | .heartbeat p f => Sys2Proof.Machine.execHeartbeat p f s
  | .setpointSend => Sys2Proof.Machine.execSetpointSend s
  | .setpointWrite => Sys2Proof.Machine.execSetpointWrite s
  | .setpoint => Sys2Proof.Machine.execSetpoint s
  | .faultReport p f => Sys2Proof.Machine.execFaultReport p f s
  | .heartbeatSilence m => Sys2Proof.Machine.execHeartbeatSilence m s
  | .leaving p f => Sys2Proof.Machine.execLeaving p f s
  | .removal => Sys2Proof.Machine.execRemoval s
  | .managerSilent => Sys2Proof.Machine.execManagerSilent s
  | .managerForget => Sys2Proof.Machine.execManagerForget s
  | .pilotPeriod => Sys2Proof.Machine.execPilotPeriod s
  | .pilotRelease who v => Sys2Proof.Machine.execPilotRelease who v s
  | .cpSample high uv => Sys2Proof.Machine.execCpSample high uv s
  | .cpInvalidTimeout => Sys2Proof.Machine.execCpInvalidTimeout s
  | .ppSample code => Sys2Proof.Machine.execPpSample code s
  | .asmTransaction => Sys2Proof.Machine.execAsmTransaction s
  | .asmTransactionDone rd => Sys2Proof.Machine.execAsmTransactionDone rd s
  | .asmInterrupt low => Sys2Proof.Machine.execAsmInterrupt low s
  | .asmDisable who v => Sys2Proof.Machine.execAsmDisable who v s
  | .vehTmrStart who n v => Sys2Proof.Machine.execVehTmrStart who n v s
  | .vehTmrStop who n v => Sys2Proof.Machine.execVehTmrStop who n v s
  | .vehTmrExpire n => Sys2Proof.Machine.execVehTmrExpire n s
  | .slacWrite who v => Sys2Proof.Machine.execSlacWrite who v s
  | .rbnModeWrite who v ext cur => Sys2Proof.Machine.execRbnModeWrite who v ext cur s
  | .extFieldRecheck ext cur => Sys2Proof.Machine.execExtFieldRecheck ext cur s
  | .guardEnd => Sys2Proof.Machine.execGuardEnd s
  | .readerTransaction => Sys2Proof.Machine.execReaderTransaction s
  | .readerTransactionDone status lastBits coll rx => Sys2Proof.Machine.execReaderTransactionDone status lastBits coll rx s
  | .detectPing ext spoilt amp phase cur => Sys2Proof.Machine.execDetectPing ext spoilt amp phase cur s
  | .detectCalibrate who v amp phase => Sys2Proof.Machine.execDetectCalibrate who v amp phase s
  | .fieldAppear uid h => Sys2Proof.Machine.execFieldAppear uid h s
  | .tagActivation => Sys2Proof.Machine.execTagActivation s
  | .fieldLost => Sys2Proof.Machine.execFieldLost s
  | .deselect => Sys2Proof.Machine.execDeselect s
  | .selectByName aid => Sys2Proof.Machine.execSelectByName aid s
  | .selectFile fid => Sys2Proof.Machine.execSelectFile fid s
  | .readBinary p1 p2 le wtx nvErr => Sys2Proof.Machine.execReadBinary p1 p2 le wtx nvErr s
  | .readBinaryOdd off le wtx nvErr => Sys2Proof.Machine.execReadBinaryOdd off le wtx nvErr s
  | .updateBinary p1 p2 data wtx => Sys2Proof.Machine.execUpdateBinary p1 p2 data wtx s
  | .tagWrite => Sys2Proof.Machine.execTagWrite s
  | .tagRead => Sys2Proof.Machine.execTagRead s
  | .tagLock => Sys2Proof.Machine.execTagLock s
  | .tagUnlock => Sys2Proof.Machine.execTagUnlock s
  | .wireLockExpire page => Sys2Proof.Machine.execWireLockExpire page s
  | .harvestOn mv => Sys2Proof.Machine.execHarvestOn mv s
  | .harvestOff mv => Sys2Proof.Machine.execHarvestOff mv s
  | .harvestOverload => Sys2Proof.Machine.execHarvestOverload s
  | .harvestOvlEnd => Sys2Proof.Machine.execHarvestOvlEnd s
  | .trip n => Sys2Proof.Machine.execTrip n s
  | .sourceDeassert n => Sys2Proof.Machine.execSourceDeassert n s
  | .safRelReq who v => Sys2Proof.Machine.execSafRelReq who v s
  | .safRelConfirm who v => Sys2Proof.Machine.execSafRelConfirm who v s
  | .safeResetRise => Sys2Proof.Machine.execSafeResetRise s
  | .safeResetFall => Sys2Proof.Machine.execSafeResetFall s
  | .resetJam => Sys2Proof.Machine.execResetJam s
  | .outputStuck n present => Sys2Proof.Machine.execOutputStuck n present s
  | .vcoreLowHold => Sys2Proof.Machine.execVcoreLowHold s
  | .vcoreHoldRelease => Sys2Proof.Machine.execVcoreHoldRelease s
  | .thermalSample n code temp => Sys2Proof.Machine.execThermalSample n code temp s
  | .commitDone good => Sys2Proof.Machine.execCommitDone good s
  | .reload who v => Sys2Proof.Machine.execReload who v s
  | .safTest who v => Sys2Proof.Machine.execSafTest who v s
  | .testInjectionDone seen lat => Sys2Proof.Machine.execTestInjectionDone seen lat s
  | .dacReadback c rb => Sys2Proof.Machine.execDacReadback c rb s
  | .sfcTripWrite who v => Sys2Proof.Machine.execSfcTripWrite who v s
  | .rdcUpdate dc100 dc20 ac => Sys2Proof.Machine.execRdcUpdate dc100 dc20 ac s
  | .fgHalfCycle sat peak inWindow => Sys2Proof.Machine.execFgHalfCycle sat peak inWindow s
  | .fgTest who v => Sys2Proof.Machine.execFgTest who v s
  | .fgTestEnd compared => Sys2Proof.Machine.execFgTestEnd compared s
  | .fgTestBlankEnd => Sys2Proof.Machine.execFgTestBlankEnd s
  | .rcdAuxSample closed => Sys2Proof.Machine.execRcdAuxSample closed s
  | .rcdTest who v => Sys2Proof.Machine.execRcdTest who v s
  | .rcdTestEnd => Sys2Proof.Machine.execRcdTestEnd s
  | .insHalfPeriod v w => Sys2Proof.Machine.execInsHalfPeriod v w s
  | .insStale => Sys2Proof.Machine.execInsStale s
  | .efmCtrlWrite who v => Sys2Proof.Machine.execEfmCtrlWrite who v s
  | .efmSettingsWrite who a v good => Sys2Proof.Machine.execEfmSettingsWrite who a v good s
  | .envelopeSend c => Sys2Proof.Machine.execEnvelopeSend c s
  | .envelope c => Sys2Proof.Machine.execEnvelope c s
  | .twinSkewTimeout c => Sys2Proof.Machine.execTwinSkewTimeout c s
  | .connectionTimeout c => Sys2Proof.Machine.execConnectionTimeout c s
  | .payloadCommit who v => Sys2Proof.Machine.execPayloadCommit who v s
  | .safScCmd who v => Sys2Proof.Machine.execSafScCmd who v s
  | .pwmPeriodBoundary => Sys2Proof.Machine.execPwmPeriodBoundary s
  | .pwmLoad who v => Sys2Proof.Machine.execPwmLoad who v s
  | .go who v => Sys2Proof.Machine.execGo who v s
  | .stop who v => Sys2Proof.Machine.execStop who v s
  | .currentLimit n high pos => Sys2Proof.Machine.execCurrentLimit n high pos s
  | .adcTrigger t => Sys2Proof.Machine.execAdcTrigger t s
  | .adcSequenceDone codes => Sys2Proof.Machine.execAdcSequenceDone codes s
  | .backoffEnd => Sys2Proof.Machine.execBackoffEnd s
  | .ssRelease who v => Sys2Proof.Machine.execSsRelease who v s
  | .ctrClose who v => Sys2Proof.Machine.execCtrClose who v s
  | .ctrOpen who v => Sys2Proof.Machine.execCtrOpen who v s
  | .ctrFbSample n level => Sys2Proof.Machine.execCtrFbSample n level s
  | .ctrCloseTimeout n => Sys2Proof.Machine.execCtrCloseTimeout n s
  | .weldWindowEnd n => Sys2Proof.Machine.execWeldWindowEnd n s
  | .weldRecheck n => Sys2Proof.Machine.execWeldRecheck n s
  | .ctrVoltageSample codes => Sys2Proof.Machine.execCtrVoltageSample codes s
  | .prechargeStart who v => Sys2Proof.Machine.execPrechargeStart who v s
  | .prechargeTimeout => Sys2Proof.Machine.execPrechargeTimeout s
  | .prechargeOverlapEnd => Sys2Proof.Machine.execPrechargeOverlapEnd s
  | .prechargeAbort who v => Sys2Proof.Machine.execPrechargeAbort who v s
  | .mtrSample u dc v90 bad => Sys2Proof.Machine.execMtrSample u dc v90 bad s
  | .accumulationStep => Sys2Proof.Machine.execAccumulationStep s
  | .mtrSecond temp mhz => Sys2Proof.Machine.execMtrSecond temp mhz s
  | .mtrCtrlWrite who v good => Sys2Proof.Machine.execMtrCtrlWrite who v good s
  | .mtrUserWrite who a v good => Sys2Proof.Machine.execMtrUserWrite who a v good s
  | .clear who v => Sys2Proof.Machine.execClear who v s
  | .pulseEmit => Sys2Proof.Machine.execPulseEmit s
  | .mtrSnap who v => Sys2Proof.Machine.execMtrSnap who v s
  | .mtrCapTrig who v => Sys2Proof.Machine.execMtrCapTrig who v s
  | .captureResume u => Sys2Proof.Machine.execCaptureResume u s
  | .sessionOpen who v => Sys2Proof.Machine.execSessionOpen who v s
  | .sessionClose who v => Sys2Proof.Machine.execSessionClose who v s
  | .sessionAmount who v => Sys2Proof.Machine.execSessionAmount who v s
  | .sessionClosingTimeout => Sys2Proof.Machine.execSessionClosingTimeout s
  | .amountTimeout slot => Sys2Proof.Machine.execAmountTimeout slot s
  | .recordSigned slot => Sys2Proof.Machine.execRecordSigned slot s
  | .signRetry slot => Sys2Proof.Machine.execSignRetry slot s
  | .recordPublish => Sys2Proof.Machine.execRecordPublish s
  | .bilMdCmd who v => Sys2Proof.Machine.execBilMdCmd who v s
  | .topup who v => Sys2Proof.Machine.execTopup who v s
  | .ppFbTimeout => Sys2Proof.Machine.execPpFbTimeout s
  | .vanaLow => Sys2Proof.Machine.execVanaLow s
  | .vanaOk => Sys2Proof.Machine.execVanaOk s
  | .buckLimit => Sys2Proof.Machine.execBuckLimit s
  | .lifeMinute => Sys2Proof.Machine.execLifeMinute s
  | .lifeStore => Sys2Proof.Machine.execLifeStore s
  | .paramCommit who v => Sys2Proof.Machine.execParamCommit who v s
  | .symbolError p laneS units => Sys2Proof.Machine.execSymbolError p laneS units s
  | .trainFail p => Sys2Proof.Machine.execTrainFail p s
  | .icgLockLost n => Sys2Proof.Machine.execIcgLockLost n s
  | .tapSessionEnd => Sys2Proof.Machine.execTapSessionEnd s

end Sys2Proof.Machine
end

