-- ==== Sys2Proof/Safety.lean ====
section
/-! DEFINITION. The terms the claims use: the canonical form of the state, a core that can complete an instruction, what an instruction changes
and what it leaves, and a safe run. -/

namespace Sys2Proof.Machine

open Sys2Proof

/-! ## The form of the state -/

/-- The register file and memory have their canonical form: addresses strictly rising, no entry equal to what an unlisted address reads as. -/
def State.storesWf (s : State) : Bool := Store.wf s.regs && Store.wf s.mem

/-- Memory's canonical form alone. -/
abbrev Memory.wf (m : List Host.Cell) : Bool := Store.wf m

/-- There are five cores of 32 general registers and 16 Task region words (R71, Table CPU-3). -/
def State.coresWf (s : State) : Bool := s.cpu.cores.length = 5 && s.cpu.cores.all (fun k => k.g.length = 32 && k.treg.length = 16)

/-! ## Instructions -/

/-- Core `c` executes an instruction and completes it: it is ready, may fetch, has its registers, and on the SFC the SIGCHK gap is not used up
(R53, R48, R62). -/
abbrev State.able (s : State) (c : Nat) : Prop :=
  s.coreReady c = true ∧ s.fetchOk c = true ∧ (s.core c).g.length = 32 ∧ (c = 4 → s.cpu.sigCount < 16 * s.fld F.CPU_SFC_CTRL_sig_gap) ∧
  s.sound (s.core c).pc.toNat 4 = true

/-- As `able`, on a CC core (GCIS-S leaves the instruction out, R85). -/
abbrev State.ableCc (s : State) (c : Nat) : Prop := s.able c ∧ c ≠ 4

/-- Only core `c` has changed, and on the SFC its count of instructions (R62). -/
def OnlyCore (c : Nat) (s t : State) : Prop :=
  t = { s with cpu := { s.cpu with cores := t.cpu.cores, sigCount := t.cpu.sigCount } } ∧
  (∀ d, d ≠ c → t.core d = s.core d) ∧ t.cpu.sigCount = (if c = 4 then s.cpu.sigCount + 1 else s.cpu.sigCount)

/-- Of core `c` the pc has gone to an address and the general registers are those of `r`; nothing else of it has changed. -/
def CoreIs (c : Nat) (s t : State) (pc : Word) (r : Nat → Word) : Prop :=
  t.core c = { s.core c with pc := pc, g := (t.core c).g } ∧ (t.core c).g.length = 32 ∧ ∀ n, n < 32 → (t.core c).r n = if n = 0 then 0 else r n

/-- The command answers a next state in which core `c` has gone on to the next word with `v` in register `rd`, g0 still reading 0, and nothing
else has changed (R69, R71). -/
def Gives (i : Instr) (s : State) (c rd : Nat) (v : Word) : Prop :=
  ∃ t, exec i s = .next t ∧ OnlyCore c s t ∧ CoreIs c s t ((s.core c).pc + 4) (fun n => if n = rd then v else (s.core c).r n)

/-- As `Gives`, for a register pair: the low word in `rd`, the high word in the register after it (R72). -/
def Gives64 (i : Instr) (s : State) (c rd : Nat) (v : DWord) : Prop :=
  ∃ t, exec i s = .next t ∧ OnlyCore c s t ∧ CoreIs c s t ((s.core c).pc + 4)
    (fun n => if n = rd then v.truncate 32 else if n = rd + 1 then (v >>> 32).truncate 32 else (s.core c).r n)

/-- The command answers a next state in which core `c` has gone on at an address with the general registers of `r`; on the SFC the signature has
followed (R62), and nothing else has changed. -/
def GoesTo (i : Instr) (s : State) (c : Nat) (a : Word) (r : Nat → Word) : Prop :=
  ∃ t, exec i s = .next t ∧ OnlyCore c s t ∧
    t.core c = { s.core c with pc := a, g := (t.core c).g, sig := if c = 4 then (s.core c).sig.rotateLeft 5 ^^^ (a >>> 2) else (s.core c).sig } ∧
    (t.core c).g.length = 32 ∧ ∀ n, n < 32 → (t.core c).r n = if n = 0 then 0 else r n

/-- The command answers a next state in which core `c` has taken line `n` of a mask into register `rd`: the pending bit is cleared, the core has
gone on, and nothing else has changed (R53). -/
def TakesLine (i : Instr) (s : State) (c rd n : Nat) : Prop :=
  ∃ t, exec i s = .next t ∧ OnlyCore c s t ∧
    t.core c = { s.core c with pc := (s.core c).pc + 4, g := (t.core c).g, pend := (s.core c).pend &&& ~~~(1#32 <<< n), stall := .none } ∧
    ∀ m, m < 32 → (t.core c).r m = if m = 0 then 0 else if m = rd then w32 n else (s.core c).r m

/-- The command answers a next state in which core `c` waits, and nothing else has changed. -/
def Stalls (i : Instr) (s : State) (c : Nat) (w : Stall) : Prop :=
  ∃ t, exec i s = .next t ∧ t = { s with cpu := { s.cpu with cores := t.cpu.cores } } ∧ (∀ d, d ≠ c → t.core d = s.core d) ∧
    t.core c = { s.core c with stall := w }

/-- The command answers a next state in which core `c`, not in a handler, has taken an exception: the saved registers of R55, Kernel level, the
pc at the vector, and no other state changed. -/
def Enters (i : Instr) (s : State) (c cause : Nat) (epc : Word) (bad : Word) : Prop :=
  ∃ t, exec i s = .next t ∧ t = { s with cpu := { s.cpu with cores := t.cpu.cores } } ∧ (∀ d, d ≠ c → t.core d = s.core d) ∧
    t.core c = { s.core c with epc := epc, cause := w32 cause, badaddr := bad, prevTask := (s.core c).task, task := false, hnd := true, stall := .none,
                               pc := (s.core c).evec }

/-- The command answers a next state with a property. -/
def Answers (i : Instr) (s : State) (P : State → Prop) : Prop := ∃ t, exec i s = .next t ∧ P t

/-- Every bit of every register outside the listed fields is as before (R5). -/
def RegsBut (fs : List Field) (s t : State) : Prop :=
  ∀ a n, n < 32 → (∀ f, f ∈ fs → f.addr = a → n < f.lo ∨ f.hi < n) → (t.word a).getLsbD n = (s.word a).getLsbD n

/-- Nothing has changed but the listed fields of registers. -/
def Sets (fs : List Field) (s t : State) : Prop := t = { s with regs := t.regs } ∧ RegsBut fs s t

/-- A whole register as one field. -/
def wordAt (a : Nat) : Field := ⟨a, 31, 0⟩

/-- The registers logging writes (R124 to R126, R185, Table NJD-9). -/
def logRegs : List Field :=
  [F.NJD_LOG_COUNT_count, F.NJD_LOG_COUNT_main_full, F.NJD_STATUS_nv_fail, wordAt Reg.NJD_LOG_HEAD, F.NJD_FAULT_code, F.NJD_FAULT_valid, F.HSP_ATTN_fault]

/-- Logging changes the log and its registers alone. -/
def LogOnly (s t : State) : Prop := t = { s with regs := t.regs, nj := t.nj } ∧ RegsBut logRegs s t

/-- Core `c` can complete the instruction it is stalled in: it runs, no urgent entry is due, it has its registers, and on the SFC the SIGCHK gap is
not used up (R53, R54, R62). -/
abbrev State.stalledAble (s : State) (c : Nat) : Prop :=
  c < s.cpu.cores.length ∧ (s.core c).running = true ∧ (s.core c).urgentDue = false ∧ (s.core c).g.length = 32 ∧
  (c = 4 → s.cpu.sigCount < 16 * s.fld F.CPU_SFC_CTRL_sig_gap)

/-- The command answers a next state in which core `c` has completed the instruction it was stalled in, with the general registers of `r`, and
nothing else has changed (R53, R76). -/
def Resumes (i : Instr) (s : State) (c : Nat) (r : Nat → Word) : Prop :=
  ∃ t, exec i s = .next t ∧ OnlyCore c s t ∧ t.core c = { s.core c with pc := (s.core c).pc + 4, g := (t.core c).g, stall := .none } ∧
    ∀ n, n < 32 → (t.core c).r n = if n = 0 then 0 else r n

/-! ## Frames of the host port -/

/-- A frame of an opcode with its units whose layout, CRC and fields are right (R170, R171). -/
abbrev GoodFrame (f : HostFrame) (op : Nat) : Prop :=
  f.op = op ∧ f.alanes < 3 ∧ f.dlanes < 3 ∧ f.crc = f.goodCrc ∧ f.malformed = false ∧ f.units.length = (if f.writes then f.count else 0)

/-- The frame is in sequence (R173). -/
abbrev State.inSeq (s : State) (f : HostFrame) : Prop := s.hsp.restart = true ∨ (1 ≤ s.aliveGap f ∧ s.aliveGap f ≤ 1 + s.hsp.ignored)

/-- `u` is `s` after a frame was accepted: its alive value taken, it is counted, the host is alive, and nothing else has changed (R173, R186). -/
def Heard (f : HostFrame) (s u : State) : Prop :=
  u = { s with regs := u.regs, hsp := { s.hsp with ignored := 0, restart := false, burst := 0, heardAt := s.tmk.mt } } ∧
  RegsBut [F.HSP_STATUS_mode3, F.HSP_STATUS_last_alive, F.HSP_STATUS_last_op, F.SYS_POST_STATUS_host_alive, wordAt Reg.HSP_CNT_GOOD] s u ∧
  u.fld F.HSP_STATUS_last_alive = f.alive ∧ u.fld F.HSP_STATUS_last_op = f.op ∧ u.fld F.SYS_POST_STATUS_host_alive = 1 ∧
  u.word Reg.HSP_CNT_GOOD = s.word Reg.HSP_CNT_GOOD + 1 ∧ u.is F.HSP_STATUS_mode3 = f.mode3

/-- `t` is `u` after the reply with these units, of which the first `valid` are valid: its status header and its CRC, and the flags that it
reports once (Table HSP-3, R171, R174). -/
def Replied (f : HostFrame) (u t : State) (units : List Nat) (valid : Nat) : Prop :=
  ∃ st : Word, (let crc := crc16 ([(st.toNat, 32)] ++ units.map (fun v => (v, f.bits)) ++ [(valid, 16)])
      t = { u with hsp := { u.hsp with bad := false, trunc := false, seq := false, fresh := false, reply := some ⟨st, f.bits, units, valid, crc, true⟩ } }) ∧
    getBits st 3 0 = f.alive ∧ getBits st 7 4 = u.hsp.wrAlive ∧ st.getLsbD 8 = u.hsp.bad ∧ st.getLsbD 9 = u.hsp.wrOk ∧ st.getLsbD 10 = u.hsp.wrErr ∧
    st.getLsbD 11 = u.hsp.trunc ∧ st.getLsbD 12 = u.hsp.seq ∧ st.getLsbD 13 = u.attn ∧ st.getLsbD 14 = u.inHold ∧ st.getLsbD 15 = u.hsp.fresh ∧
    getBits st 23 16 = u.hsp.truncUnits ∧ ∀ n, n < 8 → st.getLsbD (24 + n) = !(u.hsp.outs.getD n {}).buf.isEmpty

/-- The command carries this frame. -/
abbrev Carries (i : Instr) (f : HostFrame) : Prop :=
  (∃ ready, i = .regRead f ready ∧ f.op = 1) ∨ (i = .regWrite f ∧ f.op = 2) ∨ (i = .strRead f ∧ f.op = 3) ∨ (i = .strWrite f ∧ f.op = 4) ∨
    (i = .status f ∧ f.op = 5)

/-- A frame was ignored (R172, R173): flagged in the next reply, and counted among those ignored since the last one accepted. -/
def Ignored (fs : List Field) (burst : Nat) (seq : Bool) (f : HostFrame) (s t : State) : Prop :=
  t = { s with regs := t.regs, hsp := { s.hsp with bad := true, ignored := min 14 (s.hsp.ignored + 1), burst := burst, seq := seq } } ∧
  RegsBut (F.HSP_STATUS_mode3 :: F.HSP_STATUS_bad :: fs) s t ∧ t.fld F.HSP_STATUS_bad = 1 ∧ t.is F.HSP_STATUS_mode3 = f.mode3

/-! ## Frames of the Starling fabric -/

/-- Of the Starling block only port `p` has changed, and of the registers the listed fields. -/
def OnlyPort (fs : List Field) (p : Nat) (s t : State) (k : Port) : Prop :=
  t = { s with regs := t.regs, stf := { s.stf with ports := t.stf.ports } } ∧ RegsBut fs s t ∧ (∀ o, o ≠ p → t.sport o = s.sport o) ∧ t.sport p = k

/-- A port's wait queue of the frame's lane with one frame more (R223). -/
def Port.waits (k : Port) (w : Waiting) : Port :=
  if w.frame.laneS then { k with waitS := k.waitS ++ [w] } else { k with waitB := k.waitB ++ [w] }

/-- A frame that arrives on port `p` passes its checks: the port is UP, the frame is within its credit, its CRCs and its length are right, and it does
not carry this node's own ID (R221, R226, R227). -/
abbrev State.takesFrame (s : State) (p : Nat) (f : Frame) : Prop :=
  s.stf.ports.length = 4 ∧ s.portUp p = true ∧ s.stf.mgrReport = false ∧ f.hcrcOk = true ∧ f.fcrcOk = true ∧ frameLenOk f = true ∧
  f.units ≤ (if f.laneS then ((s.sport p).sentS + 256 - (s.sport p).rcvdS) % 256 else ((s.sport p).sentB + 256 - (s.sport p).rcvdB) % 256) ∧
  (f.dst = 0xFFFF ∨ f.src ≠ s.nodeId ∨ s.nodeId = 0)

/-- A frame is for this node: its source route is at its end, and it names this node (R229). -/
abbrev State.isHere (s : State) (f : Frame) : Prop := f.route.length ≤ f.rp ∧ f.dst = s.nodeId ∧ s.nodeId ≠ 0 ∧ s.nodeId ≠ 0xFFFF

/-- `u` is `s` after a frame was taken on port `p`: its units are received and, where it stays no longer in the buffer, freed again; the frame is counted;
a Worker has heard its Manager where the frame is from it (R222, R23). Nothing else has changed. -/
def Took (p : Nat) (f : Frame) (freed : Bool) (s u : State) : Prop :=
  let k := s.sport p
  let n := if freed then f.units else 0
  let heard := s.isWorker && s.is F.STF_STATUS_has_owner && decide (f.src = s.fld F.STF_MGR_owner)
  u = { s with regs := u.regs, stf := { s.stf with ports := u.stf.ports, mgrAt := u.stf.mgrAt, mgrSilent := s.stf.mgrSilent && !heard } } ∧
  u.stf.mgrAt = (if heard then s.tmk.mt else s.stf.mgrAt) ∧
  RegsBut [F.STF_CNT_FRAMES_rx] s u ∧ u.fld F.STF_CNT_FRAMES_rx = min (s.fld F.STF_CNT_FRAMES_rx + 1) 65535 ∧ (∀ o, o ≠ p → u.sport o = s.sport o) ∧
  (f.laneS = true → u.sport p = { k with rcvdS := (k.rcvdS + f.units) % 256, freedS := (u.sport p).freedS, sentS := (u.sport p).sentS } ∧
    (freed = false → (u.sport p).freedS = k.freedS ∧ (u.sport p).sentS = k.sentS) ∧
    (freed = true → (u.sport p).freedS = (k.freedS + n) % 256 ∧ (u.sport p).sentS = (k.freedS + n) % 256)) ∧
  (f.laneS = false → u.sport p = { k with rcvdB := (k.rcvdB + f.units) % 256, freedB := (u.sport p).freedB, sentB := (u.sport p).sentB } ∧
    (freed = false → (u.sport p).freedB = k.freedB ∧ (u.sport p).sentB = k.sentB) ∧
    (freed = true → (u.sport p).freedB = (k.freedB + n) % 256 ∧ (u.sport p).sentB = (k.freedB + n) % 256))

/-! ## Runs -/

/-- A state is reached from another by steps. -/
inductive Reaches (s : State) : State → Prop where
  | refl : Reaches s s
  | step {t u : State} : Reaches s t → step t = .next u → Reaches s u

/-- A run is safe when no step of it stops with a fault or a refusal. -/
def State.safe (s : State) : Prop := ∀ t, Reaches s t → ∃ u, step t = .next u

end Sys2Proof.Machine
end

