-- ==== Sys2Proof/Certificates/Slice0/Obligations.lean ====
section
/-! DEFINITION. The statements for the provers. -/

open Sys2Proof Sys2Proof.Machine

/-! ## Instructions of the cores (03_gcis_programming_model.md, 04_gcis_instruction_set.md) -/

/-- Table CPU-18: what each ALU instruction writes to rd, in integers, with everything else unchanged.
Table CPU-21: what each immediate instruction writes to rd, with everything else unchanged. -/
def Obligations.ArithmeticResults : Prop :=
  (∀ (s : State) (c rd ra rb rc n : Nat), s.able c → rd < 32 → n < 32 →
     let x := (s.core c).r ra
     let y := (s.core c).r rb
     let k := y.toNat % 32
     Gives (.add c rd ra rb) s c rd (BitVec.ofNat 32 (x.toNat + y.toNat)) ∧
     Gives (.sub c rd ra rb) s c rd (BitVec.ofInt 32 ((x.toNat : Int) - y.toNat)) ∧
     Gives (.and c rd ra rb) s c rd (x &&& y) ∧ Gives (.or c rd ra rb) s c rd (x ||| y) ∧ Gives (.xor c rd ra rb) s c rd (x ^^^ y) ∧
     Gives (.sll c rd ra rb) s c rd (BitVec.ofNat 32 (x.toNat * 2 ^ k)) ∧
     Gives (.srl c rd ra rb) s c rd (BitVec.ofNat 32 (x.toNat / 2 ^ k)) ∧
     Gives (.sra c rd ra rb) s c rd (BitVec.ofInt 32 (x.toInt / 2 ^ k)) ∧
     Gives (.rotl c rd ra rb) s c rd (BitVec.ofNat 32 (x.toNat * 2 ^ k + x.toNat / 2 ^ (32 - k))) ∧
     Gives (.slli c rd ra n) s c rd (BitVec.ofNat 32 (x.toNat * 2 ^ n)) ∧
     Gives (.srli c rd ra n) s c rd (BitVec.ofNat 32 (x.toNat / 2 ^ n)) ∧
     Gives (.srai c rd ra n) s c rd (BitVec.ofInt 32 (x.toInt / 2 ^ n)) ∧
     Gives (.slt c rd ra rb) s c rd (if x.toInt < y.toInt then 1 else 0) ∧
     Gives (.sltu c rd ra rb) s c rd (if x.toNat < y.toNat then 1 else 0) ∧
     Gives (.min c rd ra rb) s c rd (BitVec.ofInt 32 (min x.toInt y.toInt)) ∧
     Gives (.max c rd ra rb) s c rd (BitVec.ofInt 32 (max x.toInt y.toInt)) ∧
     Gives (.minu c rd ra rb) s c rd (BitVec.ofNat 32 (min x.toNat y.toNat)) ∧
     Gives (.maxu c rd ra rb) s c rd (BitVec.ofNat 32 (max x.toNat y.toNat)) ∧
     (∃ z, z ≤ 32 ∧ x.toNat < 2 ^ (32 - z) ∧ (z < 32 → 2 ^ (31 - z) ≤ x.toNat) ∧ Gives (.clz c rd ra) s c rd (w32 z)) ∧
     Gives (.sextb c rd ra) s c rd (BitVec.ofInt 32 (((x.toNat : Int) + 128) % 256 - 128)) ∧
     Gives (.sexth c rd ra) s c rd (BitVec.ofInt 32 (((x.toNat : Int) + 32768) % 65536 - 32768)) ∧
     Gives (.csel c rd ra rb rc) s c rd (if (s.core c).r rc = 0 then y else x)) ∧
  (∀ (s : State) (c rd ra : Nat) (imm : BitVec 16), s.able c → rd < 32 →
     let x := (s.core c).r ra
     let sx : Int := if imm.toNat < 32768 then imm.toNat else (imm.toNat : Int) - 65536
     Gives (.addi c rd ra imm) s c rd (BitVec.ofInt 32 (x.toInt + sx)) ∧
     Gives (.andi c rd ra imm) s c rd (x &&& w32 imm.toNat) ∧
     Gives (.ori c rd ra imm) s c rd (x ||| w32 imm.toNat) ∧
     Gives (.xori c rd ra imm) s c rd (x ^^^ w32 imm.toNat) ∧
     Gives (.slti c rd ra imm) s c rd (if x.toInt < sx then 1 else 0) ∧
     Gives (.sltiu c rd ra imm) s c rd (if x.toNat < (BitVec.ofInt 32 sx).toNat then 1 else 0) ∧
     Gives (.lui c rd imm) s c rd (w32 (65536 * imm.toNat)) ∧
     Gives (.auipc c rd imm) s c rd ((s.core c).pc + w32 (65536 * imm.toNat)))

/-- Tables CPU-19 and CPU-20, R73: products, quotients by a divisor that is not 0, and the saturating 32-bit instructions.
Table CPU-20, R72, R73, R80: the 64-bit instructions on even register pairs, and the reads of meter time and wall time into a pair. -/
def Obligations.WideAndSaturatingResults : Prop :=
  (∀ (s : State) (c rd ra rb n : Nat), s.able c → rd < 32 → n < 32 →
     let x := (s.core c).r ra
     let y := (s.core c).r rb
     let sat (w : Nat) (v : Int) : Int := if v < -(2 ^ (w - 1)) then -(2 ^ (w - 1)) else if 2 ^ (w - 1) - 1 < v then 2 ^ (w - 1) - 1 else v
     let rnd (v : Int) : Int := if n = 0 then v else (v + 2 ^ (n - 1)) / 2 ^ n
     Gives (.mul c rd ra rb) s c rd (BitVec.ofInt 32 (x.toInt * y.toInt)) ∧
     Gives (.mulh c rd ra rb) s c rd (BitVec.ofInt 32 (x.toInt * y.toInt / 2 ^ 32)) ∧
     Gives (.mulhu c rd ra rb) s c rd (BitVec.ofNat 32 (x.toNat * y.toNat / 2 ^ 32)) ∧
     (y ≠ 0 → Gives (.div c rd ra rb) s c rd (BitVec.ofInt 32 (x.toInt.tdiv y.toInt)) ∧
       Gives (.divu c rd ra rb) s c rd (BitVec.ofNat 32 (x.toNat / y.toNat)) ∧
       Gives (.rem c rd ra rb) s c rd (BitVec.ofInt 32 (x.toInt - y.toInt * x.toInt.tdiv y.toInt)) ∧
       Gives (.remu c rd ra rb) s c rd (BitVec.ofNat 32 (x.toNat % y.toNat))) ∧
     Gives (.adds c rd ra rb) s c rd (BitVec.ofInt 32 (sat 32 (x.toInt + y.toInt))) ∧
     Gives (.subs c rd ra rb) s c rd (BitVec.ofInt 32 (sat 32 (x.toInt - y.toInt))) ∧
     Gives (.addus c rd ra rb) s c rd (BitVec.ofNat 32 (min (x.toNat + y.toNat) (2 ^ 32 - 1))) ∧
     Gives (.subus c rd ra rb) s c rd (BitVec.ofNat 32 (x.toNat - y.toNat)) ∧
     Gives (.mulq c rd ra rb n) s c rd (BitVec.ofInt 32 (sat 32 (rnd (x.toInt * y.toInt)))) ∧
     Gives (.sats c rd ra n) s c rd (BitVec.ofInt 32 (sat (n + 1) x.toInt))) ∧
  (∀ (s : State) (c rd ra rb sh : Nat), s.able c → isPair rd = true → isPair ra = true → isPair rb = true → sh < 32 →
     let p := (s.core c).rp ra
     let q := (s.core c).rp rb
     let d := (s.core c).rp rd
     let x := (s.core c).r ra
     let y := (s.core c).r rb
     let sat (v : Int) : Int := if v < -(2 ^ 63) then -(2 ^ 63) else if 2 ^ 63 - 1 < v then 2 ^ 63 - 1 else v
     Gives64 (.add64 c rd ra rb) s c rd (p + q) ∧ Gives64 (.sub64 c rd ra rb) s c rd (p - q) ∧
     Gives64 (.adds64 c rd ra rb) s c rd (BitVec.ofInt 64 (sat (p.toInt + q.toInt))) ∧
     Gives64 (.subs64 c rd ra rb) s c rd (BitVec.ofInt 64 (sat (p.toInt - q.toInt))) ∧
     Gives (.cmp64 c rd ra rb) s c rd (if p.toInt < q.toInt then -1 else if p.toInt = q.toInt then 0 else 1) ∧
     Gives64 (.mac64 c rd ra rb) s c rd (BitVec.ofInt 64 (d.toInt + x.toInt * y.toInt)) ∧
     Gives64 (.macs64 c rd ra rb) s c rd (BitVec.ofInt 64 (sat (d.toInt + x.toInt * y.toInt))) ∧
     Gives64 (.macu64 c rd ra rb) s c rd (BitVec.ofNat 64 (min (d.toNat + x.toNat * y.toNat) (2 ^ 64 - 1))) ∧
     Gives64 (.muls64q c rd ra rb sh) s c rd
       (BitVec.ofInt 64 (sat (if sh = 0 then p.toInt * y.toInt else (p.toInt * y.toInt + 2 ^ (sh - 1)) / 2 ^ sh))) ∧
     (y ≠ 0 → ∃ v : Int, 2 * (v * y.toInt - p.toInt).natAbs ≤ y.toInt.natAbs ∧
       (2 * (v * y.toInt - p.toInt).natAbs = y.toInt.natAbs → p.toInt.natAbs < (v * y.toInt).natAbs) ∧
       Gives64 (.divr64 c rd ra rb) s c rd (BitVec.ofInt 64 (sat v))) ∧
     Gives64 (.rdmt c rd) s c rd (BitVec.ofNat 64 s.tmk.mt) ∧
     Gives64 (.rdwall c rd) s c rd (BitVec.append (w32 (s.nj.wallSub % 32768 + (if s.nj.wallValid then 32768 else 0))) (w32 s.nj.wallSec)) ∧
     Gives (.rdmtl c rd) s c rd (w32 s.tmk.mt) ∧ Gives (.rdera c rd) s c rd (w32 (s.fld F.TMK_ERA_era)))

/-- Table CPU-23, R69, R74: where the control transfers go, and the return stack of the SFC.
R55, R79, R81, Table CPU-3: core control registers read and written at Kernel level, where crn from 10 to 15 raises ILLEGAL, and the return
from an exception. -/
def Obligations.Control : Prop :=
  (∀ (s : State) (c rd ra rb : Nat) (off imm : BitVec 16) (far : BitVec 26), s.able c → rd < 32 →
     let k := s.core c
     let x := k.r ra
     let y := k.r rb
     let dest (b : Bool) : Word := if b then k.pc + BitVec.ofInt 32 (4 * off.toInt) else k.pc + 4
     let jump : Word := k.pc + BitVec.ofInt 32 (4 * far.toInt)
     GoesTo (.beq c ra rb off) s c (dest (x = y)) k.r ∧ GoesTo (.bne c ra rb off) s c (dest (x ≠ y)) k.r ∧
     GoesTo (.blt c ra rb off) s c (dest (x.toInt < y.toInt)) k.r ∧ GoesTo (.bge c ra rb off) s c (dest (y.toInt ≤ x.toInt)) k.r ∧
     GoesTo (.bltu c ra rb off) s c (dest (x.toNat < y.toNat)) k.r ∧ GoesTo (.bgeu c ra rb off) s c (dest (y.toNat ≤ x.toNat)) k.r ∧
     GoesTo (.j c far) s c jump k.r ∧
     (c ≠ 4 → GoesTo (.jal c far) s c jump (fun n => if n = 31 then k.pc + 4 else k.r n)) ∧
     (c ≠ 4 → (x + BitVec.ofInt 32 imm.toInt) &&& 3 = 0 →
       GoesTo (.jalr c rd ra imm) s c (x + BitVec.ofInt 32 imm.toInt) (fun n => if n = rd then k.pc + 4 else k.r n)) ∧
     (c ≠ 4 → k.r 31 &&& 3 = 0 → GoesTo (.ret c) s c (k.r 31) k.r) ∧
     (c = 4 → s.cpu.retStack.length < 8 → ∃ t, exec (.jal c far) s = .next t ∧ (t.core c).pc = jump ∧ (t.core c).r 31 = k.pc + 4 ∧
       t.cpu.retStack = (k.pc + 4) :: s.cpu.retStack ∧ t.mem = s.mem ∧ t.regs = s.regs) ∧
     (c = 4 → k.r 31 &&& 3 = 0 → ∀ rest, s.cpu.retStack = k.r 31 :: rest → ∃ t, exec (.ret c) s = .next t ∧ (t.core c).pc = k.r 31 ∧
       t.cpu.retStack = rest ∧ t.mem = s.mem ∧ t.regs = s.regs)) ∧
  (∀ (s : State) (c rd ra : Nat), s.able c → rd < 32 → (s.core c).task = false →
     let k := s.core c
     let v := k.r ra
     Gives (.mfcr c rd 0) s c rd (w32 ((if k.hnd then 2 else 0) + (if k.prevTask then 4 else 0) + (if k.urgEn then 8 else 0))) ∧
     Gives (.mfcr c rd 1) s c rd k.epc ∧ Gives (.mfcr c rd 2) s c rd k.cause ∧ Gives (.mfcr c rd 3) s c rd k.badaddr ∧
     Gives (.mfcr c rd 4) s c rd k.evec ∧ Gives (.mfcr c rd 5) s c rd k.urgent ∧ Gives (.mfcr c rd 6) s c rd k.pend ∧
     Gives (.mfcr c rd 8) s c rd (w32 c) ∧
     (∀ n, n ≤ 9 ∨ 16 ≤ n → n < 32 → ∃ t, exec (.mtcr c n ra) s = .next t ∧ OnlyCore c s t ∧
       (∀ m, (t.core c).r m = k.r m) ∧ (t.core c).pc = k.pc + 4 ∧ (t.core c).task = false ∧ (t.core c).hnd = k.hnd ∧
       (t.core c).cause = k.cause ∧ (t.core c).badaddr = k.badaddr ∧
       (t.core c).urgEn = (if n = 0 then v.getLsbD 3 else k.urgEn) ∧ (t.core c).prevTask = (if n = 0 then v.getLsbD 2 else k.prevTask) ∧
       (t.core c).epc = (if n = 1 then v else k.epc) ∧ (t.core c).evec = (if n = 4 then v &&& 0xFFFFFF00#32 else k.evec) ∧
       (t.core c).urgent = (if n = 5 then v else k.urgent) ∧ (t.core c).pend = (if n = 6 then k.pend &&& ~~~v else k.pend)) ∧
     (k.hnd = true → k.epc &&& 3 = 0 → ∃ t, exec (.eret c) s = .next t ∧ OnlyCore c s t ∧
       t.core c = { k with pc := k.epc, task := k.prevTask, hnd := false, sig := (t.core c).sig }) ∧
     (∀ n, 10 ≤ n → n ≤ 15 →
       exec (.mfcr c rd n) s = .next (s.raise c 0x01 none) ∧ exec (.mtcr c n ra) s = .next (s.raise c 0x01 none) ∧
       (c ≠ 4 → k.hnd = false → Enters (.mfcr c rd n) s c 0x01 k.pc k.badaddr ∧ Enters (.mtcr c n ra) s c 0x01 k.pc k.badaddr)))

/-- R53, R82, Table CPU-25: a pending line of the mask ends WAIT, WAITT and POLL with its number, lowest first; without one WAIT and WAITT stall,
POLL and a WAITT whose deadline has passed write 32.
R59: SIGNAL sets EVT_SIGNAL on each other core named, with its sender, and EVT_SW on its own core; the SFC hears a CC core only while
cc_to_sfc is 1; no register but the pc changes. -/
def Obligations.WaitsAndSignals : Prop :=
  (∀ (s : State) (c rd ra rb n : Nat), s.able c → rd < 32 → isPair rb = true →
     let k := s.core c
     let mask := k.r ra
     let until_ := (k.rp rb).toNat
     (n < 32 → (k.pend &&& mask).getLsbD n = true → (∀ m, m < n → (k.pend &&& mask).getLsbD m = false) →
       TakesLine (.wait c rd ra) s c rd n ∧ TakesLine (.waitt c rd ra rb) s c rd n ∧ TakesLine (.poll c rd ra) s c rd n) ∧
     (k.pend &&& mask = 0 →
       Gives (.poll c rd ra) s c rd 32 ∧ (mask ≠ 0 → Stalls (.wait c rd ra) s c (.wait mask rd)) ∧
       (until_ ≤ s.tmk.mt → Gives (.waitt c rd ra rb) s c rd 32) ∧
       (s.tmk.mt < until_ → s.is F.TMK_STATUS_xtal_mt_lost = true → Gives (.waitt c rd ra rb) s c rd 33) ∧
       (s.tmk.mt < until_ → s.is F.TMK_STATUS_xtal_mt_lost = false → Stalls (.waitt c rd ra rb) s c (.waitt mask rd until_)))) ∧
  (∀ (s : State) (c m : Nat), s.able c → c < 5 → s.cpu.cores.length = 5 → ∃ t, exec (.signal c m) s = .next t ∧ t.mem = s.mem ∧ t.regs = s.regs ∧
     (t.core c).pc = (s.core c).pc + 4 ∧ (t.core c).g = (s.core c).g ∧
     (t.core c).pend = (if m.testBit c then (s.core c).pend ||| (1#32 <<< 31) else (s.core c).pend) ∧
     ∀ d, d < 5 → d ≠ c →
       t.core d = (if m.testBit d = true ∧ (d = 4 → s.is F.CPU_CTRL_cc_to_sfc = true) then
         { s.core d with pend := (s.core d).pend ||| (1#32 <<< 28), lastSignaller := c } else s.core d))

/-- Table CPU-21, R48, R52: loads of the memories of this chip, little-endian, with their extension.
Table CPU-21, R48, R78: a store to SRAM writes its bytes, little-endian, at ra + sext(imm16), and leaves every other byte of memory, every
register block and every register but the pc. -/
def Obligations.LoadsAndStores : Prop :=
  (∀ (s : State) (c rd ra : Nat) (imm : BitVec 16), s.able c → rd < 32 →
     let a := ((s.core c).r ra + BitVec.ofInt 32 imm.toInt).toNat
     let b (i : Nat) : Nat := (Store.get s.view (a + i)).toNat
     isRegAddr a = false → a < 0x80000000 → (a < 0x7FF000 ∨ 0x800000 ≤ a) →
     (s.memLoadOk c a 1 = true → s.sound a 1 = true → Gives (.lbu c rd ra imm) s c rd (w32 (b 0)) ∧
       Gives (.lb c rd ra imm) s c rd (BitVec.ofInt 32 (if b 0 < 128 then (b 0 : Int) else (b 0 : Int) - 256))) ∧
     (a % 2 = 0 → s.memLoadOk c a 2 = true → s.sound a 2 = true → Gives (.lhu c rd ra imm) s c rd (w32 (b 0 + 256 * b 1)) ∧
       Gives (.lh c rd ra imm) s c rd
         (BitVec.ofInt 32 (if b 0 + 256 * b 1 < 32768 then ((b 0 + 256 * b 1 : Nat) : Int) else ((b 0 + 256 * b 1 : Nat) : Int) - 65536))) ∧
     (a % 4 = 0 → s.memLoadOk c a 4 = true → s.sound a 4 = true →
       Gives (.lw c rd ra imm) s c rd (w32 (b 0 + 256 * b 1 + 65536 * b 2 + 16777216 * b 3))) ∧
     (a % 8 = 0 → isPair rd = true → s.memLoadOk c a 8 = true → s.sound a 8 = true →
       Gives64 (.ld c rd ra imm) s c rd (BitVec.append (w32 (b 4 + 256 * b 5 + 65536 * b 6 + 16777216 * b 7))
         (w32 (b 0 + 256 * b 1 + 65536 * b 2 + 16777216 * b 3))))) ∧
  (∀ (s : State) (c rs ra size : Nat) (imm : BitVec 16) (i : Instr), s.able c →
     let a := ((s.core c).r ra + BitVec.ofInt 32 imm.toInt).toNat
     let v := if size = 8 then ((s.core c).rp rs).toNat else ((s.core c).r rs).toNat
     ((i = .sb c rs ra imm ∧ size = 1) ∨ (i = .sh c rs ra imm ∧ size = 2) ∨ (i = .sw c rs ra imm ∧ size = 4) ∨
       (i = .sd c rs ra imm ∧ size = 8 ∧ isPair rs = true)) →
     0x20000000 ≤ a → a < 0x40000000 → a % size = 0 → s.memStoreOk c a size = true → (size = 8 ∨ s.sound a size = true) →
     ∃ t, exec i s = .next t ∧ t = { s with mem := t.mem, cpu := t.cpu } ∧ (∀ d, d ≠ c → t.core d = s.core d) ∧
       t.core c = { s.core c with pc := (s.core c).pc + 4 } ∧
       (∀ x, x < a ∨ a + size ≤ x → Store.get t.mem x = Store.get s.mem x) ∧
       (∀ j, j < size → Store.get t.mem (a + j) = BitVec.ofNat 8 (v / 2 ^ (8 * j))) ∧ (Store.wf s.mem = true → Store.wf t.mem = true))

/-- R48, R49: on a CC core that is in no handler, a misaligned access raises ALIGN and an access to memory that is not permitted raises
LOAD_ACCESS or STORE_ACCESS, with the address in cr_badaddr, and nothing is read or written. A load that meets an error its check cannot correct
raises ECC with CPU_ECC_UNCORR (Table CPU-5, Table CPU-12); corrected errors are counted and the load completes.
Table CPU-5, R52, R55, R70, R72: on a CC core that is in no handler, division by 0 raises DIVZERO, a pair operand that is no pair raises
ILLEGAL, a privileged instruction at Task level raises PRIV, a zero mask of WAIT raises ILLEGAL, and TRAP raises TRAP. -/
def Obligations.Exceptions : Prop :=
  (∀ (s : State) (c rd ra : Nat) (imm : BitVec 16), s.ableCc c → (s.core c).hnd = false → isPair rd = true →
     let w := (s.core c).r ra + BitVec.ofInt 32 imm.toInt
     let a := w.toNat
     let pc := (s.core c).pc
     isRegAddr a = false → a < 0x80000000 →
     (a % 2 ≠ 0 → Enters (.lh c rd ra imm) s c 0x06 pc w ∧ Enters (.lhu c rd ra imm) s c 0x06 pc w ∧ Enters (.sh c rd ra imm) s c 0x06 pc w) ∧
     (a % 4 ≠ 0 → Enters (.lw c rd ra imm) s c 0x06 pc w ∧ Enters (.sw c rd ra imm) s c 0x06 pc w) ∧
     (a % 8 ≠ 0 → Enters (.ld c rd ra imm) s c 0x06 pc w ∧ Enters (.sd c rd ra imm) s c 0x06 pc w) ∧
     (s.memLoadOk c a 1 = false → Enters (.lb c rd ra imm) s c 0x04 pc w ∧ Enters (.lbu c rd ra imm) s c 0x04 pc w) ∧
     (a % 4 = 0 → s.memLoadOk c a 4 = false → Enters (.lw c rd ra imm) s c 0x04 pc w) ∧
     (s.memStoreOk c a 1 = false → Enters (.sb c rd ra imm) s c 0x05 pc w) ∧
     (a % 4 = 0 → s.memStoreOk c a 4 = false → Enters (.sw c rd ra imm) s c 0x05 pc w) ∧
     (a % 4 = 0 → s.memLoadOk c a 4 = true → eccWords s.cpu.eccBad a 4 ≠ [] →
       let u : State := (s.setFld F.CPU_FAULT_core c).fault 0x1002 (some Reg.CPU_FAULT)
       Answers (.lw c rd ra imm) s (fun t => t = { u with cpu := { u.cpu with cores := t.cpu.cores } } ∧ (∀ d, d ≠ c → t.core d = s.core d) ∧
         t.core c = { s.core c with epc := pc, cause := 8, badaddr := w, prevTask := (s.core c).task, task := false, hnd := true, stall := .none, pc := (s.core c).evec })) ∧
     (a % 4 = 0 → s.memLoadOk c a 4 = true → (a < 0x7FF000 ∨ 0x800000 ≤ a) → eccWords s.cpu.eccBad a 4 = [] → rd < 32 →
       Answers (.lw c rd ra imm) s (fun t => t = { s with regs := t.regs, cpu := t.cpu } ∧ RegsBut [F.CPU_STATUS_ecc_corr] s t ∧
         t.fld F.CPU_STATUS_ecc_corr = min 255 (s.fld F.CPU_STATUS_ecc_corr + (eccWords s.cpu.eccOne a 4).length) ∧ (t.core c).pc = pc + 4 ∧
         (t.core c).r rd = if rd = 0 then 0 else w32 (leNat (Store.bytes s.view a 4))))) ∧
  (∀ (s : State) (c rd ra rb crn sh : Nat) (k : BitVec 16), s.ableCc c → (s.core c).hnd = false →
     let pc := (s.core c).pc
     let bad := (s.core c).badaddr
     ((s.core c).r rb = 0 → Enters (.div c rd ra rb) s c 0x0C pc bad ∧ Enters (.divu c rd ra rb) s c 0x0C pc bad ∧
       Enters (.rem c rd ra rb) s c 0x0C pc bad ∧ Enters (.remu c rd ra rb) s c 0x0C pc bad ∧
       (isPair rd = true → isPair ra = true → Enters (.divr64 c rd ra rb) s c 0x0C pc bad)) ∧
     (isPair rd = false → Enters (.add64 c rd ra rb) s c 0x01 pc bad ∧ Enters (.sub64 c rd ra rb) s c 0x01 pc bad ∧
       Enters (.adds64 c rd ra rb) s c 0x01 pc bad ∧ Enters (.subs64 c rd ra rb) s c 0x01 pc bad ∧ Enters (.mac64 c rd ra rb) s c 0x01 pc bad ∧
       Enters (.macs64 c rd ra rb) s c 0x01 pc bad ∧ Enters (.macu64 c rd ra rb) s c 0x01 pc bad ∧
       Enters (.muls64q c rd ra rb sh) s c 0x01 pc bad ∧ Enters (.divr64 c rd ra rb) s c 0x01 pc bad ∧ Enters (.rdmt c rd) s c 0x01 pc bad ∧
       Enters (.rdwall c rd) s c 0x01 pc bad ∧ Enters (.ld c rd ra k) s c 0x01 pc bad ∧ Enters (.sd c rd ra k) s c 0x01 pc bad) ∧
     (isPair ra = false → Enters (.cmp64 c rd ra rb) s c 0x01 pc bad) ∧ (isPair rb = false → Enters (.waitt c rd ra rb) s c 0x01 pc bad) ∧
     ((s.core c).task = true → Enters (.mfcr c rd crn) s c 0x02 pc bad ∧ Enters (.mtcr c crn ra) s c 0x02 pc bad ∧ Enters (.eret c) s c 0x02 pc bad ∧
       Enters (.ksubmit c rd ra) s c 0x02 pc bad ∧ Enters (.kpoll c rd ra) s c 0x02 pc bad ∧ Enters (.krand c rd) s c 0x02 pc bad) ∧
     ((s.core c).r ra = 0 → Enters (.wait c rd ra) s c 0x01 pc bad) ∧ Enters (.trap c k) s c 0x0A (pc + 4) bad ∧ Enters (.tmon c) s c 0x01 pc bad)

/-- Table CPU-22, R58: an atomic writes the old word to rd and the new word to memory in one step, and leaves every other byte.
R51, R62, R63, R65, R141: FENCE with no store outstanding, SIGCHK, TMON in its window, STEST, and KRAND with a healthy source complete. -/
def Obligations.AtomicsAndSafetyInstructions : Prop :=
  (∀ (s : State) (c rd ra rb rc : Nat) (i : Instr) (new : Word), s.able c → rd < 32 →
     let k := s.core c
     let a := (k.r ra).toNat
     let old := w32 (leNat (Store.bytes s.view a 4))
     ((i = .swap c rd ra rb ∧ new = k.r rb) ∨ (i = .fadd c rd ra rb ∧ new = old + k.r rb) ∨
       (i = .cas c rd ra rb rc ∧ new = if old = k.r rb then k.r rc else old)) →
     s.qe.posted = [] → s.atomicOk c a = true → a % 4 = 0 → s.memLoadOk c a 4 = true → s.memStoreOk c a 4 = true → s.sound a 4 = true →
     ∃ t, exec i s = .next t ∧ t = { s with mem := t.mem, cpu := t.cpu } ∧ (∀ d, d ≠ c → t.core d = s.core d) ∧
       (t.core c).pc = k.pc + 4 ∧ (∀ n, n < 32 → (t.core c).r n = if n = 0 then 0 else if n = rd then old else k.r n) ∧
       w32 (leNat (Store.bytes t.mem a 4)) = new ∧ ∀ x, x < a ∨ a + 4 ≤ x → Store.get t.mem x = Store.get s.mem x) ∧
  (∀ (s : State) (c rd n : Nat) (k16 : BitVec 16), s.able c → rd < 32 → n < 16 →
     let k := s.core c
     (s.storesOut c = false → ∃ t, exec (.fence c) s = .next t ∧ t.core c = { k with pc := k.pc + 4 } ∧ t.mem = s.mem ∧ t.regs = s.regs) ∧
     (c ≠ 4 → ∃ t, exec (.sigchk c k16) s = .next t ∧ t.core c = { k with pc := k.pc + 4 } ∧ t.mem = s.mem ∧ t.regs = s.regs) ∧
     (c = 4 → k.sig.truncate 16 = k16 → ∃ t, exec (.sigchk c k16) s = .next t ∧ (t.core c).sig = k16.zeroExtend 32 ∧
       (t.core c).pc = k.pc + 4 ∧ t.cpu.sigCount = 0 ∧ t.regs = s.regs ∧ t.mem = s.mem) ∧
     (c = 4 → 250 * s.fld F.CPU_SFC_TMON_open ≤ s.tmk.mt - s.cpu.tmonFrom → s.tmk.mt - s.cpu.tmonFrom ≤ 250 * s.fld F.CPU_SFC_TMON_close →
       ∃ t, exec (.tmon c) s = .next t ∧ t.cpu.tmonFrom = s.tmk.mt ∧ (t.core c).pc = k.pc + 4 ∧ t.regs = s.regs ∧ t.mem = s.mem) ∧
     (c = 4 → ∃ t, exec (.stest c n true) s = .next t ∧ (t.core c).pc = k.pc + 4 ∧ t.mem = s.mem ∧
       ∀ m, m < 16 → t.fldBit F.CPU_SFC_STATUS_seg_done m = (decide (m = n) || s.fldBit F.CPU_SFC_STATUS_seg_done m)) ∧
     (c ≠ 4 → k.task = false → s.is F.KV_RNG_health_ok = true →
       ∃ t, exec (.krand c rd) s = .next t ∧ (t.core c).pc = k.pc + 4 ∧ t.mem = s.mem ∧ t.regs = s.regs ∧ t.free = s.free + 1 ∧
         (rd ≠ 0 → (t.core c).r rd = w32 (Config.freeValue s.free))))

/-- R53, R61, R82, R141, R76: the events that end a stall complete the stalled instruction.
R54, R55, R61, R76: an urgent entry, a refused remote access and one without a reply in 100 µs take their exceptions, and the stalled
instruction is abandoned. -/
def Obligations.StallsAndEntries : Prop :=
  (∀ (s : State) (c rd n d t0 size data : Nat) (m a : Word), s.stalledAble c → rd < 32 →
     let k := s.core c
     (n < 32 → (k.pend &&& m).getLsbD n = true → (∀ j, j < n → (k.pend &&& m).getLsbD j = false) →
       (k.stall = .wait m rd → TakesLine (.waitWake c) s c rd n) ∧
       (k.stall = .waitt m rd d → TakesLine (.waitWake c) s c rd n ∧ TakesLine (.waittDeadline c) s c rd n)) ∧
     (k.stall = .waitt m rd d → k.pend &&& m = 0 →
       (d ≤ s.tmk.mt → Resumes (.waittDeadline c) s c (fun j => if j = rd then 32 else k.r j)) ∧
       (s.tmk.mt < d → s.is F.TMK_STATUS_xtal_mt_lost = true → Resumes (.waittDeadline c) s c (fun j => if j = rd then 33 else k.r j))) ∧
     (k.stall = .krand rd → s.is F.KV_RNG_health_ok = true →
       Answers (.krandResume c) s (fun t => t.free = s.free + 1 ∧ t.mem = s.mem ∧ t.regs = s.regs ∧ t.kv = s.kv ∧
         t.core c = { k with pc := k.pc + 4, g := (t.core c).g, stall := .none } ∧
         ∀ j, j < 32 → (t.core c).r j = if j = 0 then 0 else if j = rd then w32 (Config.freeValue s.free) else k.r j)) ∧
     (k.stall = .remoteLoad rd a size false t0 → size = 1 ∨ size = 2 ∨ size = 4 →
       Resumes (.rwinAns c false data) s c (fun j => if j = rd then w32 (data % 2 ^ (8 * size)) else k.r j)) ∧
     (k.stall = .remoteLoad rd a 2 true t0 →
       Resumes (.rwinAns c false data) s c (fun j => if j = rd then BitVec.ofInt 32 (((data : Int) + 32768) % 65536 - 32768) else k.r j)) ∧
     (k.stall = .remoteStore a t0 → Resumes (.rwinAns c false data) s c k.r)) ∧
  (∀ (s : State) (c rd n size t0 data : Nat) (sg : Bool) (a : Word), c < s.cpu.cores.length →
     let k := s.core c
     (k.running = true → k.urgEn = true → k.hnd = false → n < 32 → (k.pend &&& k.urgent).getLsbD n = true →
       (∀ j, j < n → (k.pend &&& k.urgent).getLsbD j = false) →
       Answers (.urgentEntry c) s (fun t => t = { s with cpu := { s.cpu with cores := t.cpu.cores } } ∧ (∀ d, d ≠ c → t.core d = s.core d) ∧
         t.core c = { k with pend := k.pend &&& ~~~(1#32 <<< n), epc := k.pc, cause := w32 (16 + 256 * n), prevTask := k.task, task := false, hnd := true, stall := .none, pc := k.evec + 64, sig := if c = 4 then k.sig.rotateLeft 5 ^^^ ((k.evec + 64) >>> 2) else k.sig })) ∧
     (c ≠ 4 → k.hnd = false → (k.stall = .remoteLoad rd a size sg t0 ∨ k.stall = .remoteStore a t0) →
       Enters (.rwinAns c true data) s c 0x0B k.pc a ∧ (t0 + 2500 ≤ s.tmk.mt → Enters (.remoteTimeout c) s c 0x0B k.pc a)))

/-- R62 to R66: the monitors of the safety core. On a violation the SFC halts with its cause and fault, source 44 asserts and EVT_CPU_FAULT
goes to the CC cores; otherwise the next period begins.
R67: a watchdog is kicked with 0xA5 and the writer's own number, any other write is counted, and a time-out halts the core.
R87, Table CPU-12: CPU_START starts halted cores of CC1 to CC3 at CPU_ENTRY at Kernel level, with registers 0 the first time, and halts
running ones, whose pending events stay. -/
def Obligations.SafetyCoreMonitors : Prop :=
  (∀ (s : State), (s.core 4).running = true → s.cpu.cores.length = 5 →
     let halts (i : Instr) (cause code : Nat) : Prop :=
       Answers i s (fun t => ∃ u, t = ((u.fault code (some Reg.CPU_FAULT)).sourceAssert 44).deliver 30 [0, 1, 2, 3] ∧
         u = { s with regs := u.regs, cpu := { s.cpu with cores := u.cpu.cores } } ∧ (∀ d, d ≠ 4 → u.core d = s.core d) ∧
         u.core 4 = { s.core 4 with running := false, stall := .none } ∧
         RegsBut [F.CPU_SFC_STATUS_faulted, F.CPU_SFC_STATUS_cause, F.CPU_STATUS_sfc_running, F.CPU_FAULT_core] s u ∧
         u.fld F.CPU_SFC_STATUS_faulted = 1 ∧ u.fld F.CPU_SFC_STATUS_cause = cause ∧ u.fld F.CPU_STATUS_sfc_running = 0 ∧ u.fld F.CPU_FAULT_core = 4)
     (s.fld F.CPU_SFC_STATUS_faulted = 0 →
       (250 * s.fld F.CPU_SFC_TMON_close ≤ s.tmk.mt - s.cpu.tmonFrom → halts .sfcTmonTimeout 3 0x1006) ∧
       (s.cpu.tbSeen = some s.tmk.mt → halts .sfcTimebaseCheck 4 0x1007) ∧
       (25000 * s.fld F.CPU_SFC_CTRL_stest_period ≤ s.tmk.mt - s.cpu.stestFrom → s.fld F.CPU_SFC_STATUS_seg_done ≠ 0xFFFF →
         halts .sfcStestPeriodEnd 5 0x1008)) ∧
     (s.cpu.tbSeen ≠ some s.tmk.mt → Answers .sfcTimebaseCheck s (fun t => t = { s with cpu := { s.cpu with tbSeen := some s.tmk.mt } })) ∧
     (25000 * s.fld F.CPU_SFC_CTRL_stest_period ≤ s.tmk.mt - s.cpu.stestFrom → s.fld F.CPU_SFC_STATUS_seg_done = 0xFFFF →
       Answers .sfcStestPeriodEnd s (fun t => t = { s with regs := t.regs, cpu := { s.cpu with stestFrom := s.tmk.mt } } ∧
         RegsBut [F.CPU_SFC_STATUS_seg_done] s t ∧ t.fld F.CPU_SFC_STATUS_seg_done = 0))) ∧
  (∀ (s : State) (c : Nat) (v : Word), c < 4 → s.cpu.cores.length = 5 → s.cpu.wdFrom.length = 4 →
     (s.mayWrite (.core c) Reg.CPU_WDOG_KICK = true →
       ((v >>> 8).toNat % 256 = 0xA5 → v.toNat % 4 = c → Answers (.cpuWdogKick (.core c) v) s (fun t =>
         t = { s with cpu := { s.cpu with wdFrom := t.cpu.wdFrom } } ∧ ∀ d, t.cpu.wdFrom.getD d 0 = if d = c then s.tmk.mt else s.cpu.wdFrom.getD d 0)) ∧
       ((v >>> 8).toNat % 256 ≠ 0xA5 ∨ v.toNat % 4 ≠ c → Answers (.cpuWdogKick (.core c) v) s (fun t =>
         Sets [F.CPU_STATUS_bad_kick] s t ∧ t.fld F.CPU_STATUS_bad_kick = min (s.fld F.CPU_STATUS_bad_kick + 1) 255))) ∧
     ((s.core c).running = true → s.fldBit F.CPU_WDOG_CFG_en c = true → 2500 * s.fld F.CPU_WDOG_CFG_timeout ≤ s.tmk.mt - s.cpu.wdFrom.getD c 0 →
       Answers (.cpuWdogExpire c) s (fun t => ∃ u, t = (u.fault 0x1003 (some Reg.CPU_FAULT)).deliver 30 ([0, 1, 2, 3, 4].filter (fun d => d ≠ c)) ∧
         u = { s with regs := u.regs, cpu := { s.cpu with cores := u.cpu.cores } } ∧ (∀ d, d ≠ c → u.core d = s.core d) ∧
         u.core c = { s.core c with running := false, stall := .none } ∧
         RegsBut [⟨F.CPU_STATUS_cc_running.addr, F.CPU_STATUS_cc_running.lo + c, F.CPU_STATUS_cc_running.lo + c⟩, F.CPU_FAULT_core] s u ∧
         u.fldBit F.CPU_STATUS_cc_running c = false ∧ u.fld F.CPU_FAULT_core = c))) ∧
  (∀ (s : State) (who : Init) (c : Nat), s.mayWrite who Reg.CPU_START = true → 1 ≤ c → c < 4 → s.cpu.cores.length = 5 →
     ((s.core c).running = false → Answers (.cpuStart who (w32 (2 ^ c))) s (fun t => t = { s with regs := t.regs, cpu := t.cpu } ∧
       (∀ d, d ≠ c → t.core d = s.core d) ∧
       t.core c = { s.core c with running := true, started := true, task := false, hnd := false, stall := .none, pc := w32 (s.fld F.CPU_ENTRY_entry) &&& 0xFFFFFFFC#32, g := if (s.core c).started then (s.core c).g else List.replicate 32 0 } ∧
       RegsBut [⟨F.CPU_STATUS_cc_running.addr, F.CPU_STATUS_cc_running.lo + c, F.CPU_STATUS_cc_running.lo + c⟩] s t ∧
       t.fldBit F.CPU_STATUS_cc_running c = true)) ∧
     ((s.core c).running = true → Answers (.cpuHalt who (w32 (16 * 2 ^ c))) s (fun t => t = { s with regs := t.regs, cpu := t.cpu } ∧
       (∀ d, d ≠ c → t.core d = s.core d) ∧ t.core c = { s.core c with running := false, stall := .none } ∧
       RegsBut [⟨F.CPU_STATUS_cc_running.addr, F.CPU_STATUS_cc_running.lo + c, F.CPU_STATUS_cc_running.lo + c⟩] s t ∧
       t.fldBit F.CPU_STATUS_cc_running c = false)))

/-- R60: a mailbox holds eight words; a write by another core appends one with EVT_MBOX to its owner, a write to a full one is dropped and sets its
ovf bit, the owner's read takes the oldest or reads 0 from an empty one, any other read reads 0, and a CC core's write to the SFC's mailbox with
cc_to_sfc = 0 is dropped. -/
def Obligations.Mailboxes : Prop :=
  ∀ (s : State) (c n : Nat) (v : Word), c < 5 → n < 5 → s.cpu.cores.length = 5 → s.cpu.mbox.length = 5 → c ≠ n →
    let shown (t : State) : Prop := t.fldBit F.CPU_MBOX_STATUS_empty n = decide (t.cpu.mbox.getD n [] = []) ∧
      t.fldBit F.CPU_MBOX_STATUS_full n = decide ((t.cpu.mbox.getD n []).length = 8)
    (s.mayWrite (.core c) (Reg.CPU_MBOX0 + 4 * n) = true → (n = 4 → s.is F.CPU_CTRL_cc_to_sfc = true) →
      ((s.cpu.mbox.getD n []).length < 8 → Answers (.cpuMboxWrite (.core c) n v) s (fun t => t = { s with regs := t.regs, cpu := t.cpu } ∧
        RegsBut [F.CPU_MBOX_STATUS_empty, F.CPU_MBOX_STATUS_full, F.CPU_MBOX_STATUS_count] s t ∧ shown t ∧
        (∀ d, t.cpu.mbox.getD d [] = if d = n then s.cpu.mbox.getD n [] ++ [v] else s.cpu.mbox.getD d []) ∧
        ∀ d, t.core d = if d = n then { s.core d with pend := (s.core d).pend ||| (1#32 <<< 29) } else s.core d)) ∧
      (8 ≤ (s.cpu.mbox.getD n []).length → Answers (.cpuMboxWrite (.core c) n v) s (fun t =>
        Sets [⟨F.CPU_MBOX_STATUS_ovf.addr, F.CPU_MBOX_STATUS_ovf.lo + n, F.CPU_MBOX_STATUS_ovf.lo + n⟩] s t ∧
        t.fldBit F.CPU_MBOX_STATUS_ovf n = true))) ∧
    (∀ w ws, s.cpu.mbox.getD n [] = w :: ws → Answers (.cpuMboxRead (.core n) n) s (fun t => t.readOut = w ∧ t.mem = s.mem ∧ shown t ∧
      t.cpu = { s.cpu with mbox := t.cpu.mbox } ∧ ∀ d, t.cpu.mbox.getD d [] = if d = n then ws else s.cpu.mbox.getD d [])) ∧
    (s.cpu.mbox.getD n [] = [] → shown s → Answers (.cpuMboxRead (.core n) n) s (fun t => t = { s with readOut := 0 } ∧
      t.fldBit F.CPU_MBOX_STATUS_empty n = true)) ∧
    Answers (.cpuMboxRead (.core c) n) s (fun t => t = { s with readOut := 0 }) ∧ Answers (.cpuMboxWrite (.core n) n v) s (fun t => t = s) ∧
    (c < 4 → s.is F.CPU_CTRL_cc_to_sfc = false → Answers (.cpuMboxWrite (.core c) 4 v) s (fun t => t = s))

/-- R83, R193 to R196: QPUSH of a local queue reserves the next entry, writes the bytes at rb into it and publishes it; a full queue, a queue that
does not exist or is disabled, and a paused one answer their status codes, and QSTAT reads entries held, entry size and enable. -/
def Obligations.QueueInstructions : Prop :=
  ∀ (s : State) (c rd ra rb : Nat), s.ableCc c → rd < 32 → rd ≠ 0 →
    let k := s.core c
    let a := (k.r rb).toNat
    let q := (k.r ra).toNat
    let u := (s.qReady q).2
    let d := u.qDesc q
    let answers (i : Instr) (code : Nat) (v : State) : Prop := Answers i s (fun t => t.mem = v.mem ∧ (t.core c).pc = k.pc + 4 ∧
      (t.core c).r rd = w32 code ∧ ∀ n, n ≠ rd → (t.core c).r n = k.r n)
    q < 65536 → a % 16 = 0 →
    (s.entryOk c a 16 0 = true →
      ((s.qReady q).1 = .noQueue → answers (.qpush c rd ra rb) 3 u) ∧
      ((s.qReady q).1 = .paused → answers (.qpush c rd ra rb) 6 u) ∧
      ((s.qReady q).1 = .done → d.span = 1 → d.prodDirect = false → u.taskDenied (.core c) q = false → u.resvOf q = none →
        (d.free = 0 → answers (.qpush c rd ra rb) 1 u) ∧
        (1 ≤ d.free → u.entryOk c a d.esize 0 = true → s.sound a d.esize = true → Answers (.qpush c rd ra rb) s (fun t =>
          t.qDesc q = { d with resv := d.resv + 1, prod := d.resv + 1 } ∧ (t.core c).pc = k.pc + 4 ∧ (t.core c).r rd = 0 ∧
          (∀ n, n ≠ rd → (t.core c).r n = k.r n) ∧
          (∀ j, j < d.esize → Store.get t.mem (d.addr d.resv j) = Store.get u.view (a + j)) ∧
          ∀ x, (∀ j, j < d.esize → x ≠ d.addr d.resv j) → Store.get t.mem x = Store.get u.mem x)))) ∧
    (s.entryOk c a 16 1 = true →
      ((s.qReady q).1 = .noQueue → answers (.qpop c rd ra rb) 3 u) ∧
      ((s.qReady q).1 = .done → u.qEngine q = false → u.taskDenied (.core c) q = false →
        (d.held = 0 → answers (.qpop c rd ra rb) 2 u) ∧
        (1 ≤ d.held → u.entryOk c a d.esize 1 = true → u.inTable a d.esize = false → s.sound (d.addr d.cons 0) d.esize = true →
          Answers (.qpop c rd ra rb) s (fun t =>
          t.qDesc q = { d with cons := d.cons + 1 } ∧ (t.core c).pc = k.pc + 4 ∧ (t.core c).r rd = 0 ∧ (∀ n, n ≠ rd → (t.core c).r n = k.r n) ∧
          (∀ j, j < d.esize → Store.get t.mem (a + j) = Store.get u.view (d.addr d.cons j)) ∧
          ∀ x, x < a ∨ a + d.esize ≤ x → Store.get t.mem x = Store.get u.mem x)))) ∧
    (s.qExists q = true → s.is F.QE_STATUS_table_busy = false →
      let e := (s.qTouch q).qDesc q
      answers (.qstat c rd ra) (e.held % 65536 + 65536 * (e.ctrl / 2 % 4) + 262144 * (e.ctrl % 2)) (s.qTouch q)) ∧
    (s.qExists q = false → answers (.qstat c rd ra) 0 s)

/-- R84, R138: KSUBMIT gives the vault the 64-byte block at ra and returns its ticket, or 0 with the reason of the refusal; KPOLL returns the state
of a ticket and releases one that is done or failed. -/
def Obligations.VaultInstructions : Prop :=
  ∀ (s : State) (c rd ra : Nat), s.ableCc c → c < 4 → rd < 32 → rd ≠ 0 → (s.core c).task = false →
    let k := s.core c
    let a := (k.r ra).toNat
    let n := a % 256
    (a % 64 = 0 → inSram a 64 = true → s.sound a 64 = true → s.is F.KV_STATUS_lc_busy = false → s.is F.DSK_STATUS_warn = false →
      (s.kv.tickets.filter (fun x => x.owner = c)).length < 16 → blockOk (Store.bytes s.view a 64) = true → s.kv.tickets.length < 255 →
      Answers (.ksubmit c rd ra) s (fun t => t.mem = s.mem ∧ t.regs = s.regs ∧ (t.core c).pc = k.pc + 4 ∧ ∃ id, 1 ≤ id ∧ id ≤ 255 ∧
        (∀ x, x ∈ s.kv.tickets → x.id ≠ id) ∧ (t.core c).r rd = w32 id ∧
        t.kv = { s.kv with tickets := s.kv.tickets ++ [{ id := id, owner := c, block := Store.bytes s.view a 64, addr := a, job := none }] })) ∧
    (a % 64 = 0 → inSram a 64 = true → s.sound a 64 = true → 16 ≤ (s.kv.tickets.filter (fun x => x.owner = c)).length → s.is F.KV_STATUS_lc_busy = false →
      s.is F.DSK_STATUS_warn = false →
      Answers (.ksubmit c rd ra) s (fun t => t = { s with regs := t.regs, cpu := t.cpu } ∧ (t.core c).r rd = 0 ∧
        RegsBut [F.KV_REFUSE_reason, F.KV_REFUSE_core, F.KV_STATUS_refused] s t ∧ t.fld F.KV_REFUSE_reason = 1 ∧ t.fld F.KV_REFUSE_core = c ∧
        t.fld F.KV_STATUS_refused = 1)) ∧
    ((∀ x, x ∈ s.kv.tickets → x.id = n → 4 ≤ x.owner) →
      Answers (.kpoll c rd ra) s (fun t => t = { s with cpu := t.cpu } ∧ (t.core c).r rd = 0 ∧ (t.core c).pc = k.pc + 4)) ∧
    (∀ x, s.kv.tickets.find? (fun y => y.id = n && y.owner < 4) = some x →
      Answers (.kpoll c rd ra) s (fun t => t.mem = s.mem ∧ t.regs = s.regs ∧ (t.core c).pc = k.pc + 4 ∧
        (t.core c).r rd = w32 (if x.phase = 4 then 4 + 65536 * x.code else x.phase) ∧
        t.kv = (if 3 ≤ x.phase then { s.kv with tickets := s.kv.tickets.filter (fun y => y.id ≠ n) } else s.kv)))

/-- R138, R149, Table KV-4: each operation of the vault starts the oldest queued command when it is of that operation, none runs and no transition
waits; it is checked now, its ticket shows that it runs, and no slot and no byte of memory changes before it completes.
R131 to R134, R136, R139, Table KV-4: what the started command does at its end where its checks hold, and the code it fails with where one
does not.
R136, R138, R140, R149: a completing command writes its output and its length, or changes its slots, sets its ticket's state and raises EVT_KV;
a failed one writes nothing. -/
def Obligations.VaultCommands : Prop :=
  (∀ (s : State) (t : KvTicket) (op : Nat) (i : Instr),
     (op, i) ∈ [(1, .kvGenerate), (2, .kvImportPlain), (3, .kvImportWrapped), (4, .kvDeriveHkdf), (5, .kvAgree), (6, .kvTls12Prf), (7, .kvTls13Keys),
       (8, .kvSign), (9, .kvVerify), (10, .kvEncrypt), (11, .kvDecrypt), (12, .kvMac), (13, .kvHash), (14, .kvExportPub), (15, .kvExportWrapped),
       (16, .kvExportPlain), (17, .kvInvalidate), (18, .kvTighten), (19, .kvAttest), (20, .kvReadCert)] →
     s.kvHead = some t → (s.kvCmd t).op = op → s.kv.running = none → s.kv.lcNext = none →
     s.is F.KV_STATUS_ready = true ∨ s.is F.KV_STATUS_selftest_fail = true →
     Answers i s (fun u => ∃ e,
       u = { s with regs := u.regs, free := u.free,
                    kv := { s.kv with running := some (t.id, e), tickets := s.kv.tickets.map (fun x => if x.id = t.id then { x with phase := 2 } else x) } } ∧
       RegsBut [F.KV_STATUS_busy] s u ∧ u.fld F.KV_STATUS_busy = 1 ∧
       (s.is F.KV_STATUS_selftest_fail = true → e = .failed 0x0D11))) ∧
  (∀ (s : State) (t : KvTicket), s.kvHead = some t → s.kv.running = none → s.kv.lcNext = none → s.is F.KV_STATUS_ready = true →
     s.is F.KV_STATUS_selftest_fail = false →
     let c := s.kvCmd t
     let k := s.key c.sa
     let starts (i : Instr) (e : KvEffect) : Prop := Answers i s (fun u => u.kv.running = some (t.id, e) ∧ u.kv.slots = s.kv.slots ∧ u.mem = s.mem)
     (s.isWorker = true → c.op = 10 → s.lc ≠ 4 → kvBuffers c = [] → k.state = 1 → k.alg = 1 → k.usage.testBit 2 = true → c.fl.testBit 0 = false → c.auxL ≠ 0 → c.inL + 16 ≤ c.outC →
       starts .kvEncrypt (.failed 0x0D0C)) ∧
     (s.isWorker = false → s.lc ≠ 4 → kvBuffers c = [] →
       (c.op = 13 → c.fl.testBit 0 = false → 32 ≤ c.outC → starts .kvHash (.done (fitBytes 32 (Config.sha256 c.inp)) none false)) ∧
       (c.op = 13 → c.fl.testBit 0 = true → 48 ≤ c.outC → starts .kvHash (.done (fitBytes 48 (Config.sha384 c.inp)) none false)) ∧
       (c.op = 13 → c.fl.testBit 0 = false → c.outC < 32 → starts .kvHash (.failed 0x0D07)) ∧
       (c.op = 17 → 8 ≤ c.sa → k.state = 1 → starts .kvInvalidate (.invalidated c.sa)) ∧
       (c.op = 17 → c.sa < 8 → starts .kvInvalidate (.failed 0x0D04)) ∧
       (c.op = 17 → 8 ≤ c.sa → k.state = 0 → starts .kvInvalidate (.failed 0x0D01)) ∧
       (c.op = 18 → k.state = 1 → c.pol ≠ 3 → starts .kvTighten (.tightened c.sa c.use c.pol)) ∧
       (c.op = 14 → k.state = 1 → pubLen k.alg ≠ 0 → pubLen k.alg ≤ c.outC → starts .kvExportPub (.done k.pub none false)) ∧
       (c.op = 16 → k.state = 1 → k.policy ≠ 2 → k.mat.length ≤ c.outC → isPubOnly k.alg = false → (k.cls = 2 → s.lc ≠ 3) →
         starts .kvExportPlain (.failed 0x0D04)) ∧
       (c.op = 20 → c.sa = 0 → k.state = 1 → s.kv.cert.length ≤ c.outC → starts .kvReadCert (.done s.kv.cert none false)))) ∧
  (∀ (s : State) (t : KvTicket) (good : Bool) (e : KvEffect), s.kv.running = some (t.id, e) →
     s.kv.tickets.find? (fun x => x.id = t.id) = some t → t.job = none → s.kv.lcNext = none →
     let ends (u : State) (phase code : Nat) : Prop :=
       u.kv.running = none ∧ u.fld F.KV_STATUS_busy = 0 ∧ u.kv.tickets = s.kv.tickets.map (fun x => if x.id = t.id then { x with phase := phase, code := code } else x)
     (∀ code, code ≠ 0 → e = .failed code → Answers (.kvCmdDone good) s (fun u => ends u 4 code ∧ u.mem = s.mem ∧ u.kv.slots = s.kv.slots)) ∧
     (∀ out, e = .done out none false → Answers (.kvCmdDone good) s (fun u => ends u 3 0 ∧ u.kv.slots = s.kv.slots ∧
       u.mem = Store.setBytes (Store.setBytes s.mem (blockAt t.block 16 4) out) (t.addr + 60) (leBytes 4 out.length))) ∧
     (∀ n k, n < 256 → s.kv.slots.length = 256 → e = .done [] (some (n, k)) false → 
       (good = true ∨ 192 ≤ n → Answers (.kvCmdDone good) s (fun u => ends u 3 0 ∧ u.key n = k ∧ ∀ m, m ≠ n → u.key m = s.key m)) ∧
       (good = false → n < 192 → Answers (.kvCmdDone good) s (fun u => ends u 4 0x0D0E ∧ u.key n = { k with state := 2 } ∧ (∀ m, m ≠ n → u.key m = s.key m) ∧ u.mem = s.mem))) ∧
     (∀ n, n < 256 → s.kv.slots.length = 256 → e = .invalidated n → (good = true ∨ 192 ≤ n) → Answers (.kvCmdDone good) s (fun u => ends u 3 0 ∧
       ∀ m, m < 256 → u.key m = (if (s.descendants n).contains m = true then { s.key m with state := 3 } else if m = n then { s.key n with state := 2 } else s.key m))))

/-- R137, R141, R149, R150: the sweep, the noise source and the self-test.
R143 to R146: the two writes of a lifecycle transition, and the sessions of the test access port. -/
def Obligations.VaultUpkeepAndLifecycle : Prop :=
  (∀ (s : State) (n : Nat) (bad : List Nat),
     (s.kv.loaded = true → s.kv.slots.length = 256 → n < 256 → Answers (.kvSweep bad) s (fun t => t.mem = s.mem ∧
       ((s.key n).state < 2 → t.key n = s.key n) ∧
       (2 ≤ (s.key n).state → ¬(n ∈ bad ∧ n < 192) → t.key n = { gen := (s.key n).gen }) ∧
       (2 ≤ (s.key n).state → n ∈ bad → n < 192 → t.key n = { s.key n with state := 2 }))) ∧
     (s.fld F.KV_RNG_health_ok = 1 → Answers .rngHealthFail s (fun t => ∃ u, t = u.fault 0x0D0D (some Reg.KV_FAULT) ∧
       u = { s with regs := u.regs, kv := { s.kv with rngAt := some s.tmk.mt, rngTries := 0 } } ∧ RegsBut [F.KV_RNG_health_ok] s u ∧
       u.fld F.KV_RNG_health_ok = 0)) ∧
     (∀ f, s.kv.rngAt = some f → s.kv.rngTries < 3 → f + 250000 ≤ s.tmk.mt →
       Answers (.rngRestart true) s (fun t => t.kv = { s.kv with rngTries := s.kv.rngTries + 1, rngAt := none } ∧ t.mem = s.mem ∧
         RegsBut [F.KV_RNG_health_ok, F.KV_RNG_restarts] s t ∧ t.fld F.KV_RNG_health_ok = 1) ∧
       Answers (.rngRestart false) s (fun t => t.kv = { s.kv with rngTries := s.kv.rngTries + 1, rngAt := some s.tmk.mt } ∧ t.mem = s.mem ∧
         RegsBut [F.KV_RNG_restarts] s t)) ∧
     (s.fld F.DSK_DAWN_STATUS_done = 1 → s.fld F.KV_STATUS_ready = 0 → s.fld F.KV_STATUS_selftest_fail = 0 →
       Answers (.kvSelftestDone true true) s (fun t => Sets [F.KV_STATUS_ready, F.KV_RNG_health_ok] s t ∧ t.fld F.KV_STATUS_ready = 1 ∧
         t.fld F.KV_RNG_health_ok = 1) ∧
       Answers (.kvSelftestDone false true) s (fun t => ∃ u v, u = { s with regs := u.regs } ∧ RegsBut [F.KV_STATUS_selftest_fail] s u ∧
         u.fld F.KV_STATUS_selftest_fail = 1 ∧ v = u.fault 0x0D11 (some Reg.KV_FAULT) ∧ Sets [F.KV_RNG_health_ok] v t ∧ t.fld F.KV_RNG_health_ok = 1))) ∧
  (∀ (s : State) (c d dst from_ : Nat) (v : Word), c < 5 → s.cpu.cores.length = 5 →
     (s.mayWrite (.core c) Reg.KV_LC_REQ = true → (v >>> 8).toNat % 256 = 0xC3 → Answers (.kvLcReq (.core c) v) s (fun t =>
       t = { s with kv := { s.kv with lcReq := some (v.toNat % 8, c, s.tmk.mt) } })) ∧
     (s.mayWrite (.core c) Reg.KV_LC_REQ = true → (v >>> 8).toNat % 256 ≠ 0xC3 → Answers (.kvLcReq (.core c) v) s (fun t => t = s)) ∧
     (s.mayWrite (.core c) Reg.KV_LC_CONFIRM = true → s.kv.lcReq = some (dst, d, from_) →
       (c ≠ d ∨ 25000 < s.tmk.mt - from_ → Answers (.kvLcConfirm (.core c) 0x3CC3) s (fun t =>
         t = { s with regs := t.regs, kv := { s.kv with lcReq := none } } ∧ RegsBut [F.KV_LC_RESULT_result] s t ∧ t.fld F.KV_LC_RESULT_result = 5)) ∧
       (c = d → s.tmk.mt - from_ ≤ 25000 → s.fld F.KV_STATUS_lc_busy = 0 → lcTransition (s.fld F.KV_LC_state) dst = none → s.outputsOn = false →
         Answers (.kvLcConfirm (.core c) 0x3CC3) s (fun t => ∃ u : State, t = u.log ⟨9, 3, 2, 0, none, none⟩ ∧
           u = { s with regs := u.regs, kv := { s.kv with lcReq := none } } ∧ RegsBut [F.KV_LC_RESULT_result] s u ∧ u.fld F.KV_LC_RESULT_result = 2))) ∧
     (s.kv.loaded = true → s.fld F.KV_TAP_level ≠ 0 → s.fld F.KV_TAP_session = 0 → Answers .tapSessionOpen s (fun t => t.mem = s.mem ∧ t.cpu = s.cpu ∧
       t.kv = { s.kv with sessions := min (s.kv.sessions + 1) 65535, tapLevel := s.fld F.KV_TAP_level, tapRefused := false } ∧ t.fld F.KV_TAP_session = 1)) ∧
     (s.fld F.KV_TAP_session = 1 →
       Answers .tapSessionEnd s (fun t => t = { s with regs := t.regs, kv := { s.kv with tapLevel := 0, tapRefused := false } } ∧
         RegsBut [F.KV_TAP_session] s t ∧ t.fld F.KV_TAP_session = 0) ∧
       (s.kv.tapRefused = false → Answers .tapRefused s (fun t =>
         t = State.log { s with kv := { s.kv with tapRefused := true } } ⟨12, 3, 0, 0, none, none⟩)) ∧
       (c < 4 → s.kv.tapLevel = 3 ∨ s.kv.tapLevel = 4 → Answers (.tapDebugHalt c) s (fun t => ∃ u : State, t = u.log ⟨12, 2, c, 0, none, none⟩ ∧
         u = { s with regs := u.regs, cpu := { s.cpu with cores := u.cpu.cores } } ∧ (∀ e, e ≠ c → u.core e = s.core e) ∧
         u.core c = { s.core c with running := false } ∧ u.fldBit F.CPU_STATUS_cc_running c = false))))

/-- R191, R192: setting QE_TABLE_CFG.en with a table that fits starts the zero-fill with an empty cache and no queue enabled; when the zero-fill
completes every byte of the table reads 0 and every other byte of memory is as before.
R192, R201, R203, R205, Table QE-9: each command of QE_DESC_CMD acts on the selected queue as its row says, with its result code, and changes no
other queue's descriptor. -/
def Obligations.QueueTableAndDescriptors : Prop :=
  (∀ (s : State) (who : Init) (v : Word),
     (s.mayWrite who Reg.QE_TABLE_CFG = true → s.fld F.QE_TABLE_CFG_en = 0 → v.getLsbD 0 = true →
       let k := v.toNat / 2 % 16
       let b := v.toNat / 8192
       8 ≤ k → k ≤ 13 → 8192 * b % (32 * 2 ^ k) = 0 → inSram (8192 * b) (32 * 2 ^ k) = true →
       Answers (.qeTableEnable who v) s (fun t =>
         t = { s with regs := t.regs, qe := { s.qe with cache := [], openResv := [], enabled := [], tableDown := false } } ∧
         RegsBut [F.QE_TABLE_CFG_base, F.QE_TABLE_CFG_k, F.QE_TABLE_CFG_en, F.QE_STATUS_table_busy, F.QE_STATUS_hold_table] s t ∧
         t.fld F.QE_TABLE_CFG_base = b ∧ t.fld F.QE_TABLE_CFG_k = k ∧ t.fld F.QE_TABLE_CFG_en = 1 ∧ t.fld F.QE_STATUS_table_busy = 1)) ∧
     (s.fld F.QE_STATUS_table_busy = 1 → Answers .tableZeroFillDone s (fun t => t = { s with regs := t.regs, mem := t.mem } ∧
       RegsBut [F.QE_STATUS_table_busy] s t ∧ t.fld F.QE_STATUS_table_busy = 0 ∧
       ∀ x, Store.get t.mem x = if s.tabBase ≤ x ∧ x < s.tabBase + 32 * 2 ^ s.tabK then 0 else Store.get s.mem x))) ∧
  (∀ (s : State) (who : Init), s.mayWrite who Reg.QE_DESC_CMD = true →
     let q := s.fld F.QE_DESC_SEL_queue
     let u := s.qTouch q
     let d := u.qDesc q
     let after (i : Instr) (result : Nat) (e : Desc) : Prop := Answers i s (fun t => t.fld F.QE_DESC_CMD_result = result ∧ t.mem = u.mem ∧
       t.cpu = u.cpu ∧ t.qDesc q = e ∧ ∀ p, p ≠ q → t.qDesc p = u.qDesc p)
     (s.qExists q = false → s.fld F.QE_STATUS_table_busy = 0 → ∀ i, i ∈ [Instr.qeLoad who, .qeApply who, .qeEnable who, .qeDisable who, .qeReset who, .qePin who,
       .qeUnpin who] → Answers i s (fun t => Sets [F.QE_DESC_CMD_result] s t ∧ t.fld F.QE_DESC_CMD_result = 1)) ∧
     (s.qExists q = true → s.fld F.QE_STATUS_table_busy = 0 →
       (Answers (.qeLoad who) s (fun t => t.fld F.QE_DESC_CMD_result = 0 ∧ t.mem = u.mem ∧ t.qe = u.qe ∧ t.word Reg.QE_DESC_BASE = w32 d.base ∧
         t.word Reg.QE_DESC_CTRL = w32 d.ctrl ∧ t.word Reg.QE_DESC_PROD = d.prod ∧ t.word Reg.QE_DESC_RESV = d.resv ∧ t.word Reg.QE_DESC_CONS = d.cons)) ∧
       (d.en = false → u.descOk q (u.descStaged d (match sysQueue q with | some p => p.engine | none => false)) = true →
         after (.qeApply who) 0 (u.descStaged d (match sysQueue q with | some p => p.engine | none => false))) ∧
       (d.en = false → u.descOk q (u.descStaged d (match sysQueue q with | some p => p.engine | none => false)) = false → after (.qeApply who) 2 d) ∧
       (d.en = true → after (.qeEnable who) 0 d ∧ after (.qeReset who) 3 d) ∧
       (d.en = false → (d.setEn true).bad = false → after (.qeEnable who) 0 (d.setEn true)) ∧
       (u.resvOf q = none → after (.qeDisable who) 0 (d.setEn false)) ∧
       (d.en = false → after (.qeReset who) 0 { d with prod := 0, resv := 0, cons := 0 }) ∧
       (u.qe.cache.any (fun l => l.queue = q && l.pinned) = false → 64 ≤ (u.qe.cache.filter (·.pinned)).length → after (.qePin who) 4 d) ∧
       ((u.qe.cache.filter (·.pinned)).length < 64 → after (.qePin who) 0 d) ∧ after (.qeUnpin who) 0 d))

/-- R196, R197, R202, R454: the two doorbells on a queue that takes them, a refused doorbell, and the read of QE_EVT.
R199, R201: the three time-outs of delivery between nodes. -/
def Obligations.DoorbellsAndTimeouts : Prop :=
  (∀ (s : State) (c : Nat) (v : Word), c < 4 → c < s.cpu.cores.length →
     let q := v.toNat % 65536
     let n := v.toNat / 65536 % 256
     let u := (s.qReady q).2
     let d := u.qDesc q
     (s.mayWrite (.core c) Reg.QE_DB_PROD = true →
       ((s.qReady q).1 = .done → d.prodDirect = true → 1 ≤ n → n % d.span = 0 → n ≤ d.free → u.resvOf q = none → u.taskDenied (.core c) q = false →
         Answers (.producerDoorbell (.core c) v) s (fun t => t.mem = u.mem ∧
           t.qDesc q = { d with resv := d.resv + w32 n, prod := d.resv + w32 n } ∧ ∀ p, p ≠ q → t.qDesc p = u.qDesc p)) ∧
       ((s.qReady q).1 ≠ .done ∨ d.prodDirect = false ∨ n = 0 ∨ d.free < n → Answers (.producerDoorbell (.core c) v) s (fun t =>
         Sets [F.QE_STATUS_db_refused, F.QE_CNT_MISC_db_refused] u t ∧ t.fld F.QE_STATUS_db_refused = 1))) ∧
     (s.mayWrite (.core c) Reg.QE_DB_CONS = true →
       ((s.qReady q).1 = .done → u.qEngine q = false → 1 ≤ n → n ≤ d.held → u.taskDenied (.core c) q = false →
         Answers (.consumerDoorbell (.core c) v) s (fun t => t.mem = u.mem ∧ t.regs = u.regs ∧ t.cpu = u.cpu ∧
           t.qDesc q = { d with cons := d.cons + w32 n } ∧ ∀ p, p ≠ q → t.qDesc p = u.qDesc p)) ∧
       ((s.qReady q).1 ≠ .done ∨ u.qEngine q = true ∨ n = 0 ∨ d.held < n → Answers (.consumerDoorbell (.core c) v) s (fun t =>
         Sets [F.QE_STATUS_db_refused, F.QE_CNT_MISC_db_refused] u t ∧ t.fld F.QE_STATUS_db_refused = 1))) ∧
     (s.coreReads c Reg.QE_EVT = true →
       (s.qe.evtFifo = [] → Answers (.qeEvtRead (.core c)) s (fun t => t = { s with readOut := 0xFFFFFFFF })) ∧
       (∀ p rest, s.qe.evtFifo = p :: rest → Answers (.qeEvtRead (.core c)) s (fun t =>
         t = { s with readOut := w32 p, qe := { s.qe with evtFifo := rest } }))) ∧
     Answers (.qeEvtRead .host) s (fun t => t = { s with readOut := 0 })) ∧
  (∀ (s : State) (q seq t0 got src n : Nat) (m : TxMsg),
     (s.resvOf q = some ⟨q, .stream n, got, t0⟩ → Answers (.resvTimeout q) s (fun t => t = s)) ∧
     (∀ w, s.resvOf q = some ⟨q, .fabric src seq w, got, t0⟩ → 250000 * s.fld F.QE_CFG_resv_to ≤ s.tmk.mt - t0 →
       s.qe.cache.any (fun l => l.queue = q) = true →
       Answers (.resvTimeout q) s (fun t => t.resvOf q = none ∧ t.mem = s.mem ∧ t.cpu = s.cpu ∧
         t.qDesc q = { s.qDesc q with resv := (s.qDesc q).prod, rollbacks := min ((s.qDesc q).rollbacks + 1) 65535 })) ∧
     (s.qe.tx.find? (fun x => x.seq = seq) = some m → m.phase = .again → 5000 ≤ s.tmk.mt - m.since →
       Answers (.fullRetry seq) s (fun t => ∃ u : State, t = u.txRun ∧ u = { s with qe := { s.qe with
         tx := s.qe.tx.map (fun x => if x.seq = seq then { x with fulls := x.fulls + 1, rtx := 0, phase := .ready } else x) } })) ∧
     (s.qe.tx.find? (fun x => x.seq = seq) = some m → m.phase = .last → 25000 * s.fld F.QE_CFG_ack_to ≤ s.tmk.mt - m.since →
       Answers (.ackTimeout seq) s (fun t => ∃ u, t = (u.txDone m 6).txRun ∧ Sets [F.STF_CNT_RTX_no_ack] s u)))

/-- R206, R207: a copy channel in memory mode starts on go, ends with its error where a range is not allowed or overlaps, moves its bytes when it
completes, and on abort has moved whole 32-byte blocks; in message mode an idle channel whose message cannot be sent ends with error.
R209, R211 to R214: the memory port's control, its command engine, its time-out and the end of a posted store.
R61: the receiving end of remote windows serves an aligned access to SRAM or to the memory port's region where remote_in is set, and refuses every other one;
either is answered. -/
def Obligations.CopyAndMemoryPort : Prop :=
  (∀ (s : State) (who : Init) (n : Nat) (v : Word), n < 2 → s.qe.copies.length = 2 →
     let src := s.copySrc n
     let dst := s.fld (F.QE_CPYn_DST_dst n)
     let len := v.toNat % 2 ^ 25
     let ended (t : State) (st cause : Nat) : Prop := t.fld (F.QE_CPYn_STATUS_state n) = st ∧ t.fld (F.QE_CPYn_STATUS_cause n) = cause ∧
       t.qe.copies.getD n none = none
     (s.mayWrite who (Reg.QE_CPY0_CTRL + 16 * n) = true → s.fld (F.QE_CPYn_STATUS_state n) ≠ 1 → v.getLsbD 26 = true → v.getLsbD 25 = false →
       len ≠ 0 → len ≤ 2 ^ 24 → len % 4 = 0 → dst % 4 = 0 →
       (s.copyReads src len = true → s.masterOk dst len = true → (dst + len ≤ src ∨ src + len ≤ dst) →
         Answers (.copyGo who n v) s (fun t => t = { s with regs := t.regs, qe := t.qe } ∧ t.fld (F.QE_CPYn_STATUS_state n) = 1 ∧
           t.fld (F.QE_CPYn_CTRL_len n) = len ∧ t.qe.copies.getD n none = some {})) ∧
       (s.copyReads src len = false → Answers (.copyGo who n v) s (fun t => t.mem = s.mem ∧ ended t 3 0x10 ∧ t.fld F.QE_FAULT_cause = 3)) ∧
       (s.copyReads src len = true → s.masterOk dst len = true → src < dst + len → dst < src + len →
         Answers (.copyGo who n v) s (fun t => t.mem = s.mem ∧ ended t 3 0x11 ∧ t.fld F.QE_FAULT_cause = 3))) ∧
     (s.mayWrite who (Reg.QE_CPY0_CTRL + 16 * n) = true → s.fld (F.QE_CPYn_STATUS_state n) = 1 → v.getLsbD 27 = true →
       s.fld (F.QE_CPYn_CTRL_mode n) = 0 →
       Answers (.copyAbort who n v) s (fun t => ended t 3 0x12 ∧ ∃ m, 32 * m ≤ s.copyLen n ∧
         t.mem = Store.setBytes s.mem dst (Store.bytes s.view src (32 * m)))) ∧
     (∀ k, s.qe.copies.getD n none = some k → s.fld (F.QE_CPYn_CTRL_mode n) = 0 → Answers (.copyDone n) s (fun t => ended t 2 0 ∧
       t.mem = Store.setBytes s.mem dst (Store.bytes s.view src (s.copyLen n)) ∧ t.tmk = s.tmk ∧ t.nj = s.nj))) ∧
  (∀ (s : State) (who : Init) (v : Word) (data : List Byte) (good : Bool),
     (s.mayWrite who Reg.XMP_CTRL = true → v.getLsbD 0 = true → s.fld F.XMP_CTRL_en = 0 →
       (s.icgLocked 0 = true → Answers (.xmpCtrlWrite who v) s (fun t => Sets [F.XMP_CTRL_rst, F.XMP_CTRL_en] s t ∧ t.fld F.XMP_CTRL_en = 1)) ∧
       (s.icgLocked 0 = false → Answers (.xmpCtrlWrite who v) s (fun t => Sets [F.XMP_CTRL_rst, F.XMP_STATUS_en_refused] s t ∧
         t.fld F.XMP_CTRL_en = 0 ∧ t.fld F.XMP_STATUS_en_refused = 1))) ∧
     (s.mayWrite who Reg.XMP_CTRL = true → v.getLsbD 0 = false → s.fld F.XMP_CTRL_en = 1 → s.xmpUsed = true →
       Answers (.xmpCtrlWrite who v) s (fun t => Sets [F.XMP_CTRL_rst, F.XMP_STATUS_en_refused] s t ∧ t.fld F.XMP_CTRL_en = 1 ∧
         t.fld F.XMP_STATUS_en_refused = 1)) ∧
     (s.mayWrite who Reg.XMP_CMD = true → s.fld F.XMP_CMD_STATUS_state ≠ 1 → v.getLsbD 31 = true → s.fld F.XMP_CTRL_en = 1 →
       (v.toNat / 65536 % 512 ≤ 256 → inSram (4 * s.fld F.XMP_CMD_BUF_buf) (v.toNat / 65536 % 512) = true →
         Answers (.xmpCommand who v) s (fun t => Sets [wordAt Reg.XMP_CMD, F.XMP_CMD_STATUS_state, F.XMP_STATUS_busy] s t ∧
           t.fld F.XMP_CMD_STATUS_state = 1 ∧ t.fld F.XMP_STATUS_busy = 1 ∧ t.word Reg.XMP_CMD = v &&& 0x01FFFFFF#32)) ∧
       (256 < v.toNat / 65536 % 512 → Answers (.xmpCommand who v) s (fun t => t.mem = s.mem ∧ t.fld F.XMP_CMD_STATUS_state = 3 ∧
         t.fld F.XMP_FAULT_code = 0x0403))) ∧
     (s.fld F.XMP_CMD_STATUS_state = 1 → s.fld F.XMP_CMD_dir = 0 → data.length = s.fld F.XMP_CMD_len →
       Answers (.xmpCmdDone true data []) s (fun t => t = { s with regs := t.regs, mem := Store.setBytes s.mem (4 * s.fld F.XMP_CMD_BUF_buf) data } ∧
         RegsBut [F.XMP_CMD_STATUS_state, F.XMP_STATUS_busy] s t ∧ t.fld F.XMP_CMD_STATUS_state = 2 ∧ t.fld F.XMP_STATUS_busy = 0) ∧
       Answers (.xmpCmdDone false data []) s (fun t => t.mem = s.mem ∧ t.fld F.XMP_CMD_STATUS_state = 3 ∧ t.fld F.XMP_STATUS_busy = 0 ∧
         t.fld F.XMP_FAULT_code = 0x0403) ∧
       Answers (.xmpTimeout .command) s (fun t => t.mem = s.mem ∧ t.fld F.XMP_CMD_STATUS_state = 3 ∧ t.fld F.XMP_FAULT_code = 0x0403)) ∧
     (∀ p rest, s.qe.posted = p :: rest → rest.length < 8 → Answers (.postedStoreDrain good) s (fun t => t.qe = { s.qe with posted := rest } ∧ t.cpu = s.cpu ∧
       t.fld F.XMP_STATUS_posted = rest.length ∧ t.mem = (if good then Store.setBytes s.mem p.addr p.bytes else s.mem) ∧
       (good = false → t.fld F.XMP_FAULT_code = 0x0402)))) ∧
  (∀ (s : State) (node target off size data : Nat) (store : Bool), size = 1 ∨ size = 2 ∨ size = 4 →
     let a := off + (if target = 0 then 0x20000000 else 0x60000000)
     let ans (bad : Bool) (v : Nat) (u : State) : State := (u.launch { dst := node, body := .rwinAns bad v }).2
     let open_ := s.fld F.CPU_CTRL_remote_in = 1 ∧ a % size = 0
     let sram := target = 0 ∧ inSram a size = true
     let i : Instr := .rwinReq node store target off size data
     (open_ → sram ∨ (target = 1 ∧ s.inPsram a size = true) → s.inTable a size = false → store = true → Answers i s (fun t =>
       t = ans false 0 { s with mem := Store.setBytes s.mem a (leBytes size data) })) ∧
     (open_ → sram ∨ (target = 1 ∧ (s.csOf a size).isSome = true) → store = false → Answers i s (fun t =>
       t = ans false (leNat (Store.bytes s.view a size)) s)) ∧
     (s.fld F.CPU_CTRL_remote_in = 0 ∨ a % size ≠ 0 ∨ 2 ≤ target ∨ (target = 0 ∧ inSram a size = false) ∨ (store = true ∧ s.inTable a size = true) →
       Answers i s (fun t => t = ans true 0 s)))

/-- R29, R30, R42, R43: an operating point is requested, refused while the edge placer is enabled or a change runs, completes with EVT_OP to all
cores or times out; a line that serves no edges is recalibrated; a wear measurement is kept and compared. -/
def Obligations.OperatingPoint : Prop :=
  ∀ (s : State) (who : Init) (v : Word) (p r out n mon wear : Nat) (taps : List Nat) (tj : Int), s.cpu.cores.length = 5 →
    (s.mayWrite who Reg.TMK_OPCTL = true →
      (s.edgeOn = true ∨ s.fld F.TMK_STATUS_op_busy = 1 → Answers (.opctlWrite who v) s (fun t => Sets [F.TMK_STATUS_op_refused] s t ∧
        t.fld F.TMK_STATUS_op_refused = 1)) ∧
      (s.edgeOn = false → s.fld F.TMK_STATUS_op_busy = 0 → v.toNat % 4 ≠ s.fld F.TMK_OPCTL_op_now → Answers (.opctlWrite who v) s (fun t =>
        t = { s with regs := t.regs, tmk := { s.tmk with opTarget := some (v.toNat % 4) } } ∧ RegsBut [F.TMK_OPCTL_op_req, F.TMK_STATUS_op_busy] s t ∧
        t.fld F.TMK_OPCTL_op_req = v.toNat % 4 ∧ t.fld F.TMK_STATUS_op_busy = 1))) ∧
    Answers (.opctlWrite .host v) s (fun t => t = s) ∧
    (s.tmk.opTarget = some p → p < 4 → taps.length = 24 → (∀ x, x ∈ taps → 400 ≤ x ∧ x ≤ 1900) → Answers (.opChangeDone taps) s (fun t =>
      t.fld F.TMK_OPCTL_op_now = p ∧ t.fld F.TMK_STATUS_op_busy = 0 ∧ t.tmk.opTarget = none ∧ t.mem = s.mem ∧
      RegsBut [F.TMK_OPCTL_op_now, F.TMK_STATUS_op_busy, F.TMK_EP_CAL_taps_per_tick] s t ∧
      (∀ i, i < 12 → t.tmk.epTaps.getD i (0, 0) = (taps.getD (2 * i) 0, taps.getD (2 * i + 1) 0)) ∧
      ∀ c, c < 5 → t.core c = { s.core c with pend := (s.core c).pend ||| (1#32 <<< 8) })) ∧
    (s.tmk.opTarget = some p → r < 4 → Answers (.opChangeTimeout r) s (fun t => ∃ u : State, t = u.fault 0x0103 ∧
      u = { s with regs := u.regs, tmk := { s.tmk with opTarget := none } } ∧
      RegsBut [F.TMK_OPCTL_op_now, F.TMK_STATUS_op_busy, F.TMK_STATUS_op_fail] s u ∧ u.fld F.TMK_OPCTL_op_now = r ∧
      u.fld F.TMK_STATUS_op_busy = 0 ∧ u.fld F.TMK_STATUS_op_fail = 1)) ∧
    (s.fld F.DSK_DAWN_STATUS_done = 1 → s.tmk.mtRun = true → 1 ≤ out → out < 12 → s.tmk.epTaps.length = 12 → s.tmk.epEdge.length = 12 →
      400 ≤ n → n ≤ 1900 → s.tmk.epEdge.getD out false = true → Answers (.epCalibrate out n) s (fun t =>
        t = { s with tmk := { s.tmk with epTaps := t.tmk.epTaps, epSwap := t.tmk.epSwap, epEdge := t.tmk.epEdge } } ∧
        t.tmk.epTaps.getD out (0, 0) = (n, (s.tmk.epTaps.getD out (0, 0)).2) ∧ ∀ i, i ≠ out → t.tmk.epTaps.getD i (0, 0) = s.tmk.epTaps.getD i (0, 0))) ∧
    (s.fld F.TMK_CTRL_wear_en = 1 → s.fld F.TMK_STATUS_op_busy = 0 → -20 ≤ tj → tj ≤ 110 → s.tmk.mtRun = true → s.fld F.DSK_DAWN_STATUS_done = 1 →
      mon < 8 → s.tmk.wear.length = 8 →
      (wear < 600 → Answers (.wearMeasure mon wear tj) s (fun t => t = { s with tmk := { s.tmk with wear := t.tmk.wear } } ∧
        ∀ i, t.tmk.wear.getD i none = if i = mon then some wear else s.tmk.wear.getD i none)) ∧
      (600 ≤ wear → wear < 1000 → (s.tmk.wear.getD mon none).getD 0 < 600 → s.tmk.wearWarned = false → mon ≠ 5 →
        Answers (.wearMeasure mon wear tj) s (fun t => t.fld F.TMK_STATUS_wear_warn = 1 ∧ t.tmk.wearWarned = true ∧ t.mem = s.mem ∧
          t.tmk.wear.getD mon none = some wear ∧
          ∀ c, c < 5 → t.core c = if c < 4 then { s.core c with pend := (s.core c).pend ||| (1#32 <<< 11) } else s.core c)))

/-- R40: a write to TMK_CMPn_HI with en captures the 56-bit target under bits 63 to 56 of meter time and fires at once where it has passed; an armed
unit whose target is reached sets fired, clears en and delivers its line to the cores of its mask.
R32 to R38, R116: meter time and wall time are read with their latches, committed to the floor, and set: a small step moves the clock and the
bucket alone, a large one is logged with the era and EVT_TIME; the bucket drains. -/
def Obligations.TimeUnits : Prop :=
  (∀ (s : State) (who : Init) (n : Nat) (v : Word), n < 8 → s.cpu.cores.length = 5 → s.tmk.cmpTarget.length = 8 →
     let goal := s.tmk.mt / 2 ^ 56 * 2 ^ 56 + v.toNat % 2 ^ 24 * 2 ^ 32 + s.fld (F.TMK_CMPn_LO_target_lo n)
     let hit (m : Nat) (t : State) : Prop := t.fld (F.TMK_CMPn_HI_fired n) = 1 ∧ t.fld (F.TMK_CMPn_HI_en n) = 0 ∧
       ∀ c, c < 5 → t.core c = if m.testBit c then { s.core c with pend := (s.core c).pend ||| (1#32 <<< n) } else s.core c
     (s.mayWrite who (Reg.TMK_CMP0_HI + 8 * n) = true → v.getLsbD 24 = true →
       (s.tmk.mt < goal → Answers (.cmpArm who n v) s (fun t => t = { s with regs := t.regs, tmk := { s.tmk with cmpTarget := t.tmk.cmpTarget } } ∧
         t.tmk.cmpTarget.getD n 0 = goal ∧ (∀ m, m ≠ n → t.tmk.cmpTarget.getD m 0 = s.tmk.cmpTarget.getD m 0) ∧
         RegsBut [wordAt (Reg.TMK_CMP0_HI + 8 * n)] s t ∧ t.fld (F.TMK_CMPn_HI_en n) = 1)) ∧
       (goal ≤ s.tmk.mt → Answers (.cmpArm who n v) s (fun t => hit (v.toNat / 2 ^ 25 % 32) t ∧ RegsBut [wordAt (Reg.TMK_CMP0_HI + 8 * n)] s t ∧
         t.mem = s.mem))) ∧
     (s.fld (F.TMK_CMPn_HI_en n) = 1 → s.tmk.cmpTarget.getD n 0 ≤ s.tmk.mt → Answers (.cmpFire n) s (fun t =>
       t = { s with regs := t.regs, cpu := { s.cpu with cores := t.cpu.cores } } ∧ RegsBut [F.TMK_CMPn_HI_fired n, F.TMK_CMPn_HI_en n] s t ∧
       hit (s.fld (F.TMK_CMPn_HI_core_mask n)) t)) ∧
     (s.fld (F.TMK_CMPn_HI_en n) = 0 ∨ s.tmk.mt < s.tmk.cmpTarget.getD n 0 → Answers (.cmpFire n) s (fun t => t = s))) ∧
  (∀ (s : State) (who : Init) (v : Word) (hi : Nat),
     (s.mayRead who Reg.TMK_MT_LO = true → s.tmk.mtHi.length = 6 →
       Answers (.mtLoRead who) s (fun t => t = { s with readOut := w32 (s.tmk.mt % 2 ^ 32), tmk := { s.tmk with mtHi := t.tmk.mtHi } } ∧
         ∀ d, t.tmk.mtHi.getD d 0 = if d = Init.reader who then w32 (s.tmk.mt / 2 ^ 32) else s.tmk.mtHi.getD d 0)) ∧
     (s.mayRead who Reg.TMK_WALL_SEC = true → s.tmk.wallSub.length = 6 → Answers (.wallSecRead who) s (fun t =>
       t = { s with readOut := w32 s.nj.wallSec, tmk := { s.tmk with wallSub := t.tmk.wallSub } } ∧
       ∀ d, t.tmk.wallSub.getD d 0 = if d = Init.reader who then s.nj.wallSub % 32768 + (if s.nj.wallValid then 32768 else 0) else s.tmk.wallSub.getD d 0)) ∧
     (s.tmk.mtRun = true → s.floorTop = some hi → hi < s.tmk.mt / 2 ^ 32 → s.nj.floors.length = 16 → s.nj.floorNext < 16 →
       Answers .mtFloorCommit s (fun t => t = { s with nj := { s.nj with floors := t.nj.floors, floorNext := (s.nj.floorNext + 1) % 16, floorHeld := true } } ∧
         (∀ i, t.nj.floors.getD i none = if i = s.nj.floorNext then some (s.tmk.mt / 2 ^ 32) else s.nj.floors.getD i none))) ∧
     (s.mayWrite who Reg.TMK_WALL_SET = true →
       (s.fld F.DSK_STATUS_warn = 1 → Answers (.wallSet who v) s (fun t => Sets [F.TMK_STATUS_set_refused] s t ∧ t.fld F.TMK_STATUS_set_refused = 1)) ∧
       (s.fld F.DSK_STATUS_warn = 0 → s.nj.wallValid = true → v.toNat ≠ s.nj.wallSec → 
         let mag := ((v.toNat : Int) - s.nj.wallSec).natAbs
         mag ≤ s.fld F.TMK_STEP_CFG_limit_s → 1000 * mag + s.nj.bucketMs ≤ 1000 * s.fld F.TMK_STEP_CFG_budget_s →
         Answers (.wallSet who v) s (fun t =>
           t = { s with regs := t.regs, nj := { s.nj with wallSec := v.toNat, wallSub := 0, bucketMs := s.nj.bucketMs + 1000 * mag } } ∧
           RegsBut [F.NJD_STEP_CNT_small_count, F.NJD_STEP_CNT_small_sum_s] s t)) ∧
       (s.fld F.DSK_STATUS_warn = 0 → s.nj.wallValid = true → s.isManager = false →
         s.fld F.TMK_STEP_CFG_limit_s < ((v.toNat : Int) - s.nj.wallSec).natAbs →
         Answers (.wallSet who v) s (fun t => t.nj.wallSec = v.toNat ∧ t.nj.wallSub = 0 ∧ t.nj.bucketMs = 0 ∧ t.nj.wallValid = true ∧ t.mem = s.mem ∧
           t.nj.log = (s.log ⟨1, 1, 0, v.toNat, some s.nj.wallSec, some s.tmk.mt⟩).nj.log ∧
           t.word Reg.TMK_ERA = s.word Reg.TMK_ERA + 1 ∧ t.fld F.TMK_STATUS_step_large = 1 ∧
           t.word Reg.TMK_LAST_STEP = BitVec.ofInt 32 (max (-2147483647) (min 2147483647 ((v.toNat : Int) - s.nj.wallSec)))))) ∧
     (s.tmk.mtRun = true → s.tmk.drainFrom + 90000000000 ≤ s.tmk.mt → Answers .bucketDrain s (fun t =>
       t = { s with nj := { s.nj with bucketMs := s.nj.bucketMs - 1000 }, tmk := { s.tmk with drainFrom := s.tmk.drainFrom + 90000000000 } })))

/-- R41, R44, R45: the interface clock generators are enabled, lock and lose lock; the loss of the 25 MHz crystal freezes meter time, its return
lets it go on from the frozen value, and the check of the 32.768 kHz crystal raises its fault. -/
def Obligations.ClocksAndCrystals : Prop :=
  ∀ (s : State) (who : Init) (v : Word) (n : Nat) (ppm : Int) (lost : Bool), n < 4 →
    (s.mayWrite who Reg.TMK_ICG_CTRL = true → s.icgLocked 1 = false → v.toNat % 16 = 2 ^ n → (∀ m, m < 4 → s.icgOn m = false) →
      Answers (.icgCtrlWrite who v) s (fun t => t = { s with regs := t.regs } ∧ t.icgOn n = true ∧ (∀ m, m < 4 → m ≠ n → t.icgOn m = false) ∧
        t.fld F.TMK_ICG_CTRL_x_freq = v.toNat / 16 % 4 ∧ t.fld F.TMK_ICG_CTRL_a_freq = v.toNat / 64 % 4)) ∧
    (s.tmk.mtRun = true → s.icgOn n = true → n ≠ 1 →
      (s.icgLocked n = false → Answers (.icgLock n) s (fun t => t = { s with regs := t.regs } ∧ t.icgLocked n = true ∧ ∀ m, m ≠ n → t.icgLocked m = s.icgLocked m)) ∧
      (s.icgLocked n = true → Answers (.icgLockLost n) s (fun t => t = { s with regs := t.regs } ∧ t.icgLocked n = false ∧
        ∀ m, m ≠ n → t.icgLocked m = s.icgLocked m))) ∧
    (s.tmk.mtRun = true → s.icgOn 1 = false → Answers .xtalMtLost s (fun t => ∃ u v : State, t = (v.deliver 9 [0, 1, 2, 3, 4]).scTimebase ∧
      v = { u with regs := v.regs, tmk := { s.tmk with mtRun := false } } ∧ v.fld F.TMK_ICG_CTRL_locked = 0 ∧ v.tmk.mt = s.tmk.mt ∧
      ∃ w, u = State.fault w 0x0101 ∧ Sets [F.TMK_STATUS_xtal_mt_lost, F.TMK_STATUS_xtal_mt_fail] s w ∧ w.fld F.TMK_STATUS_xtal_mt_lost = 1 ∧
        w.fld F.TMK_STATUS_xtal_mt_fail = 1)) ∧
    (s.fld F.TMK_STATUS_xtal_mt_lost = 1 → Answers .xtalMtResume s (fun t =>
      t = { s with regs := t.regs, tmk := { s.tmk with mtRun := true }, bil := t.bil } ∧ RegsBut [F.TMK_STATUS_xtal_mt_lost] s t ∧
      t.fld F.TMK_STATUS_xtal_mt_lost = 0 ∧ t.bil.interval = s.bil.interval.map (fun r => { r with flags := r.flags ||| 2 }) ∧
      t.bil.session = s.bil.session.map (fun r => { r with flags := r.flags ||| 2 }))) ∧
    (11 ≤ s.fld F.DSK_DAWN_STATUS_step → s.dsk.off = false →
      (lost = true ∨ (s.fld F.TMK_CTRL_ratio_en = 1 ∧ s.tmk.mtRun = true ∧ (200 < ppm ∨ ppm < -200)) → Answers (.wtXtalCheck lost ppm) s (fun t =>
        ∃ u : State, t = u.fault 0x0102 ∧ Sets [F.TMK_STATUS_xtal_wt_fail] s u ∧ u.fld F.TMK_STATUS_xtal_wt_fail = 1)) ∧
      (lost = false → -200 ≤ ppm → ppm ≤ 200 → Answers (.wtXtalCheck lost ppm) s (fun t => t = s)))

/-- R98, Table DSK-4: what a reset of a kind leaves: powered-side state at its reset values, MRAM and the Nightjar log as they were, the cause
shown, Dawn at step 2. A power-on or brownout reset loses the memories of the powered side too (the model's choice of 0 for a byte that has lost
its supply is assumption 18 and 19).
R98, R146, R456: the resets from outside, from the two keys and from the test access port take effect at once before Dawn is complete, and are
preceded by a reset save after it. -/
def Obligations.Resets : Prop :=
  (∀ (s : State) (kind : Nat), kind < 8 → s.storesWf = true →
     let t := s.hardReset kind
     t.cpu = {} ∧ t.qe = {} ∧ t.stf = {} ∧ t.veh = {} ∧ t.tmk.mtRun = false ∧ t.fld F.DSK_CAUSE_cause = kind ∧ t.fld F.DSK_DAWN_STATUS_step = 2 ∧
     t.fld F.DSK_DAWN_STATUS_done = 0 ∧ t.nj.log = s.nj.log ∧ t.nj.wallSec = s.nj.wallSec ∧ t.pending = s.pending ∧
     t.fld F.NJD_TAMPER_STATUS_latch = s.fld F.NJD_TAMPER_STATUS_latch ∧ t.fld F.NJD_SEAL_sw = s.fld F.NJD_SEAL_sw ∧
     (∀ n, n < 192 → t.key n = s.key n) ∧ (∀ n, 192 ≤ n → t.key n = {}) ∧ (∀ a, a < 0x800000 → Store.get t.mem a = Store.get s.view a) ∧
     (∀ a, 0x800000 ≤ a → Store.get t.mem a = if kind ≤ 1 then 0 else Store.get s.view a)) ∧
  (∀ (s : State) (who : Init) (t0 k : Nat), s.dsk.off = false → s.dsk.saving = none →
     let asked (i : Instr) (kind : Nat) (u : State) : Prop :=
       (s.dawnDone = false → Answers i s (fun t => t = u.hardReset kind)) ∧
       (s.dawnDone = true → Answers i s (fun t => t = u.saveBegin kind))
     (s.fld F.DSK_DAWN_STATUS_step ≠ 0 → asked .extReset 3 s ∧ (s.fld F.KV_TAP_session = 1 → 1 < s.kv.tapLevel → asked .tapReset 6 s)) ∧
     (s.mayWrite who Reg.DSK_RESET = true → s.duskWarn = false →
       Answers (.dskReset who 0x0000A5A5) s (fun t => t = { s with dsk := { s.dsk with swKey := some (who, s.tmk.mt) } }) ∧
       (s.dsk.swKey = some (who, t0) → s.tmk.mt ≤ t0 + 25000 → asked (.dskReset who 0x00005A5A) 4 { s with dsk := { s.dsk with swKey := none } }) ∧
       (s.dsk.swKey = some (who, t0) → t0 + 25000 < s.tmk.mt → Answers (.dskReset who 0x00005A5A) s (fun t =>
         t = { s with dsk := { s.dsk with swKey := none } }))) ∧
     (k ≠ 2 → Answers .resetSaveDone { s with dsk := { s.dsk with saving := some { kind := k, from_ := t0 } } } (fun t => ∃ u : State, t = u.hardReset k ∧
       u.dsk.saving = none ∧ u.dsk.warned = true ∧ u.dsk.begun = false)))

/-- R88, R90 to R92, R94, R97: the steps of Dawn, each with what stops it in the hold. -/
def Obligations.DawnSteps : Prop :=
  ∀ (s : State) (taps : List Nat) (hi sw : Nat) (lp : Bool),
    let held (t : State) (step code : Nat) : Prop := t.fld F.DSK_DAWN_STATUS_hold = 1 ∧ t.fld F.DSK_DAWN_STATUS_hold_code = code ∧
      t.fld F.DSK_DAWN_STATUS_step = step ∧ t.fld F.QE_STATUS_hold_table = 1 ∧ t.cpu = s.cpu
    (s.dsk.off = true ∨ s.fld F.DSK_DAWN_STATUS_step = 0 → Answers .porRelease s (fun t => t = s.hardReset 0)) ∧
    (s.fld F.DSK_DAWN_STATUS_step ≠ 0 → s.dsk.off = false → s.nj.holdupFrom = none → Answers .brownoutReset s (fun t => t = s.hardReset 1)) ∧
    (s.dsk.off = false → s.inHold = false → s.dawnDone = false →
      (s.fld F.DSK_DAWN_STATUS_step = 2 →
        Answers (.dawnSupplyReady true 0 0) s (fun t => t = { s with regs := t.regs, nj := { s.nj with isolated := false }, mtr := t.mtr } ∧
          RegsBut [F.DSK_STATUS_vsup_ok, F.DSK_STATUS_warn, F.SYS_SUPPLY_buck_run, F.SYS_POST_STATUS_dusk_warn, F.DSK_DAWN_STATUS_step] s t ∧
          t.fld F.DSK_STATUS_vsup_ok = 1 ∧ t.fld F.DSK_STATUS_warn = 0 ∧ t.fld F.SYS_SUPPLY_buck_run = 1 ∧ t.fld F.DSK_DAWN_STATUS_step = 6) ∧
        Answers (.dawnSupplyReady false 0 0) s (fun t => held t 4 0x0001)) ∧
      (s.duskWarn = false → s.fld F.DSK_DAWN_STATUS_step = 6 →
        (s.floorTop = some hi → taps.length = 24 → (∀ x, x ∈ taps → 400 ≤ x ∧ x ≤ 1900) →
          Answers (.xtalMtStarted taps 1) s (fun t => t.fld F.SYS_ROLE_role = 1 ∧ t.fld F.DSK_DAWN_STATUS_step = 11 ∧ t.mem = s.mem ∧
            t.tmk.mt = (hi + 1) * 2 ^ 32 ∧ t.tmk.mtRun = true ∧ t.cpu = s.cpu) ∧
          Answers (.xtalMtStarted taps 2) s (fun t => t.fld F.SYS_ROLE_role = 2 ∧ t.fld F.DSK_DAWN_STATUS_step = 11 ∧ t.mem = s.mem ∧
            t.tmk.mt = (hi + 1) * 2 ^ 32) ∧
          Answers (.xtalMtStarted taps 3) s (fun t => held t 11 0x0002 ∧ t.fld F.SYS_ROLE_role = 0)) ∧
        Answers .xtalStartTimeout s (fun t => held t 6 0x0101)) ∧
      (s.duskWarn = false → s.fld F.DSK_DAWN_STATUS_step = 11 →
        (s.nj.dawnSeal = [] → Answers (.dawnSealSample sw lp) s (fun t => t = { s with nj := { s.nj with dawnSeal := [(sw, lp)] } })) ∧
        (s.nj.dawnSeal = [(sw, lp), (sw, lp)] → sw < 256 → s.fld F.NJD_SEAL_sw = sw → s.is F.NJD_SEAL_loop_ok = lp →
          Answers (.dawnSealSample sw lp) s (fun t => t.fld F.DSK_DAWN_STATUS_step = 13 ∧
            ∃ u : State, t = u.dawnSealed ∧ u.fld F.NJD_SEAL_sw = sw ∧ u.is F.NJD_SEAL_loop_ok = lp ∧ u.nj.sealFallback = false)) ∧
        Answers .dawnSealTimeout s (fun t => t.fld F.DSK_DAWN_STATUS_step = 13 ∧
          ∃ u : State, t = u.dawnSealed ∧ u = { s with nj := { s.nj with sealFallback := true, dawnSeal := [] } })) ∧
      (s.duskWarn = false → s.fld F.DSK_DAWN_STATUS_step = 13 →
        (s.bootRec = none → Answers .bootVerifyDone s (fun t => held t 13 0x0003)) ∧
        (∀ r, s.bootRec = some r → 
          let u := (s.setFld F.DSK_BOOT_slot r.slot).setWord Reg.DSK_ACTIVE_SET (w32 r.set)
          (u.bootFault r ≠ 0 → Answers .bootVerifyDone s (fun t => held t 13 (u.bootFault r))) ∧
          (u.bootFault r = 0 → Answers .bootVerifyDone s (fun t => t.fld F.DSK_DAWN_STATUS_done = 1 ∧ t.fld F.DSK_DAWN_STATUS_step = 17 ∧
            (t.core 0).running = true ∧ (t.core 0).task = false ∧ (t.core 4).running = true ∧ (t.core 4).pc = 0x30000000#32 ∧
            (∀ c, 1 ≤ c → c < 4 → (t.core c).running = false) ∧ t.fld F.CPU_STATUS_cc_running = 1 ∧ t.fld F.CPU_STATUS_sfc_running = 1)))))

/-- R101 to R106: the Dusk warning begins a save, in Dawn it returns to step 3; the freeze writes the save body to a bank; the commit word follows,
Nightjar is isolated, and with VDD33 still up a DUSK reset follows; checkpoints are written to their slots in turn. -/
def Obligations.DuskAndCheckpoints : Prop :=
  ∀ (s : State) (sv : Saving) (b : Nat) (img : List Byte), s.dsk.off = false → s.dsk.banks.length = 2 → s.dsk.ckpts.length = 8 → s.dsk.ckptNext < 8 →
    (s.duskWarn = false → s.dawnDone = false → s.inHold = false → 3 ≤ s.fld F.DSK_DAWN_STATUS_step → Answers .duskWarning s (fun t =>
      t = { s with regs := t.regs, tmk := { s.tmk with mtRun := false } } ∧
      RegsBut [F.DSK_STATUS_warn, F.DSK_STATUS_vsup_ok, F.SYS_POST_STATUS_dusk_warn, F.HSP_ATTN_dusk, F.DSK_DAWN_STATUS_step] s t ∧
      t.fld F.DSK_STATUS_warn = 1 ∧ t.fld F.DSK_STATUS_vsup_ok = 0 ∧ t.fld F.DSK_DAWN_STATUS_step = 2)) ∧
    (s.duskWarn = false → s.dawnDone = true → s.inHold = false → 3 ≤ s.fld F.DSK_DAWN_STATUS_step → s.dsk.saving = none → Answers .duskWarning s (fun t =>
      ∃ u : State, t = u.saveBegin 2 ∧ u = { s with regs := u.regs, nj := { s.nj with holdupFrom := some (s.nj.wallSec * 32768 + s.nj.wallSub) } } ∧
        RegsBut [F.DSK_STATUS_warn, F.DSK_STATUS_vsup_ok, F.SYS_POST_STATUS_dusk_warn, F.HSP_ATTN_dusk] s u ∧ u.fld F.DSK_STATUS_warn = 1 ∧
        u.fld F.HSP_ATTN_dusk = 1)) ∧
    (s.duskWarn = true → Answers .duskWarningClear s (fun t => ∃ u : State, t = u.pilotUpdate ∧
      Sets [F.DSK_STATUS_warn, F.DSK_STATUS_vsup_ok, F.SYS_POST_STATUS_dusk_warn, F.HSP_ATTN_dusk] s u ∧ u.fld F.DSK_STATUS_warn = 0 ∧
      u.fld F.DSK_STATUS_vsup_ok = 1 ∧ u.fld F.HSP_ATTN_dusk = s.fld F.HSP_ATTN_dusk)) ∧
    (s.dsk.saving = some sv → sv.bank = none → sv.from_ + 2500 ≤ s.tmk.mt → s.isWorker = true →
      (∀ j, j < 2 → s.fld (F.MTR_CAPu_STATUS_state j) = 0) → Answers .duskFreeze s (fun t =>
      t.nj.saveSeq = (s.nj.saveSeq + 1) % 2 ^ 32 ∧ t.dsk.begun = true ∧ t.dsk.saving = some { sv with bank := some s.saveBank } ∧ t.mem = s.mem ∧
      ∃ i, t.dsk.banks.getD s.saveBank none = some i ∧ i.commit = 0 ∧ imgAt i.bytes 0 4 = 0x4B535544 ∧ imgAt i.bytes 4 4 = (s.nj.saveSeq + 1) % 2 ^ 32 ∧
        imgAt i.bytes 8 8 = s.tmk.mt % 2 ^ 64 ∧ i.bytes.length = 512)) ∧
    (s.dsk.saving = some sv → sv.kind = 2 → sv.bank = some b → b < 2 → ∀ i, s.dsk.banks.getD b none = some i →
      Answers (.duskSaveDone false) s (fun t => t = { s with regs := t.regs, dsk := t.dsk, nj := { s.nj with isolated := true } } ∧ t.dsk.off = true ∧
        t.dsk.saving = none ∧ t.dsk.warned = true ∧ t.fld F.DSK_STATUS_saving = 0 ∧
        t.dsk.banks.getD b none = some { i with commit := commitWord (imgAt i.bytes 4 4) }) ∧
      Answers (.duskSaveDone true) s (fun t => t.fld F.DSK_CAUSE_cause = 2 ∧ t.fld F.DSK_DAWN_STATUS_step = 2 ∧ t.cpu = {} ∧ t.dsk.warned = true ∧
        t.dsk.banks.getD b none = some { i with commit := commitWord (imgAt i.bytes 4 4) })) ∧
    (s.dawnDone = true → s.fld F.DSK_CTRL_ckpt_en = 1 → s.tmk.mtRun = true → s.dsk.saving = none → s.dsk.ckpt = none →
      s.dsk.ckptAt + s.fld F.DSK_CKPT_CFG_period * 25000000 ≤ s.tmk.mt → s.isWorker = true → Answers .checkpoint s (fun t =>
        t = { s with regs := t.regs, dsk := t.dsk, nj := { s.nj with saveSeq := (s.nj.saveSeq + 1) % 2 ^ 32 } } ∧ t.dsk.ckpt.isSome = true ∧
        t.dsk.ckptAt = s.tmk.mt ∧ t.dsk.ckpts.getD s.dsk.ckptNext none = none ∧ RegsBut [F.DSK_STATUS_ckpt_busy] s t ∧
        t.fld F.DSK_STATUS_ckpt_busy = 1)) ∧
    (s.dsk.ckpt = some img → Answers (.checkpointDone true) s (fun t => t = { s with regs := t.regs, dsk := t.dsk } ∧ t.dsk.ckpt = none ∧
      t.dsk.ckptNext = (s.dsk.ckptNext + 1) % 8 ∧ t.fld F.DSK_STATUS_ckpt_busy = 0 ∧ RegsBut [F.DSK_STATUS_ckpt_busy] s t ∧
      t.dsk.ckpts.getD s.dsk.ckptNext none = some ⟨img, commitWord (imgAt img 4 4)⟩))

/-- R109, R111, R112, R123: the supply of the Nightjar domain: the source chosen, what its loss and return leave, the first start, and the battery's
thresholds.
R35, R114, R115: a second of the oscillator counts 32,768, corrected by one count for each 3,052 of the accumulator; a stop is shown with its
fault, its end is logged with its length. -/
def Obligations.NightjarSupplyAndClock : Prop :=
  (∀ (s : State) (a b h src mv : Nat),
     (s.nj.vnjLost = false → s.fld F.NJD_STATUS_source = 0 → s.nj.isolated = false →
       ((b < a + 30 ∧ h < a + 30) → Answers (.supplySelect a b h) s (fun t => Sets [F.NJD_STATUS_source] s t ∧ t.fld F.NJD_STATUS_source = 0)) ∧
       (a + 30 ≤ b → h ≤ b → Answers (.supplySelect a b h) s (fun t => Sets [F.NJD_STATUS_source] s t ∧ t.fld F.NJD_STATUS_source = 1)) ∧
       (a + 30 ≤ h → b < h → Answers (.supplySelect a b h) s (fun t => Sets [F.NJD_STATUS_source] s t ∧ t.fld F.NJD_STATUS_source = 2))) ∧
     Answers .njPowerLost s (fun t => t = { s with nj := { s.nj with vnjLost := true } }) ∧
     (s.nj.vnjLost = true → s.nj.initialised = true → src < 4 → Answers (.njRestart src false mv) s (fun t => ∃ u : State,
       t = u.log ⟨11, 4, 0, mv, none, none⟩ ∧ u.nj.vnjLost = false ∧ u.nj.wallSec = 0 ∧ u.nj.wallValid = false ∧ u.nj.log = s.nj.log ∧
       u.nj.reportLost = true ∧ u = { s with regs := u.regs, nj := u.nj } ∧
       RegsBut [F.NJD_STATUS_source, F.NJD_STATUS_power_lost, wordAt Reg.NJD_VBAT, F.NJD_TAMPER_STATUS_live, wordAt Reg.NJD_SEAL, wordAt Reg.NJD_SENSE,
         wordAt Reg.NJD_RTC_EFF, wordAt Reg.NJD_LOG_IDX, wordAt Reg.NJD_LOG_APP0, wordAt Reg.NJD_OVF_SEL, wordAt Reg.NJD_FAULT,
         F.NJD_STATUS_cfg_refused, F.NJD_STATUS_clr_refused] s u ∧ u.fld F.NJD_STATUS_power_lost = 1 ∧ u.fld F.NJD_STATUS_source = src)) ∧
     (s.nj.initialised = false → src < 4 → Answers (.njFirstStart src) s (fun t =>
       t = { s with regs := t.regs, nj := { s.nj with initialised := true, vnjLost := false } } ∧
       RegsBut [wordAt Reg.NJD_LOG_SEED, F.NJD_STATUS_source] s t ∧ t.word Reg.NJD_LOG_SEED = s.nj.seedFuse ∧ t.fld F.NJD_STATUS_source = src)) ∧
     (s.nj.vnjLost = false → s.nj.isolated = false → 
       (1900 ≤ mv → mv < 2300 → s.fld F.NJD_STATUS_vbat_low = 0 → Answers (.vbatMeasure mv) s (fun t => ∃ u : State,
         t = (u.log ⟨11, 1, 0, mv, none, none⟩).fault 0x0C01 (some Reg.NJD_FAULT) ∧ Sets [F.NJD_VBAT_mv, F.NJD_VBAT_valid, F.NJD_STATUS_vbat_low] s u ∧
         u.fld F.NJD_VBAT_mv = mv ∧ u.fld F.NJD_VBAT_valid = 1 ∧ u.fld F.NJD_STATUS_vbat_low = 1)) ∧
       (2300 ≤ mv → mv ≤ 2400 → Answers (.vbatMeasure mv) s (fun t => Sets [F.NJD_VBAT_mv, F.NJD_VBAT_valid] s t ∧ t.fld F.NJD_VBAT_mv = mv)) ∧
       (2400 < mv → mv < 4096 → s.fld F.NJD_STATUS_vbat_low = 1 → Answers (.vbatMeasure mv) s (fun t => ∃ u : State,
         t = u.log ⟨11, 3, 0, mv, none, none⟩ ∧ Sets [F.NJD_VBAT_mv, F.NJD_VBAT_valid, F.NJD_STATUS_vbat_low, F.NJD_STATUS_vbat_absent] s u ∧
         u.fld F.NJD_STATUS_vbat_low = 0 ∧ u.fld F.NJD_STATUS_vbat_absent = 0)))) ∧
  (∀ (s : State) (temp : Int) (ms : Nat), s.nj.vnjLost = false →
     (s.nj.oscStopped = false → s.nj.wallSub < 32768 → s.nj.wallSec < 2 ^ 32 →
       let acc := s.nj.rtcAcc + s.rtcCorr temp
       (-3052 < acc → acc < 3052 → Answers (.rtcSecond temp) s (fun t => t = { s with regs := t.regs, nj := { s.nj with
           rtcAcc := acc, wallSec := (s.nj.wallSec + 1) % 2 ^ 32 } } ∧ RegsBut [F.NJD_RTC_EFF_corr, F.NJD_RTC_EFF_temp] s t)) ∧
       (3052 ≤ acc → acc < 6104 → s.nj.wallSub < 32767 → Answers (.rtcSecond temp) s (fun t => t.nj = { s.nj with rtcAcc := acc - 3052, wallSec := (s.nj.wallSec + 1) % 2 ^ 32, wallSub := s.nj.wallSub + 1 } ∧ t.mem = s.mem)) ∧
       (-6104 < acc → acc ≤ -3052 → 1 ≤ s.nj.wallSub → Answers (.rtcSecond temp) s (fun t => t.nj = { s.nj with rtcAcc := acc + 3052, wallSec := (s.nj.wallSec + 1) % 2 ^ 32, wallSub := s.nj.wallSub - 1 } ∧ t.mem = s.mem))) ∧
     (s.nj.oscStopped = false → Answers .oscStop s (fun t => ∃ u : State, t = u.fault 0x0C03 (some Reg.NJD_FAULT) ∧
       u = { s with regs := u.regs, nj := { s.nj with oscStopped := true } } ∧ RegsBut [F.NJD_STATUS_osc_stop] s u ∧ u.fld F.NJD_STATUS_osc_stop = 1)) ∧
     (s.nj.oscStopped = true → Answers (.oscResume ms) s (fun t => t = State.log { s with nj := { s.nj with oscStopped := false } } ⟨1, 3, 0, ms, none, none⟩)))

/-- R122 to R124, R128: an event is written into the next slot of the log with its class, code, info, wall time and data, chained to the tag before
it; the program's two writes make an APP entry.
R117 to R119, R121: a Wren cycle with every source off but one, a latch cleared, and the seal scan, whose value is accepted when two scans
agree. -/
def Obligations.LogAndTamper : Prop :=
  (∀ (s : State) (c : Nat) (v : Word) (e : LogEvent),
     (s.nj.vnjLost = false → s.fld F.NJD_LOG_COUNT_main_full = 0 → s.nj.log.length < 4032 → s.nj.badCells = [] → e.cont = none → e.wall = none →
       e.cls ≠ 7 → e.info < 65536 →
       ∃ x, (s.log e).nj.log = s.nj.log ++ [x] ∧ x.cls = e.cls ∧ x.code = e.code ∧ x.info = e.info ∧ x.data = w32 e.data ∧ x.cont = false ∧
         x.bad = false ∧ x.wall = w32 s.nj.wallSec ∧ x.wtInv = (!s.nj.wallValid) ∧ x.tag = chainTag s.logHead x ∧
         (s.log e).word Reg.NJD_LOG_HEAD = x.tag ∧ (s.log e).fld F.NJD_LOG_COUNT_count = s.nj.log.length + 1) ∧
     (s.nj.vnjLost = true → s.log e = s) ∧
     (s.mayWrite (.core c) Reg.NJD_LOG_APP0 = true → c < 4 → (s.core c).task = false → Answers (.logApp0 (.core c) v) s (fun t =>
       t = { s with regs := t.regs, nj := { s.nj with app0 := true } } ∧ RegsBut [F.NJD_LOG_APP0_info, F.NJD_LOG_APP0_code] s t ∧
       t.fld F.NJD_LOG_APP0_info = v.toNat % 65536 ∧ t.fld F.NJD_LOG_APP0_code = v.toNat / 65536 % 256)) ∧
     (s.mayWrite (.core c) Reg.NJD_LOG_APP1 = true → c < 4 → (s.core c).task = false →
       (s.nj.app0 = false → Answers (.logApp1 (.core c) v) s (fun t => Sets [F.NJD_LOG_APP0_result] s t ∧ t.fld F.NJD_LOG_APP0_result = 2)) ∧
       (s.nj.app0 = true → Answers (.logApp1 (.core c) v) s (fun t => ∃ u : State,
         u = State.log { s with nj := { s.nj with app0 := false } } ⟨14, s.fld F.NJD_LOG_APP0_code, s.fld F.NJD_LOG_APP0_info, v.toNat, none, none⟩ ∧
         Sets [F.NJD_LOG_APP0_result] u t)))) ∧
  (∀ (s : State) (who : Init) (v : Word) (n tmp mag lux temp sw : Nat) (lp : Bool), s.nj.vnjLost = false →
     ((∀ m, m < 7 → s.wrenOn m = false) → Answers (.wrenCycle tmp mag lux temp) s (fun t => t = s)) ∧
     ((∀ m, m < 7 → m ≠ 4 → s.wrenOn m = false) → s.wrenOn 4 = true → s.nj.abnormal.length = 7 → s.nj.normal.length = 7 → mag < 256 →
       s.fldBit F.NJD_TAMPER_STATUS_live 4 = false → s.fld F.NJD_MAG_CFG_thr ≤ mag → s.fld F.NJD_WREN_CFG_assert_cnt ≤ min 15 (s.nj.abnormal.getD 4 0 + 1) →
       Answers (.wrenCycle tmp mag lux temp) s (fun t => t.fldBit F.NJD_TAMPER_STATUS_latch 4 = true ∧ t.fldBit F.NJD_TAMPER_STATUS_live 4 = true ∧
         t.fld F.NJD_STATUS_tamper_new = 1 ∧ t.mem = s.mem ∧ ∃ u : State, t.nj.log = (u.log ⟨2, 4, 1, mag, none, none⟩).nj.log ∧ u.nj.log = s.nj.log)) ∧
     (s.mayWrite who Reg.NJD_TAMPER_CLR = true → n < 8 → v.toNat % 256 = 2 ^ n →
       (s.tamperEn = true → s.fldBit F.NJD_TAMPER_STATUS_latch n = true → s.fldBit F.NJD_TAMPER_STATUS_live n = false →
         Answers (.tamperClear who v) s (fun t => ∃ u : State, t = u.log ⟨4, 2, 0, Reg.NJD_TAMPER_CLR, none, none⟩ ∧ u = { s with regs := u.regs } ∧
           u.fldBit F.NJD_TAMPER_STATUS_latch n = false ∧ ∀ m, m ≠ n → u.fldBit F.NJD_TAMPER_STATUS_latch m = s.fldBit F.NJD_TAMPER_STATUS_latch m)) ∧
       (s.tamperEn = true → s.fldBit F.NJD_TAMPER_STATUS_live n = true → Answers (.tamperClear who v) s (fun t =>
         Sets [F.NJD_STATUS_clr_refused] s t ∧ t.fld F.NJD_STATUS_clr_refused = 1)) ∧
       (s.tamperEn = false → Answers (.tamperClear who v) s (fun t => ∃ u : State, t = u.log ⟨4, 1, 0, Reg.NJD_TAMPER_CLR, none, none⟩ ∧
         Sets [F.NJD_STATUS_cfg_refused] s u ∧ u.fld F.NJD_STATUS_cfg_refused = 1))) ∧
     (s.nj.sealFallback = false → sw < 256 → s.saf.armed = false → s.metroEn = true ∨ sw / 2 % 2 = 0 →
       (s.nj.sealScanned = true → s.fld F.NJD_SEAL_raw = sw → s.is F.NJD_SEAL_loop_raw = lp → s.is F.NJD_SEAL_loop_ok = lp → s.fld F.NJD_SEAL_sw ≠ sw →
         Answers (.sealScan sw lp) s (fun t => t.fld F.NJD_SEAL_sw = sw ∧ t.fld F.NJD_STATUS_seal_change = 1 ∧ t.mem = s.mem ∧
           ∃ u : State, t.nj.log = (u.log ⟨3, 1, s.fld F.NJD_SEAL_sw * 256 + sw, 0, none, none⟩).nj.log ∧ u.nj.log = s.nj.log)) ∧
       (s.fld F.NJD_SEAL_raw ≠ sw → Answers (.sealScan sw lp) s (fun t => t.fld F.NJD_SEAL_sw = s.fld F.NJD_SEAL_sw ∧ t.fld F.NJD_SEAL_raw = sw ∧
         t.nj.sealScanned = true ∧ t.mem = s.mem))))

/-- R430 to R432, R442, R446, R449: the supply monitors and the life counters. -/
def Obligations.SuppliesAndLife : Prop :=
  ∀ (s : State) (f : Nat), s.dsk.off = false →
    (s.duskWarn = false → s.fld F.SYS_SUPPLY_vana_ok = 1 → Answers .vanaLow s (fun t => ∃ u : State, t = u.fault 0x0007 ∧
      Sets [F.SYS_SUPPLY_vana_ok, F.SYS_SUPPLY_vana_low] s u ∧ u.fld F.SYS_SUPPLY_vana_ok = 0 ∧ u.fld F.SYS_SUPPLY_vana_low = 1)) ∧
    Answers .vanaOk s (fun t => Sets [F.SYS_SUPPLY_vana_ok] s t ∧ t.fld F.SYS_SUPPLY_vana_ok = 1) ∧
    (s.fld F.SYS_SUPPLY_buck_limit = 0 → Answers .buckLimit s (fun t => ∃ u : State, t = u.fault 0x0008 ∧ Sets [F.SYS_SUPPLY_buck_limit] s u ∧
      u.fld F.SYS_SUPPLY_buck_limit = 1)) ∧
    (s.life.minuteFrom = some f → s.tmk.mtRun = true → f + 1500000000 ≤ s.tmk.mt → s.life.minutes.length = 9 → Answers .lifeMinute s (fun t =>
      t = { s with life := { s.life with minutes := t.life.minutes, peak := none, minuteFrom := some (f + 1500000000), unstored := s.life.unstored + 1 } } ∧
      t.life.minutes.getD 8 0 = min (s.life.minutes.getD 8 0 + 1) (2 ^ 32 - 1) ∧
      ∀ i, i < 8 → t.life.minutes.getD i 0 =
        (if s.life.peak.map lifeBin = some i then min (s.life.minutes.getD i 0 + 1) (2 ^ 32 - 1) else s.life.minutes.getD i 0))) ∧
    (s.life.unstored < 60 → Answers .lifeStore s (fun t => t = s)) ∧
    (60 ≤ s.life.unstored → s.life.copies.length = 2 → s.profileOver = false → s.rateOver = false →
      Answers .lifeStore s (fun t => t = { s with life := { s.life with copies := t.life.copies, unstored := 0 } } ∧
        (s.lifeCopy = none → t.life.copies.getD 0 none = some ⟨true, 1, s.life.minutes, s.life.writes⟩) ∧
        ∀ i c, s.lifeCopy = some (i, c) → i < 2 → t.life.copies.getD (1 - i) none = some ⟨true, c.seq + 1, s.life.minutes, s.life.writes⟩ ∧
          t.life.copies.getD i none = s.life.copies.getD i none))

/-- R151, R153 to R155: a block unit with a wrong header or CRC is counted; a Worker takes a manifest of the right format and a part's blocks, at
their place in the inactive slot; a verified manifest is staged or refused; a part and the whole image are verified by their digests. -/
def Obligations.UpdateStaging : Prop :=
  ∀ (s : State) (l : List Byte) (man : Manifest) (x : KvTicket) (i : Nat),
    let t (b : Bool) : State := (s.unitFront b).2
    let d := (l.drop 32).take 4096
    (∀ b, (s.unitFront b).1 = some l → unitOk l = false → Answers (if b then .manifestArrive else .updBlockArrive) s (fun w =>
      Sets [F.UPD_COUNT_crc_bad] (t b) w ∧ w.fld F.UPD_COUNT_crc_bad = min ((t b).fld F.UPD_COUNT_crc_bad + 1) 65535)) ∧
    ((s.unitFront true).1 = some l → unitOk l = true →
      ((t true).isManager = false → (t true).isWorker = true → (t true).updState ≠ 6 → (t true).updState ≠ 4 → (t true).update.man = none →
        formatOk d = true → Answers .manifestArrive s (fun w => w.update.man = some (manifestOf d) ∧ w.fld F.UPD_STATUS_state = 1 ∧
          w.word Reg.UPD_SET = w32 (manifestOf d).set ∧ w.mem = (t true).mem ∧ w.update.banks = (t true).update.banks)) ∧
      ((t true).isManager = true → (t true).updState ≠ 3 → (t true).updState ≠ 4 → (t true).update.checking = none → (t true).update.man = none →
        (t true).manBarred = false → formatOk d = false → Answers .manifestArrive s (fun w => w.fld F.UPD_RESULT_outcome = 2 ∧ w.fld F.UPD_RESULT_cause = 1 ∧
          w.fld F.UPD_FAULT_code = 0x0E01 ∧ w.update = (t true).update ∧ w.mem = (t true).mem))) ∧
    ((s.unitFront false).1 = some l → unitOk l = true → (t false).update.man = some man → u l 4 4 = man.set → u l 8 1 < man.parts.length →
      (t false).updState = 1 → (t false).isWorker = true → (t false).isManager = false →
      let n := u l 8 1
      let p := man.parts.getD n default
      let b := u l 10 2
      (t false).ownPart p = true → b < p.len / 4096 → b ∉ ((t false).stagedPart n).held → (p.off ≠ 0 ∨ b ≠ 0) → n < (t false).update.parts.length →
      Answers .updBlockArrive s (fun w => w.mem = Store.setBytes (t false).mem (slotBase (t false).spareSlot + p.off + 4096 * b) d ∧
        b ∈ (w.stagedPart n).held ∧ (∀ m, m ∈ ((t false).stagedPart n).held → m ∈ (w.stagedPart n).held) ∧ w.regs = (t false).regs ∧
        w.cpu = (t false).cpu ∧ ∀ m, m ≠ n → w.stagedPart m = (t false).stagedPart m)) ∧
    (s.kvJob .manifest = some x → s.update.checking = some man → (∀ m, s.kvJob (.retained m) = none) →
      (x.phase = 3 → coverageOk man = true → s.stageOk man = true → man.set < 2 ^ 32 → man.set ≠ s.fld F.DSK_ACTIVE_SET_active_set →
        Answers .manifestVerifyDone s (fun w => w.update.man = some man ∧ w.update.checking = none ∧ w.fld F.UPD_STATUS_state = 1 ∧
          w.fld F.UPD_RESULT_outcome = 1 ∧ w.word Reg.UPD_SET = w32 man.set)) ∧
      (x.phase = 4 → Answers .manifestVerifyDone s (fun w => w.update = { s.update with checking := none } ∧ w.fld F.UPD_RESULT_outcome = 2 ∧
        w.fld F.UPD_RESULT_cause = 4 ∧ w.fld F.UPD_FAULT_code = 0x0E04 ∧ w.mem = s.mem))) ∧
    (s.update.man = some man → s.isWorker = true → i < man.parts.length → i < s.update.parts.length → s.partComplete man i = true →
      (s.stagedPart i).verified = false → s.stages (man.parts.getD i default) = true →
      (Config.sha384 (s.partBytes man i) = (man.parts.getD i default).digest → Answers (.partDigestDone i) s (fun w =>
        (w.stagedPart i).verified = true ∧ (w.stagedPart i).held = (s.stagedPart i).held)) ∧
      (Config.sha384 (s.partBytes man i) ≠ (man.parts.getD i default).digest → Answers (.partDigestDone i) s (fun w =>
        w.stagedPart i = { bad := true } ∧ w.fld F.UPD_FAULT_code = 0x0E07))) ∧
    (s.update.man = some man → s.isWorker = true → s.isManager = false → s.updState = 1 → s.update.boot = none → s.ownVerified man = true →
      partsOf man s.ownMember ≠ [] → Answers .bootDigestDone s (fun w => w.fld F.UPD_STATUS_state = 2 ∧ w.mem = s.mem ∧
        w.update = { s.update with boot := some (Config.sha384 (s.readBytes (slotBase s.spareSlot) (imageEnd man s.ownMember))) }))

/-- R156 to R158: UPD_ACTIVATE and UPD_ABORT need their keys; an activation waits while a reason holds it; the flip of a post without Workers
activates the record; the time-outs of PREPARE and COMMIT. -/
def Obligations.UpdateActivation : Prop :=
  ∀ (s : State) (who : Init) (v : Word) (man : Manifest) (old : ActRec),
    (s.mayWrite who Reg.UPD_ACTIVATE = true →
      (v.toNat % 65536 ≠ 0xAC71 → Answers (.updActivate who v) s (fun t => t = s)) ∧
      (v.toNat % 65536 = 0xAC71 → s.isManager = true → s.update.man = some man →
        (s.updState = 2 → s.fld F.UPD_STATUS_restage = 0 → v.toNat / 65536 = man.set % 65536 → s.heldReasons = 0 → Answers (.updActivate who v) s (fun t =>
          t.fld F.UPD_STATUS_state = 3 ∧ t.update = s.update ∧ t.mem = s.mem ∧ t.fld F.UPD_RESULT_outcome = s.fld F.UPD_RESULT_outcome)) ∧
        (s.updState = 2 → s.fld F.UPD_STATUS_restage = 0 → v.toNat / 65536 = man.set % 65536 → s.bil.session.isSome = true → Answers (.updActivate who v) s (fun t =>
          t.fld F.UPD_STATUS_state = 3 ∧ t.fld F.UPD_RESULT_outcome = 4 ∧ t.update = s.update ∧ t.mem = s.mem)) ∧
        (s.updState ≠ 2 ∨ v.toNat / 65536 ≠ man.set % 65536 → Answers (.updActivate who v) s (fun t =>
          t.fld F.UPD_STATUS_state = s.fld F.UPD_STATUS_state ∧ t.fld F.UPD_RESULT_outcome = 5 ∧ t.update = s.update ∧ t.mem = s.mem)))) ∧
    (s.mayWrite who Reg.UPD_ABORT = true →
      (v.toNat % 65536 ≠ 0x5AB0 → Answers (.updAbort who v) s (fun t => t = s)) ∧
      (v.toNat % 65536 = 0x5AB0 → s.updState ≠ 3 → s.updState ≠ 4 → s.updState ≠ 6 → Answers (.updAbort who v) s (fun t =>
        t.update.man = none ∧ t.update.parts = [] ∧ t.update.banks = s.update.banks ∧ t.fld F.UPD_STATUS_state = 0 ∧ t.fld F.UPD_RESULT_outcome = 6 ∧
        t.mem = s.mem))) ∧
    (s.update.man = some man → s.isManager = true → s.updState = 3 →
      (s.updateHold = false → s.heldReasons ≠ 0 → Answers (.activationRelease true true) s (fun t => t = s)) ∧
      (s.updateHold = false → s.heldReasons = 0 → s.admittedList = [] → s.update.prepared = 0 → s.dawnDone = true → s.dsk.off = false →
        s.dsk.saving = none → s.bootRec = some old → s.update.banks = [some old, none] → old.seq + 1 < 2 ^ 32 → old.slot < 2 →
        Answers (.activationRelease true true) s (fun t => t.update.retained = some man ∧ t.update.banks.getD 0 none = some old ∧
          ∃ r, t.bootRec = some r ∧ r.set = man.set ∧ r.slot = 1 - old.slot ∧ r.seq = old.seq + 1))) ∧
    (s.update.man = some man → s.isManager = true → s.updState = 3 → s.updateHold = true → s.update.waitPrep ≠ 0 → s.update.prepared = 0 →
      s.update.sentAt + 5000000 ≤ s.tmk.mt → Answers .prepareTimeout s (fun t => t.fld F.UPD_RESULT_outcome = 6 ∧ t.fld F.UPD_RESULT_cause = 0x0B ∧
        t.fld F.UPD_FAULT_code = 0x0E0B ∧ t.fld F.UPD_STATUS_hold_on = 0 ∧ t.update.waitPrep = 0 ∧ t.mem = s.mem ∧
        (t.fld F.UPD_STATUS_state = 1 ∨ t.fld F.UPD_STATUS_state = 2))) ∧
    (s.isManager = true → s.updState = 4 → s.update.waitCommit ≠ 0 → s.update.sentAt + 5000000 ≤ s.tmk.mt → Answers .commitTimeout s (fun t =>
      ∃ w : State, t = w.resetRequest 4 ∧ w = { s with update := { s.update with awaiting := s.update.awaiting ||| s.update.waitCommit, waitCommit := 0 } }))

/-- R154, R155, R158, R160 to R162, Table UPD-5: each control message of an update, taken from the engine's queue and sent by the node that may send
it, acts as its row says. -/
def Obligations.UpdateMessages : Prop :=
  ∀ (s : State) (l : List Byte) (f : MsgFrom) (man : Manifest) (m : Nat),
    let r := s.peekFrom 0x0021
    let t := (r.2.takeFrom 0x0021).2
    r.1 = some (l, some f) →
    (s.isWorker = true → t.isWorker = true → t.fld F.STF_STATUS_has_owner = 1 → f.src = t.fld F.STF_MGR_owner →
      (u l 0 1 = 1 → t.update.man = some man → u l 4 4 = man.set → t.updState = 2 → t.isManager = false →
        Answers (.prepare true) s (fun w => w.fld F.UPD_STATUS_hold_on = 1 ∧ w.fld F.UPD_STATUS_state = 6) ∧
        Answers (.prepare false) s (fun w => w.fld F.UPD_STATUS_hold_on = 0 ∧ w.fld F.UPD_STATUS_state = 2 ∧ w.fld F.UPD_FAULT_code = 0x0E0D)) ∧
      (u l 0 1 = 3 → ∀ p, t.prepRec = some p → u l 4 4 = p.set →
        Answers (.commit true) s (fun w => w.fld F.UPD_STATUS_state = 4) ∧
        Answers (.commit false) s (fun w => ∃ v : State, w = v.hardReset 1 ∧ v = t.fault 0x0E0D (some Reg.UPD_FAULT))) ∧
      (u l 0 1 = 5 → t.updState = 6 → t.prepRec = none → Answers .discard s (fun w => w.fld F.UPD_STATUS_hold_on = 0 ∧ w.fld F.UPD_STATUS_state = 2 ∧
        w.update = t.update ∧ w.mem = t.mem))) ∧
    (s.isManager = true → t.isManager = true → t.isWorker = false → t.samePost f.src = true → f.src % 16 = m → u l 1 1 = m → m ≠ 0 → m < 16 →
      (u l 0 1 = 2 → t.lateOf m = none → t.updState = 3 → t.update.waitPrep.testBit m = true → t.update.waitPrep ≠ 2 ^ m →
        Answers (.prepared true true) s (fun w => w = { t with update := { t.update with waitPrep := t.update.waitPrep - 2 ^ m, prepared := t.update.prepared + 2 ^ m } })) ∧
      (u l 0 1 = 4 → t.lateOf m = none → t.updState = 4 → t.update.waitCommit.testBit m = true → t.update.waitCommit ≠ 2 ^ m →
        Answers .committed s (fun w => w = (State.stfCommand { t with update := { t.update with waitCommit := t.update.waitCommit - 2 ^ m } } m 3))) ∧
      (u l 0 1 = 6 → t.lateOf m = none → t.update.late.find? (fun p => p.1 = m) = none → t.update.man = some man → u l 4 4 = man.set → t.updState ≠ 1 →
        t.update.ready.length = 16 → Answers .partOk s (fun w => w = { t with update := { t.update with ready := w.update.ready } } ∧
          w.update.ready.getD m 0 = t.update.ready.getD m 0 ||| u l 8 4 ∧ ∀ n, n ≠ m → w.update.ready.getD n 0 = t.update.ready.getD n 0)) ∧
      (u l 0 1 = 7 → t.update.late.find? (fun p => p.1 = m) = none → t.update.man = some man → u l 4 4 = man.set → t.update.ready.length = 16 →
        Answers .partBad s (fun w => w.update.ready.getD m 0 = t.update.ready.getD m 0 &&& (2 ^ 32 - 1 - u l 8 4) ∧ w.update.man = some man ∧
          ∀ n, n ≠ m → w.update.ready.getD n 0 = t.update.ready.getD n 0)) ∧
      (u l 0 1 = 8 → t.update.man = some man → u l 4 4 = man.set → t.updState = 1 ∨ t.updState = 2 → Answers .imageBad s (fun w =>
        w.fld F.UPD_STATUS_state = 5 ∧ w.fld F.UPD_RESULT_outcome = 2 ∧ w.fld F.UPD_RESULT_cause = u l 2 2 % 256 ∧ w.update = t.update ∧ w.mem = t.mem)))

/-- R170 to R173, R178, R184: a frame that is ignored. A reserved lane code or a field that breaks R170 counts as a format error, a wrong CRC as a CRC error,
the sixteenth of these in a row raises HSP_CRC_BURST; a repeat, and under seq_strict any value out of sequence, counts as a sequence error; a write frame
while both buffers apply counts as busy. Of none of them anything else happens. A frame ended by select release before its request CRC was complete commits
nothing and is flagged.
R173 to R180: a frame in sequence is accepted and, where it reads, answered: STATUS with no units; REG_READ of one word with the word as a read of
that register shows it, with 0 for a refused word, and with no valid unit while a write frame is still to be applied; REG_WRITE goes into a write buffer.
Outside seq_strict a frame out of sequence is executed, with the sequence error counted. -/
def Obligations.HostFrames : Prop :=
  (∀ (s : State) (f : HostFrame) (i : Instr) (k : Nat), s.hspOn = true → Carries i f → f.units.length = (if f.writes then f.count else 0) →
     let format := f.alanes = 3 ∨ f.dlanes = 3 ∨ (f.crc = f.goodCrc ∧ f.malformed = true)
     let other := if s.hsp.burst = 16 then 16 else 0
     (format → s.hsp.burst < 15 → Answers i s (fun t => Ignored [F.HSP_CNT_BAD_format] (s.hsp.burst + 1) s.hsp.seq f s t ∧
       t.fld F.HSP_CNT_BAD_format = min (s.fld F.HSP_CNT_BAD_format + 1) 65535)) ∧
     (f.alanes < 3 → f.dlanes < 3 → f.crc ≠ f.goodCrc → s.hsp.burst < 15 → Answers i s (fun t =>
       Ignored [F.HSP_CNT_BAD_crc] (s.hsp.burst + 1) s.hsp.seq f s t ∧ t.fld F.HSP_CNT_BAD_crc = min (s.fld F.HSP_CNT_BAD_crc + 1) 65535)) ∧
     (f.alanes < 3 → f.dlanes < 3 → f.crc ≠ f.goodCrc → s.hsp.burst = 15 → Answers i s (fun t => ∃ u : State,
       t = u.fault 0x0202 (some Reg.HSP_FAULT) ∧ Ignored [F.HSP_CNT_BAD_crc] 16 s.hsp.seq f s u)) ∧
     (GoodFrame f f.op → s.hsp.restart = false →
       (s.aliveGap f = 0 ∨ (1 + s.hsp.ignored < s.aliveGap f ∧ s.fld F.HSP_CTRL_seq_strict = 1) →
         Answers i s (fun t => Ignored [F.HSP_STATUS_seq, F.HSP_CNT_MISC_seq] other true f s t ∧
           t.fld F.HSP_CNT_MISC_seq = min (s.fld F.HSP_CNT_MISC_seq + 1) 255 ∧ t.fld F.HSP_STATUS_seq = 1))) ∧
     (GoodFrame f 2 → s.inHold = false → s.inSeq f → 2 ≤ s.hsp.writes.length → Answers i s (fun t =>
       Ignored [F.HSP_STATUS_busy, F.HSP_CNT_MISC_busy] other s.hsp.seq f s t ∧
       t.fld F.HSP_CNT_MISC_busy = min (s.fld F.HSP_CNT_MISC_busy + 1) 255 ∧ t.fld F.HSP_STATUS_busy = 1)) ∧
     Answers (.selectRelease f (.request k)) s (fun t =>
       t = { s with regs := t.regs, hsp := { s.hsp with trunc := true, truncUnits := (if f.writes then min k f.count else 0) % 256 } } ∧
       RegsBut [F.HSP_STATUS_mode3, F.HSP_STATUS_trunc, F.HSP_CNT_MISC_trunc] s t ∧ t.fld F.HSP_STATUS_trunc = 1 ∧
       t.fld F.HSP_CNT_MISC_trunc = min (s.fld F.HSP_CNT_MISC_trunc + 1) 255)) ∧
  (∀ (s : State) (f : HostFrame) (ready : Nat), s.hspOn = true → s.hsp.wrAlive < 16 → s.hsp.truncUnits < 256 →
     (GoodFrame f 5 → s.inSeq f → Answers (.status f) s (fun t => ∃ u, Heard f s u ∧ Replied f u t [] 0)) ∧
     (GoodFrame f 5 → s.hsp.restart = false → 1 + s.hsp.ignored < s.aliveGap f → s.fld F.HSP_CTRL_seq_strict = 0 → Answers (.status f) s (fun t => ∃ v u,
       v = { s with regs := v.regs, hsp := { s.hsp with seq := true } } ∧ RegsBut [F.HSP_STATUS_seq, F.HSP_CNT_MISC_seq] s v ∧ v.fld F.HSP_STATUS_seq = 1 ∧
       v.fld F.HSP_CNT_MISC_seq = min (s.fld F.HSP_CNT_MISC_seq + 1) 255 ∧ Heard f v u ∧ Replied f u t [] 0)) ∧
     (GoodFrame f 1 → s.inSeq f → s.inHold = false → f.count = 1 →
       (s.hsp.writes = [] → f.bits = 32 → f.addr % 4 = 0 → 0x40000000 ≤ f.addr → f.addr < 0x40012000 → 1 ≤ ready →
         f.addr ∉ [Reg.TMK_MT_LO, Reg.TMK_WALL_SEC, Reg.QE_EVT, Reg.SYS_SUPPLY] → f.addr < Reg.CPU_MBOX0 ∨ Reg.CPU_MBOX4 < f.addr →
         Answers (.regRead f ready) s (fun t => ∃ u, Heard f s u ∧ Replied f u t [(u.regView .host f.addr).toNat] 1)) ∧
       (s.hsp.writes = [] → f.bits ≠ 32 ∨ f.addr % 4 ≠ 0 ∨ (f.addr < 0x40000000 ∨ 0x40012000 ≤ f.addr) ∧ f.addr < 2 ^ 32 → 1 ≤ ready →
         Answers (.regRead f ready) s (fun t => ∃ u v, Heard f s u ∧ Sets [F.HSP_STATUS_reg_err, F.HSP_CNT_MISC_reg_err] u v ∧
           v.fld F.HSP_CNT_MISC_reg_err = min (u.fld F.HSP_CNT_MISC_reg_err + 1) 255 ∧ v.fld F.HSP_STATUS_reg_err = 1 ∧ Replied f v t [0] 1)) ∧
       (s.hsp.writes ≠ [] → Answers (.regRead f ready) s (fun t => ∃ u, Heard f s u ∧ Replied f u t [0] 0))) ∧
     (GoodFrame f 2 → s.inSeq f → s.inHold = false → s.hsp.writes.length < 2 → Answers (.regWrite f) s (fun t => ∃ u, Heard f s u ∧
       t = { u with hsp := { u.hsp with wrAlive := f.alive, wrOk := false, wrErr := false, writes := t.hsp.writes } } ∧
       t.hsp.writes = s.hsp.writes ++ [{ addr := f.addr, bits := f.bits, words := f.units.map w32 }])) ∧
     (GoodFrame f 2 → s.inSeq f → s.inHold = true → Answers (.regWrite f) s (fun t => ∃ u v, Heard f s u ∧ Sets [F.HSP_STATUS_wr_ign] u v ∧
       v.fld F.HSP_STATUS_wr_ign = 1 ∧ t = { v with hsp := { u.hsp with wrAlive := f.alive, wrOk := false, wrErr := true } })))

/-- R176, R178, R186, R451: the words of a write buffer applied in order: a refused word is counted and accessed nowhere, and the frame's last word decides
wr_ok or wr_err; and the host-alive time-out, with its fault, its event and a restarted alive sequence.
R181 to R183: the streams. An STR_WRITE appends its units' bits to its inbound stream; the port pushes an entry when it is whole; whole entries move
from a bound queue into an outbound stream as they fit; an STR_READ first discards, with commit, what the previous one delivered, then delivers units from the
oldest bit. -/
def Obligations.HostWritesAndStreams : Prop :=
  (∀ (s : State) (w : HspWrite) (v : Word) (vs : List Word) (rest : List HspWrite),
     (s.hspOn = true → s.hsp.writes = w :: rest → w.words = v :: vs →
       (w.bits ≠ 32 ∨ w.addr % 4 ≠ 0 → vs ≠ [] → Answers (.writeBufferApply 1) s (fun t => 
         t = { s with regs := t.regs, hsp := { s.hsp with writes := { w with addr := (w.addr + 4) % 2 ^ 32, words := vs, err := true } :: rest } } ∧
         RegsBut [F.HSP_STATUS_reg_err, F.HSP_CNT_MISC_reg_err] s t ∧ t.fld F.HSP_CNT_MISC_reg_err = min (s.fld F.HSP_CNT_MISC_reg_err + 1) 255)) ∧
       (w.bits ≠ 32 ∨ w.addr % 4 ≠ 0 → vs = [] → rest = [] → s.hsp.wrOk = false → Answers (.writeBufferApply 1) s (fun t =>
         t = { s with regs := t.regs, hsp := { s.hsp with writes := [], wrOk := false, wrErr := true } } ∧
         RegsBut [F.HSP_STATUS_reg_err, F.HSP_CNT_MISC_reg_err] s t ∧ t.fld F.HSP_CNT_MISC_reg_err = min (s.fld F.HSP_CNT_MISC_reg_err + 1) 255)) ∧
       (w.bits = 32 → w.addr = 0x40002008 → vs = [] → rest = [] → s.hsp.wrOk = false → 2 ≤ v.toNat % 32 → 10 ≤ v.toNat / 65536 →
         Answers (.writeBufferApply 1) s (fun t => t = { s with regs := t.regs, hsp := { s.hsp with writes := [], wrOk := !w.err, wrErr := w.err } } ∧
           RegsBut [F.HSP_CFG_dummy, F.HSP_CFG_alive_to] s t ∧ t.fld F.HSP_CFG_dummy = v.toNat % 32 ∧ t.fld F.HSP_CFG_alive_to = v.toNat / 65536)) ∧
       (w.bits = 32 → w.addr = Reg.HSP_CTRL → vs = [] → rest = [] → s.hsp.wrOk = false → (w32 (s.fld F.HSP_CTRL_seq_strict)).getLsbD 0 ≠ v.getLsbD 0 →
         Answers (.writeBufferApply 1) s (fun t => t = { s with regs := t.regs, hsp := { s.hsp with writes := [], wrOk := false, wrErr := true } } ∧
           RegsBut [F.HSP_STATUS_wr_ign] s t ∧ t.fld F.HSP_STATUS_wr_ign = 1))) ∧
     (s.fld F.SYS_POST_STATUS_host_alive = 1 → 25000 * s.fld F.HSP_CFG_alive_to ≤ s.tmk.mt - s.hsp.heardAt → s.qe.openResv = [] →
       Answers .hostAliveTimeout s (fun t => ∃ u x : State, Sets [F.SYS_POST_STATUS_host_alive] s u ∧ u.fld F.SYS_POST_STATUS_host_alive = 0 ∧
         x = (u.fault 0x0201 (some Reg.HSP_FAULT)).deliver 15 [0, 1, 2, 3] ∧ t = { x with hsp := { x.hsp with restart := true, ignored := 0 } }))) ∧
  (∀ (s : State) (f : HostFrame) (n : Nat),
     (s.hspOn = true → s.inHold = false → s.inSeq f → s.hsp.wrAlive < 16 → s.hsp.truncUnits < 256 →
       (GoodFrame f 4 → s.hsp.ins.length = 4 → s.is (F.HSP_ISTRn_CFG_en (f.addr % 16)) = true →
         (s.hsp.ins.getD (f.addr % 16) []).length + f.count * f.bits ≤ 8192 → Answers (.strWrite f) s (fun t => ∃ u, Heard f s u ∧
           t = { u with hsp := { u.hsp with ins := t.hsp.ins, wrAlive := f.alive, wrOk := true, wrErr := false } } ∧
           t.hsp.ins.getD (f.addr % 16) [] = s.hsp.ins.getD (f.addr % 16) [] ++ f.unitBits ∧
           ∀ m, m ≠ f.addr % 16 → t.hsp.ins.getD m [] = s.hsp.ins.getD m [])) ∧
       (GoodFrame f 3 → s.hsp.outs.length = 8 →
         let o := s.hsp.outs.getD (f.addr % 16) {}
         let p := o.pos + (if f.addr / 256 % 2 = 1 then o.delivered else 0)
         let buf := if f.addr / 256 % 2 = 1 then o.buf.drop (p / 8) else o.buf
         let pos := if f.addr / 256 % 2 = 1 then p % 8 else o.pos
         let valid := min f.count ((8 * buf.length - pos) / f.bits)
         Answers (.strRead f) s (fun t => ∃ (u v w : State) (units : List Nat), Heard f s u ∧ v = { u with hsp := { u.hsp with outs := v.hsp.outs } } ∧
           Replied f v w units valid ∧ t = { w with hsp := { w.hsp with outs := t.hsp.outs } } ∧ units.length = f.count ∧
           (∀ k, k < valid → units[k]? = some (leNat buf / 2 ^ (pos + k * f.bits) % 2 ^ f.bits)) ∧ (∀ k, valid ≤ k → k < f.count → units[k]? = some 0) ∧
           t.hsp.outs.getD (f.addr % 16) {} = { buf := buf, pos := pos, delivered := valid * f.bits } ∧
           ∀ m, m ≠ f.addr % 16 → t.hsp.outs.getD m {} = s.hsp.outs.getD m {}))) ∧
     (let q := s.fld (F.HSP_OSTRn_CFG_queue n)
       let u := (s.qReady q).2
       let d := u.qDesc q
       let k := min d.held ((1024 - (u.hsp.outs.getD n {}).buf.length) / d.esize)
       n < 8 → s.hsp.outs.length = 8 → s.is (F.HSP_OSTRn_CFG_en n) = true → s.dawnDone = true → (s.qReady q).1 = .done →
       Answers (.ostrFill n) s (fun t => t.mem = u.mem ∧ t.regs = u.regs ∧ t.qDesc q = { d with cons := d.cons + w32 k } ∧
         (∀ p, p ≠ q → t.qDesc p = u.qDesc p) ∧
         t.hsp.outs.getD n {} = { u.hsp.outs.getD n {} with buf := (u.hsp.outs.getD n {}).buf ++ u.qFront q k } ∧
         ∀ m, m ≠ n → t.hsp.outs.getD m {} = u.hsp.outs.getD m {})) ∧
     (let q := s.fld (F.HSP_ISTRn_CFG_queue n)
       let u := (s.qReady q).2
       let d := u.qDesc q
       n < 4 → s.hsp.ins.length = 4 → s.is (F.HSP_ISTRn_CFG_en n) = true → s.dawnDone = true → (s.qReady q).1 = .done → d.prodDirect = false → d.span = 1 →
       1 ≤ d.free → u.resvOf q = none → 8 * d.esize ≤ (s.hsp.ins.getD n []).length → (s.hsp.ins.getD n []).length < 16 * d.esize →
       Answers (.istrPush n) s (fun t => t.hsp.ins.getD n [] = (s.hsp.ins.getD n []).drop (8 * d.esize) ∧
         t.qDesc q = { d with resv := d.resv + 1, prod := d.resv + 1 } ∧ t.resvOf q = none ∧
         (∀ j, j < d.esize → Store.get t.mem (d.addr d.resv j) = (bitsBytes d.esize (s.hsp.ins.getD n [])).getD j 0) ∧
         ∀ x, (∀ j, j < d.esize → x ≠ d.addr d.resv j) → Store.get t.mem x = Store.get u.mem x)))

/-- R5, R48, R52, R185, R451, R456, Table HSP-9: a register write acts on the fields its access codes allow: HSP_CFG takes a value in range, a W1C flag is
cleared by a 1, HSP_ATTN_SET sets program causes; a write by an initiator that may not make it changes nothing. -/
def Obligations.RegisterWrites : Prop :=
  ∀ (s : State) (who : Init) (c a : Nat) (v : Word),
    (who = .host ∨ s.mayWrite who Reg.HSP_CFG = true → Answers (.registerWrite who Reg.HSP_CFG v) s (fun t =>
      Sets [F.HSP_CFG_dummy, F.HSP_CFG_alive_to] s t ∧
      t.fld F.HSP_CFG_dummy = (if 2 ≤ v.toNat % 32 then v.toNat % 32 else s.fld F.HSP_CFG_dummy) ∧
      t.fld F.HSP_CFG_alive_to = (if 10 ≤ v.toNat / 65536 then v.toNat / 65536 else s.fld F.HSP_CFG_alive_to))) ∧
    (s.mayWrite (.core c) Reg.HSP_STATUS = true → Answers (.registerWrite (.core c) Reg.HSP_STATUS v) s (fun t =>
      t = { s with regs := t.regs } ∧ (∀ x, x ≠ Reg.HSP_STATUS → t.word x = s.word x) ∧
      ∀ n, n < 32 → (t.word Reg.HSP_STATUS).getLsbD n =
        ((s.word Reg.HSP_STATUS).getLsbD n && !(decide (1 ≤ n) && decide (n ≤ 6) && v.getLsbD n)))) ∧
    (s.mayWrite (.core c) Reg.NJD_WREN_CFG = true → s.tamperEn = true → s.fld F.NJD_TAMPER_STATUS_live = 0 → s.fld F.NJD_WREN_CFG_assert_cnt = 4 → v.toNat % 16 = s.fld F.NJD_WREN_CFG_period_pwr →
      v.toNat / 16 % 16 = 5 → v.toNat / 256 % 16 = s.fld F.NJD_WREN_CFG_clear_cnt → Answers (.registerWrite (.core c) Reg.NJD_WREN_CFG v) s (fun t => ∃ u : State,
        t = u.log ⟨4, 2, 0, Reg.NJD_WREN_CFG, none, none⟩ ∧ Sets [F.NJD_WREN_CFG_assert_cnt] s u ∧ u.fld F.NJD_WREN_CFG_assert_cnt = 5)) ∧
    (s.mayWrite (.core c) Reg.NJD_WREN_CFG = true → s.tamperEn = false → s.fld F.NJD_TAMPER_STATUS_live = 0 → s.fld F.NJD_WREN_CFG_assert_cnt = 4 → v.toNat / 16 % 16 = 5 →
      Answers (.registerWrite (.core c) Reg.NJD_WREN_CFG v) s (fun t => ∃ u : State, u = s.log ⟨4, 1, 0, Reg.NJD_WREN_CFG, none, none⟩ ∧
        Sets [F.NJD_STATUS_cfg_refused] u t ∧ t.fld F.NJD_STATUS_cfg_refused = 1)) ∧
    ((colsOf a).any hostCol = false → Answers (.registerWrite .host a v) s (fun t => t = s)) ∧
    (s.mayWrite who a = false → who ≠ .host → Answers (.registerWrite who a v) s (fun t => t = s)) ∧
    (s.mayWrite (.core c) Reg.HSP_ATTN_SET = true → Answers (.hspAttnSet (.core c) v) s (fun t => Sets [F.HSP_ATTN_sw] s t ∧
      ∀ n, n < 8 → t.fldBit F.HSP_ATTN_sw n = (s.fldBit F.HSP_ATTN_sw n || v.getLsbD (16 + n)))) ∧
    (s.mayWrite who Reg.HSP_ATTN_SET = false → Answers (.hspAttnSet who v) s (fun t => t = s))

/-- R218 to R223: training goes through the steps of Table STF-2, each step that exceeds its bound falls back, an UP port that goes DOWN starts again with
its frames lost, symbol errors are counted, credits are kept, and the frame that starts next is lane S's before lane B's. -/
def Obligations.StarlingLinks : Prop :=
  ∀ (s : State) (p role rate n : Nat) (b : Bool) (who : Init) (v : Word) (w : Waiting) (rest : List Waiting), p < 4 → s.stf.ports.length = 4 →
    let k := s.sport p
    let st := F.STF_PORTn_STATUS_state p
    let mt := s.tmk.mt
    let ready := 1 ≤ s.fld (F.STF_PORTn_CFG_en p) ∧ (s.dawnDone = true ∨ s.inHold = true)
    (s.isWorker = true → (∀ q, q < 4 → s.fld (F.STF_PORTn_STATUS_state q) ≠ 3) → Answers .presentAssert s (fun t =>
      t = { s with regs := t.regs, stf := { s.stf with present := true, leaving := false, ports := t.stf.ports } } ∧ (t.sport p).step = 1 ∧
      (t.sport p).since = mt ∧ (ready → t.fld st = 1) ∧ (¬ ready → t.fld st = 0))) ∧
    (s.mayTrain p = true → s.fld st ≠ 3 →
      (k.step = 1 → Answers (.trainAligned p) s (fun t =>
        OnlyPort [st] p s t { k with step := 2, since := mt, peerFrom := some (k.peerFrom.getD mt) } ∧ t.fld st = 2)) ∧
      (k.step = 2 → role < 4 →
        let site := s.isManager && decide (role = 1)
        let ok := b && s.is (if site then F.STF_PORTn_CFG_site_ok p else F.STF_PORTn_CFG_post_ok p)
        Answers (.trainWordsExchanged p role rate b) s (fun t => OnlyPort [F.STF_PORTn_STATUS_peer_role p, F.STF_PORTn_STATUS_kind p] p s t
          { k with step := 3, since := mt, peerRate := rate, barred := if ok then none else some mt } ∧ t.fld (F.STF_PORTn_STATUS_peer_role p) = role ∧
          t.is (F.STF_PORTn_STATUS_kind p) = site)) ∧
      (k.step = 3 → k.barred = none → Answers (.trainAcked p) s (fun t => OnlyPort [F.STF_PORTn_STATUS_rate p] p s t { k with step := 4, since := mt } ∧
        t.fld (F.STF_PORTn_STATUS_rate p) = min (s.fld (F.STF_PORTn_CFG_max_rate p)) k.peerRate)) ∧
      (k.step = 4 →
        let low := s.fld (F.STF_PORTn_STATUS_rate p) < s.fld (F.STF_PORTn_CFG_max_rate p) ∧ s.fld (F.STF_PORTn_STATUS_rate p) < k.peerRate
        Answers (.linkUp p) s (fun t => ∃ u : State, (low → t = u.fault 0x0504 (some Reg.STF_FAULT)) ∧ (¬ low → t = u) ∧
          OnlyPort [st, F.STF_STATUS_site_link, F.SYS_POST_STATUS_site_link] p s u (u.sport p) ∧
          u.sport p = { k with step := 5, since := mt, waitS := [], waitB := [], creditB := 0, creditS := 0, usedB := 0, usedS := 0, freedB := 64, freedS := 16, sentB := 64, sentS := 16, rcvdB := 0, rcvdS := 0, out := none, symErrs := [], greeted := false } ∧
          u.fld st = 3 ∧ (s.isManager = true → s.is (F.STF_PORTn_STATUS_kind p) = true → u.fld F.STF_STATUS_site_link = 1 ∧
            u.fld F.SYS_POST_STATUS_site_link = 1))) ∧
      (1 ≤ k.step → k.step ≤ 3 → k.barred = none → k.since + 50000 ≤ mt → Answers (.trainStepTimeout p) s (fun t =>
        OnlyPort [st] p s t { k with step := 1, since := mt } ∧ t.fld st = 1)) ∧
      (k.step = 4 → k.since + 25000 ≤ mt → 1 ≤ s.fld (F.STF_PORTn_STATUS_rate p) → Answers (.trainStepTimeout p) s (fun t =>
        OnlyPort [st, F.STF_PORTn_STATUS_rate p] p s t { k with step := 4, since := mt } ∧ t.fld st = 2 ∧
        t.fld (F.STF_PORTn_STATUS_rate p) = s.fld (F.STF_PORTn_STATUS_rate p) - 1)) ∧
      (k.step = 3 → k.barred = some n → n + 25000000 ≤ mt → Answers (.trainRetry p) s (fun t => OnlyPort [st, F.STF_PORTn_STATUS_rate p] p s t
        { k with step := 1, since := mt, peerFrom := none, failed := false, barred := none, peerRate := 0, symErrs := [], greeted := false } ∧
        t.fld st = 1 ∧ t.fld (F.STF_PORTn_STATUS_rate p) = 0)) ∧
      (1 ≤ k.step → k.peerFrom = some n → k.failed = false → n + 500000 ≤ mt → Answers (.trainFail p) s (fun t => ∃ u : State,
        t = u.fault 0x0502 (some Reg.STF_FAULT) ∧ OnlyPort [] p s u { k with failed := true }))) ∧
    (s.fld st = 3 → k.waitS = [] → k.waitB = [] → s.qe.openResv = [] → s.fld (F.STF_PORTn_NBR_valid p) = 0 →
      Answers (.disconnect p) s (fun t => t.mem = s.mem ∧ (∀ o, o ≠ p → t.sport o = s.sport o) ∧ t.fld st = (if s.mayTrain p then 1 else 0) ∧
        t.fld (F.STF_PORTn_STATUS_downs p) = min (s.fld (F.STF_PORTn_STATUS_downs p) + 1) 255 ∧ t.fld F.STF_FAULT_code = 0x0501 ∧ t.fld F.STF_FAULT_valid = 1 ∧
        t.sport p = { k with step := 1, since := mt, peerFrom := none, failed := false, barred := none, peerRate := 0, symErrs := [], greeted := false, out := none, downLog := (t.sport p).downLog }) ∧
      (s.mayTrain p = true → s.mayWrite who (Reg.STF_PORT0_CFG + 4 * p) = true → v.getLsbD 2 = true → v.getLsbD 6 = true →
        Answers (.retrain who p v) s (fun t => t.mem = s.mem ∧ (∀ o, o ≠ p → t.sport o = s.sport o) ∧ t.fld st = 1 ∧ (t.sport p).step = 1 ∧
          t.fld (F.STF_PORTn_CFG_max_rate p) = v.toNat % 4))) ∧
    (let errs := mt :: k.symErrs.filter (fun t => decide (mt < t + 25000))
     (s.fld st ≠ 3 → Answers (.symbolError p b n) s (fun t => OnlyPort [F.STF_PORTn_ERR_symbol p] p s t { k with symErrs := errs } ∧
        t.fld (F.STF_PORTn_ERR_symbol p) = min (s.fld (F.STF_PORTn_ERR_symbol p) + 1) 255)) ∧
      (s.fld st = 3 → errs.length < 4 → Answers (.symbolError p true n) s (fun t => OnlyPort [F.STF_PORTn_ERR_symbol p] p s t
        { k with symErrs := errs, rcvdS := (k.rcvdS + n) % 256, freedS := (k.freedS + n) % 256, sentS := (k.freedS + n) % 256 }))) ∧
    (s.fld st = 3 →
      Answers (.creditUpdate p b n) s (fun t => OnlyPort [] p s t (if b then { k with creditS := n } else { k with creditB := n })) ∧
      Answers (.creditRefresh p) s (fun t => OnlyPort [] p s t { k with sentB := k.freedB, sentS := k.freedS }) ∧
      (k.waitS = [] → k.waitB = [] → Answers (.frameSend p) s (fun t => t = s)) ∧
      (k.waitS = w :: rest → w.from_ = none → w.frame.laneS = true → w.frame.units ≤ (k.creditS + 256 - k.usedS) % 256 →
        Answers (.frameSend p) s (fun t => OnlyPort [F.STF_CNT_FRAMES_tx] p s t { k with waitS := rest, usedS := (k.usedS + w.frame.units) % 256, out := some w.frame } ∧
          t.fld F.STF_CNT_FRAMES_tx = min (s.fld F.STF_CNT_FRAMES_tx + 1) 65535)) ∧
      (k.waitS = [] → k.waitB = w :: rest → w.from_ = none → w.frame.laneS = false → w.frame.units ≤ (k.creditB + 256 - k.usedB) % 256 →
        Answers (.frameSend p) s (fun t => OnlyPort [F.STF_CNT_FRAMES_tx] p s t { k with waitB := rest, usedB := (k.usedB + w.frame.units) % 256, out := some w.frame } ∧
          t.fld F.STF_CNT_FRAMES_tx = min (s.fld F.STF_CNT_FRAMES_tx + 1) 65535)))

/-- R195, R199, R226 to R236: what an arriving frame does. A source-routed frame goes on by its next element with its hop counted, or is dropped; a message
for this node enters its queue; an answer ends its message or sends it again; a HELLO's neighbour is stored; PROBE and ASSIGN_POST are answered and obeyed; and
the time-outs of these. -/
def Obligations.StarlingFrames : Prop :=
  ∀ (s : State) (p o oc q seq : Nat) (f : Frame) (l : List Byte) (m : TxMsg) (who : Init) (v : Word), 
    let mt := s.tmk.mt
    (s.takesFrame p f → f.rp < f.route.length → o = f.route.getD f.rp 0 →
      (s.fld (F.STF_PORTn_STATUS_state o) = 3 → o < 4 → f.hops < 8 → Answers (.frameForward p f) s (fun t => ∃ u, Took p f false s u ∧
        OnlyPort [] o u t ((u.sport o).waits ⟨{ f with hops := f.hops + 1, route := f.route.set f.rp p, rp := f.rp + 1 }, some p⟩))) ∧
      (s.fld (F.STF_PORTn_STATUS_state o) = 3 → o < 4 → 8 ≤ f.hops → Answers (.frameForward p f) s (fun t => ∃ u, Took p f true s u ∧
        Sets [F.STF_CNT_DROP_hop] u t ∧ t.fld F.STF_CNT_DROP_hop = min (s.fld F.STF_CNT_DROP_hop + 1) 255)) ∧
      (s.fld (F.STF_PORTn_STATUS_state o) ≠ 3 → Answers (.frameForward p f) s (fun t => ∃ u, Took p f true s u ∧
        Sets [F.STF_CNT_DROP_no_route] u t ∧ t.fld F.STF_CNT_DROP_no_route = min (s.fld F.STF_CNT_DROP_no_route + 1) 255))) ∧
    (s.takesFrame p f → s.isHere f →
      (f.body = .msg l → f.segOff = 0 → f.msgLen = l.length → f.noAns = true → f.queue ≠ 0x000B → f.queue ≠ 0x000E → s.inHold = false →
        s.dupFind f.src f.seq = none → s.dupFull = false → (s.qReady f.queue).1 = .done →
        let x := (s.qReady f.queue).2
        let d := x.qDesc f.queue
        d.remoteOk = true → d.prodDirect = false → d.src = 0 ∨ d.src = f.src → d.postOnly = false → d.span = 1 → 1 ≤ d.free → x.resvOf f.queue = none →
        l.length ≤ d.esize →
        Answers (.msg p f) s (fun t => t.qDesc f.queue = { d with resv := d.resv + 1, prod := d.resv + 1, lastSrc := f.src } ∧
          (∀ j, j < d.esize → Store.get t.mem (d.addr d.resv j) = l.getD j 0) ∧
          (∀ y, (∀ j, j < d.esize → y ≠ d.addr d.resv j) → Store.get t.mem y = Store.get x.mem y) ∧
          t.stf.dup = (⟨f.src, f.seq, 0, mt⟩ :: s.stf.dup).take 512)) ∧
      (f.body = .ans oc q → s.qe.tx = [m] → m.seq = f.seq → m.dst = f.src → m.phase = .sent → m.origin = .block → s.update.outbox = [] →
        (oc ≠ 1 → oc ≠ 7 → Answers (.ans p f) s (fun t => ∃ u, Took p f true s u ∧ t = { u with regs := t.regs, qe := { u.qe with tx := [] } } ∧
          RegsBut [F.QE_STATUS_tx_held] u t ∧ t.fld F.QE_STATUS_tx_held = 0)) ∧
        (oc = 1 ∨ oc = 7 → m.fulls < s.fld F.QE_CFG_full_retries → Answers (.ans p f) s (fun t => ∃ u, Took p f true s u ∧
          t = { u with qe := { u.qe with tx := [{ m with phase := .again, since := mt }] } })))) ∧
    (s.qe.tx = [m] → m.seq = seq → m.phase = .sent → m.since + 6250 * s.fld F.STF_CFG_rtx_to ≤ mt →
      (s.fld F.STF_CFG_rtx_max ≤ m.rtx → Answers (.rtxTimeout seq) s (fun t =>
        t = { s with qe := { s.qe with tx := [{ m with phase := .last, since := mt }] } })) ∧
      (m.rtx < s.fld F.STF_CFG_rtx_max → m.dst ≠ 0xFFFF → m.bytes.length ≤ 64 → s.lostMember m.dst = false →
        (s.pickRoute (s.routesTo m.dst) (decide ((m.rtx + 1) % 2 = 1))).isSome = true → Answers (.rtxTimeout seq) s (fun t => t.mem = s.mem ∧
          t.fld F.STF_CNT_RTX_rtx = min (s.fld F.STF_CNT_RTX_rtx + 1) 65535 ∧
          t.qe.tx = [{ m with rtx := m.rtx + 1, phase := .sent, since := mt, attempts := min (m.attempts + 1) 255 }]))) ∧
    (s.isManager = false → Answers .helloSend s (fun t => t = s)) ∧
    (s.isManager = true → s.stf.ports.length = 4 → s.siteUp p = true → (∀ x, x < 4 → x ≠ p → s.siteUp x = false) → s.is F.STF_CTRL_hello_en = true →
      Answers .helloSend s (fun t => OnlyPort [] p s t { s.sport p with greeted := true, waitS := (s.sport p).waitS ++
        [⟨{ src := s.nodeId, hops := 1, laneS := true, body := .hello s.nodeId s.serial p (s.fld F.STF_STATUS_post_src) }, none⟩] })) ∧
    (∀ node serial nport psrc, f.body = .hello node serial nport psrc → s.takesFrame p f → f.route.length ≤ f.rp → s.siteUp p = true → node < 65536 → nport < 4 →
      s.postNo = 0 ∨ node / 16 ≠ s.postNo →
      (s.fld (F.STF_PORTn_NBR_valid p) = 0 → Answers (.hello p f) s (fun t => t.fld (F.STF_PORTn_NBR_valid p) = 1 ∧
        t.fld (F.STF_PORTn_NBR_node p) = node ∧ t.fld (F.STF_PORTn_NBR_port p) = nport ∧ (t.sport p).helloAt = mt)) ∧
      (s.fld (F.STF_PORTn_NBR_valid p) = 1 → s.fld (F.STF_PORTn_NBR_node p) = node → s.fld (F.STF_PORTn_NBR_port p) = nport →
        Answers (.hello p f) s (fun t => ∃ u, Took p f true s u ∧ OnlyPort [] p u t { u.sport p with helloAt := mt }))) ∧
    (p < 4 → s.fld (F.STF_PORTn_NBR_valid p) = 1 →
      let age := s.fld F.STF_SITE_CFG_age * s.fld F.STF_SITE_CFG_hello_period * 2500000
      ((s.sport p).helloAt + age ≤ mt → Answers (.neighbourAge p) s (fun t => t.fld (F.STF_PORTn_NBR_valid p) = 0 ∧ t.fld (F.STF_PORTn_NBR_node p) = 0 ∧
        t.fld (F.STF_PORTn_NBR_port p) = 0 ∧ t.stf = s.stf)) ∧
      (mt < (s.sport p).helloAt + age → Answers (.neighbourAge p) s (fun t => t = s))) ∧
    (s.isManager = true → (s.blockTake 0x000A).1 = some l → (l.getD 0 0).toNat = 5 ∨ (l.getD 0 0).toNat = 10 → 
      Answers .stfRequest s (fun t => t.stf.probes =
        s.stf.probes ++ [⟨routeOf (leNat ((l.drop 2).take 2)) (min 8 (leNat ((l.drop 1).take 1))), leNat ((l.drop 4).take 8), mt⟩])) ∧
    (f.body = .probe → s.takesFrame p f → (f.route.length ≤ f.rp ∧ f.dst = 0) ∨ s.isHere f → Answers (.probe p f) s (fun t => ∃ u, Took p f true s u ∧
      OnlyPort [] p u t { u.sport p with waitS := (u.sport p).waitS ++ [⟨{ dst := f.src, src := s.nodeId, hops := 1, rp := 1, laneS := true, route := p :: (f.route.drop 1).reverse, body := .probeAns s.nodeId s.serial (s.fld F.SYS_ROLE_role) (s.fld F.STF_STATUS_post_src) ([0, 1, 2, 3].map (fun n => s.word (Reg.STF_PORT0_NBR + 4 * n))) }, none⟩] })) ∧
    (∀ node serial role psrc nbrs x rest, f.body = .probeAns node serial role psrc nbrs → s.takesFrame p f → (f.route.length ≤ f.rp ∧ f.dst = 0) ∨ s.isHere f →
      (s.stf.probes = [] → Answers (.probeAns p f) s (fun t => ∃ u, Took p f true s u ∧ t = u)) ∧
      (s.stf.probes = x :: rest → x.route = p :: (f.route.drop 1).reverse → Answers (.probeAns p f) s (fun t => t.stf.probes = rest))) ∧
    (∀ x rest, s.stf.probes = x :: rest → x.since + 50000 ≤ mt → Answers .probeTimeout s (fun t => t.stf = { s.stf with probes := rest })) ∧
    (∀ serial post, f.body = .assignPost serial post → s.takesFrame p f → (f.route.length ≤ f.rp ∧ f.dst = 0) ∨ s.isHere f → s.isManager = true →
      (s.postNo ≠ 0 → Answers (.assignPost p f) s (fun t => ∃ u, Took p f true s u ∧ Sets [F.STF_STATUS_post_refused] u t ∧
        t.fld F.STF_STATUS_post_refused = 1)) ∧
      (s.postNo = 0 → s.is F.STF_CTRL_assign_ok = true → serial = s.serial → 1 ≤ post → post ≤ 4095 → Answers (.assignPost p f) s (fun t =>
        t.fld F.STF_NODE_post = post ∧ t.fld F.STF_STATUS_post_src = 2 ∧ t.fld F.STF_NODE_node_id = 16 * post ∧ t.fld F.SYS_ROLE_node_id = 16 * post))) ∧
    (s.mayWrite who Reg.STF_NODE = true → s.isManager = true →
      (s.postNo ≠ 0 → Answers (.postWrite who v) s (fun t => Sets [F.STF_STATUS_post_refused] s t ∧ t.fld F.STF_STATUS_post_refused = 1)) ∧
      (s.postNo = 0 → v.toNat / 65536 % 4096 ≠ 0 → (∀ x, 1 ≤ x → x ≤ 15 → (s.member x).state = 0) → Answers (.postWrite who v) s (fun t =>
        Sets [F.STF_NODE_post, F.STF_STATUS_post_src, F.STF_NODE_node_id, F.SYS_ROLE_node_id] s t ∧ t.fld F.STF_NODE_post = v.toNat / 65536 % 4096 ∧
        t.fld F.STF_STATUS_post_src = 1 ∧ t.fld F.STF_NODE_node_id = 16 * (v.toNat / 65536 % 4096))))

/-- R237 to R240, Tables STF-6 and STF-11: the sweep sends ROLL along its routes one after another, a Worker answers and accepts the assignment of its one owner,
a Worker newly found takes the lowest free number, and a member is admitted when every condition is met or reported when they were not met in 300 ms. -/
def Obligations.StarlingRollCall : Prop :=
  ∀ (s : State) (p m post mgr serial t0 act : Nat) (b : Bool) (f : Frame) (who : Init) (v : Word) (w : Sweep) (ps : List Nat) (r q : List Nat)
    (rs : List (List Nat)),
    let mt := s.tmk.mt
    let back := p :: (f.route.drop 1).reverse
    (s.isManager = true → s.postNo ≠ 0 → s.stf.sweep = none → s.duskWarn = false → s.dawnDone = true → [0, 1, 2, 3].filter s.postUp = p :: ps →
      let begun (t : State) : Prop := t.stf.sweep = some ⟨1, ps.map (fun x => [x]), [], [], some ([p], mt), mt⟩ ∧ t.fld F.STF_SWEEP_busy = 1 ∧
        t.mem = s.mem ∧ (∀ o, o ≠ p → t.sport o = s.sport o) ∧ t.sport p = { s.sport p with waitS := (s.sport p).waitS ++
          [⟨{ src := s.nodeId, hops := 1, rp := 1, route := [p], laneS := true, body := .roll }, none⟩] }
      s.stf.ports.length = 4 → Answers .sweepStart s begun ∧
      (s.mayWrite who Reg.STF_CTRL = true → v.getLsbD 3 = true → Answers (.sweepNow who v) s begun)) ∧
    (s.isManager = false → Answers .sweepStart s (fun t => t = s)) ∧
    (f.body = .roll → s.takesFrame p f → (f.route.length ≤ f.rp ∧ f.dst = 0) ∨ s.isHere f →
      (s.isWorker = false → Answers (.roll p f) s (fun t => ∃ u, Took p f true s u ∧ t = u)) ∧
      (s.isWorker = true → s.bootRec = none → s.prepRec = none → Answers (.roll p f) s (fun t => ∃ u, Took p f true s u ∧
        OnlyPort [] p u t { u.sport p with waitS := (u.sport p).waitS ++ [⟨{ dst := f.src, src := s.nodeId, hops := 1, rp := 1, laneS := true, route := back, body := .rollAns s.serial (s.stf.ownerSerial.getD 0) s.nodeId s.rollFlags p (s.fld F.DSK_DAWN_STATUS_hold_code) 0 0 }, none⟩] }))) ∧
    (s.stf.sweep = some w → w.waiting = some (r, t0) → s.duskWarn = false →
      let next : Option Sweep := some { w with paths := rs, waiting := some (q, mt) }
      (w.paths = q :: rs → t0 + 50000 ≤ mt → Answers .rollTimeout s (fun t => t.stf.sweep = next ∧ t.mem = s.mem ∧ t.stf.members = s.stf.members)) ∧
      (mt < t0 + 50000 → Answers .rollTimeout s (fun t => t = s)) ∧
      (∀ owner node flags hold prep, f.body = .rollAns serial owner node flags m hold act prep → s.takesFrame p f → (f.route.length ≤ f.rp ∧ f.dst = 0) ∨ s.isHere f →
        back = r → s.isManager = true → w.paths = q :: rs →
        (owner ≠ 0 → owner ≠ s.serial → Answers (.rollAns p f) s (fun t => t.stf.sweep = next ∧ t.fld F.STF_STATUS_foreign = 1 ∧
          t.stf.members = s.stf.members)) ∧
        (owner = 0 → w.found = [] → flags < 16 → flags % 2 = 0 → prep = 0 → s.stf.members.length = 15 → s.stf.held = [] → s.update.late = [] →
          s.updState ≠ 3 → s.fld F.STF_CAPACITY_capacity = 0 → (match s.bootRec with | some x => x.set | none => 0) = act → serial ≠ 0 →
          (∀ n, 1 ≤ n → n ≤ 15 → (s.member n).state = 0 ∧ (s.member n).pinned = false) → Answers (.rollAns p f) s (fun t =>
          (t.member 1).state = 1 ∧ (t.member 1).serial = serial ∧ (t.member 1).pathA = r ∧ (t.member 1).flags = flags ∧ (t.member 1).joinOk = true ∧
          (t.member 1).rollAt = some mt ∧ (∀ n, n ≠ 1 → t.member n = s.member n) ∧ t.stf.held = [(serial, 1)])))) ∧
    (f.body = .assignMember post m mgr serial b → s.takesFrame p f → (f.route.length ≤ f.rp ∧ f.dst = 0) ∨ s.isHere f → s.isWorker = true → s.duskWarn = false →
      1 ≤ m → m ≤ 15 → post < 4096 → mgr < 65536 →
      (s.stf.ownerSerial = none ∨ s.stf.ownerSerial = some serial → Answers (.assignMember p f) s (fun t =>
        t.stf.ownerSerial = some serial ∧ t.stf.mgrAt = mt ∧ t.stf.revA = (if b then s.stf.revA else back) ∧ t.stf.revB = (if b then back else s.stf.revB) ∧
        t.fld F.STF_NODE_node_id = 16 * post + m ∧ t.fld F.SYS_ROLE_node_id = 16 * post + m ∧ t.fld F.STF_NODE_post = post ∧ t.fld F.STF_MGR_owner = mgr ∧
        t.fld F.STF_STATUS_has_owner = 1 ∧ t.mem = s.mem ∧ t.pwr = s.pwr)) ∧
      (∀ other, s.stf.ownerSerial = some other → other ≠ serial → Answers (.assignMember p f) s (fun t => ∃ u, Took p f true s u ∧ t = u))) ∧
    (1 ≤ m → m ≤ 15 → s.stf.members.length = 15 →
      (s.admissible m = true → s.updState ≠ 3 → s.fld F.STF_CAPACITY_capacity = 0 → s.update.man = none → Answers (.admission m) s (fun t =>
        t.member m = { s.member m with state := 3, cause := 0, rollAt := none, permitted := false } ∧ ∀ n, n ≠ m → t.member n = s.member n)) ∧
      (s.isManager = true → (s.member m).rollAt = some t0 → t0 + 7500000 ≤ mt → Answers (.admitTimeout m) s (fun t => ∃ u : State,
        t = u.fault 0x0505 (some Reg.STF_FAULT) ∧ u = { s with stf := { s.stf with members := u.stf.members } } ∧
        u.member m = { s.member m with rollAt := none, state := if (s.member m).state = 2 then 1 else (s.member m).state } ∧
        ∀ n, n ≠ m → u.member n = s.member n))) ∧
    (s.mayWrite who Reg.STF_CMD = true → s.isManager = true → s.stf.members.length = 15 → v.toNat % 16 = m → (s.member m).state ≠ 0 →
      (v.toNat / 16 % 16 = 1 → v.toNat / 65536 = 0 → Answers (.stfCmdAdmit who v) s (fun t => t = { s with stf := { s.stf with members := t.stf.members } } ∧
        t.member m = { s.member m with permitted := true } ∧ ∀ n, n ≠ m → t.member n = s.member n)) ∧
      (v.toNat / 16 % 16 = 2 → v.toNat / 65536 = 0 → (s.member m).state ≠ 5 → s.fld F.STF_CAPACITY_capacity = 0 → Answers (.stfCmdExpel who v) s (fun t =>
        t.member m = { s.member m with state := 4, permitted := false, rollAt := none } ∧ ∀ n, n ≠ m → t.member n = s.member n)) ∧
      (v.toNat / 16 % 16 = 3 → v.toNat / 65536 = 0x5A17 → Answers (.stfCmdReset who v) s (fun t => t = s.stfCommand m 3)) ∧
      (v.toNat / 16 % 16 = 3 → v.toNat / 65536 ≠ 0x5A17 → Answers (.stfCmdReset who v) s (fun t => t = s)) ∧
      (v.toNat / 16 % 16 = 4 → v.toNat / 65536 = 0 → Answers (.stfCmdRelease who v) s (fun t => t = s.stfCommand m 4))) ∧
    (s.isWorker = true → s.is F.STF_STATUS_has_owner = true →
      (s.stf.mgrAt + s.fld F.STF_CFG_forget * 2500000 ≤ mt → Answers .managerForget s (fun t => t.stf.ownerSerial = none ∧ t.stf.revA = [] ∧ t.stf.revB = [] ∧
        t.fld F.STF_NODE_node_id = 0 ∧ t.fld F.SYS_ROLE_node_id = 0 ∧ t.fld F.STF_NODE_post = 0 ∧ t.fld F.STF_STATUS_has_owner = 0 ∧
        t.fld F.SYS_ROLE_admitted = 0 ∧ (s.pwrState = 0 ∨ s.pwrState = 5 → t.pwrState = 6) ∧ t.mem = s.mem)) ∧
      (mt < s.stf.mgrAt + s.fld F.STF_CFG_forget * 2500000 → Answers .managerForget s (fun t => t = s)) ∧
      (s.stf.mgrSilent = false → s.stf.mgrAt + 750000 ≤ mt → Answers .managerSilent s (fun t => ∃ u : State, t = u.fault 0x0507 (some Reg.STF_FAULT) ∧
        u = State.pwrStop { s with stf := { s.stf with mgrSilent := true, mgrReport := true } } 4)))

/-- R102, R239 to R243, R351, R356, R362, Tables STF-7 and STF-8: the Manager's commands at a Worker, heartbeats and setpoints each 10 ms, the loss of a member by
silence, fault or removal, and a card's removal. -/
def Obligations.StarlingHierarchy : Prop :=
  ∀ (s : State) (p m : Nat) (f : Frame) (l : List Byte) (from_ : MsgFrom) (who : Init) (v : Word),
    let mt := s.tmk.mt
    let y := (s.peekFrom 0x000F).2
    let x := (y.takeFrom 0x000F).2
    (s.isWorker = true → (s.peekFrom 0x000F).1 = some (l, some from_) → from_.src = x.fld F.STF_MGR_owner → x.is F.STF_STATUS_has_owner = true →
      (leNat (l.take 1) = 1 → x.inHold = false → Answers .admitMsg s (fun t => t.mem = x.mem ∧ t.fld F.SYS_ROLE_admitted = 1 ∧
        t.word Reg.PWR_SP_POWER = 0 ∧ (x.pwrState = 6 → t.pwrState = if x.pwr.ssLock then 5 else 0) ∧ (x.pwrState ≠ 6 → t.pwrState = x.pwrState))) ∧
      (leNat (l.take 1) = 2 → Answers .expel s (fun t => t.mem = x.mem ∧ t.fld F.SYS_ROLE_admitted = 0 ∧
        (x.pwrState = 1 ∨ x.pwrState = 2 → t.pwrState = 3 ∧ t.fld F.PWR_STATUS_cause = 8 ∧ t.fld F.PWR_RUN_go = 0) ∧
        (x.pwrState = 0 ∨ x.pwrState = 5 → t.pwrState = 6 ∧ t.fld F.PWR_STATUS_cause = 8))) ∧
      (leNat (l.take 1) = 3 → leNat ((l.drop 2).take 2) = 0x5A17 → Answers .fabReset s (fun t => t = x.resetRequest 5)) ∧
      (leNat (l.take 1) = 3 → leNat ((l.drop 2).take 2) ≠ 0x5A17 → Answers .fabReset s (fun t => t = x)) ∧
      (leNat (l.take 1) = 5 → x.pwrState = 1 ∨ x.pwrState = 2 → Answers .stopDusk s (fun t => t.mem = x.mem ∧ t.pwrState = 3 ∧
        t.fld F.PWR_STATUS_cause = 5 ∧ t.fld F.PWR_RUN_go = 0)) ∧
      (leNat (l.take 1) = 4 → x.pwrState = 5 → Answers .release s (fun t => t.pwrState = 0 ∧ t.pwr.ssLock = false ∧ t.mem = x.mem)) ∧
      (leNat (l.take 1) = 4 → x.pwrState ≠ 5 → Answers .release s (fun t => t = x))) ∧
    (s.mayWrite who Reg.STF_CTRL = true → v.getLsbD 2 = true → v.getLsbD 3 = false → Answers (.rtClear who v) s (fun t =>
      t = { s with regs := t.regs, stf := { s.stf with rt := [] } } ∧ t.word Reg.STF_DEFAULT = 0 ∧
      RegsBut [F.STF_CTRL_assign_ok, F.STF_CTRL_admit_gate, F.STF_CTRL_hello_en, wordAt Reg.STF_DEFAULT] s t)) ∧
    (s.isWorker = true → s.is F.STF_STATUS_has_owner = true → Answers .heartbeatSend s (fun t => ∃ (bytes : List Byte) (u : State),
      u = s.sendMsg (s.fld F.STF_MGR_owner) 0x000B bytes true ∧ t = { u with stf := { u.stf with beatSeq := (u.stf.beatSeq + 1) % 65536 } } ∧
      bytes.length = 32 ∧ leNat (bytes.take 1) = s.nodeId % 16 ∧ leNat ((bytes.drop 2).take 2) = s.stf.beatSeq % 65536 ∧
      leNat ((bytes.drop 4).take 2) = s.stf.lastFault % 65536 ∧ leNat ((bytes.drop 6).take 2) = s.fld F.PWR_SP_INFO_seq ∧
      leNat ((bytes.drop 8).take 4) = mt % 2 ^ 32 ∧ leNat ((bytes.drop 12).take 4) = (s.word Reg.PWR_TELEM).toNat ∧
      leNat ((bytes.drop 16).take 1) = s.fld F.PWR_CTR_STATUS_fb)) ∧
    (s.isManager = true → s.stf.members.length = 15 → s.takesFrame p f → s.isHere f → f.src / 16 = s.postNo → f.src % 16 = m → 1 ≤ m → f.body = .msg l →
      (s.member m).state ≠ 0 → (s.member m).state ≠ 5 →
      (f.queue = 0x000B → l.length = 32 → Answers (.heartbeat p f) s (fun t => (∀ n, n ≠ m → t.member n = s.member n) ∧
        t.member m = { s.member m with
          beatAt := some mt, beats := (match (s.member m).beatAt with | some a => if mt ≤ a + 375000 then min 3 ((s.member m).beats + 1) else 1 | none => 1),
          lastFault := leNat ((l.drop 4).take 2), beatFlags := leNat ((l.drop 1).take 1), beatFb := leNat ((l.drop 16).take 1) % 16,
          state := if (s.member m).state = 1 then 2 else (s.member m).state })) ∧
      (f.queue = 0x000E → l.length = 16 → leNat ((l.drop 1).take 1) % 2 = 1 → s.fld F.STF_CAPACITY_capacity = 0 → s.updState ≠ 3 →
        Answers (.faultReport p f) s (fun t => (t.member m).state = 5 ∧ (t.member m).cause = 2 ∧ ∀ n, n ≠ m → t.member n = s.member n)) ∧
      (f.queue = 0x000E → l.length = 16 → leNat ((l.drop 1).take 1) % 2 = 0 → Answers (.faultReport p f) s (fun t => t.stf.members = s.stf.members))) ∧
    (s.isManager = false → Answers .setpointSend s (fun t => t = s)) ∧
    (s.isManager = true → 1 ≤ m → m ≤ 15 → (∀ n, n ≠ m → (s.member n).state = 0) → 1 ≤ (s.member m).state → (s.member m).state ≤ 4 →
      Answers .setpointSend s (fun t => t = s.sendMsg (16 * s.postNo + m) 0x000C
        (if (s.member m).setpoint = [] then leBytes 1 m ++ List.replicate 31 0 else (s.member m).setpoint) true)) ∧
    (s.isManager = true → s.stf.members.length = 15 → (s.blockTake 0x000D).1 = some l → leNat (l.take 1) % 16 = m → 1 ≤ m → Answers .setpointWrite s (fun t =>
      (t.member m).setpoint = l ∧ (∀ n, n ≠ m → t.member n = s.member n) ∧ t.mem = (s.blockTake 0x000D).2.mem)) ∧
    (let z := (s.blockTake 0x000C).2
     s.isWorker = true → (s.blockTake 0x000C).1 = some l → leNat (l.take 1) = z.nodeId % 16 → Answers .setpoint s (fun t => t.mem = z.mem ∧
      t.pwr = { z.pwr with spAt := z.tmk.mt } ∧ t.word Reg.PWR_SP_POWER = w32 (leNat ((l.drop 4).take 4)) ∧
      t.fld F.PWR_SP_LIMITS_v_target = leNat ((l.drop 8).take 2) ∧ t.fld F.PWR_SP_LIMITS_i_max = leNat ((l.drop 10).take 2) ∧
      t.fld F.PWR_SP_INFO_seq = leNat ((l.drop 2).take 2) ∧ t.fld F.PWR_SP_INFO_flags = leNat ((l.drop 1).take 1) ∧
      (leNat ((l.drop 2).take 2) ≠ z.fld F.PWR_SP_INFO_seq → t.fld F.PWR_EVT_setpoint = 1))) ∧
    (s.isManager = true → s.stf.members.length = 15 → 1 ≤ m → m ≤ 15 → (s.member m).state ≠ 0 → (s.member m).state ≠ 5 → s.fld F.STF_CAPACITY_capacity = 0 →
      s.updState ≠ 3 → s.qe.tx = [] → s.qe.openResv = [] →
      (∀ a, (s.member m).beatAt = some a → a + 750000 ≤ mt → Answers (.heartbeatSilence m) s (fun t => (t.member m).state = 5 ∧ (t.member m).cause = 1 ∧
        (∀ n, n ≠ m → t.member n = s.member n) ∧ t.fld F.STF_LOSS_member = m ∧ t.fld F.STF_LOSS_cause = 1 ∧ t.fld F.SYS_POST_STATUS_worker_lost = 1 ∧
        t.fld F.SYS_POST_STATUS_lost_member = m ∧ t.fld F.HSP_ATTN_worker_lost = 1)) ∧
      (∀ a, f.body = .leaving m a → s.takesFrame p f → s.isHere f → f.src / 16 = s.postNo → f.src % 16 = m → Answers (.leaving p f) s (fun t =>
        (t.member m).state = 5 ∧ (t.member m).cause = 3 ∧ t.fld F.STF_LOSS_cause = 3 ∧ ∀ n, n ≠ m → t.member n = s.member n))) ∧
    (s.isWorker = false → Answers .removal s (fun t => t = s)) ∧
    (s.isWorker = true → s.is F.STF_STATUS_has_owner = false → s.stf.ports.length = 4 → (∀ q, q < 4 → s.fld (F.STF_PORTn_STATUS_state q) ≠ 3) →
      Answers .removal s (fun t => t.stf.present = false ∧ t.stf.leaving = true ∧ t.mem = s.mem ∧
        (∀ q, q < 4 → t.fld (F.STF_PORTn_STATUS_state q) = 0) ∧
        (s.pwrState = 1 ∨ s.pwrState = 2 → t.pwrState = 3 ∧ t.fld F.PWR_STATUS_cause = 6 ∧ t.fld F.PWR_RUN_go = 0)))

/-- R248 to R259: the pilot follows its duty at a period boundary and its force causes at once; a pilot state and a proximity code are accepted after their
number of consecutive samples; the auxiliary serial master takes its transactions in order; the sequence timers and VEH_SLAC set their events. -/
def Obligations.VehicleInterface : Prop :=
  ∀ (s : State) (who : Init) (v : Word) (n uv code band lo hi t0 : Nat) (m rd : List Byte) (r : AsmRun), s.isManager = true → s.dawnDone = true →
    let mt := s.tmk.mt
    let d := s.fld F.VEH_CP_PWM_duty
    (s.fld F.VEH_STATUS_forced = 0 → Answers .pilotPeriod s (fun t =>
      t = { s with regs := t.regs, veh := { s.veh with cp := if d = 0 then .low else if d = 1000 then .high else .pulse } } ∧
      RegsBut [F.VEH_CP_PWM_duty_now, F.VEH_STATUS_pwm_on] s t ∧ t.fld F.VEH_CP_PWM_duty_now = d ∧
      (t.fld F.VEH_STATUS_pwm_on = 1 ↔ d ≠ 0 ∧ d ≠ 1000))) ∧
    (s.fld F.VEH_STATUS_forced = 1 → Answers .pilotPeriod s (fun t => t = s)) ∧
    (s.mayWrite who Reg.VEH_CTRL = true → v.getLsbD 0 = true → v.getLsbD 1 = s.is F.VEH_CTRL_trip_f →
      (s.duskWarn = false → s.fld F.SYS_POST_STATUS_lockout_any = 0 → Answers (.pilotRelease who v) s (fun t =>
        t = { s with regs := t.regs, veh := { s.veh with released := true, timers := s.veh.timers.map (fun x => { x with forced := 0 }), cp := t.veh.cp } } ∧
        RegsBut [F.VEH_CTRL_evt_mask, F.VEH_STATUS_forced, F.VEH_STATUS_cause, F.VEH_STATUS_pwm_on] s t ∧ t.fld F.VEH_STATUS_forced = 0 ∧
        t.fld F.VEH_STATUS_cause = 0)) ∧
      (s.duskWarn = true → Answers (.pilotRelease who v) s (fun t => t.fld F.VEH_STATUS_forced = 1 ∧ t.veh.cp = .low ∧
        t.fld F.VEH_STATUS_cause / 4 = 1 ∧ t.veh.timers = s.veh.timers.map (fun x => { x with forced := 0 })))) ∧
    ((band, lo, hi) ∈ [(1, 2750000, 2950000), (2, 2450000, 2650000), (3, 2150000, 2350000), (4, 1850000, 2050000), (6, 350000, 550000)] →
      s.fld F.VEH_CP_CAL_gain = 0 → s.fld F.VEH_CP_CAL_offset = 0 → s.veh.cp = .high → lo ≤ uv → uv ≤ hi → s.fld F.VEH_CP_STATE_state ≠ band →
      (s.veh.band = band → s.fld F.VEH_CP_CFG_deb ≤ s.veh.bandRun + 1 → Answers (.cpSample true uv) s (fun t => t.mem = s.mem ∧
        t.fld F.VEH_CP_STATE_state = band ∧ t.fld F.VEH_CP_STATE_prev = s.fld F.VEH_CP_STATE_state ∧ t.fld F.VEH_CP_STATE_pwm = 0 ∧
        t.fld F.VEH_CP_STATE_changes = min (s.fld F.VEH_CP_STATE_changes + 1) 65535 ∧ t.fld F.VEH_CP_TIME_mt = mt % 2 ^ 32 ∧
        t.fld F.VEH_EVT_cp_state = 1)) ∧
      (s.veh.band ≠ band → 2 ≤ s.fld F.VEH_CP_CFG_deb → Answers (.cpSample true uv) s (fun t => t.veh.band = band ∧ t.veh.bandRun = 1 ∧ t.veh.invalidFrom = none ∧
        t.fld F.VEH_CP_STATE_state = s.fld F.VEH_CP_STATE_state ∧ t.fld F.VEH_EVT_cp_state = s.fld F.VEH_EVT_cp_state ∧ t.cpu = s.cpu))) ∧
    (s.veh.invalidFrom = some t0 → 25000 * s.fld F.VEH_CP_CFG_inv_ms ≤ mt - t0 → s.veh.invalidLogged = false → Answers .cpInvalidTimeout s (fun t =>
      t.veh = { s.veh with invalidLogged := true } ∧ t.mem = s.mem ∧ t.fld F.VEH_FAULT_code = 0x0804 ∧ t.fld F.VEH_FAULT_valid = 1 ∧
      t.fld F.VEH_EVT_cp_fault = 1 ∧ t.fld F.VEH_CP_STATE_state = s.fld F.VEH_CP_STATE_state)) ∧
    (s.fld F.VEH_PP_CFG_en = 1 → code < 4096 → (band, lo, hi) ∈ [(1, 1100, 2200), (2, 470, 1000), (3, 150, 330), (4, 50, 110)] →
      lo * (4096 - code) ≤ s.fld F.VEH_PP_CFG_r_pu * code → s.fld F.VEH_PP_CFG_r_pu * code ≤ hi * (4096 - code) →
      (s.veh.ppBand = band → 4 ≤ s.veh.ppRun → s.fld F.VEH_PP_STATE_code ≠ band → Answers (.ppSample code) s (fun t => t.fld F.VEH_PP_STATE_code = band ∧
        t.fld F.VEH_PP_STATE_changes = min (s.fld F.VEH_PP_STATE_changes + 1) 255 ∧ t.fld F.VEH_EVT_pp_change = 1 ∧ t.mem = s.mem)) ∧
      (s.veh.ppBand = band → s.veh.ppRun < 4 → Answers (.ppSample code) s (fun t => t.veh = { s.veh with ppRun := s.veh.ppRun + 1 } ∧ t.cpu = s.cpu ∧
        t.fld F.VEH_PP_STATE_code = s.fld F.VEH_PP_STATE_code))) ∧
    (s.fld F.VEH_ASM_CTRL_en = 1 → s.veh.asm = none → s.duskWarn = false →
      (s.veh.template = true → (s.qRoom 0x82).1 = true → Answers .asmTransaction s (fun t => t.mem = (s.qRoom 0x82).2.mem ∧ t.fld F.VEH_ASM_STATUS_busy = 1 ∧
        t.veh = { s.veh with template := false, csN := false, asm := some { template := true, evt := false, rdLen := s.fld F.VEH_ASM_CTRL_int_rd_len, tag := 0, wr := (leBytes 4 (s.word Reg.VEH_ASM_INT).toNat).take (s.fld F.VEH_ASM_CTRL_int_wr_len) } })) ∧
      (let x := (s.qRoom 0x81).2
       let g (o k : Nat) := leNat ((m.drop o).take k)
       s.veh.template = false → (s.qRoom 0x81).1 = true → (x.blockTake 0x80).1 = some m → 
        (1 ≤ g 2 2 + g 4 2 → g 2 2 ≤ 2048 → g 4 2 ≤ 2048 → 8 + g 2 2 ≤ m.length → g 0 1 ≤ 1 → g 1 1 = 0 → Answers .asmTransaction s (fun t =>
          t.fld F.VEH_ASM_STATUS_busy = 1 ∧ t.mem = (x.blockTake 0x80).2.mem ∧ t.veh = { s.veh with csN := false, asm := some { template := false, evt := decide (g 0 1 = 1), rdLen := g 4 2, tag := g 6 2, wr := (m.drop 8).take (g 2 2) } })) ∧
        (2048 < g 2 2 ∨ 2048 < g 4 2 ∨ m.length < 8 + g 2 2 ∨ 1 < g 0 1 ∨ g 1 1 ≠ 0 → Answers .asmTransaction s (fun t =>
          t.veh = { s.veh with asm := none, csN := true } ∧ t.fld F.VEH_ASM_STATUS_busy = 0 ∧
          t.fld F.VEH_ASM_STATUS_done = (s.fld F.VEH_ASM_STATUS_done + 1) % 65536)))) ∧
    (s.veh.asm = some r → rd.length = r.rdLen → Answers (.asmTransactionDone rd) s (fun t => t.veh = { s.veh with asm := none, csN := true } ∧
      t.fld F.VEH_ASM_STATUS_busy = 0 ∧ t.fld F.VEH_ASM_STATUS_done = (s.fld F.VEH_ASM_STATUS_done + 1) % 65536 ∧
      (r.evt = true → t.fld F.VEH_EVT_asm_done = 1) ∧ (r.evt = false → t.fld F.VEH_EVT_asm_done = s.fld F.VEH_EVT_asm_done))) ∧
    (Answers (.asmInterrupt false) s (fun t => Sets [F.VEH_ASM_STATUS_int] s t ∧ t.fld F.VEH_ASM_STATUS_int = 1)) ∧
    (s.fld F.VEH_ASM_CTRL_int_en = 1 → s.fld F.VEH_EVT_asm_int = 0 → Answers (.asmInterrupt true) s (fun t => t.mem = s.mem ∧
      t.veh = { s.veh with template := true } ∧ t.fld F.VEH_ASM_STATUS_int = 0 ∧ t.fld F.VEH_EVT_asm_int = 1)) ∧
    (s.fld F.VEH_ASM_CTRL_int_en = 1 → s.fld F.VEH_EVT_asm_int = 1 → Answers (.asmInterrupt true) s (fun t => Sets [F.VEH_ASM_STATUS_int] s t ∧
      t.fld F.VEH_ASM_STATUS_int = 0)) ∧
    (s.mayWrite who Reg.VEH_ASM_CTRL = true → s.fld F.VEH_ASM_CTRL_en = 1 → v.toNat % 16 = 0 →
      (s.veh.asm = none → Answers (.asmDisable who v) s (fun t => t = { s with regs := t.regs } ∧ (∀ a, a ≠ Reg.VEH_ASM_CTRL → t.word a = s.word a) ∧
        t.fld F.VEH_ASM_CTRL_en = 0)) ∧
      (s.veh.asm = some r → Answers (.asmDisable who v) s (fun t => t.veh = { s.veh with asm := none, csN := true } ∧ t.fld F.VEH_ASM_CTRL_en = 0 ∧
        t.fld F.VEH_ASM_STATUS_busy = 0))) ∧
    (n < 8 → s.veh.timers.length = 8 →
      (s.mayWrite who (Reg.VEH_TMR0 + 4 * n) = true →
        (v.getLsbD 22 = true → v.toNat % 2 ^ 20 ≠ 0 → Answers (.vehTmrStart who n v) s (fun t => t = { s with regs := t.regs, veh := { s.veh with timers := t.veh.timers } } ∧
          t.fld (F.VEH_TMRn_running n) = 1 ∧ t.fld (F.VEH_TMRn_ms n) = v.toNat % 2 ^ 20 ∧
          t.veh.timers.getD n {} = { s.veh.timers.getD n {} with from_ := mt, ms := v.toNat % 2 ^ 20 } ∧
          ∀ k, k ≠ n → t.veh.timers.getD k {} = s.veh.timers.getD k {})) ∧
        (v.getLsbD 22 = false → v.getLsbD 23 = true → Answers (.vehTmrStop who n v) s (fun t => t = { s with regs := t.regs } ∧
          RegsBut [F.VEH_TMRn_running n, F.VEH_TMRn_ms n, F.VEH_TMRn_action n] s t ∧ t.fld (F.VEH_TMRn_running n) = 0))) ∧
      (let x := s.veh.timers.getD n {}
       s.fld (F.VEH_TMRn_running n) = 1 → s.tmk.mtRun = true → (x.from_ + 25000 * x.ms + 24999) / 25000 * 25000 ≤ mt → Answers (.vehTmrExpire n) s (fun t =>
        t.fld (F.VEH_TMRn_running n) = 0 ∧ t.fldBit F.VEH_EVT_tmr n = true ∧ t.mem = s.mem ∧
        (s.fld (F.VEH_TMRn_action n) = 0 → t.veh.timers = s.veh.timers) ∧
        (s.fld (F.VEH_TMRn_action n) = 2 → (t.veh.timers.getD n {}).forced = 2 ∧ t.fld F.VEH_STATUS_forced = 1 ∧ t.veh.cp = .low))) ∧
      (let x := s.veh.timers.getD n {}
       mt < x.from_ + 25000 * x.ms → Answers (.vehTmrExpire n) s (fun t => t = s))) ∧
    (s.mayWrite who Reg.VEH_SLAC = true → v.toNat % 8 ≤ 4 → Answers (.slacWrite who v) s (fun t => t.mem = s.mem ∧ t.veh = s.veh ∧
      t.fld F.VEH_SLAC_state = v.toNat % 8 ∧ t.fld F.VEH_SLAC_attempts = v.toNat / 256 % 256 ∧
      (v.toNat % 8 = 3 ∨ v.toNat % 8 = 4 → v.toNat % 8 ≠ s.fld F.VEH_SLAC_state → t.fld F.VEH_EVT_slac = 1) ∧
      (v.toNat % 8 < 3 ∨ v.toNat % 8 = s.fld F.VEH_SLAC_state → t.cpu = s.cpu ∧ t.fld F.VEH_EVT_slac = s.fld F.VEH_EVT_slac)))

/-- R265 to R270: what turns Robin's field on and off, the external field that keeps it off, the reader's transactions one after another with their results, a
ping and the calibration of the detection. -/
def Obligations.RobinReader : Prop :=
  ∀ (s : State) (who : Init) (v : Word) (ext cur amp phase status lastBits coll t0 : Nat) (l rx : List Byte) (x : RdTxn), s.isWorker = false → s.dawnDone = true →
    s.dsk.off = false →
    let mt := s.tmk.mt
    let fieldOn (t : State) : Prop := t.fld F.RBN_STATUS_mode_now = 2 ∧ t.fld F.RBN_STATUS_field_on = 1 ∧ t.fld F.RBN_STATUS_guard = 1 ∧
      t.fld F.RBN_STATUS_ext_field = 0 ∧ t.rbn.guardEnd = mt + 25000 * s.fld F.RBN_RD_CFG_guard_ms ∧ t.rbn.waiting = false ∧ t.mem = s.mem
    let fits := s.fld F.RBN_CAL_i_min ≤ cur ∧ cur ≤ s.fld F.RBN_CAL_i_max
    (s.mayWrite who Reg.RBN_CTRL = true →
      (v.toNat % 4 = 2 → s.icgLocked 2 = true → s.duskWarn = false → s.fld F.RBN_STATUS_mode_now ≠ 2 → s.rbn.txn = none →
        (ext < s.fld F.RBN_EXT_THR_thr → fits → Answers (.rbnModeWrite who v ext cur) s fieldOn) ∧
        (s.fld F.RBN_EXT_THR_thr ≤ ext → (s.qReady 0x0088).1 = .noQueue → Answers (.rbnModeWrite who v ext cur) s (fun t => t.rbn.waiting = true ∧
          t.fld F.RBN_STATUS_mode_now = 2 ∧ t.fld F.RBN_STATUS_ext_field = 1 ∧ t.fld F.RBN_EVT_ext_field = 1 ∧
          t.fld F.RBN_STATUS_field_on = s.fld F.RBN_STATUS_field_on))) ∧
      (v.toNat % 4 = 2 → s.icgLocked 2 = false ∨ s.duskWarn = true → Answers (.rbnModeWrite who v ext cur) s (fun t => t = { s with regs := t.regs } ∧
        RegsBut [F.RBN_CTRL_auto_field, F.RBN_CTRL_evt_mask, F.RBN_STATUS_cfg_refused] s t ∧ t.fld F.RBN_STATUS_cfg_refused = 1)) ∧
      (v.toNat % 4 ≤ 1 → s.fld F.RBN_STATUS_mode_now = 2 →
        (s.rbn.txn = none → Answers (.rbnModeWrite who v ext cur) s (fun t => t.fld F.RBN_STATUS_mode_now = v.toNat % 4 ∧
          t.fld F.RBN_CTRL_mode = v.toNat % 4 ∧ t.fld F.RBN_STATUS_field_on = 0 ∧ t.fld F.RBN_STATUS_guard = 0 ∧ t.mem = s.mem)) ∧
        (s.rbn.txn = some x → Answers (.rbnModeWrite who v ext cur) s (fun t => t.rbn = { s.rbn with leave := some (v.toNat % 4) } ∧
          t.fld F.RBN_STATUS_mode_now = 2 ∧ t.fld F.RBN_STATUS_field_on = s.fld F.RBN_STATUS_field_on)))) ∧
    (s.rbn.waiting = true → ext < s.fld F.RBN_EXT_THR_thr →
      (s.rbn.extFrom = none → Answers (.extFieldRecheck ext cur) s (fun t => t = { s with rbn := { s.rbn with extFrom := some mt } })) ∧
      (s.rbn.extFrom = some t0 → mt < t0 + 250000 → Answers (.extFieldRecheck ext cur) s (fun t => t = s)) ∧
      (s.rbn.extFrom = some t0 → t0 + 250000 ≤ mt → fits → Answers (.extFieldRecheck ext cur) s fieldOn)) ∧
    (s.fld F.RBN_STATUS_guard = 1 → 
      (s.rbn.guardEnd ≤ mt → Answers .guardEnd s (fun t => Sets [F.RBN_STATUS_guard] s t ∧ t.fld F.RBN_STATUS_guard = 0)) ∧
      (mt < s.rbn.guardEnd → Answers .guardEnd s (fun t => t = s))) ∧
    (let y := (s.qRoom 0x0089).2
     let z := (y.blockTake 0x0088).2
     let g (o n : Nat) := leNat ((l.drop o).take n)
     s.fld F.RBN_STATUS_mode_now = 2 → s.rbn.waiting = false → s.fld F.RBN_STATUS_field_on = 1 → s.fld F.RBN_STATUS_guard = 0 → s.rbn.txn = none →
     s.rbn.leave = none → (s.qRoom 0x0089).1 = true → (y.blockTake 0x0088).1 = some l →
      (1 ≤ g 0 1 % 4 → g 0 1 < 16 → (g 0 1 % 4 = 3 → g 0 1 / 4 = 0) → g 1 1 / 16 % 2 = 0 → 1 ≤ g 2 2 → g 2 2 ≤ 256 → 1 ≤ g 4 2 → 8 + g 2 2 ≤ l.length →
        Answers .readerTransaction s (fun t => t = { z with regs := t.regs, rbn := { s.rbn with txn := some ⟨l.take 8, (l.drop 8).take (g 2 2)⟩ } } ∧
          RegsBut [F.RBN_RD_STATUS_busy] z t ∧ t.fld F.RBN_RD_STATUS_busy = 1)) ∧
      (g 0 1 % 4 = 0 ∨ 16 ≤ g 0 1 ∨ g 2 2 = 0 ∨ 256 < g 2 2 ∨ g 4 2 = 0 ∨ l.length < 8 + g 2 2 → Answers .readerTransaction s (fun t => t.rbn = s.rbn ∧
        t.fld F.RBN_RD_STATUS_last = 8 ∧ t.fld F.RBN_RD_STATUS_done = (s.fld F.RBN_RD_STATUS_done + 1) % 65536 ∧
        t.fld F.RBN_CNT_RD_err = min (s.fld F.RBN_CNT_RD_err + 1) 65535))) ∧
    (s.rbn.txn = some x → s.rbn.leave = none → status < 10 → status < 6 ∨ 8 < status → Answers (.readerTransactionDone status lastBits coll rx) s (fun t =>
      t.rbn = { s.rbn with txn := none } ∧ t.fld F.RBN_RD_STATUS_busy = 0 ∧ t.fld F.RBN_RD_STATUS_last = status ∧
      t.fld F.RBN_RD_STATUS_done = (s.fld F.RBN_RD_STATUS_done + 1) % 65536 ∧
      (status = 0 → t.fld F.RBN_CNT_RD_ok = min (s.fld F.RBN_CNT_RD_ok + 1) 65535) ∧
      (status ≠ 0 → t.fld F.RBN_CNT_RD_err = min (s.fld F.RBN_CNT_RD_err + 1) 65535) ∧
      (leNat ((x.head.drop 1).take 1) / 8 % 2 = 1 → t.fld F.RBN_EVT_rd_done = 1))) ∧
    (s.fld F.RBN_STATUS_mode_now = 1 → amp < 4096 → phase < 4096 →
      let near := amp - s.fld F.RBN_DET_REF_amp + (s.fld F.RBN_DET_REF_amp - amp) < s.fld F.RBN_DET_THR_amp ∧
        phase - s.fld F.RBN_DET_REF_phase + (s.fld F.RBN_DET_REF_phase - phase) < s.fld F.RBN_DET_THR_phase
      let seen (t : State) : Prop := t.fld F.RBN_DET_LAST_amp = amp ∧ t.fld F.RBN_DET_LAST_phase = phase ∧
        t.fld F.RBN_CNT_DET_pings = min (s.fld F.RBN_CNT_DET_pings + 1) 65535 ∧ t.mem = s.mem
      (s.fld F.RBN_EXT_THR_thr ≤ ext → Answers (.detectPing ext false amp phase cur) s (fun t => Sets [F.RBN_STATUS_ext_field, F.RBN_EVT_ext_field] s t ∧
        t.fld F.RBN_STATUS_ext_field = 1 ∧ t.fld F.RBN_EVT_ext_field = 1)) ∧
      (ext < s.fld F.RBN_EXT_THR_thr → ¬ near → s.rbn.positives + 1 < s.fld F.RBN_DET_CFG_det_cnt → Answers (.detectPing ext false amp phase cur) s (fun t =>
        seen t ∧ t.rbn = { s.rbn with positives := s.rbn.positives + 1 } ∧ t.cpu = s.cpu)) ∧
      (ext < s.fld F.RBN_EXT_THR_thr → ¬ near → s.fld F.RBN_DET_CFG_det_cnt ≤ s.rbn.positives + 1 → s.fld F.RBN_CTRL_auto_field = 0 →
        Answers (.detectPing ext false amp phase cur) s (fun t => seen t ∧ t.rbn = { s.rbn with positives := 0 } ∧ t.fld F.RBN_EVT_detect = 1 ∧
          t.fld F.RBN_CNT_DET_detects = min (s.fld F.RBN_CNT_DET_detects + 1) 65535)) ∧
      (ext < s.fld F.RBN_EXT_THR_thr → near → amp = s.fld F.RBN_DET_REF_amp → phase = s.fld F.RBN_DET_REF_phase → s.rbn.cal = (amp, phase) →
        Answers (.detectPing ext false amp phase cur) s (fun t => seen t ∧ t.rbn = { s.rbn with positives := 0, drift := false } ∧
          t.fld F.RBN_DET_REF_amp = amp ∧ t.fld F.RBN_DET_REF_phase = phase))) ∧
    (s.mayWrite who Reg.RBN_DET_CFG = true → v.getLsbD 12 = true → amp < 4096 → phase < 4096 → Answers (.detectCalibrate who v amp phase) s (fun t =>
      t = { s with regs := t.regs, rbn := { s.rbn with cal := (amp, phase), positives := 0, drift := false } } ∧ t.fld F.RBN_DET_REF_amp = amp ∧
      t.fld F.RBN_DET_REF_phase = phase ∧ RegsBut [F.RBN_DET_REF_amp, F.RBN_DET_REF_phase, F.RBN_DET_CFG_period, F.RBN_DET_CFG_det_cnt] s t))

/-- R271 to R280: the tag engine's session, its answers to the APDUs with their status words, the pages the field takes and releases, the wire's commands on
tag memory, the wire locks, and the harvest output. -/
def Obligations.RobinTag : Prop :=
  ∀ (s : State) (uid h p1 p2 le off fid page mv t0 : Nat) (data l : List Byte),
    let mt := s.tmk.mt
    let answers (i : Instr) (sw : Nat) (d : List Byte) (k : Rbn) : Prop := Answers i s (fun t =>
      t = { s with regs := t.regs, rbn := { k with answer := d ++ [BitVec.ofNat 8 (sw / 256), BitVec.ofNat 8 sw] } } ∧
      RegsBut [F.RBN_CNT_TAG_apdus, F.RBN_CNT_TAG_wtx, F.RBN_TAG_STATUS_app, F.RBN_LOCK_FIELD_pages] s t ∧
      t.fld F.RBN_CNT_TAG_apdus = min (s.fld F.RBN_CNT_TAG_apdus + 1) 65535)
    (s.fld F.RBN_STATUS_field_on = 0 → s.nj.vnjLost = false → h < 256 → uid < 2 ^ 24 → Answers (.fieldAppear uid h) s (fun t =>
      Sets [F.RBN_TAG_STATUS_field, F.RBN_FIELD_h, F.RBN_UID_uid] s t ∧ t.fld F.RBN_TAG_STATUS_field = 1 ∧ t.fld F.RBN_FIELD_h = h ∧
      t.fld F.RBN_UID_uid % 256 = 0x08 ∧ t.fld F.RBN_UID_uid / 256 = uid)) ∧
    (s.fld F.RBN_TAG_STATUS_field = 1 →
      (s.nj.vnjLost = false → Answers .tagActivation s (fun t => t = { s with regs := t.regs, rbn := { s.rbn with file := 0, energySeq := none } } ∧
        RegsBut [F.RBN_TAG_STATUS_active, F.RBN_TAG_STATUS_app, F.RBN_TAG_STATUS_sessions] s t ∧ t.fld F.RBN_TAG_STATUS_active = 1 ∧
        t.fld F.RBN_TAG_STATUS_app = 0 ∧ t.fld F.RBN_TAG_STATUS_sessions = min (s.fld F.RBN_TAG_STATUS_sessions + 1) 65535)) ∧
      (s.rbn.written = 0 → s.rbn.deferred = [] → s.rbn.locks = [] → Answers .fieldLost s (fun t => t.fld F.RBN_TAG_STATUS_field = 0 ∧
        t.fld F.RBN_TAG_STATUS_active = 0 ∧ t.fld F.RBN_LOCK_FIELD_pages = 0 ∧ t.mem = s.mem ∧ t.rbn = { s.rbn with file := 0, energySeq := none }))) ∧
    (s.fld F.RBN_TAG_STATUS_active = 1 → s.rbn.written = 0 → s.rbn.locks = [] → s.fld F.QE_STATUS_table_busy = 0 → s.tabOn = false →
      Answers .deselect s (fun t => t.fld F.RBN_TAG_STATUS_active = 0 ∧ t.fld F.RBN_LOCK_FIELD_pages = 0 ∧ t.fld F.RBN_TAG_STATUS_field = s.fld F.RBN_TAG_STATUS_field ∧
        t.rbn.deferred = [] ∧ t.fld F.RBN_DEFER_bytes = 0 ∧
        t.rbn.tagMem = s.rbn.deferred.foldl (fun m d => Store.setBytes m (256 * d.page + d.off) d.bytes) s.rbn.tagMem)) ∧
    (s.fld F.RBN_TAG_STATUS_active = 1 → s.nj.vnjLost = false →
      (s.ndefOn = true → answers (.selectByName [0xD2, 0x76, 0x00, 0x00, 0x85, 0x01, 0x01]) 0x9000 [] { s.rbn with file := 0, energySeq := none }) ∧
      (s.ndefOn = false → answers (.selectByName [0xD2, 0x76, 0x00, 0x00, 0x85, 0x01, 0x01]) 0x6A82 [] s.rbn) ∧
      (s.fld F.RBN_DEAD_CFG_dead_en = 1 → answers (.selectByName [0xF0, 0x47, 0x4E, 0x53, 0x52, 0x44]) 0x9000 [] { s.rbn with file := 0, energySeq := none }) ∧
      (s.fld F.RBN_TAG_STATUS_app = 1 → s.ndefOn = true →
        answers (.selectFile 0xE103) 0x9000 [] { s.rbn with file := 1, energySeq := none } ∧
        answers (.selectFile 0xE104) 0x9000 [] { s.rbn with file := 2, energySeq := none } ∧
        (fid ≠ 0xE103 → fid ≠ 0xE104 → answers (.selectFile fid) 0x6A82 [] s.rbn)) ∧
      (128 ≤ p1 → answers (.readBinary p1 p2 le 0 false) 0x6A86 [] s.rbn ∧ answers (.updateBinary p1 p2 data 0) 0x6A86 [] s.rbn) ∧
      (s.rbn.file = 2 → s.ndefOn = true → p1 < 128 → 
        let len := 256 * s.fld F.RBN_TAG_CFG_ndef_pages
        let a := 256 * p1 + p2
        (len ≤ a → answers (.readBinary p1 p2 le 0 false) 0x6B00 [] s.rbn ∧ (s.fld F.RBN_TAG_CFG_field_wr = 1 → answers (.updateBinary p1 p2 data 0) 0x6B00 [] s.rbn)) ∧
        (len ≤ off → answers (.readBinaryOdd off le 0 false) 0x6B00 [] s.rbn) ∧
        (s.rbn.wire = [] →
          (a + le ≤ len → 1 ≤ le → answers (.readBinary p1 p2 le 0 false) 0x9000 (Store.bytes s.rbn.tagMem a le) s.rbn) ∧
          (a < len → len < a + le → answers (.readBinary p1 p2 le 0 false) 0x6282 (Store.bytes s.rbn.tagMem a (len - a)) s.rbn) ∧
          (off + le ≤ len → 1 ≤ le → answers (.readBinaryOdd off le 0 false) 0x9000 (Store.bytes s.rbn.tagMem off le) s.rbn) ∧
          (s.fld F.RBN_TAG_CFG_field_wr = 1 → a + data.length ≤ len → data ≠ [] → answers (.updateBinary p1 p2 data 0) 0x9000 []
            { s.rbn with tagMem := Store.setBytes s.rbn.tagMem a data, written := s.rbn.written ||| pagesOf a data.length })) ∧
        (s.fld F.RBN_TAG_CFG_field_wr = 1 → a < len → len < a + data.length → answers (.updateBinary p1 p2 data 0) 0x6700 [] s.rbn) ∧
        (s.fld F.RBN_TAG_CFG_field_wr = 0 → answers (.updateBinary p1 p2 data 0) 0x6982 [] s.rbn))) ∧
    (s.isWorker = false → s.dawnDone = true → s.dsk.off = false →
      let y := (s.qRoom 0x008B).2
      let x := (y.blockPeek 0x008A).2
      let z := (x.blockTake 0x008A).2
      let g (o n : Nat) := leNat ((l.drop o).take n)
      let at_ := 256 * g 1 1 + g 2 2
      let ok := g 1 1 ≤ 31 ∧ 1 ≤ g 4 2 ∧ g 4 2 ≤ 256 ∧ g 2 2 + g 4 2 ≤ 256
      (s.qRoom 0x008B).1 = true → (y.blockPeek 0x008A).1 = some l →
        (g 0 1 = 1 → ok → 8 + g 4 2 ≤ l.length → (s.word Reg.RBN_LOCK_FIELD).getLsbD (g 1 1) = false → Answers .tagWrite s (fun t => ∃ u : State,
          u = { z with rbn := { s.rbn with tagMem := Store.setBytes s.rbn.tagMem at_ ((l.drop 8).take (g 4 2)) } } ∧ t = u.tagResult 0 (g 6 2) [])) ∧
        (g 0 1 = 1 → ok → 8 + g 4 2 ≤ l.length → (s.word Reg.RBN_LOCK_FIELD).getLsbD (g 1 1) = true → s.fld F.RBN_DEFER_bytes + 256 ≤ 2048 → Answers .tagWrite s (fun t =>
          t.rbn = { s.rbn with deferred := s.rbn.deferred ++ [⟨g 1 1, g 2 2, (l.drop 8).take (g 4 2), g 6 2⟩] })) ∧
        (g 0 1 = 1 → ¬ ok ∨ l.length < 8 + g 4 2 → Answers .tagWrite s (fun t => t = z.tagResult 2 (g 6 2) [])) ∧
        (g 0 1 = 2 → ok → Answers .tagRead s (fun t => t = z.tagResult 0 (g 6 2) (Store.bytes s.rbn.tagMem at_ (g 4 2)))) ∧
        (g 0 1 = 3 → s.word Reg.RBN_LOCK_FIELD = 0 → Answers .tagLock s (fun t => t.rbn = { s.rbn with wire := t.rbn.wire } ∧
          ∀ q, q < 32 → (g 2 4).testBit q = true → (q, mt) ∈ t.rbn.wire)) ∧
        (g 0 1 = 4 → Answers .tagUnlock s (fun t => t.rbn = { s.rbn with wire := s.rbn.wire.filter (fun w => !(g 2 4).testBit w.1) }))) ∧
    (page < 32 → s.rbn.wire = [(page, t0)] → 
      (t0 + s.fld F.RBN_TAG_CFG_lock_ms * 250000 ≤ mt → Answers (.wireLockExpire page) s (fun t => t = { s with regs := t.regs, rbn := { s.rbn with wire := [] } } ∧
        t.word Reg.RBN_LOCK_WIRE = 0)) ∧
      (mt < t0 + s.fld F.RBN_TAG_CFG_lock_ms * 250000 → Answers (.wireLockExpire page) s (fun t => t = s))) ∧
    (mv < 4096 →
      (3300 ≤ mv → s.fld F.RBN_HARV_CFG_out_en = 1 → s.fld F.RBN_STATUS_field_on = 0 → s.rbn.ovlOff = false → Answers (.harvestOn mv) s (fun t =>
        Sets [F.RBN_HARV_STATUS_vharv, F.RBN_HARV_STATUS_out_on] s t ∧ t.fld F.RBN_HARV_STATUS_out_on = 1 ∧ t.fld F.RBN_HARV_STATUS_vharv = mv)) ∧
      (mv < 3300 ∨ s.rbn.ovlOff = true → Answers (.harvestOn mv) s (fun t => Sets [F.RBN_HARV_STATUS_vharv] s t ∧ t.fld F.RBN_HARV_STATUS_vharv = mv)) ∧
      (mv < 3100 → Answers (.harvestOff mv) s (fun t => Sets [F.RBN_HARV_STATUS_vharv, F.RBN_HARV_STATUS_out_on] s t ∧ t.fld F.RBN_HARV_STATUS_out_on = 0)) ∧
      (3100 ≤ mv → Answers (.harvestOff mv) s (fun t => Sets [F.RBN_HARV_STATUS_vharv] s t))) ∧
    (s.fld F.RBN_HARV_STATUS_out_on = 1 → Answers .harvestOverload s (fun t => t.fld F.RBN_HARV_STATUS_out_on = 0 ∧ t.fld F.RBN_HARV_STATUS_ovl = 1 ∧
      t.fld F.RBN_EVT_harv_ovl = 1 ∧ t.rbn.ovlOff = true ∧ t.mem = s.mem)) ∧
    (s.rbn.ovlOff = true → Answers .harvestOvlEnd s (fun t => t = { s with regs := t.regs, rbn := { s.rbn with ovlOff := false } } ∧
      RegsBut [F.RBN_HARV_STATUS_out_on] s t ∧ (3300 ≤ s.fld F.RBN_HARV_STATUS_vharv → s.fld F.RBN_HARV_CFG_out_en = 1 → s.fld F.RBN_STATUS_field_on = 0 →
        t.fld F.RBN_HARV_STATUS_out_on = 1)))
/-! ## The safety functions (14_safety_functions.md) -/

/-- R286, R290 to R293, R284: a source of a ball or comparator that passes its deglitch asserts and latches exactly the groups of its mask, with the record of
the latch; one already asserted changes nothing more. A source that deasserts leaves the groups without an asserted cause LOCKED_CLEAR. Stuck outputs, the
supply hold and the SFC's lines drive their sources. -/
def Obligations.SafetyTrips : Prop :=
  ∀ (s : State) (n g c : Nat) (v : Word), g < 10 → s.saf.armed = true →
    let m := s.saf.eff.mask n
    let mark (k : Nat) : Grp := ⟨1, (s.grp g).causes ||| (1#64 <<< k)⟩
    (n < 32 → s.srcLive n = false → Answers (.trip n) s (fun t =>
      t.saf.inputs = s.saf.inputs ||| (1#32 <<< n) ∧ t.saf.live = s.saf.live ||| (1#64 <<< n) ∧ t.saf.eff = s.saf.eff ∧ t.tmk = s.tmk ∧
      t.grp g = (if m.testBit g then mark n else s.grp g) ∧
      (m ≠ 0 → t.fld F.SAF_STATUS_last_src = n ∧ t.word Reg.SAF_LAST_TRIP = w32 s.mt ∧ t.fld F.SAF_EVT_trip = 1 ∧
        t.fld F.SAF_CNT_trips = min (s.fld F.SAF_CNT_trips + 1) 65535 ∧ (s.cpu.cores.length = 5 → (t.core 4).pend.getLsbD 17 = true)) ∧
      (m.testBit g = true → t.fld F.SAF_STATUS_lockout_any = 1 ∧ t.fld F.SYS_POST_STATUS_lockout_any = 1) ∧
      (m.testBit g = true → s.locked g = false → t.fld F.SAF_FAULT_code = 0x0601 ∧ t.fld F.SAF_EVT_fault = 1))) ∧
    (n < 32 → s.srcLive n = true → Answers (.trip n) s (fun t => t = { s with saf := { s.saf with inputs := s.saf.inputs ||| (1#32 <<< n) } })) ∧
    (n < 32 → s.srcLive n = true → (16 ≤ n → s.saf.dacWrong.getD (n - 16) false = false) → s.saf.quietFrom.length = 64 →
      Answers (.sourceDeassert n) s (fun t =>
        t = { s with saf := { t.saf with inputs := s.saf.inputs &&& ~~~(1#32 <<< n) } } ∧
        t.saf = { s.saf with inputs := t.saf.inputs, live := t.saf.live, quietFrom := t.saf.quietFrom, groups := t.saf.groups } ∧ t.saf.live = s.saf.live &&& ~~~(1#64 <<< n) ∧ t.saf.quietFrom.getD n 0 = s.mt ∧
        (∀ k, k ≠ n → t.saf.quietFrom.getD k 0 = s.saf.quietFrom.getD k 0) ∧ (t.grp g).causes = (s.grp g).causes ∧
        (t.grp g).state = (if (s.grp g).state = 1 ∧ (s.grp g).causes &&& t.saf.live = 0 then 2 else (s.grp g).state))) ∧
    (16 ≤ n → n < 32 → s.saf.dacWrong.getD (n - 16) false = true → Answers (.sourceDeassert n) s (fun t =>
      t = { s with saf := { s.saf with inputs := s.saf.inputs &&& ~~~(1#32 <<< n) } })) ∧
    (n < 16 →
      (s.saf.mismatch.testBit n = false → Answers (.outputStuck n true) s (fun t => t.saf.mismatch = s.saf.mismatch ||| 2 ^ n ∧
        t.fldBit F.SAF_DIAG_stuck n = true ∧ t.srcLive 55 = true ∧ t.fld F.SAF_FAULT_code = 0x0603 ∧ (s.srcLive 55 = false → t.grp g = mark 55))) ∧
      (s.saf.mismatch.testBit n = true → Answers (.outputStuck n true) s (fun t => t = s)) ∧
      (s.saf.mismatch < 65536 → Answers (.outputStuck n false) s (fun t => t = { s with saf := { s.saf with mismatch := t.saf.mismatch } } ∧
        t.saf.mismatch.testBit n = false ∧ ∀ k, k ≠ n → t.saf.mismatch.testBit k = s.saf.mismatch.testBit k))) ∧
    Answers .vcoreLowHold s (fun t => t = { s with regs := t.regs, saf := { s.saf with hold := true } } ∧ RegsBut [F.SAF_STATUS_vcore_hold] s t ∧
      t.fld F.SAF_STATUS_vcore_hold = 1) ∧
    (s.saf.hold = true → Answers .vcoreHoldRelease s (fun t => t.saf.hold = false ∧ t.fld F.SAF_STATUS_vcore_hold = 0 ∧ t.srcLive 56 = true ∧
      t.fld F.SAF_FAULT_code = 0x0607 ∧ (s.srcLive 56 = false → t.grp g = mark 56))) ∧
    (s.saf.hold = false → Answers .vcoreHoldRelease s (fun t => t = s)) ∧
    Answers (.sfcTripWrite (.core 4) v) s (fun t => t.fld F.SAF_SFC_TRIP_line = v.toNat % 16 ∧
      (∀ k, k < 4 → t.srcLive (40 + k) = v.getLsbD k) ∧ (∀ k, k < 40 ∨ 44 ≤ k → t.srcLive k = s.srcLive k) ∧
      ∀ k, k < 4 → v.getLsbD k = true → s.srcLive (40 + k) = false → (s.saf.eff.mask (40 + k)).testBit g = true → t.locked g = true) ∧
    (c ≠ 4 → Answers (.sfcTripWrite (.core c) v) s (fun t => t = s)) ∧ Answers (.sfcTripWrite .host v) s (fun t => t = s)

/-- R295, R296: LOCK_CMD takes two writes of one core within 1 ms; a group is released from LOCKED_CLEAR alone, with every cause quiet for 50 ms and meter time
running, and a refused release counts nothing. LOCK_EDGE groups are released at the falling edge of a SAFE_RESET pulse of 20 ms to 2 s that began idle; a longer
one is a jam. -/
def Obligations.SafetyReleases : Prop :=
  ∀ (s : State) (c k m g t0 t1 : Nat) (v : Word), g < 10 → m < 1024 →
    let mt := s.tmk.mt
    let quiet (h : Nat) : Prop := ∀ n, n < 57 → (s.grp h).causes.getLsbD n = true → s.srcLive n = false ∧ s.saf.quietFrom.getD n 0 + 1250000 ≤ mt
    let open_ (h : Nat) : Prop := (s.grp h).state = 2 ∧ quiet h ∧ s.tmk.mtRun = true
    let refused (t : State) (gs reason : Nat) : Prop := t.saf.groups = s.saf.groups ∧ t.fld F.SAF_STATUS_clear_refused = 1 ∧ t.fld F.SAF_REL_RESULT_refused = gs ∧
      t.fld F.SAF_REL_RESULT_reason = reason ∧ t.fld F.SAF_CNT_releases = s.fld F.SAF_CNT_releases ∧ t.fld F.SAF_EVT_refused = 1 ∧ t.mem = s.mem ∧ t.pwr = s.pwr
    let confirm : Instr := .safRelConfirm (.core c) v
    (s.mayWrite (.core c) Reg.SAF_REL_REQ = true →
      (v.toNat / 65536 = 0xC1EA → Answers (.safRelReq (.core c) v) s (fun t =>
        t = { s with saf := { s.saf with relReq := some (c, v.toNat % 1024, mt) } })) ∧
      (v.toNat / 65536 ≠ 0xC1EA → Answers (.safRelReq (.core c) v) s (fun t => t = s))) ∧
    Answers (.safRelReq .host v) s (fun t => t = s) ∧ Answers (.safRelConfirm .host v) s (fun t => t = s) ∧
    ((s.core c).task = true → Answers (.safRelReq (.core c) v) s (fun t => t = s) ∧ Answers confirm s (fun t => t = s)) ∧
    (s.mayWrite (.core c) Reg.SAF_REL_CONFIRM = true →
      (s.saf.relReq = none ∨ v.toNat % 65536 ≠ 0x3E15 → Answers confirm s (fun t => t = s)) ∧
      (v.toNat % 65536 = 0x3E15 →
        (s.saf.relReq = some (c, m, t0) → mt ≤ t0 + 25000 →
          (m ≠ 0 → (∀ h, h < 10 → m.testBit h = true → open_ h ∧ s.lockEdge h = false) → Answers confirm s (fun t =>
            t.saf = { s.saf with relReq := none, groups := t.saf.groups } ∧ t.grp g = (if m.testBit g then {} else s.grp g) ∧ t.mem = s.mem ∧ t.pwr = s.pwr ∧
            t.fld F.SAF_REL_RESULT_released = m ∧ t.fld F.SAF_REL_RESULT_via = 1 ∧ t.fld F.SAF_EVT_release = 1 ∧
            t.fld F.SAF_CNT_releases = min (s.fld F.SAF_CNT_releases + 1) 65535)) ∧
          (m = 2 ^ g →
            (s.lockEdge g = true → Answers confirm s (fun t => refused t m 2)) ∧
            (s.lockEdge g = false → s.tmk.mtRun = true → (s.grp g).state ≠ 2 → Answers confirm s (fun t => refused t m 3)) ∧
            (s.lockEdge g = false → s.tmk.mtRun = true → (s.grp g).state = 2 → ¬ quiet g → Answers confirm s (fun t => refused t m 1)) ∧
            (s.lockEdge g = false → s.tmk.mtRun = false → (s.grp g).state = 2 → quiet g → Answers confirm s (fun t => refused t m 6)))) ∧
        (s.saf.relReq = some (k, m, t0) → m ≠ 0 → c ≠ k ∨ t0 + 25000 < mt → Answers confirm s (fun t => refused t m 4)))) ∧
    (s.saf.lowFrom = some t0 → s.tmk.mtRun = true → s.saf.armed = true → Answers .safeResetRise s (fun t =>
      t.saf = { s.saf with lowFrom := none, highFrom := mt, idleAtRise := decide (t0 + 1250000 ≤ mt), okAtRise := t.saf.okAtRise, seenAtRise := t.saf.seenAtRise } ∧ t.pwr = s.pwr ∧
      t.fld F.SAF_RESET_IN_level = 1 ∧ t.fld F.SAF_RESET_IN_edges = min (s.fld F.SAF_RESET_IN_edges + 1) 65535 ∧
      (t.saf.okAtRise.testBit g = true ↔ t0 + 1250000 ≤ mt ∧ s.lockEdge g = true ∧ open_ g) ∧
      (t.saf.seenAtRise.testBit g = true ↔ s.lockEdge g = true ∧ s.locked g = true) ∧
      (mt < t0 + 1250000 → s.lockEdge g = true → s.locked g = true → t.fld F.SAF_STATUS_clear_refused = 1 ∧
        t.fld F.SAF_REL_RESULT_reason = (if s.is F.SAF_STATUS_jam then 7 else 5)))) ∧
    (s.saf.lowFrom = none ∨ s.tmk.mtRun = false ∨ s.saf.armed = false → Answers .safeResetRise s (fun t => t = s)) ∧
    (s.saf.lowFrom = some t1 ∨ s.tmk.mtRun = false ∨ s.saf.armed = false → Answers .safeResetFall s (fun t => t = s)) ∧
    (s.saf.lowFrom = none → s.tmk.mtRun = true → s.saf.armed = true → Answers .safeResetFall s (fun t =>
      t.saf = { s.saf with lowFrom := some mt, groups := t.saf.groups } ∧ t.fld F.SAF_RESET_IN_level = 0 ∧ t.pwr = s.pwr ∧
      t.fld F.SAF_RESET_IN_pulse_ms = min ((mt - s.saf.highFrom) / 25000) 4095 ∧
      (s.saf.idleAtRise = true → s.is F.SAF_STATUS_jam = false → 500000 ≤ mt - s.saf.highFrom → mt - s.saf.highFrom ≤ 50000000 →
        (s.lockEdge g = true → s.saf.okAtRise.testBit g = true → open_ g → t.grp g = {} ∧ t.fld F.SAF_REL_RESULT_via = 2 ∧
          t.fldBit F.SAF_REL_RESULT_released g = true ∧ t.fld F.SAF_CNT_releases = min (s.fld F.SAF_CNT_releases + 1) 65535) ∧
        (s.lockEdge g = false ∨ s.saf.okAtRise.testBit g = false ∨ ¬ open_ g → t.grp g = s.grp g)) ∧
      (s.saf.idleAtRise = false ∨ s.is F.SAF_STATUS_jam = true ∨ mt - s.saf.highFrom < 500000 ∨ 50000000 < mt - s.saf.highFrom →
        t.saf.groups = s.saf.groups))) ∧
    (s.saf.lowFrom = none → s.fld F.SAF_STATUS_jam = 0 → s.tmk.mtRun = true →
      (50000000 < mt - s.saf.highFrom → Answers .resetJam s (fun t => t.saf = s.saf ∧ t.fld F.SAF_STATUS_jam = 1 ∧ t.fld F.SAF_EVT_jam = 1 ∧
        t.fld F.SAF_FAULT_code = 0x0602)) ∧
      (mt - s.saf.highFrom ≤ 50000000 → Answers .resetJam s (fun t => t = s)))

/-- R297, R298, R302: a thermal channel's warning and trip act after their dwell, a sensor fault at once; the thirteenth change of the hour is chatter. Test
injection latches nothing and runs once at a time; a level DAC more than 20 mV off asserts its source. -/
def Obligations.ThermalAndTests : Prop :=
  ∀ (s : State) (n code a seen lat c rb : Nat) (temp : Int) (who : Init) (v : Word), n < 4 → s.saf.therm.length = 4 →
    let mt := s.tmk.mt
    let lvl (hi lo : Nat) : Int := 10 * ((getBits (s.saf.eff.thLvl.getD n 0) hi lo : Int) - 64)
    let cfg := s.saf.eff.thCfg.getD n 0
    let runs := s.saf.armed = true ∧ s.tmk.mtRun = true ∧ cfg.getLsbD 20 = true
    let good := if n = 0 then (temp - s.njTemp).natAbs ≤ 80 else 32 ≤ code ∧ code ≤ 4063
    let sample : Instr := .thermalSample n code temp
    let src := s.srcLive (36 + n)
    (¬ runs → Answers sample s (fun t => t = s)) ∧
    (runs → n ≠ 0 → code < 32 ∨ 4063 < code → Answers sample s (fun t => (t.th n).sensor = true ∧
      ((s.th n).sensor = false → t.srcLive (36 + n) = true ∧ t.fld (F.SAF_THn_STAT_sensor_bad n) = 1 ∧ t.fld F.SAF_FAULT_code = 0x0609) ∧
      ((s.th n).sensor = true → t.srcLive (36 + n) = src ∧ t.saf.groups = s.saf.groups))) ∧
    (runs → good → (s.th n).sensor = false → Answers sample s (fun t => (t.th n).temp = temp ∧
      ((s.th n).trip = false → src = false → temp < lvl 23 16 → t.srcLive (36 + n) = false ∧ (t.th n).tripFrom = none ∧ t.saf.groups = s.saf.groups) ∧
      ((s.th n).trip = false → src = false → lvl 23 16 ≤ temp → (s.th n).tripFrom = some a →
        (mt < a + 250000 * getBits cfg 19 10 → t.srcLive (36 + n) = false ∧ (t.th n).tripFrom = some a) ∧
        (a + 250000 * getBits cfg 19 10 ≤ mt → t.srcLive (36 + n) = true ∧ t.fld (F.SAF_THn_STAT_trip n) = 1 ∧ t.fld F.SAF_EVT_therm = 1)) ∧
      ((s.th n).trip = true → src = true → temp < lvl 31 24 → (s.th n).tripFrom = some a → a + 250000 * getBits cfg 19 10 ≤ mt →
        t.srcLive (36 + n) = false ∧ t.fld (F.SAF_THn_STAT_trip n) = 0) ∧
      (s.fld (F.SAF_THn_STAT_chatter n) = 0 → s.fld (F.SAF_THn_STAT_warn n) = 0 →
        (temp < lvl 7 0 → t.fld (F.SAF_THn_STAT_warn n) = 0 ∧ (t.th n).warnFrom = none ∧ (t.th n).changes = (s.th n).changes) ∧
        (lvl 7 0 ≤ temp → (s.th n).warnFrom = some a → a + 250000 * getBits cfg 9 0 ≤ mt → t.fld (F.SAF_THn_STAT_warn n) = 1 ∧
          ((s.thChanges n).length < 12 → (t.th n).changes = mt :: s.thChanges n ∧ t.fld (F.SAF_THn_STAT_chatter n) = 0) ∧
          (12 ≤ (s.thChanges n).length → t.fld (F.SAF_THn_STAT_chatter n) = 1 ∧ t.fld F.SAF_EVT_chatter = 1))) ∧
      (s.fld (F.SAF_THn_STAT_chatter n) = 1 → temp < lvl 15 8 → (s.th n).coolFrom = some a →
        (mt < a + 15000000000 → t.fld (F.SAF_THn_STAT_chatter n) = 1 ∧ t.fld (F.SAF_THn_STAT_warn n) = s.fld (F.SAF_THn_STAT_warn n)) ∧
        (a + 15000000000 ≤ mt → t.fld (F.SAF_THn_STAT_chatter n) = 0 ∧ t.fld (F.SAF_THn_STAT_warn n) = 0 ∧ (t.th n).changes = [])))) ∧
    (let k := v.toNat % 64
     let idle := ∀ g, g < 10 → (s.saf.eff.mask k).testBit g = true → s.groupOff g = true
     s.mayWrite who Reg.SAF_TEST = true →
      (v.toNat / 256 % 256 = 0x7E → k < 57 → s.fld F.SAF_STATUS_test_busy = 0 → idle → Answers (.safTest who v) s (fun t =>
        t = { s with regs := t.regs, saf := { s.saf with test := some k } } ∧ RegsBut [F.SAF_STATUS_test_busy, wordAt Reg.SAF_TEST_RESULT] s t ∧
        t.fld F.SAF_STATUS_test_busy = 1 ∧ t.fld F.SAF_TEST_RESULT_state = 1 ∧ t.fld F.SAF_TEST_RESULT_source = k)) ∧
      (v.toNat / 256 % 256 ≠ 0x7E ∨ s.fld F.SAF_STATUS_test_busy = 1 ∨ ¬ idle → Answers (.safTest who v) s (fun t => t = s))) ∧
    (s.saf.test = some c → seen < 1024 → lat < 256 → Answers (.testInjectionDone seen lat) s (fun t => t.saf = { s.saf with test := none } ∧
      t.fld F.SAF_STATUS_test_busy = 0 ∧ t.fld F.SAF_TEST_RESULT_lat_ns = lat ∧ t.fld F.SAF_TEST_RESULT_seen = seen ∧ t.fld F.SAF_EVT_test = 1 ∧
      t.fld F.SAF_TEST_RESULT_state = (if seen &&& s.saf.eff.mask c = s.saf.eff.mask c then 2 else 3) ∧
      (seen &&& s.saf.eff.mask c ≠ s.saf.eff.mask c → t.fld F.SAF_FAULT_code = 0x0608))) ∧
    (let lv := s.saf.eff.cmp.getD c 0
     let off := lv + 10 < rb ∨ rb + 10 < lv
     c < 16 → s.saf.dacWrong.length = 16 →
      (off → Answers (.dacReadback c rb) s (fun t => t.fldBit F.SAF_DIAG_dac_bad c = true ∧ t.srcLive (16 + c) = true ∧ t.saf.dacWrong.getD c false = true ∧
        (s.saf.dacWrong.getD c false = false → t.fld F.SAF_FAULT_code = 0x0604))) ∧
      (¬ off → Answers (.dacReadback c rb) s (fun t => t = { s with saf := t.saf } ∧ t.saf.dacWrong.getD c false = false ∧
        (s.saf.dacWrong.getD c false = false ∨ s.saf.inputs.getLsbD (16 + c) = true → t.saf.live = s.saf.live ∧ t.saf.groups = s.saf.groups) ∧
        (s.saf.dacWrong.getD c false = true → s.saf.inputs.getLsbD (16 + c) = false → t.srcLive (16 + c) = false))))

/-- R299 to R301: a commit is accepted only sealed open, outputs off, none running, no Dusk warning and a good connection table; it takes the staged values, and
at its end applies them in one step or, where the copy reads back wrong, applies nothing. RELOAD discards the staged values. -/
def Obligations.SealedParameters : Prop :=
  ∀ (s : State) (who : Init) (v : Word) (m : Commit) (g n : Nat),
    let tableOk := s.connTableOk s.saf.staged = true
    (s.mayWrite who Reg.SAF_PARAM_CMD = true →
      (v.toNat / 65536 ≠ 0x5EA1 → Answers (.paramCommit who v) s (fun t => t = s) ∧ Answers (.reload who v) s (fun t => t = s)) ∧
      (v.toNat / 65536 = 0x5EA1 → v.toNat % 4 = 1 →
        (s.configEn = true → s.outputsOn = false → s.saf.commit = none → s.duskWarn = false → tableOk → Answers (.paramCommit who v) s (fun t =>
          ∃ d slot, t = { s with regs := t.regs, saf := { s.saf with
              commit := some ⟨slot, ⟨true, sealedSeq s.saf.copies + 1, s.saf.staged, s.sealedWords, s.sealCode, d⟩⟩ } } ∧
          newestSealed s.saf.copies ≠ some slot ∧ slot < 2 ∧ RegsBut [F.SAF_STATUS_commit_busy] s t ∧ t.fld F.SAF_STATUS_commit_busy = 1)) ∧
        (s.configEn = false ∨ s.outputsOn = true ∨ s.saf.commit ≠ none ∨ s.duskWarn = true ∨ ¬ tableOk → Answers (.paramCommit who v) s (fun t =>
          t.saf = s.saf ∧ t.fld F.SAF_STATUS_commit_busy = s.fld F.SAF_STATUS_commit_busy)) ∧
        (s.configEn = false → s.outputsOn = false → s.saf.commit = none → s.duskWarn = false → tableOk → Answers (.paramCommit who v) s (fun t =>
          Sets [F.SAF_PARAM_STATUS_result] s t ∧ t.fld F.SAF_PARAM_STATUS_result = 2)) ∧
        (s.configEn = true → s.outputsOn = true → s.saf.commit = none → s.duskWarn = false → tableOk → Answers (.paramCommit who v) s (fun t =>
          Sets [F.SAF_PARAM_STATUS_result] s t ∧ t.fld F.SAF_PARAM_STATUS_result = 3)) ∧
        (s.configEn = true → s.outputsOn = false → s.saf.commit = some m → s.duskWarn = false → tableOk → Answers (.paramCommit who v) s (fun t =>
          Sets [F.SAF_PARAM_STATUS_result] s t ∧ t.fld F.SAF_PARAM_STATUS_result = 4)) ∧
        (s.configEn = true → s.outputsOn = false → s.saf.commit = none → s.duskWarn = true → tableOk → Answers (.paramCommit who v) s (fun t =>
          Sets [F.SAF_PARAM_STATUS_result] s t ∧ t.fld F.SAF_PARAM_STATUS_result = 5)) ∧
        (s.configEn = true → s.outputsOn = false → s.saf.commit = none → s.duskWarn = false → ¬ tableOk → Answers (.paramCommit who v) s (fun t =>
          t.fld F.SAF_PARAM_STATUS_result = 7 ∧ t.fld F.SAF_FAULT_code = 0x0610))) ∧
      (v.toNat / 65536 = 0x5EA1 → v.toNat % 4 = 2 → Answers (.reload who v) s (fun t => t = { s with saf := { s.saf with staged := s.saf.eff } }))) ∧
    (s.saf.commit = none → ∀ good, Answers (.commitDone good) s (fun t => t = s)) ∧
    (s.saf.commit = some m → m.slot < s.saf.copies.length →
      Answers (.commitDone true) s (fun t => t.saf.commit = none ∧ t.saf.eff = m.copy.set ∧ t.saf.staged = s.saf.staged ∧
        t.saf.copies.getD m.slot none = some m.copy ∧ t.saf.digest = m.copy.digest ∧ t.fld F.SAF_STATUS_commit_busy = 0 ∧
        t.fld F.SAF_PARAM_STATUS_result = 1 ∧ t.fld F.SAF_EVT_commit = 1 ∧
        t.fld F.SAF_PARAM_STATUS_commits = min (s.fld F.SAF_PARAM_STATUS_commits + 1) 65535 ∧
        (m.copy.sealCode = s.sealCode → t.srcLive 54 = false ∧ t.fld F.SAF_PARAM_STATUS_valid = 1) ∧
        (g < 10 → n < 45 ∨ 53 ≤ n → n < 57 → n ≠ 54 → s.srcLive n = true → (m.copy.set.mask n).testBit g = true → (s.saf.eff.mask n).testBit g = false →
          (t.grp g).state = 1 ∧ (t.grp g).causes.getLsbD n = true)) ∧
      Answers (.commitDone false) s (fun t => t.saf = { s.saf with commit := none, copies := t.saf.copies } ∧ t.fld F.SAF_STATUS_commit_busy = 0 ∧
        t.fld F.SAF_PARAM_STATUS_result = 6 ∧ t.fld F.SAF_FAULT_code = 0x0605))
/-! ## Safety messages over the fabric (16_safety_over_fabric.md) -/

/-- R329 to R336, R339, R340: a producer sends one envelope with its fields and its check a period; a consumer judges what its queue brings as Table SAF-14 says:
check errors, the sequence, close, three good envelopes to RUN, twin pairs; what ends RUN asserts the line of the entry; the watchdog, the skew timer, the
payload's commit and REARM. -/
def Obligations.SafetyConnections : Prop :=
  ∀ (s : State) (c th : Nat) (e h : List Byte) (v : Word) (who : Init), c < 64 → s.saf.conns.length = 64 → 
    let p := s.saf.eff
    let k := s.conn c
    let mt := s.tmk.mt
    let u := (s.blockTake (0x40 + c)).2
    let gets := (s.blockTake (0x40 + c)).1 = some e ∧ s.saf.armed = true ∧ s.consumer c = true
    let at_ (l : List Byte) (o n : Nat) : Nat := leNat ((l.drop o).take n)
    let ctl (l : List Byte) : Nat := at_ l 2 1
    let passes := e.length = 32 ∧ ctl e < 16 ∧ at_ e 3 1 = 0 ∧ at_ e 0x17 1 = 0 ∧ at_ e 0x14 2 = s.peerOf p c ∧ at_ e 0x16 1 = p.cfg c 13 8 ∧
      at_ e 0x1C 4 = (crc32c (p.connWord c 0) (e.take 0x1C)).toNat ∧ (p.twin c = true ∨ ctl e % 2 = 0)
    let d := (at_ e 0 2 + 65536 - k.lastSeq) % 65536
    let errs := mt :: k.errs.filter (fun x => mt < x + 90000000000)
    let took : Conn := { k with lastSeq := at_ e 0 2, rx := (e.drop 4).take 16, demand := (ctl e).testBit 1, peerOk := (ctl e).testBit 2, okAt := mt, held := none }
    let env : Instr := .envelope c
    let safe (i : Instr) (b : Conn) (cause : Nat) : Prop := Answers i s (fun t =>
      t.conn c = { b with state := 3, cause := cause, held := none, count := 0, safeEntries := min (k.safeEntries + 1) 255 } ∧
      (∀ o, o ≠ c → t.conn o = s.conn o) ∧ t.fld F.SAF_EVT_fault = 1 ∧ (p.cfg c 7 4 < 8 → t.srcLive (45 + p.cfg c 7 4) = true))
    let becomes (b : Conn) : Prop := Answers env s (fun t => t.conn c = b ∧ (∀ o, o ≠ c → t.conn o = s.conn o) ∧ t.saf.eff = p)
    (s.mayProduce c = false → Answers (.envelopeSend c) s (fun t => t = s)) ∧
    (s.mayProduce c = true → p.twin c = false → k.tx.length = 16 → k.txSeq < 65536 → Answers (.envelopeSend c) s (fun t => ∃ l : List Byte, 
      l.length = 32 ∧ at_ l 0 2 = k.txSeq ∧ (l.drop 4).take 16 = k.tx ∧ at_ l 0x14 2 = s.nodeId % 65536 ∧ at_ l 0x16 1 = c ∧ at_ l 0x18 4 = mt % 2 ^ 32 ∧
      at_ l 0x1C 4 = (crc32c (p.connWord c 0) (l.take 0x1C)).toNat ∧ at_ l 3 1 = 0 ∧ at_ l 0x17 1 = 0 ∧ ctl l / 8 = 0 ∧ ctl l % 2 = 0 ∧
      (ctl l).testBit 1 = (s.isManager && s.is F.SAF_SC_STATUS_post_lockout) ∧
      (ctl l).testBit 2 = (p.link c 6 6 = 1 && (s.conn (p.link c 5 0)).state = 2) ∧
      t.conn c = { k with txSeq := (k.txSeq + 1) % 65536 } ∧
      (let f : Frame := { dst := s.peerOf p c, queue := 0x40 + p.cfg c 13 8, seq := s.newSeq.1, noAns := true, msgLen := 32, body := .msg l }
       let sent := match s.connRoute c 0 with | some r => s.newSeq.2.sendRoute f r | none => (s.newSeq.2.launch f).2
       t = sent.onConn c (fun q => { q with txSeq := (k.txSeq + 1) % 65536 })))) ∧
    ((s.blockTake (0x40 + c)).1 = none → Answers env s (fun t => t = u)) ∧
    (gets → ¬ passes →
      (k.state ≠ 2 ∨ errs.length ≤ p.time c 31 28 → becomes { k with chkErr := min (k.chkErr + 1) 255, errs := errs }) ∧
      (k.state = 2 → p.time c 31 28 < errs.length → safe env { k with chkErr := min (k.chkErr + 1) 255, errs := errs } 5)) ∧
    (gets → passes → (ctl e).testBit 3 = true →
      (k.state = 2 → becomes { k with state := 1, count := 0, held := none, demand := false, peerOk := false }) ∧
      (k.state ≠ 2 → Answers env s (fun t => t = u))) ∧
    (gets → passes → (ctl e).testBit 3 = false →
      (k.state = 0 ∨ k.state = 3 → Answers env s (fun t => t = u)) ∧
      (p.twin c = false → k.state = 2 →
        (1 ≤ d → d ≤ p.time c 27 25 + 1 → becomes { took with count := 0, skipped := min (k.skipped + (d - 1)) 255 }) ∧
        (d = 0 ∨ 32768 ≤ d → becomes { k with stale := min (k.stale + 1) 255 }) ∧
        (p.time c 27 25 + 1 < d → d < 32768 → safe env k 2)) ∧
      (p.twin c = false → k.state = 1 ∨ k.state = 4 →
        (k.count = 2 → d = 1 → becomes { took with state := 2, count := 0 }) ∧
        (k.count = 1 → d = 1 → becomes { took with count := 2 }) ∧
        (k.count = 0 ∨ d ≠ 1 → becomes { took with count := 1 })) ∧
      (p.twin c = true → k.held = none → k.state = 1 ∨ k.state = 4 ∨ (k.state = 2 ∧ 1 ≤ d ∧ d ≤ p.time c 27 25 + 1) → becomes { k with held := some (e, mt) }) ∧
      (p.twin c = true → k.held = some (h, th) → at_ h 0 2 = at_ e 0 2 →
        (ctl e % 2 = ctl h % 2 → becomes { k with stale := min (k.stale + 1) 255 }) ∧
        (ctl e % 2 ≠ ctl h % 2 → mt - th ≤ 250 * p.time c 24 16 → k.state = 2 →
          (twinEqual e h = true → becomes { took with count := 0, skipped := min (k.skipped + (d - 1)) 255 }) ∧ (twinEqual e h = false → safe env k 4))) ∧
      (p.twin c = true → k.held = some (h, th) → k.state = 2 → 1 ≤ (at_ e 0 2 + 65536 - at_ h 0 2) % 65536 →
        (at_ e 0 2 + 65536 - at_ h 0 2) % 65536 < 32768 → safe env k 3)) ∧
    (k.held = some (h, th) →
      (mt - th ≤ 250 * p.time c 24 16 → Answers (.twinSkewTimeout c) s (fun t => t = s)) ∧
      (250 * p.time c 24 16 < mt - th → k.state = 2 → s.consumer c = true → safe (.twinSkewTimeout c) k 3) ∧
      (250 * p.time c 24 16 < mt - th → k.state ≠ 2 → Answers (.twinSkewTimeout c) s (fun t =>
        t = { s with saf := { s.saf with conns := t.saf.conns } } ∧ t.conn c = { k with held := none, count := 0 }))) ∧
    (k.held = none → Answers (.twinSkewTimeout c) s (fun t => t = s)) ∧
    (s.consumer c = true → k.state = 2 → s.duskWarn = false → 25000 * p.time c 15 8 ≤ mt - k.okAt → safe (.connectionTimeout c) k 1) ∧
    (s.consumer c = false ∨ k.state ≠ 2 ∨ s.duskWarn = true ∨ mt - k.okAt < 25000 * p.time c 15 8 → Answers (.connectionTimeout c) s (fun t => t = s)) ∧
    (s.saf.txWords.length = 4 → s.fld F.SAF_SC_TXSEL_conn = c → Answers (.payloadCommit (.core 4) v) s (fun t =>
      t = { s with saf := { s.saf with conns := t.saf.conns, txWords := t.saf.txWords } } ∧ t.saf.txWords = s.saf.txWords.take 3 ++ [v] ∧
      t.conn c = { k with tx := (s.saf.txWords.take 3 ++ [v]).flatMap (fun w => leBytes 4 w.toNat) } ∧ ∀ o, o ≠ c → t.conn o = s.conn o)) ∧
    (who ≠ .core 4 → Answers (.payloadCommit who v) s (fun t => t = s)) ∧
    (s.mayWrite who Reg.SAF_SC_CMD = true → v.toNat / 65536 = 0x5C0A → v.toNat / 64 % 4 = 1 → v.toNat % 64 = c →
      (s.consumer c = true → k.state = 3 → Answers (.safScCmd who v) s (fun t => t = { s with saf := { s.saf with conns := t.saf.conns } } ∧
        t.conn c = { k with state := 4, count := 0 } ∧ ∀ o, o ≠ c → t.conn o = s.conn o)) ∧
      (s.consumer c = false ∨ k.state ≠ 3 → Answers (.safScCmd who v) s (fun t => Sets [F.SAF_SC_STATUS_cmd_refused] s t ∧
        t.fld F.SAF_SC_STATUS_cmd_refused = 1)))
/-! ## Earth fault and insulation (15_earth_fault_insulation.md) -/

/-- R308, R309, R311, R312, R314, R315: an update trips source 32 on any row of Table EFM-2, and lets it go a second below the threshold; the channel's
diagnostics; the two tests with their refusals and results; the accepted contact of the AC device and source 33. -/
def Obligations.ResidualCurrent : Prop :=
  ∀ (s : State) (dc100 dc20 : Int) (ac peak t0 : Nat) (who : Init) (v : Word) (closed sat win compared : Bool), -32768 ≤ dc100 → dc100 < 32768 → -32768 ≤ dc20 →
    dc20 < 32768 → ac < 65536 → peak < 4096 →
    let mt := s.tmk.mt
    let thr := 10 * s.fld F.EFM_RDC_CFG_rdc_thr
    let a := dc100.natAbs
    let runs := s.tmk.mtRun = true ∧ s.icgLocked 1 = true
    let upd : Instr := .rdcUpdate dc100 dc20 ac
    let row := (thr ≤ a ∧ s.efm.rdcFrom = some t0 ∧ t0 + 250000 * s.fld F.EFM_RDC_CFG_rdc_dwell ≤ mt) ∨ 6000 ≤ a ∨ 20000 ≤ dc20.natAbs
    let half : Instr := .fgHalfCycle sat peak win
    let others := s.efm.fgTestBad = false ∧ s.efm.injBad = false ∧ s.efm.stale = false ∧ s.efm.clkBad = false
    let rac := s.fld F.EFM_CTRL_rac_en
    let aux : Instr := .rcdAuxSample closed
    (¬ runs → Answers upd s (fun t => t = s)) ∧
    (runs → Answers upd s (fun t => sgn 16 (t.fld F.EFM_RDC_DC_dc100) = dc100 ∧ sgn 16 (t.fld F.EFM_RDC_DC_dc20) = dc20 ∧ t.fld F.EFM_RDC_AC_ac = ac ∧
      t.fld F.EFM_RDC_PEAK_peak = max a (s.fld F.EFM_RDC_PEAK_peak) ∧
      (row → s.fld F.EFM_CTRL_rdc_en = 1 → s.rdcBlanked = false → t.srcLive 32 = true ∧ (s.srcLive 32 = false → t.fld F.EFM_EVT_trip = 1 ∧
        t.fld F.EFM_CNT_rdc_trips = min (s.fld F.EFM_CNT_rdc_trips + 1) 65535 ∧ (rac = 0 → t.fld F.EFM_FAULT_code = 0x0701))) ∧
      (a < thr → a < 6000 → dc20.natAbs < 20000 → s.srcLive 32 = false → t.srcLive 32 = false) ∧
      (a + 50 < thr → a < 6000 → dc20.natAbs < 20000 → s.srcLive 32 = true →
        (s.efm.rdcLowFrom = some t0 → t0 + 25000000 ≤ mt → t.srcLive 32 = false) ∧
        (s.efm.rdcLowFrom = none → t.srcLive 32 = true ∧ t.efm.rdcLowFrom = some mt)))) ∧
    (s.fld F.EFM_CTRL_rdc_en = 0 ∨ s.icgLocked 1 = false → Answers half s (fun t => t = s)) ∧
    (s.fld F.EFM_CTRL_rdc_en = 1 → s.icgLocked 1 = true → Answers half s (fun t => t.fld F.EFM_FG_STAT_i_exc = peak ∧ t.fld F.EFM_FG_STAT_sat_ok = sat.toNat ∧
      t.efm.fgNoSat = (if sat then 0 else s.efm.fgNoSat + 1) ∧
      (s.efm.fgBad = false → (sat = false ∧ 2 ≤ s.efm.fgNoSat) ∨ win = false → t.efm.fgBad = true ∧ t.srcLive 35 = true ∧ t.fld F.EFM_FAULT_code = 0x0707) ∧
      (s.efm.fgBad = false → sat = true ∨ s.efm.fgNoSat < 2 → win = true → t.efm.fgBad = false ∧ t.saf = s.saf) ∧
      (s.efm.fgBad = true → sat = true → win = true → s.efm.fgGoodFrom = some t0 →
        (t0 + 25000000 ≤ mt → t.efm.fgBad = false ∧ (others → t.srcLive 35 = false)) ∧ (mt < t0 + 25000000 → t.efm.fgBad = true ∧ t.saf = s.saf)))) ∧
    (∀ op i, (op = 1 ∧ i = .fgTest who v) ∨ (op = 2 ∧ i = .rcdTest who v) → s.mayWrite who Reg.EFM_CMD = true → v.toNat % 4 = op →
      let free := s.efmWriter who = true ∧ s.efm.test = none ∧ ∀ g, g < 10 → (s.saf.eff.mask (31 + op)).testBit g = true → s.groupOff g = true
      (v.toNat / 65536 ≠ 0x3F6A → Answers i s (fun t => t = s)) ∧
      (v.toNat / 65536 = 0x3F6A → free → Answers i s (fun t => t = { s with regs := t.regs, efm := { s.efm with test := some (op, mt) } } ∧
        RegsBut [F.EFM_TEST_RESULT_which, F.EFM_TEST_RESULT_state, F.EFM_STATUS_test_busy] s t ∧ t.fld F.EFM_TEST_RESULT_which = op - 1 ∧
        t.fld F.EFM_TEST_RESULT_state = 1 ∧ t.fld F.EFM_STATUS_test_busy = 1)) ∧
      (v.toNat / 65536 = 0x3F6A → ¬ free → Answers i s (fun t => Sets [F.EFM_TEST_RESULT_which, F.EFM_TEST_RESULT_state] s t ∧
        t.fld F.EFM_TEST_RESULT_state = 4))) ∧
    (s.efm.test = some (1, t0) →
      (mt < t0 + 7500000 → Answers (.fgTestEnd compared) s (fun t => t = s)) ∧
      (t0 + 7500000 ≤ mt → Answers (.fgTestEnd compared) s (fun t => t.efm.test = none ∧ t.fld F.EFM_STATUS_test_busy = 0 ∧ t.fld F.EFM_EVT_test = 1 ∧
        t.efm.blankTo = some (mt + 5000000) ∧ t.fld F.EFM_TEST_RESULT_value = s.fld F.EFM_RDC_DC_dc100 ∧
        (compared = true → 850 ≤ s.fld F.EFM_RDC_DC_dc100 → s.fld F.EFM_RDC_DC_dc100 ≤ 1150 → t.fld F.EFM_TEST_RESULT_state = 2 ∧ t.efm.fgTestBad = false) ∧
        (compared = false ∨ s.fld F.EFM_RDC_DC_dc100 < 850 ∨ 1150 < s.fld F.EFM_RDC_DC_dc100 → t.fld F.EFM_TEST_RESULT_state = 3 ∧
          t.efm.fgTestBad = true ∧ t.srcLive 35 = true ∧ t.fld F.EFM_FAULT_code = 0x0708)))) ∧
    (s.efm.blankTo = some t0 →
      (mt < t0 → Answers .fgTestBlankEnd s (fun t => t = s)) ∧
      (t0 ≤ mt → s.efm.rdcRow = true → s.fld F.EFM_CTRL_rdc_en = 1 → s.efmTesting 1 = false → Answers .fgTestBlankEnd s (fun t =>
        t.efm.blankTo = none ∧ t.srcLive 32 = true)) ∧
      (t0 ≤ mt → s.efm.rdcRow = false ∨ s.fld F.EFM_CTRL_rdc_en = 0 → Answers .fgTestBlankEnd s (fun t =>
        t = { s with efm := { s.efm with blankTo := none } }))) ∧
    (s.dawnDone = false ∨ s.tmk.mtRun = false → Answers aux s (fun t => t = s)) ∧
    (s.dawnDone = true → s.tmk.mtRun = true → Answers aux s (fun t =>
      (s.is F.EFM_RCD_aux_closed = closed → t.efm.auxRun = 0 ∧ t.is F.EFM_RCD_aux_closed = closed) ∧
      (s.is F.EFM_RCD_aux_closed ≠ closed → s.efm.auxRun < 2 → t.efm.auxRun = s.efm.auxRun + 1 ∧ t.is F.EFM_RCD_aux_closed ≠ closed) ∧
      (s.is F.EFM_RCD_aux_closed ≠ closed → 2 ≤ s.efm.auxRun → t.efm.auxRun = 0 ∧ t.is F.EFM_RCD_aux_closed = closed ∧ t.fld F.EFM_EVT_rcd = 1 ∧
        (closed = true → t.efm.openOk = false ∧ t.fld F.EFM_RCD_rcd_open = 0) ∧
        (closed = false → rac = 1 → s.efm.openOk = false → s.efmTesting 2 = false → t.efm.rcdTripped = true ∧ t.srcLive 33 = true)) ∧
      (s.is F.EFM_RCD_aux_closed = true → closed = true → rac = 1 → s.efm.rcdTestBad = false → s.fld F.EFM_RDC_AC_ac < 100 * s.fld F.EFM_RAC_CFG_rac_thr →
        t.efm.rcdTripped = false ∧ t.efm.rcdFailed = false ∧ t.srcLive 33 = false) ∧
      (s.is F.EFM_RCD_aux_closed = true → closed = true → rac = 1 → 100 * s.fld F.EFM_RAC_CFG_rac_thr ≤ s.fld F.EFM_RDC_AC_ac → s.efm.racFrom = some t0 →
        t0 + 250000 * s.fld F.EFM_RAC_CFG_rac_time ≤ mt → t.efm.rcdFailed = true ∧ t.srcLive 33 = true))) ∧
    (s.efm.test = some (2, t0) →
      (s.is F.EFM_RCD_aux_closed = true → mt < t0 + 7500000 → Answers .rcdTestEnd s (fun t => t = s)) ∧
      (s.is F.EFM_RCD_aux_closed = false → Answers .rcdTestEnd s (fun t => t.efm.test = none ∧ t.fld F.EFM_STATUS_test_busy = 0 ∧ t.fld F.EFM_EVT_test = 1 ∧
        t.fld F.EFM_TEST_RESULT_state = 2 ∧ t.fld F.EFM_RCD_rcd_open = 1 ∧ t.fld F.EFM_RCD_tests = min (s.fld F.EFM_RCD_tests + 1) 255 ∧
        t.efm.openOk = true ∧ t.efm.rcdTestBad = false)) ∧
      (s.is F.EFM_RCD_aux_closed = true → t0 + 7500000 ≤ mt → Answers .rcdTestEnd s (fun t => t.efm.test = none ∧ t.fld F.EFM_STATUS_test_busy = 0 ∧
        t.fld F.EFM_EVT_test = 1 ∧ t.fld F.EFM_TEST_RESULT_state = 3 ∧ t.efm.rcdTestBad = true ∧ (rac = 1 → t.srcLive 33 = true) ∧
        (rac = 0 → t.fld F.EFM_FAULT_code = 0x0704))))

/-- R316 to R319, R321, R322: a half-period's reading, its agreement with the one before, the warning and source 34 after their counts, the injection's fault, a
stale value, the enables, and the settings record. -/
def Obligations.Insulation : Prop :=
  ∀ (s : State) (v w v0 w0 a : Nat) (p : Int × Nat) (who : Init) (x : Word) (good : Bool),
    let mt := s.tmk.mt
    let half : Instr := .insHalfPeriod v w
    let dv := ((v : Int) - v0).natAbs
    let dw := ((w : Int) - w0).natAbs
    let du := s.fld F.EFM_INS_SCALE_g_ufb * dv
    let r : Int × Nat := ((du * s.fld F.EFM_INS_NET_r_m : Nat) - (1000 * s.fld F.EFM_INS_NET_r_c * dw : Nat), dw)
    let cnt := s.fld F.EFM_INS_CFG_ins_cnt
    let atMost (ohm : Nat) : Prop := dw ≠ 0 ∧ r.1 ≤ (ohm * dw : Nat)
    let low (ohm : Nat) : Prop := atMost ohm ∨ (dw ≠ 0 ∧ r.1 < (10000 * dw : Nat))
    let above (ohm : Nat) : Prop := dw = 0 ∨ (¬ r.1 < (10000 * dw : Nat) ∧ ((11 * ohm * dw : Nat) : Int) < 10 * r.1)
    let warn := s.fld F.EFM_INS_LVL_warn_opv * s.fld F.EFM_INS_CFG_v_rated
    let fault := s.fld F.EFM_INS_LVL_fault_opv * s.fld F.EFM_INS_CFG_v_rated
    let valid := s.efm.lastR = some p ∧ rAgree r p = true
    let noCtr := [0, 1, 2, 3].all (fun n => !(s.ctr n).on)
    let new (f : Field) (b : Bool) : Nat := if (b = true ∧ s.icgLocked 1 = false ∧ s.fld f = 0) ∨ (b = false ∧ ¬ noCtr) then s.fld f else b.toNat
    let set_ : Instr := .efmSettingsWrite who a x good
    (s.injecting = false ∨ s.fld F.EFM_INS_CTRL_hold = 1 → Answers half s (fun t => t = s)) ∧
    (s.injecting = true → s.fld F.EFM_INS_CTRL_hold = 0 → s.efm.plateau = none → Answers half s (fun t => t = { s with efm := { s.efm with plateau := some (v, w) } })) ∧
    (s.injecting = true → s.fld F.EFM_INS_CTRL_hold = 0 → s.efm.plateau = some (v0, w0) → Answers half s (fun t =>
      t.efm.plateau = some (v, w) ∧ t.efm.lastR = some r ∧ t.fld F.EFM_INS_STAT_readings = min (s.fld F.EFM_INS_STAT_readings + 1) 255 ∧
      (valid → t.fld F.EFM_INS_R_valid = 1 ∧ t.efm.validAt = mt ∧ t.fld F.EFM_EVT_ins = 1 ∧ t.efm.stale = false ∧
        (atMost 10000000 → (10000 * dw : Nat) ≤ r.1 → t.fld F.EFM_INS_R_under = 0 ∧ ((100 * dw * t.fld F.EFM_INS_R_r : Nat) - r.1).natAbs < 100 * dw) ∧
        (¬ atMost 10000000 → t.fld F.EFM_INS_R_r = 0x1FFFF) ∧
        (dw ≠ 0 → r.1 < (10000 * dw : Nat) → t.fld F.EFM_INS_R_r = 0 ∧ t.fld F.EFM_INS_R_under = 1)) ∧
      (s.efm.lastR = none ∨ (s.efm.lastR = some p ∧ rAgree r p = false) → t.word Reg.EFM_INS_R = s.word Reg.EFM_INS_R ∧ t.efm.validAt = s.efm.validAt) ∧
      (valid → low warn → s.fld F.EFM_STATUS_warn = 0 → t.fld F.EFM_STATUS_warn = (if cnt ≤ s.efm.warnRun + 1 then 1 else 0) ∧
        (cnt ≤ s.efm.warnRun + 1 → t.fld F.EFM_EVT_warn = 1)) ∧
      (valid → above warn → s.fld F.EFM_STATUS_warn = 1 → t.fld F.EFM_STATUS_warn = (if cnt ≤ s.efm.okRun + 1 then 0 else 1)) ∧
      (low fault → cnt ≤ s.efm.faultRun + 1 → t.srcLive 34 = true) ∧
      (low fault → s.efm.faultRun + 1 < cnt → s.srcLive 34 = false → t.srcLive 34 = false) ∧
      (¬ low fault → s.srcLive 34 = false → t.srcLive 34 = false) ∧
      (valid → above fault → ¬ low fault → s.srcLive 34 = true → t.srcLive 34 = decide (s.efm.clearRun + 1 < cnt)) ∧
      (let want : Nat := 2000000 * s.fld F.EFM_INS_SCALE_u_inj
       (want < 10 * ((du : Int) - want).natAbs → 1 ≤ s.efm.injOff → s.efm.injBad = false → t.efm.injBad = true) ∧
       (10 * ((du : Int) - want).natAbs ≤ want → s.efm.injBad = false → t.efm.injBad = false) ∧
       (10 * ((du : Int) - want).natAbs ≤ want → s.efm.injBad = true → 1 ≤ s.efm.injGood → t.efm.injBad = false)))) ∧
    (s.fld F.EFM_CTRL_ins_en = 1 → s.efm.stale = false →
      (¬ noCtr → s.efm.validAt + 25000000 * s.fld F.EFM_INS_CFG_ins_stale ≤ mt → Answers .insStale s (fun t =>
        t.efm = { s.efm with stale := true } ∧ t.srcLive 35 = true ∧ t.fld F.EFM_FAULT_code = 0x070A)) ∧
      (noCtr ∨ mt < s.efm.validAt + 25000000 * s.fld F.EFM_INS_CFG_ins_stale → Answers .insStale s (fun t => t = s))) ∧
    (s.mayWrite who Reg.EFM_CTRL = true → Answers (.efmCtrlWrite who x) s (fun t => t.fld F.EFM_CTRL_evt_mask = x.toNat / 16 % 32 ∧
      (s.efmWriter who = true →
        t.fld F.EFM_CTRL_rdc_en = new F.EFM_CTRL_rdc_en (x.getLsbD 0) ∧ t.fld F.EFM_CTRL_rac_en = new F.EFM_CTRL_rac_en (x.getLsbD 1) ∧
        t.fld F.EFM_CTRL_ins_en = new F.EFM_CTRL_ins_en (x.getLsbD 2) ∧
        (s.icgLocked 1 = false → x.getLsbD 0 = true → s.fld F.EFM_CTRL_rdc_en = 0 → t.fld F.EFM_STATUS_cfg_refused = 1) ∧
        (¬ noCtr → x.getLsbD 1 = false → s.fld F.EFM_CTRL_rac_en = 1 → t.fld F.EFM_STATUS_cfg_refused = 1) ∧
        (s.fld F.EFM_CTRL_ins_en = 0 → x.getLsbD 2 = true → s.icgLocked 1 = true → t.efm.plateau = none ∧ t.efm.lastR = none ∧
          t.fld F.EFM_INS_STAT_readings = 0 ∧ t.efm.validAt = mt)) ∧
      (s.efmWriter who = false → Sets [F.EFM_CTRL_evt_mask] s t))) ∧
    (efmSettings.contains a = false ∨ s.mayWrite who a = false → Answers set_ s (fun t => t = s)) ∧
    (s.mayWrite who a = true → a = Reg.EFM_INS_LVL → x.toNat % 1024 ≤ x.toNat / 65536 % 512 → Answers set_ s (fun t => t = s)) ∧
    (s.mayWrite who a = true → a = Reg.EFM_RDC_CFG →
      let thr := x.toNat % 64
      let dwell := x.toNat / 256 % 1024
      let differs := thr ≠ s.fld F.EFM_RDC_CFG_rdc_thr ∧ dwell ≠ s.fld F.EFM_RDC_CFG_rdc_dwell
      (s.configEn = true → s.outputsOn = false → differs → 35 ≤ thr → thr ≤ 55 → 10 ≤ dwell → dwell ≤ 500 →
        (good = true → Answers set_ s (fun t => t.fld F.EFM_RDC_CFG_rdc_thr = thr ∧ t.fld F.EFM_RDC_CFG_rdc_dwell = dwell ∧ t.efm.writes = s.efm.writes + 1 ∧
          t.fld F.EFM_STATUS_cfg_refused = s.fld F.EFM_STATUS_cfg_refused ∧ t.efm.plateau = none ∧ t.saf = s.saf)) ∧
        (good = false → Answers set_ s (fun t => t.word Reg.EFM_RDC_CFG = s.word Reg.EFM_RDC_CFG ∧ t.fld F.EFM_FAULT_code = 0x070C ∧ t.saf = s.saf))) ∧
      (s.configEn = false ∨ s.outputsOn = true → differs → Answers set_ s (fun t => t.word Reg.EFM_RDC_CFG = s.word Reg.EFM_RDC_CFG ∧
        t.efm = s.efm ∧ t.fld F.EFM_STATUS_cfg_refused = 1)))
/-! ## The power stage (17_power_stage.md) -/

/-- R345 to R347, R351, R353 to R356, Table PWR-2: what a period boundary does in each state of Table PWR-1, a load, go with its first failing condition, stop,
the end of a backoff and the release of SS_LOCK. -/
def Obligations.PowerStageRuns : Prop :=
  ∀ (s : State) (who : Init) (v : Word) (x : Timing) (at_ n : Nat), n < 6 → s.pwr.wave.length = 6 →
    let mt := s.tmk.mt
    let st (t : State) : Nat := t.fld F.PWR_STATUS_state
    let low (t : State) : Prop := t.pwr.wave = List.replicate 6 {}
    let edge : Instr := .pwmPeriodBoundary
    let k := s.fld F.PWR_SS_RETRY_attempt
    let late := 25000 * s.fld F.PWR_SS_CFG_tmax ≤ mt - s.pwr.rampFrom
    let weak (pct : Nat) : Prop := s.pwr.sample * 100 < pct * s.fld F.PWR_SS_TARGET_target
    let short := (late ∧ weak (s.fld F.PWR_SS_CFG_vmin_pct)) ∨ (s.pwr.limited = true ∧ weak 10 ∧ 7 ≤ s.pwr.lowRun)
    let en := v.toNat / 256 % 64
    let u := if st s = 0 ∨ st s = 6 then s.setFld F.PWR_RUN_ch_en en else s
    let y := s.staged
    let good := ∀ m, m < 6 → (u.fld F.PWR_RUN_ch_en).testBit m = true → y.tOn m < 400 * y.period ∧ y.tOff m < 400 * y.period ∧
      100 ≤ y.dtH m ∧ y.dtH m ≤ 50000 ∧ 100 ≤ y.dtL m ∧ y.dtL m ≤ 50000
    let fails : List Bool := [(List.range 6).any (fun m => en.testBit m && u.locked m), s.pwr.load.isSome || !s.pwr.eff.ok en, en = 0,
      s.is F.TMK_STATUS_op_busy || !u.linesOk, s.duskWarn || s.updateHold || s.stf.leaving,
      s.is F.PWR_SS_TARGET_ss_en && !(s.is (F.PWR_TRIGn_en 0) && s.fldBit F.PWR_TRIG_MASK_mask0 (s.fld F.PWR_SS_TARGET_vch)), s.is F.SAF_STATUS_commit_busy]
    let go : Instr := .go who v
    let stop : Instr := .stop who v
    let free (f : List Field) (a t : State) : Prop := t = { a with regs := t.regs, cpu := t.cpu } ∧ RegsBut f a t
    (st s = 3 → Answers edge s (fun t => low t ∧
      (s.fld F.PWR_STATUS_cause ≠ 2 → st t = (if s.gateOk = true ∧ s.fld F.PWR_STATUS_cause ≠ 8 then 0 else 6)) ∧
      (s.fld F.PWR_STATUS_cause = 2 → k ≤ s.fld F.PWR_SS_RETRY_retries → st t = 4 ∧ t.pwr.backoffFrom = mt) ∧
      (s.fld F.PWR_STATUS_cause = 2 → s.fld F.PWR_SS_RETRY_retries < k → st t = 5 ∧ t.pwr.ssLock = true ∧ t.fld F.PWR_RUN_go = 0 ∧
        t.fld F.PWR_FAULT_code = 0x0901))) ∧
    (st s = 0 ∨ st s = 4 ∨ st s = 5 ∨ st s = 6 → Answers edge s (fun t => low t ∧ st t = st s ∧ t.cpu = s.cpu)) ∧
    (s.pwr.load = some (x, at_) → st s ≠ 3 → Answers edge s (fun t =>
      (10 ≤ mt - at_ → t.pwr.eff = x ∧ t.pwr.load = none ∧ t.fld F.PWR_STATUS_load_pending = 0) ∧
      (mt - at_ < 10 → t.pwr.eff = s.pwr.eff ∧ t.pwr.load = some (x, at_)))) ∧
    (st s = 2 → Answers edge s (fun t => st t = 2 ∧ t.pwr.limited = false ∧
      t.fld F.PWR_STATUS_lim_run = (if s.pwr.limited then min (s.fld F.PWR_STATUS_lim_run + 1) 255 else 0) ∧
      (s.pwr.load = none → t.pwr.wave.getD n {} = (if s.fldBit F.PWR_RUN_ch_en n then
        s.pwr.eff.wave n (s.pwr.eff.width n) (s.is (F.PWR_CHn_ON_low_off n)) else {})))) ∧
    (st s = 1 →
      (short → Answers edge s (fun t => st t = 3 ∧ low t ∧ t.fld F.PWR_STATUS_cause = 2 ∧ t.fld F.PWR_SS_RETRY_attempt = min (k + 1) 7 ∧
        t.fld F.PWR_CNT_ss_shorts = min (s.fld F.PWR_CNT_ss_shorts + 1) 255 ∧ t.fld F.PWR_FAULT_code = 0x0902 ∧ t.fld F.PWR_EVT_fault = 1)) ∧
      (late → ¬ short → Answers edge s (fun t => st t = 2 ∧ t.fld F.PWR_SS_RETRY_attempt = 0)) ∧
      (¬ late → ¬ short → Answers edge s (fun t => st t = 1 ∧ t.fld F.PWR_SS_RETRY_attempt = k))) ∧
    (s.mayWrite who Reg.PWR_RUN = true → v.getLsbD 16 = true →
      (v.getLsbD 0 = false ∧ s.fld F.PWR_RUN_go = 0) ∨ (v.getLsbD 0 = true ∧ s.fld F.PWR_RUN_go = 1 ∧ (st s = 1 ∨ st s = 2)) →
      (good → Answers (.pwmLoad who v) s (fun t => t = { u with regs := t.regs, pwr := { s.pwr with load := some (y, mt) } } ∧
        RegsBut [F.PWR_STATUS_load_pending] u t ∧ t.fld F.PWR_STATUS_load_pending = 1)) ∧
      (¬ good → Answers (.pwmLoad who v) s (fun t => Sets [F.PWR_STATUS_load_refused] u t ∧ t.fld F.PWR_STATUS_load_refused = 1))) ∧
    (s.mayWrite who Reg.PWR_RUN = true → v.getLsbD 16 = false → v.getLsbD 0 = true →
      (st s = 0 → fails.all (!·) = true → Answers go s (fun t =>
        t = { u with regs := t.regs, cpu := t.cpu, pwr := { s.pwr with rampFrom := mt, lowRun := 0, limited := false } } ∧
        RegsBut [F.PWR_RUN_go, F.PWR_SS_RETRY_attempt, F.PWR_STATUS_state, F.PWR_EVT_state] u t ∧ t.fld F.PWR_RUN_go = 1 ∧ t.fld F.PWR_SS_RETRY_attempt = 0 ∧
        st t = (if s.is F.PWR_SS_TARGET_ss_en then 1 else 2))) ∧
      (st s = 0 → fails.all (!·) = false → Answers go s (fun t => Sets [F.PWR_STATUS_run_refused, F.PWR_STATUS_refuse] u t ∧
        t.fld F.PWR_STATUS_run_refused = 1 ∧ t.fld F.PWR_STATUS_refuse = fails.findIdx id + 1)) ∧
      (st s = 3 ∨ st s = 4 ∨ st s = 5 ∨ st s = 6 → Answers go s (fun t => Sets [F.PWR_STATUS_run_refused, F.PWR_STATUS_refuse] u t ∧
        t.fld F.PWR_STATUS_run_refused = 1)) ∧
      (st s = 1 ∨ st s = 2 → s.fld F.PWR_RUN_go = 1 → Answers go s (fun t => t = s))) ∧
    (s.mayWrite who Reg.PWR_RUN = true → v.getLsbD 16 = false → v.getLsbD 0 = false →
      (s.fld F.PWR_RUN_go = 0 → Answers stop s (fun t => t = u)) ∧
      (s.fld F.PWR_RUN_go = 1 → st s = 1 ∨ st s = 2 ∨ st s = 4 → Answers stop s (fun t =>
        free [F.PWR_RUN_go, F.PWR_STATUS_cause, F.PWR_CNT_stops, F.PWR_STATUS_state, F.PWR_EVT_state] s t ∧ t.fld F.PWR_RUN_go = 0 ∧
        t.fld F.PWR_STATUS_cause = 1 ∧ t.fld F.PWR_CNT_stops = min (s.fld F.PWR_CNT_stops + 1) 65535 ∧ st t = (if st s = 4 then 0 else 3)))) ∧
    (st s = 4 → 1 ≤ k →
      (25000000 * 2 ^ (k - 1) ≤ mt - s.pwr.backoffFrom → Answers .backoffEnd s (fun t => st t = 1 ∧ t.pwr = { s.pwr with rampFrom := mt, lowRun := 0, limited := false })) ∧
      (mt - s.pwr.backoffFrom < 25000000 * 2 ^ (k - 1) → Answers .backoffEnd s (fun t => t = s))) ∧
    (st s ≠ 4 → Answers .backoffEnd s (fun t => t = s)) ∧
    (s.mayWrite who Reg.PWR_SS_RETRY = true → Answers (.ssRelease who v) s (fun t =>
      t.fld F.PWR_SS_RETRY_retries = (if v.toNat % 8 = 7 then s.fld F.PWR_SS_RETRY_retries else v.toNat % 8) ∧ t.saf = s.saf ∧
      (v.toNat / 65536 = 0x5C1E → who = .core 4 ∨ (∃ c, who = .core c ∧ (s.core c).task = false) → st s = 5 → st t = 0 ∧ t.pwr = { s.pwr with ssLock := false }) ∧
      (v.toNat / 65536 ≠ 0x5C1E ∨ st s ≠ 5 → st t = st s ∧ t.pwr = s.pwr)))

/-- R348, R349: the limit comparator ends the gate it guards after its blanking; the sample unit's triggers and results. -/
def Obligations.LimitsAndSamples : Prop :=
  ∀ (s : State) (n pos i : Nat) (g : Nat × Nat) (codes : List Nat), n < 6 → s.pwr.wave.length = 6 →
    let x := s.pwr.eff
    let p := x.units
    let w := s.pwr.wave.getD n {}
    let past := (pos + p - g.1 % p) % p
    let inside := 400 * s.fld (F.PWR_BLANK_blank n) ≤ past ∧ past < (g.2 + p - g.1 % p) % p
    let used := (pos + p - x.tOn n % p) % p
    let ends (high : Bool) (b : Wave) : Prop := Answers (.currentLimit n high pos) s (fun t =>
      t = { s with regs := t.regs, cpu := t.cpu, pwr := { s.pwr with wave := upd s.pwr.wave n (fun _ => b), limited := true } } ∧
      RegsBut [F.PWR_EVT_limit] s t ∧ t.fld F.PWR_EVT_limit = 1)
    (w.high = none → Answers (.currentLimit n true pos) s (fun t => t = s)) ∧ (w.low = none → Answers (.currentLimit n false pos) s (fun t => t = s)) ∧
    (w.high = some g →
      (s.fld (F.PWR_CHn_ON_cs_h n) = 15 ∨ ¬ inside → Answers (.currentLimit n true pos) s (fun t => t = s)) ∧
      (s.fld (F.PWR_CHn_ON_cs_h n) ≠ 15 → inside →
        (s.fld (F.PWR_CHn_ON_low_off n) = 0 → x.dtL n < p - used → ends true ⟨some (g.1, pos), some ((pos + x.dtL n) % p, x.tOn n)⟩) ∧
        (s.fld (F.PWR_CHn_ON_low_off n) = 1 ∨ p - used ≤ x.dtL n → ends true ⟨some (g.1, pos), none⟩))) ∧
    (w.low = some g →
      (s.fld (F.PWR_CHn_OFF_cs_l n) = 15 ∨ ¬ inside → Answers (.currentLimit n false pos) s (fun t => t = s)) ∧
      (s.fld (F.PWR_CHn_OFF_cs_l n) ≠ 15 → inside → ends false ⟨w.high, some (g.1, pos)⟩)) ∧
    (∀ k, k < 2 →
      (s.fld (F.PWR_TRIGn_en k) = 0 → Answers (.adcTrigger k) s (fun t => t = s)) ∧
      (s.fld (F.PWR_TRIGn_en k) = 1 → s.pwr.seq = none → Answers (.adcTrigger k) s (fun t => t = { s with pwr := { s.pwr with seq := some k } })) ∧
      (s.fld (F.PWR_TRIGn_en k) = 1 → s.pwr.seq ≠ none → Answers (.adcTrigger k) s (fun t => Sets [F.PWR_CNT_adc_ovr] s t ∧
        t.fld F.PWR_CNT_adc_ovr = min (s.fld F.PWR_CNT_adc_ovr + 1) 255)) ∧
      (s.pwr.seq = some k → (∀ c, c ∈ codes → c < 4096) → i < 16 →
        let m := if k = 0 then s.fld F.PWR_TRIG_MASK_mask0 else s.fld F.PWR_TRIG_MASK_mask1
        let f := if i % 2 = 0 then F.PWR_ADCn_in_lo (i / 2) else F.PWR_ADCn_in_hi (i / 2)
        let vch := s.fld F.PWR_SS_TARGET_vch
        Answers (.adcSequenceDone codes) s (fun t => t.fld f = (if m.testBit i then codes.getD i 0 else s.fld f) ∧
          t = { s with regs := t.regs, cpu := t.cpu, pwr := { s.pwr with seq := none, sample := t.pwr.sample } } ∧
          t.pwr.sample = (if k = 0 ∧ m.testBit vch = true then codes.getD vch 0 else s.pwr.sample) ∧
          t.fld (if k = 0 then F.PWR_EVT_trig0 else F.PWR_EVT_trig1) = 1))) ∧
    (s.pwr.seq = none → Answers (.adcSequenceDone codes) s (fun t => t = s))

/-- R357 to R361: contactors close only where nothing refuses it, opens win over closes; feedback, its fault, the weld check and its repetition; a precharge from
its start to its end. -/
def Obligations.Contactors : Prop :=
  ∀ (s : State) (who : Init) (v : Word) (n : Nat) (level : Bool) (codes : List Nat) (p : Precharge), n < 4 → s.pwr.ctrs.length = 4 →
    let mt := s.tmk.mt
    let st := s.ctrState n
    let fbEn := s.fld (F.PWR_CTR_MODE_fb_en n) = 1
    let fb := s.fbClosed n
    let volt := s.fld (F.PWR_CTR_MODE_weld_volt n) = 1
    let diff (m : Nat) : Nat := codeDiff (s.ctrVolts m)
    let why (m k : Nat) : Prop := match k with
      | 1 => s.locked (6 + m) = true
      | 2 => s.ctrState m = 4 ∨ s.ctrState m = 5
      | 3 => ∃ q, s.pwr.pre = some q ∧ (q.pc = m ∨ q.main = m)
      | 4 => s.duskWarn = true ∨ s.updateHold = true ∨ s.stf.leaving = true
      | 5 => s.isWorker = true ∧ s.fld F.SYS_ROLE_admitted = 0
      | 6 => s.fld (F.PWR_CTR_MODE_close_chk m) = 1 ∧ s.fld F.PWR_PC_CFG_dv < diff m
      | 7 => s.fld F.SAF_STATUS_commit_busy = 1
      | _ => False
    let free (m : Nat) : Prop := ∀ k, ¬ why m k
    let may := s.mayWrite who Reg.PWR_CTR_CMD = true
    let close (m : Nat) : Bool := v.getLsbD m && !v.getLsbD (4 + m)
    let same (t : State) : Prop := t.ctrState n = st ∧ t.ctr n = s.ctr n
    let ends (t : State) : Prop := t.pwr.pre = none ∧ (t.ctr p.pc).on = false ∧ (t.ctr p.main).on = false ∧ t.fld F.PWR_CTR_STATUS_pc = 5
    let welds := if s.is (F.PWR_CTR_MODE_weld_volt n) then decide (s.fld F.PWR_CTR_MODE_weld_vmin ≤ (s.ctrVolts n).1 ∧ diff n ≤ s.fld F.PWR_PC_CFG_weld_dv)
      else s.is (F.PWR_CTR_MODE_fb_en n) && fb
    let isWeld (t : State) : Prop := t.ctrState n = 4 ∧ t.srcLive 53 = true ∧ t.fld F.PWR_FAULT_code = 0x0904
    let isFault (t : State) : Prop := t.ctrState n = 5 ∧ (t.ctr n).on = false ∧ t.fld F.PWR_FAULT_code = 0x0903
    let read := level != s.is (F.PWR_CTR_MODE_fb_pol n)
    let sample : Instr := .ctrFbSample n level
    (may → v.getLsbD 8 = false → v.getLsbD 9 = false → ∀ i, i = .ctrClose who v ∨ i = .ctrOpen who v → Answers i s (fun t => t.pwr.pre = s.pwr.pre ∧
      (v.getLsbD (4 + n) = true → (t.ctr n).on = false ∧
        t.ctrState n = (if st = 1 ∨ st = 2 then (if s.is (F.PWR_CTR_MODE_fb_en n) then 3 else 0) else if st = 5 ∧ fb = false then 0 else st)) ∧
      (close n = true → free n → (st = 1 ∨ st = 2 → same t) ∧
        (st ≠ 1 → st ≠ 2 → (t.ctr n).on = true ∧ (t.ctr n).since = mt ∧ t.ctrState n = (if s.is (F.PWR_CTR_MODE_fb_en n) then 1 else 2))) ∧
      (close n = true → ¬ free n → same t ∧ t.fld F.PWR_CTR_STATUS_ctr_refused = 1 ∧
        ((∀ m, m < n → close m = true → free m) → why n (t.fld F.PWR_CTR_STATUS_reason))) ∧
      (v.getLsbD n = false → v.getLsbD (4 + n) = false → same t))) ∧
    (may → v = 0x100#32 →
      let pc := s.fld F.PWR_PC_CFG_pc
      let main := s.fld F.PWR_PC_CFG_main
      let ready := pc ≠ main ∧ s.ctrState pc = 0 ∧ s.ctrState main = 0
      (s.pwr.pre = none → ready → (∀ k, ¬ why pc k) → Answers (.prechargeStart who v) s (fun t => t.pwr.pre = some ⟨pc, main, mt, 0, 0⟩ ∧
        t.fld F.PWR_CTR_STATUS_pc = 1 ∧ (t.ctr pc).on = true ∧ t.ctrState pc = (if s.is (F.PWR_CTR_MODE_fb_en pc) then 1 else 2) ∧ t.ctr main = s.ctr main)) ∧
      (s.pwr.pre ≠ none → Answers (.prechargeStart who v) s (fun t => Sets [F.PWR_CTR_STATUS_ctr_refused, F.PWR_CTR_STATUS_reason] s t ∧
        t.fld F.PWR_CTR_STATUS_ctr_refused = 1 ∧ t.fld F.PWR_CTR_STATUS_reason = 3)) ∧
      (s.pwr.pre = none → ¬ ready → Answers (.prechargeStart who v) s (fun t => Sets [F.PWR_CTR_STATUS_ctr_refused, F.PWR_CTR_STATUS_reason] s t ∧
        t.fld F.PWR_CTR_STATUS_ctr_refused = 1 ∧ t.fld F.PWR_CTR_STATUS_reason = 2))) ∧
    (may → v = 0x200#32 → (s.pwr.pre = some p → p.pc < 4 → p.main < 4 → Answers (.prechargeAbort who v) s ends) ∧
      (s.pwr.pre = none → Answers (.prechargeAbort who v) s (fun t => t = s))) ∧
    (¬ fbEn ∨ s.dawnDone = false → Answers sample s (fun t => t = s)) ∧
    (fbEn → s.dawnDone = true → (s.ctr n).fbRaw ≠ read ∨ (s.ctr n).fbRun < 2 → Answers sample s (fun t =>
      t = { s with pwr := { s.pwr with ctrs := t.pwr.ctrs } } ∧ (t.ctr n).fbRaw = read ∧
      (t.ctr n).fbRun = (if (s.ctr n).fbRaw = read then (s.ctr n).fbRun + 1 else 1) ∧ t.fbClosed n = fb)) ∧
    (fbEn → s.dawnDone = true → (s.ctr n).fbRaw = read → 2 ≤ (s.ctr n).fbRun → Answers sample s (fun t => t.fbClosed n = read ∧
      (s.fld F.BIL_PP_STATUS_exhausted = 0 ∨ n ≠ s.fld F.BIL_PP_CFG_ctr → st = 1 ∨ st = 2 → read = true → t.ctrState n = 2) ∧ (st = 0 → read = false → t.ctrState n = 0) ∧
      (st = 3 → read = false → mt - (s.ctr n).since ≤ 250000 * s.fld F.PWR_CTR_CFG_fb_open → t.ctrState n = 0) ∧
      (st = 2 → read = false → isFault t) ∧ (st = 0 → read = true → ¬ volt → isWeld t))) ∧
    (st = 1 → 250000 * s.fld F.PWR_CTR_CFG_fb_close ≤ mt - (s.ctr n).since → Answers (.ctrCloseTimeout n) s isFault) ∧
    (st ≠ 1 ∨ mt - (s.ctr n).since < 250000 * s.fld F.PWR_CTR_CFG_fb_close → Answers (.ctrCloseTimeout n) s (fun t => t = s)) ∧
    (let win := if s.is (F.PWR_CTR_MODE_weld_volt n) then s.fld F.PWR_CTR_CFG_weld_win else s.fld F.PWR_CTR_CFG_fb_open
     ((s.ctr n).window = false ∨ mt - (s.ctr n).since < 250000 * win → Answers (.weldWindowEnd n) s (fun t => t = s)) ∧
     ((s.ctr n).window = true → 250000 * win ≤ mt - (s.ctr n).since →
      (welds = true → Answers (.weldWindowEnd n) s isWeld) ∧
      (welds = false → fbEn → fb = true → Answers (.weldWindowEnd n) s isFault) ∧
      (welds = false → ¬ fbEn ∨ fb = false → Answers (.weldWindowEnd n) s (fun t => t.ctrState n = 0 ∧ (t.ctr n).window = false ∧ t.saf = s.saf)))) ∧
    (st ≠ 4 → Answers (.weldRecheck n) s (fun t => t = s)) ∧
    (st = 4 →
      (welds = true → Answers (.weldRecheck n) s (fun t => t.ctrState n = 4 ∧ (t.ctr n).clear = 0 ∧ t.saf = s.saf)) ∧
      (welds = false → (s.ctr n).clear = 0 → Answers (.weldRecheck n) s (fun t => t.ctrState n = 4 ∧ (t.ctr n).clear = 1 ∧ t.saf = s.saf)) ∧
      (welds = false → (s.ctr n).clear ≠ 0 → Answers (.weldRecheck n) s (fun t => t.ctrState n = 0 ∧
        ((∀ m, m < 4 → m ≠ n → s.ctrState m ≠ 4) → t.srcLive 53 = false) ∧ (∀ m, m < 4 → m ≠ n → s.ctrState m = 4 → t.saf = s.saf)))) ∧
    (let sv : Instr := .ctrVoltageSample codes
     let q := (codes.getD (s.fld (F.PWR_CTR_MAP_ch_a p.main)) 0, codes.getD (s.fld (F.PWR_CTR_MAP_ch_b p.main)) 0)
     (s.pwr.pre = none → Answers sv s (fun t => t = { s with pwr := { s.pwr with volts := codes } })) ∧
     (s.pwr.pre = some p → p.pc < 4 → p.main < 4 → p.pc ≠ p.main → s.fld F.PWR_CTR_STATUS_pc = 1 → s.ctrState p.pc = 2 → s.ctrState p.main = 0 →
      (s.fld F.PWR_PC_CFG_dv < codeDiff q → Answers sv s (fun t => t = { s with pwr := { s.pwr with volts := codes, pre := some { p with run := 0 } } })) ∧
      (codeDiff q ≤ s.fld F.PWR_PC_CFG_dv → p.run < 9 → Answers sv s (fun t =>
        t = { s with pwr := { s.pwr with volts := codes, pre := some { p with run := p.run + 1 } } })) ∧
      (codeDiff q ≤ s.fld F.PWR_PC_CFG_dv → 9 ≤ p.run → (∀ k, k ≠ 3 → k ≠ 6 → ¬ why p.main k) → Answers sv s (fun t =>
        (t.ctr p.main).on = true ∧ t.ctrState p.main = (if s.is (F.PWR_CTR_MODE_fb_en p.main) then 1 else 2) ∧
        t.fld F.PWR_CTR_STATUS_pc = (if s.is (F.PWR_CTR_MODE_fb_en p.main) then 2 else 3))))) ∧
    (s.pwr.pre = none → Answers .prechargeTimeout s (fun t => t = s) ∧ Answers .prechargeOverlapEnd s (fun t => t = s)) ∧
    (s.pwr.pre = some p → p.pc < 4 → p.main < 4 →
      (s.fld F.PWR_CTR_STATUS_pc = 1 → 2500000 * s.fld F.PWR_CTR_CFG_pc_tmax ≤ mt - p.from_ → Answers .prechargeTimeout s (fun t =>
        ends t ∧ t.fld F.PWR_FAULT_code = 0x0905)) ∧
      (s.fld F.PWR_CTR_STATUS_pc ≠ 1 ∨ mt - p.from_ < 2500000 * s.fld F.PWR_CTR_CFG_pc_tmax → Answers .prechargeTimeout s (fun t => t = s)) ∧
      (s.fld F.PWR_CTR_STATUS_pc = 3 → 250000 * s.fld F.PWR_CTR_CFG_pc_overlap ≤ mt - p.overlapFrom → p.pc ≠ p.main → Answers .prechargeOverlapEnd s (fun t =>
        t.pwr.pre = none ∧ t.fld F.PWR_CTR_STATUS_pc = 4 ∧ (t.ctr p.pc).on = false ∧ t.ctr p.main = s.ctr p.main)) ∧
      (s.fld F.PWR_CTR_STATUS_pc ≠ 3 ∨ mt - p.overlapFrom < 250000 * s.fld F.PWR_CTR_CFG_pc_overlap → Answers .prechargeOverlapEnd s (fun t => t = s)))
/-! ## Metrology (18_metrology.md) -/

/-- R366, R368, R369, R373 to R376, R378, R379, R382: a sample gives each settled channel its calibrated value and each set its products; a step adds each set's
energy to the accumulators of its mode and quadrant in units of 2^−32 (the rounding to them is open, assumption 12), under no-load suppression; the second, CLEAR, pulses,
snapshots and captures. -/
def Obligations.Metrology : Prop :=
  ∀ (s : State) (us dc v90 : List Int) (bad n ch mhz : Nat) (temp : Int) (who : Init) (v : Word), n < 4 → ch < 8 → s.mtr.sets.length = 4 →
    let mt := s.tmk.mt
    let settled (c : Nat) : Bool := match s.mtr.chFrom.getD c none with | some t => 100000 ≤ mt - t | none => false
    let f (c : Nat) := s.mtr.otp.getD c {}
    let k (c : Nat) := s.mtr.user.getD c {}
    let d := s.mtr.temp - 25
    let cal (c : Nat) (u : Int) : Int := ((u - (f c).ofs) * ((1000000 + (f c).gain) * (1000000000 + 100 * (f c).tc1 * d + (f c).tc2 * d * d)) -
      (k c).ofs * 10 ^ 15) * (1000000 + (k c).gain) * (k c).scale * (if s.fld (F.MTR_CH_CFG_inv c) = 1 then -1 else 1)
    let x (c : Nat) : Int := if settled c ∧ bad.testBit c = false then
      cal c (us.getD c 0) - (if s.fld (F.MTR_CH_CFG_hpf c) = 1 then dc.getD c 0 else 0) else 0
    let sample : Instr := .mtrSample us dc v90 bad
    let m := s.mset n
    let es := [0, 1, 2, 3].filter (fun e => s.fldBit (F.MTR_SET_MAP_el n) e && s.fld (F.MTR_ELEM_en e) = 1)
    let quiet (sum : Int) : Bool := (sum.natAbs : Int) * 10000000 <
      8 * valueDen ^ 2 * ((s.fld (F.MTR_NL_nl n) * s.fld (F.MTR_SETn_NOM_un n) * s.fld (F.MTR_SETn_NOM_in n) * es.length : Nat) : Int)
    (s.sampling = false ∨ mt % 3125 ≠ 0 → Answers sample s (fun t => t = s)) ∧
    (s.sampling = true → mt % 3125 = 0 → Answers sample s (fun t =>
      t.mtr.vals = (List.range 8).map x ∧ t.mtr.sumN = s.mtr.sumN + 1 ∧ t.tmk = s.tmk ∧ t.bil = s.bil ∧ (∀ a, (t.mset n).acc.getD a 0 = m.acc.getD a 0) ∧
      (m.live = false → t.mset n = m) ∧
      (m.live = true → (t.mset n).n = m.n + 1 ∧ (t.mset n).p = m.p + (es.map (fun e => x (s.fld (F.MTR_ELEM_v e)) * x (s.fld (F.MTR_ELEM_i e)))).sum) ∧
      (settled ch = true → 49 * 2 ^ 24 ≤ (us.getD ch 0).natAbs * 100 → t.fldBit F.MTR_CLIP_live ch = true ∧
        (s.fldBit F.MTR_CLIP_live ch = false → t.fldBit F.MTR_CLIP_seen ch = true ∧ t.fld F.MTR_EVT_clip = 1)) ∧
      (settled ch = false ∨ (us.getD ch 0).natAbs * 100 < 49 * 2 ^ 24 → t.fldBit F.MTR_CLIP_live ch = false))) ∧
    (let work := s.mtrOn = true ∧ s.tmk.mtRun = true ∧ mt % 25000 = 0 ∧ s.mtr.lastStep ≠ mt ∧ s.fld F.MTR_STATUS_frozen = 0
     (¬ work → Answers .accumulationStep s (fun t => t = s)) ∧
     (work → m.live = true → m.acc.length = 8 → Answers .accumulationStep s (fun t =>
      let acc (a : Nat) := (t.mset n).acc.getD a 0
      let old (a : Nat) := m.acc.getD a 0
      let add (a : Nat) (e : Int) : Prop := (acc a : Int) = ((old a : Int) + e) % 2 ^ 96
      let one (sum e : Int) : Prop := (quiet sum → e = 0) ∧ (¬ quiet sum → (e * energyDen - 5 * sum * 2 ^ 32).natAbs < energyDen)
      let pNeg := m.p < 0 ∧ ¬ quiet m.p
      let qNeg := m.q < 0 ∧ ¬ quiet m.q
      t.mtr.lastStep = mt ∧ (t.mset n).p = 0 ∧ (t.mset n).q = 0 ∧ (t.mset n).n = 0 ∧ (t.fldBit F.MTR_STATUS_nl n = true ↔ quiet m.p ∨ quiet m.q) ∧
      ∃ p q : Int, one m.p p ∧ one m.q q ∧
        (s.fldBit F.MTR_CTRL_accum_mode n = true → add 0 p ∧ add 2 q ∧ acc 1 = old 1 ∧ acc 3 = old 3) ∧
        (s.fldBit F.MTR_CTRL_accum_mode n = false → (¬ pNeg → add 0 p ∧ acc 1 = old 1) ∧ (pNeg → add 1 (-p) ∧ acc 0 = old 0) ∧
          (¬ qNeg → add 2 q ∧ acc 3 = old 3) ∧ (qNeg → add 3 (-q) ∧ acc 2 = old 2)) ∧
        (let z := if m.p < 0 ∧ ¬ quiet m.p then (if m.q < 0 ∧ ¬ quiet m.q then 6 else 5) else (if m.q < 0 ∧ ¬ quiet m.q then 7 else 4)
         add z q.natAbs ∧ ∀ a, 4 ≤ a → a < 8 → a ≠ z → acc a = old a)))) ∧
    (s.mtrOn = false → Answers (.mtrSecond temp mhz) s (fun t => t = s)) ∧
    (s.mtrOn = true → -64 ≤ temp → temp ≤ 191 → mhz < 65536 → Answers (.mtrSecond temp mhz) s (fun t =>
      t.mtr.temp = temp ∧ (t.fld F.MTR_TEMP_t : Int) = temp + 64 ∧ t.fld F.MTR_FREQ_mhz = mhz ∧ t.fld F.MTR_EVT_second = 1 ∧ t.mtr.sumN = 0 ∧
      t.mtr.sets = s.mtr.sets ∧
      (let den : Int := (max 1 s.mtr.sumN : Nat) * valueDen * valueDen
       let p := s.mtr.sumP.getD n 0
       let r : Int := (t.word (Reg.MTR_EL0_P + 4 * n)).toInt
       p < 2147483647 * den → -2147483648 * den ≤ p → (r * den - p).natAbs < den.natAbs))) ∧
    (let names (c : Nat) : Bool := (v.toNat / 256 % 16).testBit c
     let may := s.mayWrite who Reg.MTR_CMD = true ∧ s.isManager = true ∧ v.toNat / 65536 = 0xC1A4 ∧ v.toNat % 4 = 1
     let ok := s.metroEn = true ∧ s.fld F.KV_LC_state ≤ 1 ∧ ∀ c, c < 4 → names c = true → s.setEn c = false
     (¬ may → Answers (.clear who v) s (fun t => t = s)) ∧
     (may → ok → Answers (.clear who v) s (fun t => t.mset n = (if names n then { m with acc := List.replicate 8 0 } else m))) ∧
     (may → ¬ ok → Answers (.clear who v) s (fun t => Sets [F.MTR_STATUS_cfg_refused] s t ∧ t.fld F.MTR_STATUS_cfg_refused = 1))) ∧
    (let due := s.mtrOn = true ∧ s.mtr.pulses ≠ 0 ∧ (match s.mtr.pulseAt with | some t => 250000 ≤ mt - t | none => True)
     (due → Answers .pulseEmit s (fun t => t = { s with mtr := { s.mtr with pulses := s.mtr.pulses - 1, pulseAt := some mt } })) ∧
     (¬ due → Answers .pulseEmit s (fun t => t = s))) ∧
    (let vals := (List.range 32).map (fun i => (s.mset (i / 8)).acc.getD (i % 8) 0 / 2 ^ 32)
     (s.isManager = true → v.getLsbD 0 = true →
      Answers (.mtrSnap .host v) s (fun t => t = { s with mtr := { s.mtr with hostBank :=
        ⟨vals, s.mtr.lastStep, (s.mtr.hostBank.seq + 1) % 65536, s.mtr.hostBank.sel⟩ } }) ∧
      ∀ c, s.mayWrite (.core c) Reg.MTR_SNAP = true → Answers (.mtrSnap (.core c) v) s (fun t => t = { s with mtr := { s.mtr with coreBank :=
        ⟨vals, s.mtr.lastStep, (s.mtr.coreBank.seq + 1) % 65536, s.mtr.coreBank.sel⟩ } })) ∧
     (s.isManager = false ∨ v.getLsbD 0 = false ∨ s.mayWrite who Reg.MTR_SNAP = false → Answers (.mtrSnap who v) s (fun t => t = s))) ∧
    (s.mayWrite who Reg.MTR_CAP_TRIG = true → s.isManager = true → s.mtr.caps.length = 2 → ∀ u, u < 2 →
      let armed := v.getLsbD u = true ∧ s.fld (F.MTR_CAPu_CFG_mode u) = 2 ∧ s.fld (F.MTR_CAPu_CFG_trig u) = 0 ∧ s.fld (F.MTR_CAPu_STATUS_state u) = 1
      Answers (.mtrCapTrig who v) s (fun t =>
        (armed → t.fld (F.MTR_CAPu_STATUS_state u) = 2 ∧ (t.cap u).left = 64 * s.fld (F.MTR_CAPu_CFG_post u) ∧ (t.cap u).hist = []) ∧
        (¬ armed → t.fld (F.MTR_CAPu_STATUS_state u) = s.fld (F.MTR_CAPu_STATUS_state u) ∧ t.cap u = s.cap u))) ∧
    (s.mtr.caps.length = 2 → ∀ u, u < 2 →
      (s.fld (F.MTR_CAPu_STATUS_state u) ≠ 2 ∨ (s.cap u).lost = 0 → Answers (.captureResume u) s (fun t => t = s)) ∧
      (s.fld (F.MTR_CAPu_STATUS_state u) = 2 → (s.cap u).lost ≠ 0 →
        ((s.capFree u).1 < (if (s.cap u).entry = [] then 1 else 2) → Answers (.captureResume u) s (fun t => (t.cap u).lost = (s.cap u).lost)) ∧
        ((if (s.cap u).entry = [] then 1 else 2) ≤ (s.capFree u).1 → Answers (.captureResume u) s (fun t => (t.cap u).lost = 0 ∧ (t.cap u).entry = [] ∧
          t.fld F.MTR_FAULT_code = 0x0A06))))

/-- R366, R368, R372, R376: MTR_CTRL's channels, sets and event mask, and the sealed fields: written only with METRO_EN on and an idle scope, with a read-back. -/
def Obligations.MetrologySettings : Prop :=
  ∀ (s : State) (n ch : Nat) (who : Init) (v : Word) (good : Bool), n < 4 → ch < 8 → s.mtr.sets.length = 4 → s.mtr.user.length = 8 →
    let mt := s.tmk.mt
    let old := s.fld F.MTR_CTRL_ch_en
    let new := v.toNat % 256
    let rises (c : Nat) : Prop := new.testBit c = true ∧ old.testBit c = false
    let shut := (∃ c, c < 8 ∧ rises c) ∧ (s.icgLocked 1 = false ∨ ∃ c, c < 8 ∧ rises c ∧ (s.factory c).ok = false)
    let ctrl : Instr := .mtrCtrlWrite who v good
    let write (a : Nat) : Instr := .mtrUserWrite who a v good
    let sel := s.fld F.MTR_CAL_SEL_ch
    let idle := ∀ m e, m < 4 → e < 4 → s.setEn m = true → s.fldBit (F.MTR_SET_MAP_el m) e = true →
      s.fld (F.MTR_ELEM_v e) ≠ sel ∧ s.fld (F.MTR_ELEM_i e) ≠ sel
    let g := sgn 16 (v.toNat % 65536)
    let u := s.mtr.user.getD sel {}
    (s.mayWrite who Reg.MTR_CTRL = false ∨ s.isManager = false → Answers ctrl s (fun t => t = s)) ∧
    (s.mayWrite who Reg.MTR_CTRL = true → s.isManager = true → v.toNat / 4096 % 16 = s.fld F.MTR_CTRL_accum_mode → Answers ctrl s (fun t =>
      t.fld F.MTR_CTRL_evt_mask = v.toNat / 65536 % 16 ∧ t.fld F.MTR_CTRL_set_en = v.toNat / 256 % 16 ∧
      t.fld F.MTR_CTRL_accum_mode = s.fld F.MTR_CTRL_accum_mode ∧
      (shut → t.fld F.MTR_CTRL_ch_en = old ∧ t.fld F.MTR_STATUS_cfg_refused = 1 ∧ t.mtr.chFrom = s.mtr.chFrom) ∧
      (¬ shut → t.fld F.MTR_CTRL_ch_en = new ∧ t.mtr.chFrom.getD ch none = (if new.testBit ch then (if old.testBit ch then s.mtr.chFrom.getD ch none else some mt)
        else none)) ∧
      (s.setEn n = v.getLsbD (8 + n) → t.mset n = s.mset n) ∧
      (s.setEn n = true → v.getLsbD (8 + n) = false → (t.mset n).live = false ∧ ((s.mset n).live = false → (t.mset n).acc = (s.mset n).acc)))) ∧
    (s.mayWrite who Reg.MTR_CTRL = true → s.isManager = true → v.toNat / 4096 % 16 ≠ s.fld F.MTR_CTRL_accum_mode → s.metroEn = false →
      Answers ctrl s (fun t => t.fld F.MTR_CTRL_accum_mode = s.fld F.MTR_CTRL_accum_mode ∧ t.fld F.MTR_STATUS_cfg_refused = 1)) ∧
    (∀ a, s.mayWrite who a = false ∨ s.isManager = false ∨ (mtrCopyRegs.contains a = false ∧ isUcal a = false) → Answers (write a) s (fun t => t = s)) ∧
    (s.mayWrite who Reg.MTR_UCAL_GAIN = true → s.isManager = true → sgn 16 (unsgn 16 u.gain) = u.gain →
      (g = u.gain → Answers (write Reg.MTR_UCAL_GAIN) s (fun t => t = s)) ∧
      (g ≠ u.gain → s.metroEn = true → idle →
        (good = true → Answers (write Reg.MTR_UCAL_GAIN) s (fun t => t.mtr.user.getD sel {} = { u with gain := g } ∧
          (∀ c, c ≠ sel → t.mtr.user.getD c {} = s.mtr.user.getD c {}) ∧ t.fld F.MTR_EVT_cal = 1 ∧
          t.fld F.MTR_UCAL_STATUS_writes = min (s.fld F.MTR_UCAL_STATUS_writes + 1) 65535 ∧
          t.mtr.sets = s.mtr.sets)) ∧
        (good = false → Answers (write Reg.MTR_UCAL_GAIN) s (fun t => t.mtr.user = s.mtr.user ∧ t.fld F.MTR_FAULT_code = 0x0A03))) ∧
      (g ≠ u.gain → s.metroEn = false ∨ ¬ idle → Answers (write Reg.MTR_UCAL_GAIN) s (fun t => t.mtr = s.mtr ∧ t.fld F.MTR_STATUS_cfg_refused = 1)))
/-! ## Billing (19_billing_tariffs.md) -/

/-- R393 to R395: BIL_SES_CMD opens a session where nothing refuses it, sets its close and writes its amount; a refusal is recorded with its reason; a session in
CLOSING and an awaited amount end at their times. -/
def Obligations.Sessions : Prop :=
  ∀ (s : State) (who : Init) (v : Word) (r : OpenRec) (c t0 slot : Nat), s.bil.slots.length = 8 → slot < 8 →
    let mt := s.tmk.mt
    let may := s.mayWrite who Reg.BIL_SES_CMD = true ∧ s.bilOn = true
    let key := v.toNat / 65536 = 0xB11E
    let op := v.toNat % 4
    let refused (i : Instr) (why : Nat) : Prop := Answers i s (fun t => Sets [F.BIL_STATUS_cmd_refused, F.BIL_STATUS_reason] s t ∧
      t.fld F.BIL_STATUS_cmd_refused = 1 ∧ t.fld F.BIL_STATUS_reason = why)
    let free := (s.bil.slots.filter (fun k => k.state = 0)).length
    let need := if s.bil.interval.isSome then 1 else 2
    let rec_ := s.fld F.BIL_CTRL_en = 1 ∧ s.nj.wallValid = true ∧ s.fld F.TMK_STATUS_mt_untrusted = 0 ∧ s.bil.noSave = false
    let lc := s.fld F.KV_LC_state = 1 ∨ s.fld F.KV_LC_state = 2
    let none_ := s.bil.session = none ∧ s.bil.opening = none
    let openI : Instr := .sessionOpen who v
    let closeI : Instr := .sessionClose who v
    let amountI : Instr := .sessionAmount who v
    let to_ := 2500000 * s.fld F.BIL_SES_CFG_amount_to
    let k := s.bil.slots.getD slot {}
    let only := k.amountFrom = some t0 ∧ ∀ o, o ≠ slot → (s.bil.slots.getD o {}).amountFrom = none
    let amount := (s.word Reg.BIL_SES_AMT_LO).toNat + 2 ^ 32 * (s.word Reg.BIL_SES_AMT_HI).toNat
    (∀ i, i = openI ∨ i = closeI ∨ i = amountI →
      (¬ may → Answers i s (fun t => t = s)) ∧ (may → ¬ key → refused i 5) ∧ (may → key → op = 0 → refused i 5)) ∧
    (may → key → op = 1 →
      (rec_ → need ≤ free → lc → none_ → s.bil.badSlots = [] → Answers openI s (fun t => ∃ o, o < 8 ∧ (s.bil.slots.getD o {}).state = 0 ∧
        t = { s with bil := { s.bil with opening := some o, slots := t.bil.slots } } ∧ (t.bil.slots.getD o {}).state = 1 ∧
        ∀ q, q ≠ o → t.bil.slots.getD q {} = s.bil.slots.getD q {})) ∧
      (¬ rec_ → need ≤ free → lc → none_ → refused openI 1) ∧ (rec_ → free < need → lc → none_ → refused openI 2) ∧
      (rec_ → need ≤ free → ¬ lc → none_ → refused openI 3) ∧ (rec_ → need ≤ free → lc → ¬ none_ → refused openI 4)) ∧
    (may → key → op = 2 →
      (s.bil.session ≠ none → 0x10 ≤ v.toNat / 256 % 256 → Answers closeI s (fun t => t = { s with bil := { s.bil with closeAt := some (v.toNat / 256 % 256) } })) ∧
      (s.bil.session = none ∨ v.toNat / 256 % 256 < 0x10 → refused closeI 5)) ∧
    (may → key → op = 3 →
      (only → mt - t0 ≤ to_ → k.body.length = 96 → Answers amountI s (fun t =>
        let b := (t.bil.slots.getD slot {}).body
        (t.bil.slots.getD slot {}).amountFrom = none ∧ b.length = 96 ∧ b.take 7 = k.body.take 7 ∧ (b.drop 8).take 80 = (k.body.drop 8).take 80 ∧
        leNat ((b.drop 7).take 1) = leNat ((k.body.drop 7).take 1) % 128 ∧ leNat (b.drop 88) = amount ∧
        ∀ o, o ≠ slot → t.bil.slots.getD o {} = s.bil.slots.getD o {})) ∧
      ((∀ o, (s.bil.slots.getD o {}).amountFrom = none) ∨ (only ∧ to_ < mt - t0) → refused amountI 5)) ∧
    (s.bil.closing = none → Answers .sessionClosingTimeout s (fun t => t = s)) ∧
    (s.bil.closing = some (c, t0) →
      (s.bilOn = false ∨ mt - t0 < 25000000 → Answers .sessionClosingTimeout s (fun t => t = s)) ∧
      (s.bilOn = true → 25000000 ≤ mt - t0 → s.bil.session = some r → r.slot < 8 → Answers .sessionClosingTimeout s (fun t =>
        let q := t.bil.slots.getD r.slot {}
        let at_ (o m : Nat) : Nat := leNat ((q.body.drop o).take m)
        t.bil.session = none ∧ t.bil.closing = none ∧ q.state = 2 ∧ q.num = r.num ∧ q.amountFrom = some mt ∧ q.body.length = 96 ∧
        at_ 0 4 = 0x524D4E47 ∧ at_ 4 1 = 1 ∧ at_ 5 1 = 2 ∧ at_ 6 1 = c % 256 ∧ at_ 7 1 / 128 = 1 ∧ at_ 0x10 4 = r.num % 2 ^ 32 ∧ at_ 0x14 4 = r.era % 2 ^ 32 ∧
        at_ 0x18 8 = r.start % 2 ^ 64 ∧ at_ 0x20 8 = mt % 2 ^ 64 ∧ at_ 0x28 4 = r.wall % 2 ^ 32 ∧ at_ 0x30 8 = s.accInt r.set 0 % 2 ^ 64 ∧
        at_ 0x40 8 = (s.accInt r.set 0 + 2 ^ 64 - r.a0) % 2 ^ 64 ∧ at_ 0x58 8 = 2 ^ 63 ∧ t.fld F.BIL_EVT_closed = 1 ∧ t.fld F.BIL_EVT_amount = 1))) ∧
    (k.amountFrom = none → Answers (.amountTimeout slot) s (fun t => t = s)) ∧
    (k.amountFrom = some t0 →
      (s.bilOn = false ∨ mt - t0 ≤ to_ → Answers (.amountTimeout slot) s (fun t => t = s)) ∧
      (s.bilOn = true → to_ < mt - t0 → Answers (.amountTimeout slot) s (fun t => (t.bil.slots.getD slot {}).amountFrom = none ∧
        (t.bil.slots.getD slot {}).body = k.body ∧ ∀ o, o ≠ slot → t.bil.slots.getD o {} = s.bil.slots.getD o {})))

/-- R397 to R399, R403, R405, R406: a record's signature completes or fails, and is tried again; signed records are published in number order; the demand reset,
a top-up, and the feedback of the disconnecting contactor. -/
def Obligations.RecordsAndCredit : Prop :=
  ∀ (s : State) (who : Init) (v : Word) (slot t0 n : Nat) (x : KvTicket), s.bil.slots.length = 8 → slot < 8 → s.bil.demand.length = 8 → n < 8 →
    let mt := s.tmk.mt
    let k := s.bil.slots.getD slot {}
    let signed : Instr := .recordSigned slot
    let p : List Byte := k.body ++ k.sig
    let push := s.blockPush 0x38 p
    let lowest := k.state = 3 ∧ ∀ o, o < 8 → (s.bil.slots.getD o {}).state = 3 → o ≠ slot → k.num < (s.bil.slots.getD o {}).num
    let amount := sgn 64 ((s.word Reg.BIL_PP_TOPUP_LO).toNat + 2 ^ 32 * (s.word Reg.BIL_PP_TOPUP_HI).toNat)
    let ctr := s.fld F.BIL_PP_CFG_ctr
    (s.kvJob (.record slot) = none → Answers signed s (fun t => t = s)) ∧
    (s.kvJob (.record slot) = some x →
      (x.phase < 3 → Answers signed s (fun t => t = s)) ∧
      (x.phase = 3 → x.out.length = 64 → Answers signed s (fun t => t.bil.slots.getD slot {} = { k with state := 3, sig := x.out, signing := false } ∧
        t.fld F.BIL_CNT_signed = min (s.fld F.BIL_CNT_signed + 1) 65535 ∧ t.fld F.BIL_EVT_signed = 1 ∧
        t.kv = { s.kv with tickets := s.kv.tickets.filter (fun y => y.id ≠ x.id) } ∧
        ∀ o, o ≠ slot → t.bil.slots.getD o {} = s.bil.slots.getD o {} ∨ ((s.bil.slots.getD o {}).state = 4 ∧ t.bil.slots.getD o {} = {}))) ∧
      (3 < x.phase → Answers signed s (fun t => t.bil.slots.getD slot {} = { k with signing := false, triedAt := mt, failed := true } ∧
        t.fld F.BIL_CNT_sign_fail = min (s.fld F.BIL_CNT_sign_fail + 1) 255 ∧ (k.failed = false → t.fld F.BIL_FAULT_code = 0x0B01) ∧
        (k.failed = true → t.fld F.BIL_FAULT_code = s.fld F.BIL_FAULT_code)))) ∧
    (let due := s.bilOn = true ∧ k.state = 2 ∧ k.signing = false ∧ k.amountFrom = none ∧ 250000000 ≤ mt - k.triedAt
     (¬ due → Answers (.signRetry slot) s (fun t => t = s)) ∧
     (due → Answers (.signRetry slot) s (fun t => (t.bil.slots.getD slot {}).triedAt = mt ∧ (t.bil.slots.getD slot {}).body = k.body ∧
      (s.fld F.BIL_SIGN_KEY_slot = 0xFF → t.bil.slots.getD slot {} = { k with triedAt := mt, failed := true })))) ∧
    (s.bilOn = false ∨ (∀ o, o < 8 → (s.bil.slots.getD o {}).state ≠ 3) → Answers .recordPublish s (fun t => t = s)) ∧
    (s.bilOn = true → lowest →
      (push.1 = true → Answers .recordPublish s (fun t => t.mem = push.2.mem ∧ ((t.bil.slots.getD slot {}).state = 4 ∨ (t.bil.slots.getD slot {} = {} ∧
        ∃ o, o < 8 ∧ ((s.bil.slots.getD o {}).state = 3 ∨ (s.bil.slots.getD o {}).state = 4) ∧ k.num < (s.bil.slots.getD o {}).num)))) ∧
      (push.1 = false → Answers .recordPublish s (fun t => t = push.2 ∧ t.bil.slots.getD slot {} = k))) ∧
    (s.mayWrite who Reg.BIL_MD_CMD = true →
      (s.bilOn = false ∨ v.toNat / 65536 ≠ 0xDE5E → Answers (.bilMdCmd who v) s (fun t => t = s)) ∧
      (s.bilOn = true → v.toNat / 65536 = 0xDE5E → Answers (.bilMdCmd who v) s (fun t =>
        let d := s.bil.demand.getD n {}
        t.bil = { s.bil with demand := t.bil.demand } ∧
        t.bil.demand.getD n {} = (if v.getLsbD n then { d with prev := d.max, prevTime := d.maxTime, max := 0, maxTime := 0 } else d)))) ∧
    (s.mayWrite who Reg.BIL_PP_TOPUP_SEQ = true →
      (s.bilOn = false → Answers (.topup who v) s (fun t => t = s)) ∧
      (s.bilOn = true → 0 < amount → s.bil.topSeq < v.toNat → s.bil.credit + amount < 2 ^ 63 → Answers (.topup who v) s (fun t =>
        t = { s with regs := t.regs, bil := { s.bil with credit := s.bil.credit + amount, topSeq := v.toNat } } ∧
        RegsBut [F.BIL_PP_STATUS_low, F.BIL_PP_STATUS_exhausted] s t ∧ (0 < s.bil.credit + amount → t.fld F.BIL_PP_STATUS_exhausted = 0) ∧
        (s.bil.credit + amount < 0 → s.bil.residue < 2 ^ 32 → t.fld F.BIL_PP_STATUS_exhausted = s.fld F.BIL_PP_STATUS_exhausted))) ∧
      (s.bilOn = true → amount ≤ 0 ∨ v.toNat ≤ s.bil.topSeq → Answers (.topup who v) s (fun t =>
        Sets [F.BIL_STATUS_cmd_refused, F.BIL_STATUS_reason] s t ∧ t.fld F.BIL_STATUS_cmd_refused = 1 ∧ t.fld F.BIL_STATUS_reason = 6))) ∧
    (s.bil.fbFrom = none → Answers .ppFbTimeout s (fun t => t = s)) ∧
    (s.bil.fbFrom = some t0 →
      (mt - t0 < 2500000 → Answers .ppFbTimeout s (fun t => t = s)) ∧
      (2500000 ≤ mt - t0 → s.fbClosed ctr = false → Answers .ppFbTimeout s (fun t => t = { s with bil := { s.bil with fbFrom := none } })) ∧
      (2500000 ≤ mt - t0 → s.fbClosed ctr = true → Answers .ppFbTimeout s (fun t => t.bil.fbFrom = none ∧ t.fld F.BIL_FAULT_code = 0x0B03 ∧
        t.fld F.BIL_PP_STATUS_fb_faults = min (s.fld F.BIL_PP_STATUS_fb_faults + 1) 255)))
/-! ## The whole block -/

/-- The block takes the command at the front of its queue and executes it with the queue's rest. The table spells no
command in bits: no word is read as one, and none is put into the queue. -/
def Obligations.StepRunsTheFrontCommand : Prop :=
  ∀ (s : State) (c : Instr) (rest : List Instr), s.pending = c :: rest →
    step s = exec c { s with pending := rest } ∧
    ∀ nbits w, decodeTableWord nbits w = none ∧ s.withFetchWord nbits w = s

/-- R32: on an empty queue a step is one tick of meter time where it runs, and changes nothing else (assumption 3: the model's choice). -/
def Obligations.IdleStepIsATick : Prop :=
  ∀ (s : State), s.pending = [] → ∃ t, step s = .next t ∧ t = { s with tmk := { s.tmk with mt := t.tmk.mt } } ∧
    (s.tmk.mtRun = false → t = s) ∧ (s.tmk.mtRun = true → s.tmk.mt < 2 ^ 64 - 1 → t.tmk.mt = s.tmk.mt + 1) ∧
    (s.tmk.mtRun = true → s.tmk.mt = 2 ^ 64 - 1 → t.tmk.mt = 0)

/-- The block after power-on reset: no command waits, the stores have their canonical form, five cores of 32 registers stand at Kernel level and do not run,
no gate and no contactor is on, meter time stands at 0 and Dawn is not done. -/
def Obligations.ResetState : Prop :=
  State.reset.pending = [] ∧ State.reset.storesWf = true ∧ State.reset.coresWf = true ∧ State.reset.mem = [] ∧ State.reset.tmk.mt = 0 ∧
  State.reset.dawnDone = false ∧ State.reset.outputsOn = false ∧ State.reset.saf.armed = false ∧ State.reset.pwrState = 6 ∧
  (∀ c, c < 5 → (State.reset.core c).running = false ∧ (State.reset.core c).task = false ∧ (State.reset.core c).hnd = false) ∧
  State.reset.fld F.SAF_CTRL_evt_mask = 1 ∧ State.reset.fld F.PWR_PERIOD_period = 250 ∧ State.reset.fld F.EFM_RDC_CFG_rdc_thr = 45

/-- Every command completes: from every state exec answers a next state, none ends in a fault or a refusal; and a run never stops. -/
def Obligations.EveryCommandCompletes : Prop :=
  (∀ (s : State) (c : Instr), ∃ t, exec c s = .next t) ∧ ∀ (s : State), s.safe

/-- A command acts on everything but the queue: what waits stays in its order. -/
def Obligations.CommandsLeaveTheQueue : Prop :=
  ∀ (s t : State) (c : Instr), exec c s = .next t → t.pending = s.pending

/-- The register file and memory keep their canonical form under every step: addresses strictly rising, no entry 0. -/
def Obligations.StoresStayCanonical : Prop :=
  ∀ (s t : State), s.storesWf = true → step s = .next t → t.storesWf = true

/-- There are five cores, each of 32 general registers and 16 Task region words, after every step. -/
def Obligations.CoresKeepTheirShape : Prop :=
  ∀ (s t : State), s.coresWf = true → step s = .next t → t.coresWf = true
end

