-- ==== Sys2Proof/Laws/Store.lean ====
section
/-! SUPPORT. Laws of the sparse stores: a read after a write, what a write leaves alone, and that every operation keeps the canonical form. -/

namespace Sys2Proof.Machine

open Sys2Proof

variable {n : Nat}

/-- Every entry of a store lies above a bound. -/
def Store.above (m : Nat) (l : List (Nat × BitVec n)) : Prop := ∀ p ∈ l, m < p.1

theorem Store.wf_cons (k : Nat) (v : BitVec n) (t : List (Nat × BitVec n)) :
    Store.wf ((k, v) :: t) = true ↔ v ≠ 0#n ∧ Store.wfFrom (some k) t = true := by
  simp [Store.wf, Store.wfFrom]

theorem Store.wfFrom_cons (m k : Nat) (v : BitVec n) (t : List (Nat × BitVec n)) :
    Store.wfFrom (some m) ((k, v) :: t) = true ↔ m < k ∧ v ≠ 0#n ∧ Store.wfFrom (some k) t = true := by
  simp [Store.wfFrom, and_assoc]

/-- A canonical tail lies above its bound. -/
theorem Store.above_of_wfFrom : ∀ (l : List (Nat × BitVec n)) (m : Nat), Store.wfFrom (some m) l = true → Store.above m l
  | [], _, _ => by simp [Store.above]
  | (k, v) :: t, m, h => by
    obtain ⟨h1, -, h2⟩ := (Store.wfFrom_cons m k v t).1 h
    intro p hp
    rcases List.mem_cons.1 hp with rfl | hp
    · exact h1
    · exact Nat.lt_trans h1 (Store.above_of_wfFrom t k h2 p hp)

/-- A lower bound weakens. -/
theorem Store.wfFrom_mono {a b : Nat} (hab : a ≤ b) : ∀ (l : List (Nat × BitVec n)), Store.wfFrom (some b) l = true → Store.wfFrom (some a) l = true
  | [], _ => rfl
  | (k, v) :: t, h => by
    obtain ⟨h1, h2, h3⟩ := (Store.wfFrom_cons b k v t).1 h
    exact (Store.wfFrom_cons a k v t).2 ⟨by omega, h2, h3⟩

theorem Store.wf_of_wfFrom {m : Nat} : ∀ (l : List (Nat × BitVec n)), Store.wfFrom (some m) l = true → Store.wf l = true
  | [], _ => rfl
  | (k, v) :: t, h => (Store.wf_cons k v t).2 ((Store.wfFrom_cons m k v t).1 h).2

/-- Filtering keeps a canonical tail. -/
theorem Store.wfFrom_filter (p : Nat × BitVec n → Bool) :
    ∀ (l : List (Nat × BitVec n)) (m : Nat), Store.wfFrom (some m) l = true → Store.wfFrom (some m) (l.filter p) = true
  | [], _, _ => rfl
  | (k, v) :: t, m, h => by
    obtain ⟨h1, h2, h3⟩ := (Store.wfFrom_cons m k v t).1 h
    by_cases hp : p (k, v) = true
    · rw [List.filter_cons_of_pos hp]
      exact (Store.wfFrom_cons m k v _).2 ⟨h1, h2, Store.wfFrom_filter p t k h3⟩
    · rw [List.filter_cons_of_neg hp]
      exact Store.wfFrom_mono (Nat.le_of_lt h1) _ (Store.wfFrom_filter p t k h3)

/-- Filtering keeps the canonical form. -/
theorem Store.wf_filter (p : Nat × BitVec n → Bool) (l : List (Nat × BitVec n)) (h : Store.wf l = true) : Store.wf (l.filter p) = true := by
  cases l with
  | nil => rfl
  | cons a t =>
    obtain ⟨k, v⟩ := a
    obtain ⟨h1, h2⟩ := (Store.wf_cons k v t).1 h
    by_cases hp : p (k, v) = true
    · rw [List.filter_cons_of_pos hp]
      exact (Store.wf_cons k v _).2 ⟨h1, Store.wfFrom_filter p t k h2⟩
    · rw [List.filter_cons_of_neg hp]
      exact Store.wf_of_wfFrom _ (Store.wfFrom_filter p t k h2)

/-- Insertion above a bound keeps a canonical tail. -/
theorem Store.wfFrom_insert {v : BitVec n} (hv : v ≠ 0#n) (a : Nat) :
    ∀ (l : List (Nat × BitVec n)) (m : Nat), m < a → Store.wfFrom (some m) l = true → Store.wfFrom (some m) (Store.insert l a v) = true
  | [], m, hm, _ => (Store.wfFrom_cons m a v []).2 ⟨hm, hv, rfl⟩
  | (k, w) :: t, m, hm, h => by
    obtain ⟨h1, h2, h3⟩ := (Store.wfFrom_cons m k w t).1 h
    unfold Store.insert
    split
    · next hk => exact (Store.wfFrom_cons m a v _).2 ⟨hm, hv, (Store.wfFrom_cons a k w t).2 ⟨hk, h2, h3⟩⟩
    · split
      · next hk => subst hk; exact (Store.wfFrom_cons m a v t).2 ⟨h1, hv, h3⟩
      · exact (Store.wfFrom_cons m k w _).2 ⟨h1, h2, Store.wfFrom_insert hv a t k (by omega) h3⟩

/-- A write keeps the canonical form. -/
theorem Store.wf_set (l : List (Nat × BitVec n)) (a : Nat) (v : BitVec n) (h : Store.wf l = true) : Store.wf (Store.set l a v) = true := by
  unfold Store.set
  split
  · exact Store.wf_filter _ l h
  · next hv =>
    cases l with
    | nil => exact (Store.wf_cons a v []).2 ⟨hv, rfl⟩
    | cons p t =>
      obtain ⟨k, w⟩ := p
      obtain ⟨h2, h3⟩ := (Store.wf_cons k w t).1 h
      unfold Store.insert
      split
      · next hk => exact (Store.wf_cons a v _).2 ⟨hv, (Store.wfFrom_cons a k w t).2 ⟨hk, h2, h3⟩⟩
      · split
        · next hk => subst hk; exact (Store.wf_cons a v t).2 ⟨hv, h3⟩
        · exact (Store.wf_cons k w _).2 ⟨h2, Store.wfFrom_insert hv a t k (by omega) h3⟩

/-- Bytes written keep the canonical form. -/
theorem Store.wf_setBytes : ∀ (b : List Byte) (l : List Host.Cell) (a : Nat), Store.wf l = true → Store.wf (Store.setBytes l a b) = true
  | [], _, _, h => h
  | v :: t, l, a, h => Store.wf_setBytes t (Store.set l a v) (a + 1) (Store.wf_set l a v h)

/-- Ring entries written keep the canonical form. -/
theorem ringWrite_wf (d : Desc) (count : Word) :
    ∀ (b : List Byte) (o : Nat) (l : List Host.Cell), Store.wf l = true → Store.wf (ringWrite d count o b l) = true
  | [], _, _, h => h
  | v :: t, o, l, h => ringWrite_wf d count t (o + 1) (Store.set l (d.addr count o) v) (Store.wf_set l _ v h)

/-- Writes one after another keep the canonical form. -/
theorem Store.wf_foldl_set : ∀ (ps : List (Nat × BitVec n)) (l : List (Nat × BitVec n)),
    Store.wf l = true → Store.wf (ps.foldl (fun t p => Store.set t p.1 p.2) l) = true
  | [], _, h => h
  | p :: ps, l, h => Store.wf_foldl_set ps (Store.set l p.1 p.2) (Store.wf_set l p.1 p.2 h)

/-! ## Reads -/

theorem Store.get_filter_ne (a b : Nat) (hab : a ≠ b) : ∀ (l : List (Nat × BitVec n)), Store.get (l.filter (fun p => p.1 ≠ a)) b = Store.get l b
  | [] => rfl
  | (k, v) :: t => by
    have ih := Store.get_filter_ne a b hab t
    by_cases hk : k = a
    · subst hk
      rw [List.filter_cons_of_neg (by simp), ih, Store.get, if_neg hab]
    · rw [List.filter_cons_of_pos (by simpa using hk), Store.get, Store.get, ih]

theorem Store.get_filter_self (a : Nat) : ∀ (l : List (Nat × BitVec n)), Store.get (l.filter (fun p => p.1 ≠ a)) a = 0
  | [] => rfl
  | (k, v) :: t => by
    have ih := Store.get_filter_self a t
    by_cases hk : k = a
    · subst hk
      rw [List.filter_cons_of_neg (by simp), ih]
    · rw [List.filter_cons_of_pos (by simpa using hk), Store.get, if_neg hk, ih]

theorem Store.get_insert_self (a : Nat) (v : BitVec n) : ∀ (l : List (Nat × BitVec n)), Store.get (Store.insert l a v) a = v
  | [] => by simp [Store.insert, Store.get]
  | (k, w) :: t => by
    unfold Store.insert
    split
    · simp [Store.get]
    · split
      · simp [Store.get]
      · next h1 h2 => simp [Store.get, Ne.symm h2, Store.get_insert_self a v t]

theorem Store.get_insert_ne (a b : Nat) (hab : a ≠ b) (v : BitVec n) : ∀ (l : List (Nat × BitVec n)), Store.get (Store.insert l a v) b = Store.get l b
  | [] => by simp [Store.insert, Store.get, hab]
  | (k, w) :: t => by
    unfold Store.insert
    split
    · simp [Store.get, hab]
    · split
      · next hk => subst hk; simp [Store.get, hab]
      · simp only [Store.get]
        split
        · rfl
        · exact Store.get_insert_ne a b hab v t

/-- A read after a write to the same address gives the word written. -/
@[simp] theorem Store.get_set_self (l : List (Nat × BitVec n)) (a : Nat) (v : BitVec n) : Store.get (Store.set l a v) a = v := by
  unfold Store.set
  split
  · next h => rw [Store.get_filter_self, h]
  · exact Store.get_insert_self a v l

/-- A write leaves every other address alone. -/
theorem Store.get_set_ne (l : List (Nat × BitVec n)) (a b : Nat) (v : BitVec n) (hab : a ≠ b) : Store.get (Store.set l a v) b = Store.get l b := by
  unfold Store.set
  split
  · exact Store.get_filter_ne a b hab l
  · exact Store.get_insert_ne a b hab v l

/-- What an address reads as after a write. -/
theorem Store.get_set (l : List (Nat × BitVec n)) (a b : Nat) (v : BitVec n) : Store.get (Store.set l a v) b = if a = b then v else Store.get l b := by
  split
  · next h => subst h; exact Store.get_set_self l a v
  · next h => exact Store.get_set_ne l a b v h

/-- Bytes written leave every address outside them alone. -/
theorem Store.get_setBytes_out : ∀ (b : List Byte) (l : List Host.Cell) (a x : Nat),
    (x < a ∨ a + b.length ≤ x) → Store.get (Store.setBytes l a b) x = Store.get l x
  | [], _, _, _, _ => rfl
  | v :: t, l, a, x, h => by
    simp only [List.length_cons] at h
    rw [Store.setBytes, Store.get_setBytes_out t _ (a + 1) x (by omega), Store.get_set_ne _ _ _ _ (by omega)]

/-- Each byte written reads as it was written. -/
theorem Store.get_setBytes_in : ∀ (b : List Byte) (l : List Host.Cell) (a i : Nat) (h : i < b.length),
    Store.get (Store.setBytes l a b) (a + i) = b[i]
  | v :: t, l, a, 0, _ => by
    show Store.get (Store.setBytes (Store.set l a v) (a + 1) t) a = v
    rw [Store.get_setBytes_out t _ (a + 1) a (by omega), Store.get_set_self]
  | v :: t, l, a, i + 1, h => by
    have := Store.get_setBytes_in t (Store.set l a v) (a + 1) i (by simpa using h)
    show Store.get (Store.setBytes (Store.set l a v) (a + 1) t) (a + (i + 1)) = t[i]'(by simpa using h)
    rw [show a + (i + 1) = a + 1 + i by omega, this]

/-! ## Fields of a word -/

/-- The mask of the lowest `k` bits. -/
theorem mask_bit (k i : Nat) (hk : k ≤ 32) : ((1#32 <<< k) - 1#32).getLsbD i = decide (i < k) := by
  have h : ((1#32 <<< k) - 1#32).toNat = 2 ^ k - 1 := by
    rcases Nat.lt_or_ge k 32 with h | h
    · have h1 : 2 ^ k < 2 ^ 32 := Nat.pow_lt_pow_right (by omega) h
      have h2 : 0 < 2 ^ k := Nat.two_pow_pos k
      simp only [BitVec.toNat_sub, BitVec.toNat_shiftLeft, BitVec.toNat_ofNat, Nat.shiftLeft_eq]
      have h3 : (2 : Nat) ^ 32 = 4294967296 := by decide
      rw [Nat.mod_eq_of_lt (a := 1) (by omega), Nat.one_mul, Nat.mod_eq_of_lt h1]
      omega
    · have : k = 32 := by omega
      subst this
      decide
  rw [BitVec.getLsbD, h, Nat.testBit_two_pow_sub_one]

/-- Bit `i` of a field. -/
theorem getBits_bit (w : Word) (hi lo i : Nat) (h1 : lo ≤ hi) (h2 : hi < 32) :
    (getBits w hi lo).testBit i = (decide (i < hi + 1 - lo) && w.getLsbD (lo + i)) := by
  rcases Nat.lt_or_ge i 32 with h | h
  · have := mask_bit (hi + 1 - lo) i (by omega)
    rw [getBits, BitVec.testBit_toNat, BitVec.getLsbD_and, BitVec.getLsbD_ushiftRight, this, Bool.and_comm]
  · rw [getBits, BitVec.testBit_toNat, BitVec.getLsbD_of_ge _ _ h]
    simp; omega

/-- Bit `i` of a word after a field is written. -/
theorem putBits_bit (w : Word) (hi lo v i : Nat) (h1 : lo ≤ hi) (h2 : hi < 32) (h : i < 32) :
    (putBits w hi lo v).getLsbD i = if lo ≤ i ∧ i ≤ hi then v.testBit (i - lo) else w.getLsbD i := by
  have hm := fun j => mask_bit (hi + 1 - lo) j (by omega)
  simp only [putBits, w32, BitVec.getLsbD_or, BitVec.getLsbD_and, BitVec.getLsbD_not, BitVec.getLsbD_shiftLeft, BitVec.getLsbD_ofNat]
  by_cases hlo : i < lo
  · simp [hlo, h, show ¬ lo ≤ i by omega]
  · rw [hm (i - lo)]
    by_cases hhi : i ≤ hi
    · simp [hlo, h, hhi, show lo ≤ i by omega, show i - lo < hi + 1 - lo by omega, show i - lo < 32 by omega]
    · simp [hlo, h, hhi, show ¬ i - lo < hi + 1 - lo by omega]

/-- A field reads as the low bits of what was written into it. -/
theorem getBits_putBits_self (w : Word) (hi lo v : Nat) (h1 : lo ≤ hi) (h2 : hi < 32) :
    getBits (putBits w hi lo v) hi lo = v % 2 ^ (hi + 1 - lo) := by
  apply Nat.eq_of_testBit_eq
  intro i
  rw [getBits_bit _ _ _ _ h1 h2, Nat.testBit_mod_two_pow]
  by_cases h : i < hi + 1 - lo
  · rw [putBits_bit _ _ _ _ _ h1 h2 (by omega)]
    simp [h, show lo + i ≤ hi by omega]
  · simp [h]

/-- A field that shares no bit with the one written reads as before. -/
theorem getBits_putBits_ne (w : Word) (hi lo v hi' lo' : Nat) (h1 : lo ≤ hi) (h2 : hi < 32) (h3 : lo' ≤ hi') (h4 : hi' < 32)
    (hd : hi < lo' ∨ hi' < lo) : getBits (putBits w hi lo v) hi' lo' = getBits w hi' lo' := by
  apply Nat.eq_of_testBit_eq
  intro i
  rw [getBits_bit _ _ _ _ h3 h4, getBits_bit _ _ _ _ h3 h4]
  by_cases h : i < hi' + 1 - lo'
  · rw [putBits_bit _ _ _ _ _ h1 h2 (by omega), if_neg (by omega)]
  · simp [h]

/-- A field is below its width. -/
theorem getBits_lt (w : Word) (hi lo : Nat) (h1 : lo ≤ hi) (h2 : hi < 32) : getBits w hi lo < 2 ^ (hi + 1 - lo) := by
  apply Nat.lt_pow_two_of_testBit
  intro i hi'
  rw [getBits_bit _ _ _ _ h1 h2]
  simp; omega

end Sys2Proof.Machine
end

