-- ==== Sys2Proof/Laws/State.lean ====
section
/-! SUPPORT. Laws of the state's updates: one lemma for each field and each update, fields of registers, and cores. -/

namespace Sys2Proof.Machine

open Sys2Proof

/-! ## What an update leaves -/

/-! ### setFld -/

@[simp] theorem State.setFld_mem (s : State) (f : Field) (v : Nat) : (s.setFld f v).mem = s.mem := rfl
@[simp] theorem State.setFld_tmk (s : State) (f : Field) (v : Nat) : (s.setFld f v).tmk = s.tmk := rfl
@[simp] theorem State.setFld_cpu (s : State) (f : Field) (v : Nat) : (s.setFld f v).cpu = s.cpu := rfl
@[simp] theorem State.setFld_nj (s : State) (f : Field) (v : Nat) : (s.setFld f v).nj = s.nj := rfl
@[simp] theorem State.setFld_qe (s : State) (f : Field) (v : Nat) : (s.setFld f v).qe = s.qe := rfl
@[simp] theorem State.setFld_stf (s : State) (f : Field) (v : Nat) : (s.setFld f v).stf = s.stf := rfl
@[simp] theorem State.setFld_veh (s : State) (f : Field) (v : Nat) : (s.setFld f v).veh = s.veh := rfl
@[simp] theorem State.setFld_saf (s : State) (f : Field) (v : Nat) : (s.setFld f v).saf = s.saf := rfl
@[simp] theorem State.setFld_efm (s : State) (f : Field) (v : Nat) : (s.setFld f v).efm = s.efm := rfl
@[simp] theorem State.setFld_pwr (s : State) (f : Field) (v : Nat) : (s.setFld f v).pwr = s.pwr := rfl
@[simp] theorem State.setFld_mtr (s : State) (f : Field) (v : Nat) : (s.setFld f v).mtr = s.mtr := rfl
@[simp] theorem State.setFld_bil (s : State) (f : Field) (v : Nat) : (s.setFld f v).bil = s.bil := rfl
@[simp] theorem State.setFld_kv (s : State) (f : Field) (v : Nat) : (s.setFld f v).kv = s.kv := rfl
@[simp] theorem State.setFld_update (s : State) (f : Field) (v : Nat) : (s.setFld f v).update = s.update := rfl
@[simp] theorem State.setFld_dsk (s : State) (f : Field) (v : Nat) : (s.setFld f v).dsk = s.dsk := rfl
@[simp] theorem State.setFld_life (s : State) (f : Field) (v : Nat) : (s.setFld f v).life = s.life := rfl
@[simp] theorem State.setFld_rbn (s : State) (f : Field) (v : Nat) : (s.setFld f v).rbn = s.rbn := rfl
@[simp] theorem State.setFld_hsp (s : State) (f : Field) (v : Nat) : (s.setFld f v).hsp = s.hsp := rfl
@[simp] theorem State.setFld_readOut (s : State) (f : Field) (v : Nat) : (s.setFld f v).readOut = s.readOut := rfl
@[simp] theorem State.setFld_free (s : State) (f : Field) (v : Nat) : (s.setFld f v).free = s.free := rfl
@[simp] theorem State.setFld_pending (s : State) (f : Field) (v : Nat) : (s.setFld f v).pending = s.pending := rfl

/-! ### setBit -/

@[simp] theorem State.setBit_mem (s : State) (f : Field) (b : Bool) : (s.setBit f b).mem = s.mem := rfl
@[simp] theorem State.setBit_tmk (s : State) (f : Field) (b : Bool) : (s.setBit f b).tmk = s.tmk := rfl
@[simp] theorem State.setBit_cpu (s : State) (f : Field) (b : Bool) : (s.setBit f b).cpu = s.cpu := rfl
@[simp] theorem State.setBit_nj (s : State) (f : Field) (b : Bool) : (s.setBit f b).nj = s.nj := rfl
@[simp] theorem State.setBit_qe (s : State) (f : Field) (b : Bool) : (s.setBit f b).qe = s.qe := rfl
@[simp] theorem State.setBit_stf (s : State) (f : Field) (b : Bool) : (s.setBit f b).stf = s.stf := rfl
@[simp] theorem State.setBit_veh (s : State) (f : Field) (b : Bool) : (s.setBit f b).veh = s.veh := rfl
@[simp] theorem State.setBit_saf (s : State) (f : Field) (b : Bool) : (s.setBit f b).saf = s.saf := rfl
@[simp] theorem State.setBit_efm (s : State) (f : Field) (b : Bool) : (s.setBit f b).efm = s.efm := rfl
@[simp] theorem State.setBit_pwr (s : State) (f : Field) (b : Bool) : (s.setBit f b).pwr = s.pwr := rfl
@[simp] theorem State.setBit_mtr (s : State) (f : Field) (b : Bool) : (s.setBit f b).mtr = s.mtr := rfl
@[simp] theorem State.setBit_bil (s : State) (f : Field) (b : Bool) : (s.setBit f b).bil = s.bil := rfl
@[simp] theorem State.setBit_kv (s : State) (f : Field) (b : Bool) : (s.setBit f b).kv = s.kv := rfl
@[simp] theorem State.setBit_update (s : State) (f : Field) (b : Bool) : (s.setBit f b).update = s.update := rfl
@[simp] theorem State.setBit_dsk (s : State) (f : Field) (b : Bool) : (s.setBit f b).dsk = s.dsk := rfl
@[simp] theorem State.setBit_life (s : State) (f : Field) (b : Bool) : (s.setBit f b).life = s.life := rfl
@[simp] theorem State.setBit_rbn (s : State) (f : Field) (b : Bool) : (s.setBit f b).rbn = s.rbn := rfl
@[simp] theorem State.setBit_hsp (s : State) (f : Field) (b : Bool) : (s.setBit f b).hsp = s.hsp := rfl
@[simp] theorem State.setBit_readOut (s : State) (f : Field) (b : Bool) : (s.setBit f b).readOut = s.readOut := rfl
@[simp] theorem State.setBit_free (s : State) (f : Field) (b : Bool) : (s.setBit f b).free = s.free := rfl
@[simp] theorem State.setBit_pending (s : State) (f : Field) (b : Bool) : (s.setBit f b).pending = s.pending := rfl

/-! ### setWord -/

@[simp] theorem State.setWord_mem (s : State) (a : Nat) (v : Word) : (s.setWord a v).mem = s.mem := rfl
@[simp] theorem State.setWord_tmk (s : State) (a : Nat) (v : Word) : (s.setWord a v).tmk = s.tmk := rfl
@[simp] theorem State.setWord_cpu (s : State) (a : Nat) (v : Word) : (s.setWord a v).cpu = s.cpu := rfl
@[simp] theorem State.setWord_nj (s : State) (a : Nat) (v : Word) : (s.setWord a v).nj = s.nj := rfl
@[simp] theorem State.setWord_qe (s : State) (a : Nat) (v : Word) : (s.setWord a v).qe = s.qe := rfl
@[simp] theorem State.setWord_stf (s : State) (a : Nat) (v : Word) : (s.setWord a v).stf = s.stf := rfl
@[simp] theorem State.setWord_veh (s : State) (a : Nat) (v : Word) : (s.setWord a v).veh = s.veh := rfl
@[simp] theorem State.setWord_saf (s : State) (a : Nat) (v : Word) : (s.setWord a v).saf = s.saf := rfl
@[simp] theorem State.setWord_efm (s : State) (a : Nat) (v : Word) : (s.setWord a v).efm = s.efm := rfl
@[simp] theorem State.setWord_pwr (s : State) (a : Nat) (v : Word) : (s.setWord a v).pwr = s.pwr := rfl
@[simp] theorem State.setWord_mtr (s : State) (a : Nat) (v : Word) : (s.setWord a v).mtr = s.mtr := rfl
@[simp] theorem State.setWord_bil (s : State) (a : Nat) (v : Word) : (s.setWord a v).bil = s.bil := rfl
@[simp] theorem State.setWord_kv (s : State) (a : Nat) (v : Word) : (s.setWord a v).kv = s.kv := rfl
@[simp] theorem State.setWord_update (s : State) (a : Nat) (v : Word) : (s.setWord a v).update = s.update := rfl
@[simp] theorem State.setWord_dsk (s : State) (a : Nat) (v : Word) : (s.setWord a v).dsk = s.dsk := rfl
@[simp] theorem State.setWord_life (s : State) (a : Nat) (v : Word) : (s.setWord a v).life = s.life := rfl
@[simp] theorem State.setWord_rbn (s : State) (a : Nat) (v : Word) : (s.setWord a v).rbn = s.rbn := rfl
@[simp] theorem State.setWord_hsp (s : State) (a : Nat) (v : Word) : (s.setWord a v).hsp = s.hsp := rfl
@[simp] theorem State.setWord_readOut (s : State) (a : Nat) (v : Word) : (s.setWord a v).readOut = s.readOut := rfl
@[simp] theorem State.setWord_free (s : State) (a : Nat) (v : Word) : (s.setWord a v).free = s.free := rfl
@[simp] theorem State.setWord_pending (s : State) (a : Nat) (v : Word) : (s.setWord a v).pending = s.pending := rfl

/-! ### setFldBit -/

@[simp] theorem State.setFldBit_mem (s : State) (f : Field) (n : Nat) (b : Bool) : (s.setFldBit f n b).mem = s.mem := rfl
@[simp] theorem State.setFldBit_tmk (s : State) (f : Field) (n : Nat) (b : Bool) : (s.setFldBit f n b).tmk = s.tmk := rfl
@[simp] theorem State.setFldBit_cpu (s : State) (f : Field) (n : Nat) (b : Bool) : (s.setFldBit f n b).cpu = s.cpu := rfl
@[simp] theorem State.setFldBit_nj (s : State) (f : Field) (n : Nat) (b : Bool) : (s.setFldBit f n b).nj = s.nj := rfl
@[simp] theorem State.setFldBit_qe (s : State) (f : Field) (n : Nat) (b : Bool) : (s.setFldBit f n b).qe = s.qe := rfl
@[simp] theorem State.setFldBit_stf (s : State) (f : Field) (n : Nat) (b : Bool) : (s.setFldBit f n b).stf = s.stf := rfl
@[simp] theorem State.setFldBit_veh (s : State) (f : Field) (n : Nat) (b : Bool) : (s.setFldBit f n b).veh = s.veh := rfl
@[simp] theorem State.setFldBit_saf (s : State) (f : Field) (n : Nat) (b : Bool) : (s.setFldBit f n b).saf = s.saf := rfl
@[simp] theorem State.setFldBit_efm (s : State) (f : Field) (n : Nat) (b : Bool) : (s.setFldBit f n b).efm = s.efm := rfl
@[simp] theorem State.setFldBit_pwr (s : State) (f : Field) (n : Nat) (b : Bool) : (s.setFldBit f n b).pwr = s.pwr := rfl
@[simp] theorem State.setFldBit_mtr (s : State) (f : Field) (n : Nat) (b : Bool) : (s.setFldBit f n b).mtr = s.mtr := rfl
@[simp] theorem State.setFldBit_bil (s : State) (f : Field) (n : Nat) (b : Bool) : (s.setFldBit f n b).bil = s.bil := rfl
@[simp] theorem State.setFldBit_kv (s : State) (f : Field) (n : Nat) (b : Bool) : (s.setFldBit f n b).kv = s.kv := rfl
@[simp] theorem State.setFldBit_update (s : State) (f : Field) (n : Nat) (b : Bool) : (s.setFldBit f n b).update = s.update := rfl
@[simp] theorem State.setFldBit_dsk (s : State) (f : Field) (n : Nat) (b : Bool) : (s.setFldBit f n b).dsk = s.dsk := rfl
@[simp] theorem State.setFldBit_life (s : State) (f : Field) (n : Nat) (b : Bool) : (s.setFldBit f n b).life = s.life := rfl
@[simp] theorem State.setFldBit_rbn (s : State) (f : Field) (n : Nat) (b : Bool) : (s.setFldBit f n b).rbn = s.rbn := rfl
@[simp] theorem State.setFldBit_hsp (s : State) (f : Field) (n : Nat) (b : Bool) : (s.setFldBit f n b).hsp = s.hsp := rfl
@[simp] theorem State.setFldBit_readOut (s : State) (f : Field) (n : Nat) (b : Bool) : (s.setFldBit f n b).readOut = s.readOut := rfl
@[simp] theorem State.setFldBit_free (s : State) (f : Field) (n : Nat) (b : Bool) : (s.setFldBit f n b).free = s.free := rfl
@[simp] theorem State.setFldBit_pending (s : State) (f : Field) (n : Nat) (b : Bool) : (s.setFldBit f n b).pending = s.pending := rfl

/-! ### count -/

@[simp] theorem State.count_mem (s : State) (f : Field) (n : Nat) : (s.count f n).mem = s.mem := rfl
@[simp] theorem State.count_tmk (s : State) (f : Field) (n : Nat) : (s.count f n).tmk = s.tmk := rfl
@[simp] theorem State.count_cpu (s : State) (f : Field) (n : Nat) : (s.count f n).cpu = s.cpu := rfl
@[simp] theorem State.count_nj (s : State) (f : Field) (n : Nat) : (s.count f n).nj = s.nj := rfl
@[simp] theorem State.count_qe (s : State) (f : Field) (n : Nat) : (s.count f n).qe = s.qe := rfl
@[simp] theorem State.count_stf (s : State) (f : Field) (n : Nat) : (s.count f n).stf = s.stf := rfl
@[simp] theorem State.count_veh (s : State) (f : Field) (n : Nat) : (s.count f n).veh = s.veh := rfl
@[simp] theorem State.count_saf (s : State) (f : Field) (n : Nat) : (s.count f n).saf = s.saf := rfl
@[simp] theorem State.count_efm (s : State) (f : Field) (n : Nat) : (s.count f n).efm = s.efm := rfl
@[simp] theorem State.count_pwr (s : State) (f : Field) (n : Nat) : (s.count f n).pwr = s.pwr := rfl
@[simp] theorem State.count_mtr (s : State) (f : Field) (n : Nat) : (s.count f n).mtr = s.mtr := rfl
@[simp] theorem State.count_bil (s : State) (f : Field) (n : Nat) : (s.count f n).bil = s.bil := rfl
@[simp] theorem State.count_kv (s : State) (f : Field) (n : Nat) : (s.count f n).kv = s.kv := rfl
@[simp] theorem State.count_update (s : State) (f : Field) (n : Nat) : (s.count f n).update = s.update := rfl
@[simp] theorem State.count_dsk (s : State) (f : Field) (n : Nat) : (s.count f n).dsk = s.dsk := rfl
@[simp] theorem State.count_life (s : State) (f : Field) (n : Nat) : (s.count f n).life = s.life := rfl
@[simp] theorem State.count_rbn (s : State) (f : Field) (n : Nat) : (s.count f n).rbn = s.rbn := rfl
@[simp] theorem State.count_hsp (s : State) (f : Field) (n : Nat) : (s.count f n).hsp = s.hsp := rfl
@[simp] theorem State.count_readOut (s : State) (f : Field) (n : Nat) : (s.count f n).readOut = s.readOut := rfl
@[simp] theorem State.count_free (s : State) (f : Field) (n : Nat) : (s.count f n).free = s.free := rfl
@[simp] theorem State.count_pending (s : State) (f : Field) (n : Nat) : (s.count f n).pending = s.pending := rfl

/-! ### onCore -/

@[simp] theorem State.onCore_regs (s : State) (c : Nat) (f : Core → Core) : (s.onCore c f).regs = s.regs := rfl
@[simp] theorem State.onCore_mem (s : State) (c : Nat) (f : Core → Core) : (s.onCore c f).mem = s.mem := rfl
@[simp] theorem State.onCore_tmk (s : State) (c : Nat) (f : Core → Core) : (s.onCore c f).tmk = s.tmk := rfl
@[simp] theorem State.onCore_nj (s : State) (c : Nat) (f : Core → Core) : (s.onCore c f).nj = s.nj := rfl
@[simp] theorem State.onCore_qe (s : State) (c : Nat) (f : Core → Core) : (s.onCore c f).qe = s.qe := rfl
@[simp] theorem State.onCore_stf (s : State) (c : Nat) (f : Core → Core) : (s.onCore c f).stf = s.stf := rfl
@[simp] theorem State.onCore_veh (s : State) (c : Nat) (f : Core → Core) : (s.onCore c f).veh = s.veh := rfl
@[simp] theorem State.onCore_saf (s : State) (c : Nat) (f : Core → Core) : (s.onCore c f).saf = s.saf := rfl
@[simp] theorem State.onCore_efm (s : State) (c : Nat) (f : Core → Core) : (s.onCore c f).efm = s.efm := rfl
@[simp] theorem State.onCore_pwr (s : State) (c : Nat) (f : Core → Core) : (s.onCore c f).pwr = s.pwr := rfl
@[simp] theorem State.onCore_mtr (s : State) (c : Nat) (f : Core → Core) : (s.onCore c f).mtr = s.mtr := rfl
@[simp] theorem State.onCore_bil (s : State) (c : Nat) (f : Core → Core) : (s.onCore c f).bil = s.bil := rfl
@[simp] theorem State.onCore_kv (s : State) (c : Nat) (f : Core → Core) : (s.onCore c f).kv = s.kv := rfl
@[simp] theorem State.onCore_update (s : State) (c : Nat) (f : Core → Core) : (s.onCore c f).update = s.update := rfl
@[simp] theorem State.onCore_dsk (s : State) (c : Nat) (f : Core → Core) : (s.onCore c f).dsk = s.dsk := rfl
@[simp] theorem State.onCore_life (s : State) (c : Nat) (f : Core → Core) : (s.onCore c f).life = s.life := rfl
@[simp] theorem State.onCore_rbn (s : State) (c : Nat) (f : Core → Core) : (s.onCore c f).rbn = s.rbn := rfl
@[simp] theorem State.onCore_hsp (s : State) (c : Nat) (f : Core → Core) : (s.onCore c f).hsp = s.hsp := rfl
@[simp] theorem State.onCore_readOut (s : State) (c : Nat) (f : Core → Core) : (s.onCore c f).readOut = s.readOut := rfl
@[simp] theorem State.onCore_free (s : State) (c : Nat) (f : Core → Core) : (s.onCore c f).free = s.free := rfl
@[simp] theorem State.onCore_pending (s : State) (c : Nat) (f : Core → Core) : (s.onCore c f).pending = s.pending := rfl

/-! ### writeBytes -/

@[simp] theorem State.writeBytes_regs (s : State) (a : Nat) (l : List Byte) : (s.writeBytes a l).regs = s.regs := rfl
@[simp] theorem State.writeBytes_tmk (s : State) (a : Nat) (l : List Byte) : (s.writeBytes a l).tmk = s.tmk := rfl
@[simp] theorem State.writeBytes_cpu (s : State) (a : Nat) (l : List Byte) : (s.writeBytes a l).cpu = s.cpu := rfl
@[simp] theorem State.writeBytes_nj (s : State) (a : Nat) (l : List Byte) : (s.writeBytes a l).nj = s.nj := rfl
@[simp] theorem State.writeBytes_qe (s : State) (a : Nat) (l : List Byte) : (s.writeBytes a l).qe = s.qe := rfl
@[simp] theorem State.writeBytes_stf (s : State) (a : Nat) (l : List Byte) : (s.writeBytes a l).stf = s.stf := rfl
@[simp] theorem State.writeBytes_veh (s : State) (a : Nat) (l : List Byte) : (s.writeBytes a l).veh = s.veh := rfl
@[simp] theorem State.writeBytes_saf (s : State) (a : Nat) (l : List Byte) : (s.writeBytes a l).saf = s.saf := rfl
@[simp] theorem State.writeBytes_efm (s : State) (a : Nat) (l : List Byte) : (s.writeBytes a l).efm = s.efm := rfl
@[simp] theorem State.writeBytes_pwr (s : State) (a : Nat) (l : List Byte) : (s.writeBytes a l).pwr = s.pwr := rfl
@[simp] theorem State.writeBytes_mtr (s : State) (a : Nat) (l : List Byte) : (s.writeBytes a l).mtr = s.mtr := rfl
@[simp] theorem State.writeBytes_bil (s : State) (a : Nat) (l : List Byte) : (s.writeBytes a l).bil = s.bil := rfl
@[simp] theorem State.writeBytes_kv (s : State) (a : Nat) (l : List Byte) : (s.writeBytes a l).kv = s.kv := rfl
@[simp] theorem State.writeBytes_update (s : State) (a : Nat) (l : List Byte) : (s.writeBytes a l).update = s.update := rfl
@[simp] theorem State.writeBytes_dsk (s : State) (a : Nat) (l : List Byte) : (s.writeBytes a l).dsk = s.dsk := rfl
@[simp] theorem State.writeBytes_life (s : State) (a : Nat) (l : List Byte) : (s.writeBytes a l).life = s.life := rfl
@[simp] theorem State.writeBytes_rbn (s : State) (a : Nat) (l : List Byte) : (s.writeBytes a l).rbn = s.rbn := rfl
@[simp] theorem State.writeBytes_hsp (s : State) (a : Nat) (l : List Byte) : (s.writeBytes a l).hsp = s.hsp := rfl
@[simp] theorem State.writeBytes_readOut (s : State) (a : Nat) (l : List Byte) : (s.writeBytes a l).readOut = s.readOut := rfl
@[simp] theorem State.writeBytes_free (s : State) (a : Nat) (l : List Byte) : (s.writeBytes a l).free = s.free := rfl
@[simp] theorem State.writeBytes_pending (s : State) (a : Nat) (l : List Byte) : (s.writeBytes a l).pending = s.pending := rfl

/-! ### onHsp -/

@[simp] theorem State.onHsp_regs (s : State) (f : Hsp → Hsp) : (s.onHsp f).regs = s.regs := rfl
@[simp] theorem State.onHsp_mem (s : State) (f : Hsp → Hsp) : (s.onHsp f).mem = s.mem := rfl
@[simp] theorem State.onHsp_tmk (s : State) (f : Hsp → Hsp) : (s.onHsp f).tmk = s.tmk := rfl
@[simp] theorem State.onHsp_cpu (s : State) (f : Hsp → Hsp) : (s.onHsp f).cpu = s.cpu := rfl
@[simp] theorem State.onHsp_nj (s : State) (f : Hsp → Hsp) : (s.onHsp f).nj = s.nj := rfl
@[simp] theorem State.onHsp_qe (s : State) (f : Hsp → Hsp) : (s.onHsp f).qe = s.qe := rfl
@[simp] theorem State.onHsp_stf (s : State) (f : Hsp → Hsp) : (s.onHsp f).stf = s.stf := rfl
@[simp] theorem State.onHsp_veh (s : State) (f : Hsp → Hsp) : (s.onHsp f).veh = s.veh := rfl
@[simp] theorem State.onHsp_saf (s : State) (f : Hsp → Hsp) : (s.onHsp f).saf = s.saf := rfl
@[simp] theorem State.onHsp_efm (s : State) (f : Hsp → Hsp) : (s.onHsp f).efm = s.efm := rfl
@[simp] theorem State.onHsp_pwr (s : State) (f : Hsp → Hsp) : (s.onHsp f).pwr = s.pwr := rfl
@[simp] theorem State.onHsp_mtr (s : State) (f : Hsp → Hsp) : (s.onHsp f).mtr = s.mtr := rfl
@[simp] theorem State.onHsp_bil (s : State) (f : Hsp → Hsp) : (s.onHsp f).bil = s.bil := rfl
@[simp] theorem State.onHsp_kv (s : State) (f : Hsp → Hsp) : (s.onHsp f).kv = s.kv := rfl
@[simp] theorem State.onHsp_update (s : State) (f : Hsp → Hsp) : (s.onHsp f).update = s.update := rfl
@[simp] theorem State.onHsp_dsk (s : State) (f : Hsp → Hsp) : (s.onHsp f).dsk = s.dsk := rfl
@[simp] theorem State.onHsp_life (s : State) (f : Hsp → Hsp) : (s.onHsp f).life = s.life := rfl
@[simp] theorem State.onHsp_rbn (s : State) (f : Hsp → Hsp) : (s.onHsp f).rbn = s.rbn := rfl
@[simp] theorem State.onHsp_hsp (s : State) (f : Hsp → Hsp) : (s.onHsp f).hsp = f s.hsp := rfl
@[simp] theorem State.onHsp_readOut (s : State) (f : Hsp → Hsp) : (s.onHsp f).readOut = s.readOut := rfl
@[simp] theorem State.onHsp_free (s : State) (f : Hsp → Hsp) : (s.onHsp f).free = s.free := rfl
@[simp] theorem State.onHsp_pending (s : State) (f : Hsp → Hsp) : (s.onHsp f).pending = s.pending := rfl

/-! ### onQe -/

@[simp] theorem State.onQe_regs (s : State) (f : Qe → Qe) : (s.onQe f).regs = s.regs := rfl
@[simp] theorem State.onQe_mem (s : State) (f : Qe → Qe) : (s.onQe f).mem = s.mem := rfl
@[simp] theorem State.onQe_tmk (s : State) (f : Qe → Qe) : (s.onQe f).tmk = s.tmk := rfl
@[simp] theorem State.onQe_cpu (s : State) (f : Qe → Qe) : (s.onQe f).cpu = s.cpu := rfl
@[simp] theorem State.onQe_nj (s : State) (f : Qe → Qe) : (s.onQe f).nj = s.nj := rfl
@[simp] theorem State.onQe_qe (s : State) (f : Qe → Qe) : (s.onQe f).qe = f s.qe := rfl
@[simp] theorem State.onQe_stf (s : State) (f : Qe → Qe) : (s.onQe f).stf = s.stf := rfl
@[simp] theorem State.onQe_veh (s : State) (f : Qe → Qe) : (s.onQe f).veh = s.veh := rfl
@[simp] theorem State.onQe_saf (s : State) (f : Qe → Qe) : (s.onQe f).saf = s.saf := rfl
@[simp] theorem State.onQe_efm (s : State) (f : Qe → Qe) : (s.onQe f).efm = s.efm := rfl
@[simp] theorem State.onQe_pwr (s : State) (f : Qe → Qe) : (s.onQe f).pwr = s.pwr := rfl
@[simp] theorem State.onQe_mtr (s : State) (f : Qe → Qe) : (s.onQe f).mtr = s.mtr := rfl
@[simp] theorem State.onQe_bil (s : State) (f : Qe → Qe) : (s.onQe f).bil = s.bil := rfl
@[simp] theorem State.onQe_kv (s : State) (f : Qe → Qe) : (s.onQe f).kv = s.kv := rfl
@[simp] theorem State.onQe_update (s : State) (f : Qe → Qe) : (s.onQe f).update = s.update := rfl
@[simp] theorem State.onQe_dsk (s : State) (f : Qe → Qe) : (s.onQe f).dsk = s.dsk := rfl
@[simp] theorem State.onQe_life (s : State) (f : Qe → Qe) : (s.onQe f).life = s.life := rfl
@[simp] theorem State.onQe_rbn (s : State) (f : Qe → Qe) : (s.onQe f).rbn = s.rbn := rfl
@[simp] theorem State.onQe_hsp (s : State) (f : Qe → Qe) : (s.onQe f).hsp = s.hsp := rfl
@[simp] theorem State.onQe_readOut (s : State) (f : Qe → Qe) : (s.onQe f).readOut = s.readOut := rfl
@[simp] theorem State.onQe_free (s : State) (f : Qe → Qe) : (s.onQe f).free = s.free := rfl
@[simp] theorem State.onQe_pending (s : State) (f : Qe → Qe) : (s.onQe f).pending = s.pending := rfl

/-! ### onStf -/

@[simp] theorem State.onStf_regs (s : State) (f : Stf → Stf) : (s.onStf f).regs = s.regs := rfl
@[simp] theorem State.onStf_mem (s : State) (f : Stf → Stf) : (s.onStf f).mem = s.mem := rfl
@[simp] theorem State.onStf_tmk (s : State) (f : Stf → Stf) : (s.onStf f).tmk = s.tmk := rfl
@[simp] theorem State.onStf_cpu (s : State) (f : Stf → Stf) : (s.onStf f).cpu = s.cpu := rfl
@[simp] theorem State.onStf_nj (s : State) (f : Stf → Stf) : (s.onStf f).nj = s.nj := rfl
@[simp] theorem State.onStf_qe (s : State) (f : Stf → Stf) : (s.onStf f).qe = s.qe := rfl
@[simp] theorem State.onStf_stf (s : State) (f : Stf → Stf) : (s.onStf f).stf = f s.stf := rfl
@[simp] theorem State.onStf_veh (s : State) (f : Stf → Stf) : (s.onStf f).veh = s.veh := rfl
@[simp] theorem State.onStf_saf (s : State) (f : Stf → Stf) : (s.onStf f).saf = s.saf := rfl
@[simp] theorem State.onStf_efm (s : State) (f : Stf → Stf) : (s.onStf f).efm = s.efm := rfl
@[simp] theorem State.onStf_pwr (s : State) (f : Stf → Stf) : (s.onStf f).pwr = s.pwr := rfl
@[simp] theorem State.onStf_mtr (s : State) (f : Stf → Stf) : (s.onStf f).mtr = s.mtr := rfl
@[simp] theorem State.onStf_bil (s : State) (f : Stf → Stf) : (s.onStf f).bil = s.bil := rfl
@[simp] theorem State.onStf_kv (s : State) (f : Stf → Stf) : (s.onStf f).kv = s.kv := rfl
@[simp] theorem State.onStf_update (s : State) (f : Stf → Stf) : (s.onStf f).update = s.update := rfl
@[simp] theorem State.onStf_dsk (s : State) (f : Stf → Stf) : (s.onStf f).dsk = s.dsk := rfl
@[simp] theorem State.onStf_life (s : State) (f : Stf → Stf) : (s.onStf f).life = s.life := rfl
@[simp] theorem State.onStf_rbn (s : State) (f : Stf → Stf) : (s.onStf f).rbn = s.rbn := rfl
@[simp] theorem State.onStf_hsp (s : State) (f : Stf → Stf) : (s.onStf f).hsp = s.hsp := rfl
@[simp] theorem State.onStf_readOut (s : State) (f : Stf → Stf) : (s.onStf f).readOut = s.readOut := rfl
@[simp] theorem State.onStf_free (s : State) (f : Stf → Stf) : (s.onStf f).free = s.free := rfl
@[simp] theorem State.onStf_pending (s : State) (f : Stf → Stf) : (s.onStf f).pending = s.pending := rfl

/-! ### onVeh -/

@[simp] theorem State.onVeh_regs (s : State) (f : Veh → Veh) : (s.onVeh f).regs = s.regs := rfl
@[simp] theorem State.onVeh_mem (s : State) (f : Veh → Veh) : (s.onVeh f).mem = s.mem := rfl
@[simp] theorem State.onVeh_tmk (s : State) (f : Veh → Veh) : (s.onVeh f).tmk = s.tmk := rfl
@[simp] theorem State.onVeh_cpu (s : State) (f : Veh → Veh) : (s.onVeh f).cpu = s.cpu := rfl
@[simp] theorem State.onVeh_nj (s : State) (f : Veh → Veh) : (s.onVeh f).nj = s.nj := rfl
@[simp] theorem State.onVeh_qe (s : State) (f : Veh → Veh) : (s.onVeh f).qe = s.qe := rfl
@[simp] theorem State.onVeh_stf (s : State) (f : Veh → Veh) : (s.onVeh f).stf = s.stf := rfl
@[simp] theorem State.onVeh_veh (s : State) (f : Veh → Veh) : (s.onVeh f).veh = f s.veh := rfl
@[simp] theorem State.onVeh_saf (s : State) (f : Veh → Veh) : (s.onVeh f).saf = s.saf := rfl
@[simp] theorem State.onVeh_efm (s : State) (f : Veh → Veh) : (s.onVeh f).efm = s.efm := rfl
@[simp] theorem State.onVeh_pwr (s : State) (f : Veh → Veh) : (s.onVeh f).pwr = s.pwr := rfl
@[simp] theorem State.onVeh_mtr (s : State) (f : Veh → Veh) : (s.onVeh f).mtr = s.mtr := rfl
@[simp] theorem State.onVeh_bil (s : State) (f : Veh → Veh) : (s.onVeh f).bil = s.bil := rfl
@[simp] theorem State.onVeh_kv (s : State) (f : Veh → Veh) : (s.onVeh f).kv = s.kv := rfl
@[simp] theorem State.onVeh_update (s : State) (f : Veh → Veh) : (s.onVeh f).update = s.update := rfl
@[simp] theorem State.onVeh_dsk (s : State) (f : Veh → Veh) : (s.onVeh f).dsk = s.dsk := rfl
@[simp] theorem State.onVeh_life (s : State) (f : Veh → Veh) : (s.onVeh f).life = s.life := rfl
@[simp] theorem State.onVeh_rbn (s : State) (f : Veh → Veh) : (s.onVeh f).rbn = s.rbn := rfl
@[simp] theorem State.onVeh_hsp (s : State) (f : Veh → Veh) : (s.onVeh f).hsp = s.hsp := rfl
@[simp] theorem State.onVeh_readOut (s : State) (f : Veh → Veh) : (s.onVeh f).readOut = s.readOut := rfl
@[simp] theorem State.onVeh_free (s : State) (f : Veh → Veh) : (s.onVeh f).free = s.free := rfl
@[simp] theorem State.onVeh_pending (s : State) (f : Veh → Veh) : (s.onVeh f).pending = s.pending := rfl

/-! ### onSaf -/

@[simp] theorem State.onSaf_regs (s : State) (f : Saf → Saf) : (s.onSaf f).regs = s.regs := rfl
@[simp] theorem State.onSaf_mem (s : State) (f : Saf → Saf) : (s.onSaf f).mem = s.mem := rfl
@[simp] theorem State.onSaf_tmk (s : State) (f : Saf → Saf) : (s.onSaf f).tmk = s.tmk := rfl
@[simp] theorem State.onSaf_cpu (s : State) (f : Saf → Saf) : (s.onSaf f).cpu = s.cpu := rfl
@[simp] theorem State.onSaf_nj (s : State) (f : Saf → Saf) : (s.onSaf f).nj = s.nj := rfl
@[simp] theorem State.onSaf_qe (s : State) (f : Saf → Saf) : (s.onSaf f).qe = s.qe := rfl
@[simp] theorem State.onSaf_stf (s : State) (f : Saf → Saf) : (s.onSaf f).stf = s.stf := rfl
@[simp] theorem State.onSaf_veh (s : State) (f : Saf → Saf) : (s.onSaf f).veh = s.veh := rfl
@[simp] theorem State.onSaf_saf (s : State) (f : Saf → Saf) : (s.onSaf f).saf = f s.saf := rfl
@[simp] theorem State.onSaf_efm (s : State) (f : Saf → Saf) : (s.onSaf f).efm = s.efm := rfl
@[simp] theorem State.onSaf_pwr (s : State) (f : Saf → Saf) : (s.onSaf f).pwr = s.pwr := rfl
@[simp] theorem State.onSaf_mtr (s : State) (f : Saf → Saf) : (s.onSaf f).mtr = s.mtr := rfl
@[simp] theorem State.onSaf_bil (s : State) (f : Saf → Saf) : (s.onSaf f).bil = s.bil := rfl
@[simp] theorem State.onSaf_kv (s : State) (f : Saf → Saf) : (s.onSaf f).kv = s.kv := rfl
@[simp] theorem State.onSaf_update (s : State) (f : Saf → Saf) : (s.onSaf f).update = s.update := rfl
@[simp] theorem State.onSaf_dsk (s : State) (f : Saf → Saf) : (s.onSaf f).dsk = s.dsk := rfl
@[simp] theorem State.onSaf_life (s : State) (f : Saf → Saf) : (s.onSaf f).life = s.life := rfl
@[simp] theorem State.onSaf_rbn (s : State) (f : Saf → Saf) : (s.onSaf f).rbn = s.rbn := rfl
@[simp] theorem State.onSaf_hsp (s : State) (f : Saf → Saf) : (s.onSaf f).hsp = s.hsp := rfl
@[simp] theorem State.onSaf_readOut (s : State) (f : Saf → Saf) : (s.onSaf f).readOut = s.readOut := rfl
@[simp] theorem State.onSaf_free (s : State) (f : Saf → Saf) : (s.onSaf f).free = s.free := rfl
@[simp] theorem State.onSaf_pending (s : State) (f : Saf → Saf) : (s.onSaf f).pending = s.pending := rfl

/-! ### onEfm -/

@[simp] theorem State.onEfm_regs (s : State) (f : Efm → Efm) : (s.onEfm f).regs = s.regs := rfl
@[simp] theorem State.onEfm_mem (s : State) (f : Efm → Efm) : (s.onEfm f).mem = s.mem := rfl
@[simp] theorem State.onEfm_tmk (s : State) (f : Efm → Efm) : (s.onEfm f).tmk = s.tmk := rfl
@[simp] theorem State.onEfm_cpu (s : State) (f : Efm → Efm) : (s.onEfm f).cpu = s.cpu := rfl
@[simp] theorem State.onEfm_nj (s : State) (f : Efm → Efm) : (s.onEfm f).nj = s.nj := rfl
@[simp] theorem State.onEfm_qe (s : State) (f : Efm → Efm) : (s.onEfm f).qe = s.qe := rfl
@[simp] theorem State.onEfm_stf (s : State) (f : Efm → Efm) : (s.onEfm f).stf = s.stf := rfl
@[simp] theorem State.onEfm_veh (s : State) (f : Efm → Efm) : (s.onEfm f).veh = s.veh := rfl
@[simp] theorem State.onEfm_saf (s : State) (f : Efm → Efm) : (s.onEfm f).saf = s.saf := rfl
@[simp] theorem State.onEfm_efm (s : State) (f : Efm → Efm) : (s.onEfm f).efm = f s.efm := rfl
@[simp] theorem State.onEfm_pwr (s : State) (f : Efm → Efm) : (s.onEfm f).pwr = s.pwr := rfl
@[simp] theorem State.onEfm_mtr (s : State) (f : Efm → Efm) : (s.onEfm f).mtr = s.mtr := rfl
@[simp] theorem State.onEfm_bil (s : State) (f : Efm → Efm) : (s.onEfm f).bil = s.bil := rfl
@[simp] theorem State.onEfm_kv (s : State) (f : Efm → Efm) : (s.onEfm f).kv = s.kv := rfl
@[simp] theorem State.onEfm_update (s : State) (f : Efm → Efm) : (s.onEfm f).update = s.update := rfl
@[simp] theorem State.onEfm_dsk (s : State) (f : Efm → Efm) : (s.onEfm f).dsk = s.dsk := rfl
@[simp] theorem State.onEfm_life (s : State) (f : Efm → Efm) : (s.onEfm f).life = s.life := rfl
@[simp] theorem State.onEfm_rbn (s : State) (f : Efm → Efm) : (s.onEfm f).rbn = s.rbn := rfl
@[simp] theorem State.onEfm_hsp (s : State) (f : Efm → Efm) : (s.onEfm f).hsp = s.hsp := rfl
@[simp] theorem State.onEfm_readOut (s : State) (f : Efm → Efm) : (s.onEfm f).readOut = s.readOut := rfl
@[simp] theorem State.onEfm_free (s : State) (f : Efm → Efm) : (s.onEfm f).free = s.free := rfl
@[simp] theorem State.onEfm_pending (s : State) (f : Efm → Efm) : (s.onEfm f).pending = s.pending := rfl

/-! ### onPwr -/

@[simp] theorem State.onPwr_regs (s : State) (f : Pwr → Pwr) : (s.onPwr f).regs = s.regs := rfl
@[simp] theorem State.onPwr_mem (s : State) (f : Pwr → Pwr) : (s.onPwr f).mem = s.mem := rfl
@[simp] theorem State.onPwr_tmk (s : State) (f : Pwr → Pwr) : (s.onPwr f).tmk = s.tmk := rfl
@[simp] theorem State.onPwr_cpu (s : State) (f : Pwr → Pwr) : (s.onPwr f).cpu = s.cpu := rfl
@[simp] theorem State.onPwr_nj (s : State) (f : Pwr → Pwr) : (s.onPwr f).nj = s.nj := rfl
@[simp] theorem State.onPwr_qe (s : State) (f : Pwr → Pwr) : (s.onPwr f).qe = s.qe := rfl
@[simp] theorem State.onPwr_stf (s : State) (f : Pwr → Pwr) : (s.onPwr f).stf = s.stf := rfl
@[simp] theorem State.onPwr_veh (s : State) (f : Pwr → Pwr) : (s.onPwr f).veh = s.veh := rfl
@[simp] theorem State.onPwr_saf (s : State) (f : Pwr → Pwr) : (s.onPwr f).saf = s.saf := rfl
@[simp] theorem State.onPwr_efm (s : State) (f : Pwr → Pwr) : (s.onPwr f).efm = s.efm := rfl
@[simp] theorem State.onPwr_pwr (s : State) (f : Pwr → Pwr) : (s.onPwr f).pwr = f s.pwr := rfl
@[simp] theorem State.onPwr_mtr (s : State) (f : Pwr → Pwr) : (s.onPwr f).mtr = s.mtr := rfl
@[simp] theorem State.onPwr_bil (s : State) (f : Pwr → Pwr) : (s.onPwr f).bil = s.bil := rfl
@[simp] theorem State.onPwr_kv (s : State) (f : Pwr → Pwr) : (s.onPwr f).kv = s.kv := rfl
@[simp] theorem State.onPwr_update (s : State) (f : Pwr → Pwr) : (s.onPwr f).update = s.update := rfl
@[simp] theorem State.onPwr_dsk (s : State) (f : Pwr → Pwr) : (s.onPwr f).dsk = s.dsk := rfl
@[simp] theorem State.onPwr_life (s : State) (f : Pwr → Pwr) : (s.onPwr f).life = s.life := rfl
@[simp] theorem State.onPwr_rbn (s : State) (f : Pwr → Pwr) : (s.onPwr f).rbn = s.rbn := rfl
@[simp] theorem State.onPwr_hsp (s : State) (f : Pwr → Pwr) : (s.onPwr f).hsp = s.hsp := rfl
@[simp] theorem State.onPwr_readOut (s : State) (f : Pwr → Pwr) : (s.onPwr f).readOut = s.readOut := rfl
@[simp] theorem State.onPwr_free (s : State) (f : Pwr → Pwr) : (s.onPwr f).free = s.free := rfl
@[simp] theorem State.onPwr_pending (s : State) (f : Pwr → Pwr) : (s.onPwr f).pending = s.pending := rfl

/-! ### onMtr -/

@[simp] theorem State.onMtr_regs (s : State) (f : Mtr → Mtr) : (s.onMtr f).regs = s.regs := rfl
@[simp] theorem State.onMtr_mem (s : State) (f : Mtr → Mtr) : (s.onMtr f).mem = s.mem := rfl
@[simp] theorem State.onMtr_tmk (s : State) (f : Mtr → Mtr) : (s.onMtr f).tmk = s.tmk := rfl
@[simp] theorem State.onMtr_cpu (s : State) (f : Mtr → Mtr) : (s.onMtr f).cpu = s.cpu := rfl
@[simp] theorem State.onMtr_nj (s : State) (f : Mtr → Mtr) : (s.onMtr f).nj = s.nj := rfl
@[simp] theorem State.onMtr_qe (s : State) (f : Mtr → Mtr) : (s.onMtr f).qe = s.qe := rfl
@[simp] theorem State.onMtr_stf (s : State) (f : Mtr → Mtr) : (s.onMtr f).stf = s.stf := rfl
@[simp] theorem State.onMtr_veh (s : State) (f : Mtr → Mtr) : (s.onMtr f).veh = s.veh := rfl
@[simp] theorem State.onMtr_saf (s : State) (f : Mtr → Mtr) : (s.onMtr f).saf = s.saf := rfl
@[simp] theorem State.onMtr_efm (s : State) (f : Mtr → Mtr) : (s.onMtr f).efm = s.efm := rfl
@[simp] theorem State.onMtr_pwr (s : State) (f : Mtr → Mtr) : (s.onMtr f).pwr = s.pwr := rfl
@[simp] theorem State.onMtr_mtr (s : State) (f : Mtr → Mtr) : (s.onMtr f).mtr = f s.mtr := rfl
@[simp] theorem State.onMtr_bil (s : State) (f : Mtr → Mtr) : (s.onMtr f).bil = s.bil := rfl
@[simp] theorem State.onMtr_kv (s : State) (f : Mtr → Mtr) : (s.onMtr f).kv = s.kv := rfl
@[simp] theorem State.onMtr_update (s : State) (f : Mtr → Mtr) : (s.onMtr f).update = s.update := rfl
@[simp] theorem State.onMtr_dsk (s : State) (f : Mtr → Mtr) : (s.onMtr f).dsk = s.dsk := rfl
@[simp] theorem State.onMtr_life (s : State) (f : Mtr → Mtr) : (s.onMtr f).life = s.life := rfl
@[simp] theorem State.onMtr_rbn (s : State) (f : Mtr → Mtr) : (s.onMtr f).rbn = s.rbn := rfl
@[simp] theorem State.onMtr_hsp (s : State) (f : Mtr → Mtr) : (s.onMtr f).hsp = s.hsp := rfl
@[simp] theorem State.onMtr_readOut (s : State) (f : Mtr → Mtr) : (s.onMtr f).readOut = s.readOut := rfl
@[simp] theorem State.onMtr_free (s : State) (f : Mtr → Mtr) : (s.onMtr f).free = s.free := rfl
@[simp] theorem State.onMtr_pending (s : State) (f : Mtr → Mtr) : (s.onMtr f).pending = s.pending := rfl

/-! ### onBil -/

@[simp] theorem State.onBil_regs (s : State) (f : Bil → Bil) : (s.onBil f).regs = s.regs := rfl
@[simp] theorem State.onBil_mem (s : State) (f : Bil → Bil) : (s.onBil f).mem = s.mem := rfl
@[simp] theorem State.onBil_tmk (s : State) (f : Bil → Bil) : (s.onBil f).tmk = s.tmk := rfl
@[simp] theorem State.onBil_cpu (s : State) (f : Bil → Bil) : (s.onBil f).cpu = s.cpu := rfl
@[simp] theorem State.onBil_nj (s : State) (f : Bil → Bil) : (s.onBil f).nj = s.nj := rfl
@[simp] theorem State.onBil_qe (s : State) (f : Bil → Bil) : (s.onBil f).qe = s.qe := rfl
@[simp] theorem State.onBil_stf (s : State) (f : Bil → Bil) : (s.onBil f).stf = s.stf := rfl
@[simp] theorem State.onBil_veh (s : State) (f : Bil → Bil) : (s.onBil f).veh = s.veh := rfl
@[simp] theorem State.onBil_saf (s : State) (f : Bil → Bil) : (s.onBil f).saf = s.saf := rfl
@[simp] theorem State.onBil_efm (s : State) (f : Bil → Bil) : (s.onBil f).efm = s.efm := rfl
@[simp] theorem State.onBil_pwr (s : State) (f : Bil → Bil) : (s.onBil f).pwr = s.pwr := rfl
@[simp] theorem State.onBil_mtr (s : State) (f : Bil → Bil) : (s.onBil f).mtr = s.mtr := rfl
@[simp] theorem State.onBil_bil (s : State) (f : Bil → Bil) : (s.onBil f).bil = f s.bil := rfl
@[simp] theorem State.onBil_kv (s : State) (f : Bil → Bil) : (s.onBil f).kv = s.kv := rfl
@[simp] theorem State.onBil_update (s : State) (f : Bil → Bil) : (s.onBil f).update = s.update := rfl
@[simp] theorem State.onBil_dsk (s : State) (f : Bil → Bil) : (s.onBil f).dsk = s.dsk := rfl
@[simp] theorem State.onBil_life (s : State) (f : Bil → Bil) : (s.onBil f).life = s.life := rfl
@[simp] theorem State.onBil_rbn (s : State) (f : Bil → Bil) : (s.onBil f).rbn = s.rbn := rfl
@[simp] theorem State.onBil_hsp (s : State) (f : Bil → Bil) : (s.onBil f).hsp = s.hsp := rfl
@[simp] theorem State.onBil_readOut (s : State) (f : Bil → Bil) : (s.onBil f).readOut = s.readOut := rfl
@[simp] theorem State.onBil_free (s : State) (f : Bil → Bil) : (s.onBil f).free = s.free := rfl
@[simp] theorem State.onBil_pending (s : State) (f : Bil → Bil) : (s.onBil f).pending = s.pending := rfl

/-! ### onKv -/

@[simp] theorem State.onKv_regs (s : State) (f : Kv → Kv) : (s.onKv f).regs = s.regs := rfl
@[simp] theorem State.onKv_mem (s : State) (f : Kv → Kv) : (s.onKv f).mem = s.mem := rfl
@[simp] theorem State.onKv_tmk (s : State) (f : Kv → Kv) : (s.onKv f).tmk = s.tmk := rfl
@[simp] theorem State.onKv_cpu (s : State) (f : Kv → Kv) : (s.onKv f).cpu = s.cpu := rfl
@[simp] theorem State.onKv_nj (s : State) (f : Kv → Kv) : (s.onKv f).nj = s.nj := rfl
@[simp] theorem State.onKv_qe (s : State) (f : Kv → Kv) : (s.onKv f).qe = s.qe := rfl
@[simp] theorem State.onKv_stf (s : State) (f : Kv → Kv) : (s.onKv f).stf = s.stf := rfl
@[simp] theorem State.onKv_veh (s : State) (f : Kv → Kv) : (s.onKv f).veh = s.veh := rfl
@[simp] theorem State.onKv_saf (s : State) (f : Kv → Kv) : (s.onKv f).saf = s.saf := rfl
@[simp] theorem State.onKv_efm (s : State) (f : Kv → Kv) : (s.onKv f).efm = s.efm := rfl
@[simp] theorem State.onKv_pwr (s : State) (f : Kv → Kv) : (s.onKv f).pwr = s.pwr := rfl
@[simp] theorem State.onKv_mtr (s : State) (f : Kv → Kv) : (s.onKv f).mtr = s.mtr := rfl
@[simp] theorem State.onKv_bil (s : State) (f : Kv → Kv) : (s.onKv f).bil = s.bil := rfl
@[simp] theorem State.onKv_kv (s : State) (f : Kv → Kv) : (s.onKv f).kv = f s.kv := rfl
@[simp] theorem State.onKv_update (s : State) (f : Kv → Kv) : (s.onKv f).update = s.update := rfl
@[simp] theorem State.onKv_dsk (s : State) (f : Kv → Kv) : (s.onKv f).dsk = s.dsk := rfl
@[simp] theorem State.onKv_life (s : State) (f : Kv → Kv) : (s.onKv f).life = s.life := rfl
@[simp] theorem State.onKv_rbn (s : State) (f : Kv → Kv) : (s.onKv f).rbn = s.rbn := rfl
@[simp] theorem State.onKv_hsp (s : State) (f : Kv → Kv) : (s.onKv f).hsp = s.hsp := rfl
@[simp] theorem State.onKv_readOut (s : State) (f : Kv → Kv) : (s.onKv f).readOut = s.readOut := rfl
@[simp] theorem State.onKv_free (s : State) (f : Kv → Kv) : (s.onKv f).free = s.free := rfl
@[simp] theorem State.onKv_pending (s : State) (f : Kv → Kv) : (s.onKv f).pending = s.pending := rfl

/-! ### onUpd -/

@[simp] theorem State.onUpd_regs (s : State) (f : Upd → Upd) : (s.onUpd f).regs = s.regs := rfl
@[simp] theorem State.onUpd_mem (s : State) (f : Upd → Upd) : (s.onUpd f).mem = s.mem := rfl
@[simp] theorem State.onUpd_tmk (s : State) (f : Upd → Upd) : (s.onUpd f).tmk = s.tmk := rfl
@[simp] theorem State.onUpd_cpu (s : State) (f : Upd → Upd) : (s.onUpd f).cpu = s.cpu := rfl
@[simp] theorem State.onUpd_nj (s : State) (f : Upd → Upd) : (s.onUpd f).nj = s.nj := rfl
@[simp] theorem State.onUpd_qe (s : State) (f : Upd → Upd) : (s.onUpd f).qe = s.qe := rfl
@[simp] theorem State.onUpd_stf (s : State) (f : Upd → Upd) : (s.onUpd f).stf = s.stf := rfl
@[simp] theorem State.onUpd_veh (s : State) (f : Upd → Upd) : (s.onUpd f).veh = s.veh := rfl
@[simp] theorem State.onUpd_saf (s : State) (f : Upd → Upd) : (s.onUpd f).saf = s.saf := rfl
@[simp] theorem State.onUpd_efm (s : State) (f : Upd → Upd) : (s.onUpd f).efm = s.efm := rfl
@[simp] theorem State.onUpd_pwr (s : State) (f : Upd → Upd) : (s.onUpd f).pwr = s.pwr := rfl
@[simp] theorem State.onUpd_mtr (s : State) (f : Upd → Upd) : (s.onUpd f).mtr = s.mtr := rfl
@[simp] theorem State.onUpd_bil (s : State) (f : Upd → Upd) : (s.onUpd f).bil = s.bil := rfl
@[simp] theorem State.onUpd_kv (s : State) (f : Upd → Upd) : (s.onUpd f).kv = s.kv := rfl
@[simp] theorem State.onUpd_update (s : State) (f : Upd → Upd) : (s.onUpd f).update = f s.update := rfl
@[simp] theorem State.onUpd_dsk (s : State) (f : Upd → Upd) : (s.onUpd f).dsk = s.dsk := rfl
@[simp] theorem State.onUpd_life (s : State) (f : Upd → Upd) : (s.onUpd f).life = s.life := rfl
@[simp] theorem State.onUpd_rbn (s : State) (f : Upd → Upd) : (s.onUpd f).rbn = s.rbn := rfl
@[simp] theorem State.onUpd_hsp (s : State) (f : Upd → Upd) : (s.onUpd f).hsp = s.hsp := rfl
@[simp] theorem State.onUpd_readOut (s : State) (f : Upd → Upd) : (s.onUpd f).readOut = s.readOut := rfl
@[simp] theorem State.onUpd_free (s : State) (f : Upd → Upd) : (s.onUpd f).free = s.free := rfl
@[simp] theorem State.onUpd_pending (s : State) (f : Upd → Upd) : (s.onUpd f).pending = s.pending := rfl

/-! ### onDsk -/

@[simp] theorem State.onDsk_regs (s : State) (f : Dsk → Dsk) : (s.onDsk f).regs = s.regs := rfl
@[simp] theorem State.onDsk_mem (s : State) (f : Dsk → Dsk) : (s.onDsk f).mem = s.mem := rfl
@[simp] theorem State.onDsk_tmk (s : State) (f : Dsk → Dsk) : (s.onDsk f).tmk = s.tmk := rfl
@[simp] theorem State.onDsk_cpu (s : State) (f : Dsk → Dsk) : (s.onDsk f).cpu = s.cpu := rfl
@[simp] theorem State.onDsk_nj (s : State) (f : Dsk → Dsk) : (s.onDsk f).nj = s.nj := rfl
@[simp] theorem State.onDsk_qe (s : State) (f : Dsk → Dsk) : (s.onDsk f).qe = s.qe := rfl
@[simp] theorem State.onDsk_stf (s : State) (f : Dsk → Dsk) : (s.onDsk f).stf = s.stf := rfl
@[simp] theorem State.onDsk_veh (s : State) (f : Dsk → Dsk) : (s.onDsk f).veh = s.veh := rfl
@[simp] theorem State.onDsk_saf (s : State) (f : Dsk → Dsk) : (s.onDsk f).saf = s.saf := rfl
@[simp] theorem State.onDsk_efm (s : State) (f : Dsk → Dsk) : (s.onDsk f).efm = s.efm := rfl
@[simp] theorem State.onDsk_pwr (s : State) (f : Dsk → Dsk) : (s.onDsk f).pwr = s.pwr := rfl
@[simp] theorem State.onDsk_mtr (s : State) (f : Dsk → Dsk) : (s.onDsk f).mtr = s.mtr := rfl
@[simp] theorem State.onDsk_bil (s : State) (f : Dsk → Dsk) : (s.onDsk f).bil = s.bil := rfl
@[simp] theorem State.onDsk_kv (s : State) (f : Dsk → Dsk) : (s.onDsk f).kv = s.kv := rfl
@[simp] theorem State.onDsk_update (s : State) (f : Dsk → Dsk) : (s.onDsk f).update = s.update := rfl
@[simp] theorem State.onDsk_dsk (s : State) (f : Dsk → Dsk) : (s.onDsk f).dsk = f s.dsk := rfl
@[simp] theorem State.onDsk_life (s : State) (f : Dsk → Dsk) : (s.onDsk f).life = s.life := rfl
@[simp] theorem State.onDsk_rbn (s : State) (f : Dsk → Dsk) : (s.onDsk f).rbn = s.rbn := rfl
@[simp] theorem State.onDsk_hsp (s : State) (f : Dsk → Dsk) : (s.onDsk f).hsp = s.hsp := rfl
@[simp] theorem State.onDsk_readOut (s : State) (f : Dsk → Dsk) : (s.onDsk f).readOut = s.readOut := rfl
@[simp] theorem State.onDsk_free (s : State) (f : Dsk → Dsk) : (s.onDsk f).free = s.free := rfl
@[simp] theorem State.onDsk_pending (s : State) (f : Dsk → Dsk) : (s.onDsk f).pending = s.pending := rfl

/-! ### onLife -/

@[simp] theorem State.onLife_regs (s : State) (f : Life → Life) : (s.onLife f).regs = s.regs := rfl
@[simp] theorem State.onLife_mem (s : State) (f : Life → Life) : (s.onLife f).mem = s.mem := rfl
@[simp] theorem State.onLife_tmk (s : State) (f : Life → Life) : (s.onLife f).tmk = s.tmk := rfl
@[simp] theorem State.onLife_cpu (s : State) (f : Life → Life) : (s.onLife f).cpu = s.cpu := rfl
@[simp] theorem State.onLife_nj (s : State) (f : Life → Life) : (s.onLife f).nj = s.nj := rfl
@[simp] theorem State.onLife_qe (s : State) (f : Life → Life) : (s.onLife f).qe = s.qe := rfl
@[simp] theorem State.onLife_stf (s : State) (f : Life → Life) : (s.onLife f).stf = s.stf := rfl
@[simp] theorem State.onLife_veh (s : State) (f : Life → Life) : (s.onLife f).veh = s.veh := rfl
@[simp] theorem State.onLife_saf (s : State) (f : Life → Life) : (s.onLife f).saf = s.saf := rfl
@[simp] theorem State.onLife_efm (s : State) (f : Life → Life) : (s.onLife f).efm = s.efm := rfl
@[simp] theorem State.onLife_pwr (s : State) (f : Life → Life) : (s.onLife f).pwr = s.pwr := rfl
@[simp] theorem State.onLife_mtr (s : State) (f : Life → Life) : (s.onLife f).mtr = s.mtr := rfl
@[simp] theorem State.onLife_bil (s : State) (f : Life → Life) : (s.onLife f).bil = s.bil := rfl
@[simp] theorem State.onLife_kv (s : State) (f : Life → Life) : (s.onLife f).kv = s.kv := rfl
@[simp] theorem State.onLife_update (s : State) (f : Life → Life) : (s.onLife f).update = s.update := rfl
@[simp] theorem State.onLife_dsk (s : State) (f : Life → Life) : (s.onLife f).dsk = s.dsk := rfl
@[simp] theorem State.onLife_life (s : State) (f : Life → Life) : (s.onLife f).life = f s.life := rfl
@[simp] theorem State.onLife_rbn (s : State) (f : Life → Life) : (s.onLife f).rbn = s.rbn := rfl
@[simp] theorem State.onLife_hsp (s : State) (f : Life → Life) : (s.onLife f).hsp = s.hsp := rfl
@[simp] theorem State.onLife_readOut (s : State) (f : Life → Life) : (s.onLife f).readOut = s.readOut := rfl
@[simp] theorem State.onLife_free (s : State) (f : Life → Life) : (s.onLife f).free = s.free := rfl
@[simp] theorem State.onLife_pending (s : State) (f : Life → Life) : (s.onLife f).pending = s.pending := rfl

/-! ### onRbn -/

@[simp] theorem State.onRbn_regs (s : State) (f : Rbn → Rbn) : (s.onRbn f).regs = s.regs := rfl
@[simp] theorem State.onRbn_mem (s : State) (f : Rbn → Rbn) : (s.onRbn f).mem = s.mem := rfl
@[simp] theorem State.onRbn_tmk (s : State) (f : Rbn → Rbn) : (s.onRbn f).tmk = s.tmk := rfl
@[simp] theorem State.onRbn_cpu (s : State) (f : Rbn → Rbn) : (s.onRbn f).cpu = s.cpu := rfl
@[simp] theorem State.onRbn_nj (s : State) (f : Rbn → Rbn) : (s.onRbn f).nj = s.nj := rfl
@[simp] theorem State.onRbn_qe (s : State) (f : Rbn → Rbn) : (s.onRbn f).qe = s.qe := rfl
@[simp] theorem State.onRbn_stf (s : State) (f : Rbn → Rbn) : (s.onRbn f).stf = s.stf := rfl
@[simp] theorem State.onRbn_veh (s : State) (f : Rbn → Rbn) : (s.onRbn f).veh = s.veh := rfl
@[simp] theorem State.onRbn_saf (s : State) (f : Rbn → Rbn) : (s.onRbn f).saf = s.saf := rfl
@[simp] theorem State.onRbn_efm (s : State) (f : Rbn → Rbn) : (s.onRbn f).efm = s.efm := rfl
@[simp] theorem State.onRbn_pwr (s : State) (f : Rbn → Rbn) : (s.onRbn f).pwr = s.pwr := rfl
@[simp] theorem State.onRbn_mtr (s : State) (f : Rbn → Rbn) : (s.onRbn f).mtr = s.mtr := rfl
@[simp] theorem State.onRbn_bil (s : State) (f : Rbn → Rbn) : (s.onRbn f).bil = s.bil := rfl
@[simp] theorem State.onRbn_kv (s : State) (f : Rbn → Rbn) : (s.onRbn f).kv = s.kv := rfl
@[simp] theorem State.onRbn_update (s : State) (f : Rbn → Rbn) : (s.onRbn f).update = s.update := rfl
@[simp] theorem State.onRbn_dsk (s : State) (f : Rbn → Rbn) : (s.onRbn f).dsk = s.dsk := rfl
@[simp] theorem State.onRbn_life (s : State) (f : Rbn → Rbn) : (s.onRbn f).life = s.life := rfl
@[simp] theorem State.onRbn_rbn (s : State) (f : Rbn → Rbn) : (s.onRbn f).rbn = f s.rbn := rfl
@[simp] theorem State.onRbn_hsp (s : State) (f : Rbn → Rbn) : (s.onRbn f).hsp = s.hsp := rfl
@[simp] theorem State.onRbn_readOut (s : State) (f : Rbn → Rbn) : (s.onRbn f).readOut = s.readOut := rfl
@[simp] theorem State.onRbn_free (s : State) (f : Rbn → Rbn) : (s.onRbn f).free = s.free := rfl
@[simp] theorem State.onRbn_pending (s : State) (f : Rbn → Rbn) : (s.onRbn f).pending = s.pending := rfl

/-! ### onNj -/

@[simp] theorem State.onNj_regs (s : State) (f : Nj → Nj) : (s.onNj f).regs = s.regs := rfl
@[simp] theorem State.onNj_mem (s : State) (f : Nj → Nj) : (s.onNj f).mem = s.mem := rfl
@[simp] theorem State.onNj_tmk (s : State) (f : Nj → Nj) : (s.onNj f).tmk = s.tmk := rfl
@[simp] theorem State.onNj_cpu (s : State) (f : Nj → Nj) : (s.onNj f).cpu = s.cpu := rfl
@[simp] theorem State.onNj_nj (s : State) (f : Nj → Nj) : (s.onNj f).nj = f s.nj := rfl
@[simp] theorem State.onNj_qe (s : State) (f : Nj → Nj) : (s.onNj f).qe = s.qe := rfl
@[simp] theorem State.onNj_stf (s : State) (f : Nj → Nj) : (s.onNj f).stf = s.stf := rfl
@[simp] theorem State.onNj_veh (s : State) (f : Nj → Nj) : (s.onNj f).veh = s.veh := rfl
@[simp] theorem State.onNj_saf (s : State) (f : Nj → Nj) : (s.onNj f).saf = s.saf := rfl
@[simp] theorem State.onNj_efm (s : State) (f : Nj → Nj) : (s.onNj f).efm = s.efm := rfl
@[simp] theorem State.onNj_pwr (s : State) (f : Nj → Nj) : (s.onNj f).pwr = s.pwr := rfl
@[simp] theorem State.onNj_mtr (s : State) (f : Nj → Nj) : (s.onNj f).mtr = s.mtr := rfl
@[simp] theorem State.onNj_bil (s : State) (f : Nj → Nj) : (s.onNj f).bil = s.bil := rfl
@[simp] theorem State.onNj_kv (s : State) (f : Nj → Nj) : (s.onNj f).kv = s.kv := rfl
@[simp] theorem State.onNj_update (s : State) (f : Nj → Nj) : (s.onNj f).update = s.update := rfl
@[simp] theorem State.onNj_dsk (s : State) (f : Nj → Nj) : (s.onNj f).dsk = s.dsk := rfl
@[simp] theorem State.onNj_life (s : State) (f : Nj → Nj) : (s.onNj f).life = s.life := rfl
@[simp] theorem State.onNj_rbn (s : State) (f : Nj → Nj) : (s.onNj f).rbn = s.rbn := rfl
@[simp] theorem State.onNj_hsp (s : State) (f : Nj → Nj) : (s.onNj f).hsp = s.hsp := rfl
@[simp] theorem State.onNj_readOut (s : State) (f : Nj → Nj) : (s.onNj f).readOut = s.readOut := rfl
@[simp] theorem State.onNj_free (s : State) (f : Nj → Nj) : (s.onNj f).free = s.free := rfl
@[simp] theorem State.onNj_pending (s : State) (f : Nj → Nj) : (s.onNj f).pending = s.pending := rfl

/-! ### onTmk -/

@[simp] theorem State.onTmk_regs (s : State) (f : Tmk → Tmk) : (s.onTmk f).regs = s.regs := rfl
@[simp] theorem State.onTmk_mem (s : State) (f : Tmk → Tmk) : (s.onTmk f).mem = s.mem := rfl
@[simp] theorem State.onTmk_tmk (s : State) (f : Tmk → Tmk) : (s.onTmk f).tmk = f s.tmk := rfl
@[simp] theorem State.onTmk_cpu (s : State) (f : Tmk → Tmk) : (s.onTmk f).cpu = s.cpu := rfl
@[simp] theorem State.onTmk_nj (s : State) (f : Tmk → Tmk) : (s.onTmk f).nj = s.nj := rfl
@[simp] theorem State.onTmk_qe (s : State) (f : Tmk → Tmk) : (s.onTmk f).qe = s.qe := rfl
@[simp] theorem State.onTmk_stf (s : State) (f : Tmk → Tmk) : (s.onTmk f).stf = s.stf := rfl
@[simp] theorem State.onTmk_veh (s : State) (f : Tmk → Tmk) : (s.onTmk f).veh = s.veh := rfl
@[simp] theorem State.onTmk_saf (s : State) (f : Tmk → Tmk) : (s.onTmk f).saf = s.saf := rfl
@[simp] theorem State.onTmk_efm (s : State) (f : Tmk → Tmk) : (s.onTmk f).efm = s.efm := rfl
@[simp] theorem State.onTmk_pwr (s : State) (f : Tmk → Tmk) : (s.onTmk f).pwr = s.pwr := rfl
@[simp] theorem State.onTmk_mtr (s : State) (f : Tmk → Tmk) : (s.onTmk f).mtr = s.mtr := rfl
@[simp] theorem State.onTmk_bil (s : State) (f : Tmk → Tmk) : (s.onTmk f).bil = s.bil := rfl
@[simp] theorem State.onTmk_kv (s : State) (f : Tmk → Tmk) : (s.onTmk f).kv = s.kv := rfl
@[simp] theorem State.onTmk_update (s : State) (f : Tmk → Tmk) : (s.onTmk f).update = s.update := rfl
@[simp] theorem State.onTmk_dsk (s : State) (f : Tmk → Tmk) : (s.onTmk f).dsk = s.dsk := rfl
@[simp] theorem State.onTmk_life (s : State) (f : Tmk → Tmk) : (s.onTmk f).life = s.life := rfl
@[simp] theorem State.onTmk_rbn (s : State) (f : Tmk → Tmk) : (s.onTmk f).rbn = s.rbn := rfl
@[simp] theorem State.onTmk_hsp (s : State) (f : Tmk → Tmk) : (s.onTmk f).hsp = s.hsp := rfl
@[simp] theorem State.onTmk_readOut (s : State) (f : Tmk → Tmk) : (s.onTmk f).readOut = s.readOut := rfl
@[simp] theorem State.onTmk_free (s : State) (f : Tmk → Tmk) : (s.onTmk f).free = s.free := rfl
@[simp] theorem State.onTmk_pending (s : State) (f : Tmk → Tmk) : (s.onTmk f).pending = s.pending := rfl

/-! ## Register fields -/

theorem State.setFld_regs (s : State) (f : Field) (v : Nat) : (s.setFld f v).regs = setField s.regs f v := rfl
theorem State.setWord_regs (s : State) (a : Nat) (v : Word) : (s.setWord a v).regs = Store.set s.regs a v := rfl
theorem State.writeBytes_mem (s : State) (a : Nat) (l : List Byte) : (s.writeBytes a l).mem = Store.setBytes s.mem a l := rfl

/-- A field written reads as the low bits of the value. -/
theorem State.fld_setFld_self (s : State) (f : Field) (v : Nat) (h1 : f.lo ≤ f.hi) (h2 : f.hi < 32) :
    (s.setFld f v).fld f = v % 2 ^ (f.hi + 1 - f.lo) := by
  simp [State.fld, State.setFld, setField, getBits_putBits_self _ _ _ _ h1 h2]

/-- A field of another register is left alone. -/
theorem State.fld_setFld_reg (s : State) (f g : Field) (v : Nat) (h : f.addr ≠ g.addr) : (s.setFld f v).fld g = s.fld g := by
  simp [State.fld, State.setFld, setField, Store.get_set_ne _ _ _ _ h]

/-- A field of other bits of the same register is left alone. -/
theorem State.fld_setFld_bits (s : State) (f g : Field) (v : Nat) (h1 : f.lo ≤ f.hi) (h2 : f.hi < 32) (h3 : g.lo ≤ g.hi) (h4 : g.hi < 32)
    (h : f.hi < g.lo ∨ g.hi < f.lo) : (s.setFld f v).fld g = s.fld g := by
  by_cases ha : f.addr = g.addr
  · simp [State.fld, State.setFld, setField, ← ha, getBits_putBits_ne _ _ _ _ _ _ h1 h2 h3 h4 h]
  · exact State.fld_setFld_reg s f g v ha

/-- The word of another register is left alone. -/
theorem State.word_setFld_ne (s : State) (f : Field) (v a : Nat) (h : f.addr ≠ a) : (s.setFld f v).word a = s.word a := by
  simp [State.word, State.setFld, setField, Store.get_set_ne _ _ _ _ h]

@[simp] theorem State.word_setWord_self (s : State) (a : Nat) (v : Word) : (s.setWord a v).word a = v := by
  simp [State.word, State.setWord]

theorem State.word_setWord_ne (s : State) (a b : Nat) (v : Word) (h : a ≠ b) : (s.setWord a v).word b = s.word b := by
  simp [State.word, State.setWord, Store.get_set_ne _ _ _ _ h]

theorem State.fld_setWord_ne (s : State) (a : Nat) (v : Word) (f : Field) (h : a ≠ f.addr) : (s.setWord a v).fld f = s.fld f := by
  simp [State.fld, State.setWord, Store.get_set_ne _ _ _ _ h]

/-- A state whose register file is the same reads the same. -/
theorem State.fld_congr {s t : State} (h : t.regs = s.regs) (f : Field) : t.fld f = s.fld f := by simp [State.fld, h]
theorem State.is_congr {s t : State} (h : t.regs = s.regs) (f : Field) : t.is f = s.is f := by rw [State.is, State.is, State.fld_congr h]

/-! ## Lists changed at one place -/

@[simp] theorem upd_length {α : Type} (f : α → α) : ∀ (l : List α) (i : Nat), (upd l i f).length = l.length
  | [], _ => rfl
  | _ :: _, 0 => rfl
  | _ :: t, i + 1 => by simp [upd, upd_length f t i]

theorem upd_getD_self {α : Type} (f : α → α) (d : α) : ∀ (l : List α) (i : Nat), i < l.length → (upd l i f).getD i d = f (l.getD i d)
  | _ :: _, 0, _ => rfl
  | a :: t, i + 1, h => by simpa [upd] using upd_getD_self f d t i (by simpa using h)

theorem upd_getD_ne {α : Type} (f : α → α) (d : α) : ∀ (l : List α) (i j : Nat), i ≠ j → (upd l i f).getD j d = l.getD j d
  | [], _, _, _ => rfl
  | _ :: _, 0, 0, h => absurd rfl h
  | _ :: _, 0, _ + 1, _ => rfl
  | _ :: _, _ + 1, 0, _ => rfl
  | _ :: t, i + 1, j + 1, h => by simpa [upd] using upd_getD_ne f d t i j (by omega)

theorem upd_all {α : Type} (p : α → Bool) (f : α → α) (hf : ∀ a, p a = true → p (f a) = true) :
    ∀ (l : List α) (i : Nat), l.all p = true → (upd l i f).all p = true
  | [], _, _ => rfl
  | a :: t, 0, h => by
    simp only [List.all_cons, Bool.and_eq_true, upd] at h ⊢
    exact ⟨hf a h.1, h.2⟩
  | a :: t, i + 1, h => by
    simp only [List.all_cons, Bool.and_eq_true, upd] at h ⊢
    exact ⟨h.1, upd_all p f hf t i h.2⟩

/-! ## Cores -/

/-- A core that runs is one of the cores. -/
theorem State.core_lt {s : State} {c : Nat} (h : (s.core c).running = true) : c < s.cpu.cores.length := by
  rcases Nat.lt_or_ge c s.cpu.cores.length with h1 | h1
  · exact h1
  · have : s.core c = default := by simp [State.core, List.getD, List.getElem?_eq_none h1]
    rw [this] at h
    exact absurd h (by decide)

theorem State.core_onCore_self (s : State) (c : Nat) (f : Core → Core) (h : c < s.cpu.cores.length) : (s.onCore c f).core c = f (s.core c) :=
  upd_getD_self f default s.cpu.cores c h

theorem State.core_onCore_ne (s : State) (c d : Nat) (f : Core → Core) (h : c ≠ d) : (s.onCore c f).core d = s.core d :=
  upd_getD_ne f default s.cpu.cores c d h

theorem State.core_congr {s t : State} (h : t.cpu.cores = s.cpu.cores) (c : Nat) : t.core c = s.core c := by simp [State.core, h]

@[simp] theorem Core.r_zero (k : Core) : k.r 0 = 0 := rfl

/-- Reading a general register after a write of one (R71). -/
theorem Core.r_w (k : Core) (n m : Nat) (v : Word) (hk : k.g.length = 32) (hn : n < 32) :
    (k.w n v).r m = if m = 0 then 0 else if m = n then v else k.r m := by
  by_cases h0 : m = 0
  · simp [Core.r, h0]
  · by_cases hn0 : n = 0
    · subst hn0
      simp [Core.w, h0]
    · by_cases hm : m = n
      · subst hm
        simp only [Core.r, Core.w, h0, if_false, if_true]
        exact upd_getD_self _ _ _ _ (by omega)
      · simp only [Core.r, Core.w, h0, hn0, hm, if_false]
        exact upd_getD_ne _ _ _ _ _ (Ne.symm hm)

@[simp] theorem Core.w_length (k : Core) (n : Nat) (v : Word) : (k.w n v).g.length = k.g.length := by
  unfold Core.w
  split
  · rfl
  · simp

/-- A write of a general register changes nothing else of the core. -/
theorem Core.w_else (k : Core) (n : Nat) (v : Word) : k.w n v = { k with g := (k.w n v).g } := by
  unfold Core.w
  split <;> rfl

end Sys2Proof.Machine
end

