-- ==== Sys2Proof/Laws/Cpu.lean ====
section
/-! SUPPORT. Laws of the operations every instruction shares: what a completed instruction changes, and what an exception entry changes. -/

namespace Sys2Proof.Machine

open Sys2Proof

variable {s : State} {c : Nat}

theorem State.able.lt (h : s.able c) : c < s.cpu.cores.length := by
  have := h.1
  simp only [State.coreReady, Bool.and_eq_true] at this
  exact State.core_lt this.1.1

/-- An access to words without an error goes on (Table CPU-5). -/
theorem State.eccCheck_sound {a n : Nat} (h : s.sound a n = true) (f : State → State) : s.eccCheck c a n f = f s := by
  simp only [State.sound, Bool.and_eq_true] at h
  simp [State.eccCheck, h.1, h.2]

/-- An instruction of a core that can complete it runs its own meaning (R53, R48, R85). -/
theorem State.insn_able (h : s.able c) (gcisS : Bool) (hg : c = 4 → gcisS = true) (body : Core → State → State) :
    s.insn c gcisS body = body (s.core c) s := by
  have h1 := h.1
  have h2 := h.2.1
  have h3 : ¬ (c = 4 ∧ gcisS = false) := by
    rintro ⟨hc, hf⟩
    rw [hg hc] at hf
    exact absurd hf (by decide)
  simp only [State.insn, h1, h2, Bool.not_true, Bool.false_eq_true, if_false, Bool.and_eq_true, decide_eq_true_eq, Bool.not_eq_true']
  rw [State.eccCheck_sound h.2.2.2.2, if_neg h3]

/-- The SFC's count of instructions, while the SIGCHK gap is not used up (R62). -/
theorem State.counted_able (t : State) (hc : c = 4 → t.cpu.sigCount < 16 * t.fld F.CPU_SFC_CTRL_sig_gap) :
    t.counted c = { t with cpu := { t.cpu with sigCount := if c = 4 then t.cpu.sigCount + 1 else t.cpu.sigCount } } := by
  unfold State.counted
  split
  · next h =>
    have := hc h
    rw [if_neg (by show ¬ (16 * t.fld F.CPU_SFC_CTRL_sig_gap < t.cpu.sigCount + 1); omega)]
  · rfl

/-- What completing an instruction changes: the core's registers as the instruction says, its pc, and the SFC's count (R62, R69). -/
theorem State.retire_able (h : s.able c) (f : Core → Core) :
    s.retire c f = { s with cpu := { s.cpu with cores := upd s.cpu.cores c (fun k => { f k with pc := k.pc + 4 }),
                                                sigCount := if c = 4 then s.cpu.sigCount + 1 else s.cpu.sigCount } } := by
  unfold State.retire
  rw [State.counted_able _ (by exact h.2.2.2.1)]
  rfl

/-- A completed instruction that changes the general registers only (R69, R71). -/
theorem State.retire_gives (h : s.able c) (f : Core → Core) (r : Nat → Word)
    (hf : f (s.core c) = { s.core c with g := (f (s.core c)).g }) (hl : (f (s.core c)).g.length = 32)
    (hr : ∀ n, n < 32 → (f (s.core c)).r n = if n = 0 then 0 else r n) :
    OnlyCore c s (s.retire c f) ∧ CoreIs c s (s.retire c f) ((s.core c).pc + 4) r := by
  have hcore : (s.retire c f).core c = { f (s.core c) with pc := (s.core c).pc + 4 } := by
    rw [State.retire_able h]
    exact upd_getD_self _ _ _ _ h.lt
  refine ⟨⟨?_, ?_, ?_⟩, ?_, ?_, ?_⟩
  · rw [State.retire_able h]
  · intro d hd
    rw [State.retire_able h]
    exact upd_getD_ne _ _ _ _ _ (Ne.symm hd)
  · rw [State.retire_able h]
  · rw [hcore, hf]
  · rw [hcore]
    exact hl
  · intro n hn
    rw [hcore, ← hr n hn]
    rfl

/-- An instruction that only writes one register from the core's registers (R69, R71). -/
theorem State.compute_gives (h : s.able c) (rd : Nat) (hrd : rd < 32) (f : Core → Word) :
    OnlyCore c s (s.compute c rd f) ∧
      CoreIs c s (s.compute c rd f) ((s.core c).pc + 4) (fun n => if n = rd then f (s.core c) else (s.core c).r n) := by
  unfold State.compute
  rw [State.insn_able h true (fun _ => rfl)]
  refine State.retire_gives h _ _ (Core.w_else _ _ _) ?_ ?_
  · simpa using h.2.2.1
  · intro n _
    exact Core.r_w _ _ _ _ h.2.2.1 hrd

/-- A pair written: the low word in its register, the high word in the one after it (R72). -/
theorem Core.r_wp (k : Core) (n m : Nat) (v : DWord) (hk : k.g.length = 32) (hn : isPair n = true) :
    (k.wp n v).r m = if m = 0 then 0 else if m = n then v.truncate 32 else if m = n + 1 then (v >>> 32).truncate 32 else k.r m := by
  have h30 : n ≤ 30 := by
    simp only [isPair, Bool.and_eq_true, decide_eq_true_eq] at hn
    exact hn.2
  unfold Core.wp
  rw [Core.r_w _ _ _ _ (by simpa using hk) (by omega), Core.r_w _ _ _ _ hk (by omega)]
  by_cases h0 : m = 0
  · simp [h0]
  · by_cases h1 : m = n
    · subst h1
      simp [h0]
    · simp [h0, h1]

theorem Core.wp_else (k : Core) (n : Nat) (v : DWord) : k.wp n v = { k with g := (k.wp n v).g } := by
  unfold Core.wp
  rw [Core.w_else (k.w n _), Core.w_else k n]

@[simp] theorem Core.wp_length (k : Core) (n : Nat) (v : DWord) : (k.wp n v).g.length = k.g.length := by simp [Core.wp]

/-- An instruction that only writes one pair (R72). -/
theorem State.compute64_gives (h : s.able c) (rd : Nat) (ps : List Nat) (hp : ps.all isPair = true) (hrd : isPair rd = true) (f : Core → DWord) :
    OnlyCore c s (s.compute64 c rd ps f) ∧
      CoreIs c s (s.compute64 c rd ps f) ((s.core c).pc + 4)
        (fun n => if n = rd then (f (s.core c)).truncate 32 else if n = rd + 1 then (f (s.core c) >>> 32).truncate 32 else (s.core c).r n) := by
  unfold State.compute64
  rw [State.insn_able h true (fun _ => rfl)]
  simp only [hp, if_true]
  refine State.retire_gives h _ _ (Core.wp_else _ _ _) ?_ ?_
  · simpa using h.2.2.1
  · intro n _
    exact Core.r_wp _ _ _ _ h.2.2.1 hrd

/-- Taking a synchronous exception of a CC core that is in no handler (R55): the saved registers, Kernel level, the vector. -/
theorem State.raise_enters (h : c < s.cpu.cores.length) (hc : c ≠ 4) (hh : (s.core c).hnd = false) (cause : Nat) (hu : cause ≠ excUrgent)
    (he : cause ≠ excEcc) (bad : Option Word) :
    s.raise c cause bad = { s with cpu := { s.cpu with cores := (s.raise c cause bad).cpu.cores } } ∧
    (∀ d, d ≠ c → (s.raise c cause bad).core d = s.core d) ∧
    (s.raise c cause bad).core c =
      { s.core c with epc := (if cause = excTrap then (s.core c).pc + 4 else (s.core c).pc), cause := w32 cause, badaddr := bad.getD (s.core c).badaddr, prevTask := (s.core c).task, task := false, hnd := true, stall := .none, pc := (s.core c).evec } := by
  have hr : s.raise c cause bad = s.enter c cause 0 (if cause = excTrap then (s.core c).pc + 4 else (s.core c).pc) bad := by
    simp [State.raise, hc, hh, he]
  rw [hr]
  refine ⟨rfl, ?_, ?_⟩
  · intro d hd
    simp only [State.enter, State.goTo]
    rw [State.core_onCore_ne _ _ _ _ (Ne.symm hd), State.core_onCore_ne _ _ _ _ (Ne.symm hd)]
  · simp only [State.enter, State.goTo]
    rw [State.core_onCore_self _ _ _ (by simpa [State.onCore] using h), State.core_onCore_self _ _ _ h]
    simp [hc, hu]

end Sys2Proof.Machine
end

