-- ==== Sys2Proof/WellFormed.lean ====
section
/-! DEFINITION. Which commands are well formed: every operand within the range its row gives it. -/

namespace Sys2Proof

/-- Every operand of the command lies within the range the spec gives it. -/
def wellFormed : Instr → Bool
  | .registerWrite _ addr _ => decide (addr < 2^32)
  | .porRelease => true
  | .brownoutReset => true
  | .dawnSupplyReady _ calBad sensorBad => decide (calBad < 256 ∧ sensorBad < 8)
  | .xtalMtStarted taps strap => decide (taps.length = 24 ∧ strap < 4)
  | .xtalStartTimeout => true
  | .dawnSealSample sw _ => decide (sw < 256)
  | .dawnSealTimeout => true
  | .bootVerifyDone => true
  | .extReset => true
  | .dskReset _ _ => true
  | .resetSaveDone => true
  | .duskWarning => true
  | .duskWarningClear => true
  | .duskFreeze => true
  | .duskSaveDone _ => true
  | .checkpoint => true
  | .checkpointDone _ => true
  | .opctlWrite _ _ => true
  | .opChangeDone taps => decide (taps.length = 24)
  | .opChangeTimeout reached => decide (reached < 4)
  | .mtFloorCommit => true
  | .mtLoRead _ => true
  | .wallSecRead _ => true
  | .wallSet _ _ => true
  | .bucketDrain => true
  | .cmpArm _ n _ => decide (n < 8)
  | .cmpFire n => decide (n < 8)
  | .icgCtrlWrite _ _ => true
  | .icgLock n => decide (n < 4)
  | .epCalibrate out _ => decide (out < 12)
  | .wearMeasure mon wear _ => decide (mon < 8 ∧ wear < 4096)
  | .xtalMtLost => true
  | .xtalMtResume => true
  | .wtXtalCheck _ _ => true
  | .add c rd ra rb => decide (c < 5 ∧ rd < 32 ∧ ra < 32 ∧ rb < 32)
  | .sub c rd ra rb => decide (c < 5 ∧ rd < 32 ∧ ra < 32 ∧ rb < 32)
  | .and c rd ra rb => decide (c < 5 ∧ rd < 32 ∧ ra < 32 ∧ rb < 32)
  | .or c rd ra rb => decide (c < 5 ∧ rd < 32 ∧ ra < 32 ∧ rb < 32)
  | .xor c rd ra rb => decide (c < 5 ∧ rd < 32 ∧ ra < 32 ∧ rb < 32)
  | .sll c rd ra rb => decide (c < 5 ∧ rd < 32 ∧ ra < 32 ∧ rb < 32)
  | .srl c rd ra rb => decide (c < 5 ∧ rd < 32 ∧ ra < 32 ∧ rb < 32)
  | .sra c rd ra rb => decide (c < 5 ∧ rd < 32 ∧ ra < 32 ∧ rb < 32)
  | .rotl c rd ra rb => decide (c < 5 ∧ rd < 32 ∧ ra < 32 ∧ rb < 32)
  | .slli c rd ra n => decide (c < 5 ∧ rd < 32 ∧ ra < 32 ∧ n < 32)
  | .srli c rd ra n => decide (c < 5 ∧ rd < 32 ∧ ra < 32 ∧ n < 32)
  | .srai c rd ra n => decide (c < 5 ∧ rd < 32 ∧ ra < 32 ∧ n < 32)
  | .slt c rd ra rb => decide (c < 5 ∧ rd < 32 ∧ ra < 32 ∧ rb < 32)
  | .sltu c rd ra rb => decide (c < 5 ∧ rd < 32 ∧ ra < 32 ∧ rb < 32)
  | .min c rd ra rb => decide (c < 5 ∧ rd < 32 ∧ ra < 32 ∧ rb < 32)
  | .max c rd ra rb => decide (c < 5 ∧ rd < 32 ∧ ra < 32 ∧ rb < 32)
  | .minu c rd ra rb => decide (c < 5 ∧ rd < 32 ∧ ra < 32 ∧ rb < 32)
  | .maxu c rd ra rb => decide (c < 5 ∧ rd < 32 ∧ ra < 32 ∧ rb < 32)
  | .clz c rd ra => decide (c < 5 ∧ rd < 32 ∧ ra < 32)
  | .sextb c rd ra => decide (c < 5 ∧ rd < 32 ∧ ra < 32)
  | .sexth c rd ra => decide (c < 5 ∧ rd < 32 ∧ ra < 32)
  | .csel c rd ra rb rc => decide (c < 5 ∧ rd < 32 ∧ ra < 32 ∧ rb < 32 ∧ rc < 32)
  | .mul c rd ra rb => decide (c < 5 ∧ rd < 32 ∧ ra < 32 ∧ rb < 32)
  | .mulh c rd ra rb => decide (c < 5 ∧ rd < 32 ∧ ra < 32 ∧ rb < 32)
  | .mulhu c rd ra rb => decide (c < 5 ∧ rd < 32 ∧ ra < 32 ∧ rb < 32)
  | .div c rd ra rb => decide (c < 5 ∧ rd < 32 ∧ ra < 32 ∧ rb < 32)
  | .divu c rd ra rb => decide (c < 5 ∧ rd < 32 ∧ ra < 32 ∧ rb < 32)
  | .rem c rd ra rb => decide (c < 5 ∧ rd < 32 ∧ ra < 32 ∧ rb < 32)
  | .remu c rd ra rb => decide (c < 5 ∧ rd < 32 ∧ ra < 32 ∧ rb < 32)
  | .add64 c rd ra rb => decide (c < 5 ∧ rd < 32 ∧ ra < 32 ∧ rb < 32)
  | .sub64 c rd ra rb => decide (c < 5 ∧ rd < 32 ∧ ra < 32 ∧ rb < 32)
  | .adds64 c rd ra rb => decide (c < 5 ∧ rd < 32 ∧ ra < 32 ∧ rb < 32)
  | .subs64 c rd ra rb => decide (c < 5 ∧ rd < 32 ∧ ra < 32 ∧ rb < 32)
  | .cmp64 c rd ra rb => decide (c < 5 ∧ rd < 32 ∧ ra < 32 ∧ rb < 32)
  | .mac64 c rd ra rb => decide (c < 5 ∧ rd < 32 ∧ ra < 32 ∧ rb < 32)
  | .macs64 c rd ra rb => decide (c < 5 ∧ rd < 32 ∧ ra < 32 ∧ rb < 32)
  | .macu64 c rd ra rb => decide (c < 5 ∧ rd < 32 ∧ ra < 32 ∧ rb < 32)
  | .muls64q c rd ra rb sh => decide (c < 5 ∧ rd < 32 ∧ ra < 32 ∧ rb < 32 ∧ sh < 32)
  | .divr64 c rd ra rb => decide (c < 5 ∧ rd < 32 ∧ ra < 32 ∧ rb < 32)
  | .adds c rd ra rb => decide (c < 5 ∧ rd < 32 ∧ ra < 32 ∧ rb < 32)
  | .subs c rd ra rb => decide (c < 5 ∧ rd < 32 ∧ ra < 32 ∧ rb < 32)
  | .addus c rd ra rb => decide (c < 5 ∧ rd < 32 ∧ ra < 32 ∧ rb < 32)
  | .subus c rd ra rb => decide (c < 5 ∧ rd < 32 ∧ ra < 32 ∧ rb < 32)
  | .mulq c rd ra rb sh => decide (c < 5 ∧ rd < 32 ∧ ra < 32 ∧ rb < 32 ∧ sh < 32)
  | .sats c rd ra n => decide (c < 5 ∧ rd < 32 ∧ ra < 32 ∧ n < 32)
  | .addi c rd ra _ => decide (c < 5 ∧ rd < 32 ∧ ra < 32)
  | .andi c rd ra _ => decide (c < 5 ∧ rd < 32 ∧ ra < 32)
  | .ori c rd ra _ => decide (c < 5 ∧ rd < 32 ∧ ra < 32)
  | .xori c rd ra _ => decide (c < 5 ∧ rd < 32 ∧ ra < 32)
  | .slti c rd ra _ => decide (c < 5 ∧ rd < 32 ∧ ra < 32)
  | .sltiu c rd ra _ => decide (c < 5 ∧ rd < 32 ∧ ra < 32)
  | .lui c rd _ => decide (c < 5 ∧ rd < 32)
  | .auipc c rd _ => decide (c < 5 ∧ rd < 32)
  | .lw c rd ra _ => decide (c < 5 ∧ rd < 32 ∧ ra < 32)
  | .lh c rd ra _ => decide (c < 5 ∧ rd < 32 ∧ ra < 32)
  | .lhu c rd ra _ => decide (c < 5 ∧ rd < 32 ∧ ra < 32)
  | .lb c rd ra _ => decide (c < 5 ∧ rd < 32 ∧ ra < 32)
  | .lbu c rd ra _ => decide (c < 5 ∧ rd < 32 ∧ ra < 32)
  | .ld c rd ra _ => decide (c < 5 ∧ rd < 32 ∧ ra < 32)
  | .sw c rs ra _ => decide (c < 5 ∧ rs < 32 ∧ ra < 32)
  | .sh c rs ra _ => decide (c < 5 ∧ rs < 32 ∧ ra < 32)
  | .sb c rs ra _ => decide (c < 5 ∧ rs < 32 ∧ ra < 32)
  | .sd c rs ra _ => decide (c < 5 ∧ rs < 32 ∧ ra < 32)
  | .cas c rd ra rb rc => decide (c < 5 ∧ rd < 32 ∧ ra < 32 ∧ rb < 32 ∧ rc < 32)
  | .swap c rd ra rb => decide (c < 5 ∧ rd < 32 ∧ ra < 32 ∧ rb < 32)
  | .fadd c rd ra rb => decide (c < 5 ∧ rd < 32 ∧ ra < 32 ∧ rb < 32)
  | .beq c ra rb _ => decide (c < 5 ∧ ra < 32 ∧ rb < 32)
  | .bne c ra rb _ => decide (c < 5 ∧ ra < 32 ∧ rb < 32)
  | .blt c ra rb _ => decide (c < 5 ∧ ra < 32 ∧ rb < 32)
  | .bge c ra rb _ => decide (c < 5 ∧ ra < 32 ∧ rb < 32)
  | .bltu c ra rb _ => decide (c < 5 ∧ ra < 32 ∧ rb < 32)
  | .bgeu c ra rb _ => decide (c < 5 ∧ ra < 32 ∧ rb < 32)
  | .j c _ => decide (c < 5)
  | .jal c _ => decide (c < 5)
  | .jalr c rd ra _ => decide (c < 5 ∧ rd < 32 ∧ ra < 32)
  | .ret c => decide (c < 5)
  | .mfcr c rd crn => decide (c < 5 ∧ rd < 32 ∧ crn < 32)
  | .mtcr c crn ra => decide (c < 5 ∧ crn < 32 ∧ ra < 32)
  | .eret c => decide (c < 5)
  | .fence c => decide (c < 5)
  | .trap c _ => decide (c < 5)
  | .sigchk c _ => decide (c < 5)
  | .tmon c => decide (c < 5)
  | .stest c n _ => decide (c < 5 ∧ n < 16)
  | .rdmt c rd => decide (c < 5 ∧ rd < 32)
  | .rdmtl c rd => decide (c < 5 ∧ rd < 32)
  | .rdwall c rd => decide (c < 5 ∧ rd < 32)
  | .rdera c rd => decide (c < 5 ∧ rd < 32)
  | .wait c rd ra => decide (c < 5 ∧ rd < 32 ∧ ra < 32)
  | .waitt c rd ra rb => decide (c < 5 ∧ rd < 32 ∧ ra < 32 ∧ rb < 32)
  | .poll c rd ra => decide (c < 5 ∧ rd < 32 ∧ ra < 32)
  | .signal c m => decide (c < 5 ∧ m < 32)
  | .qpush c rd ra rb => decide (c < 5 ∧ rd < 32 ∧ ra < 32 ∧ rb < 32)
  | .qpop c rd ra rb => decide (c < 5 ∧ rd < 32 ∧ ra < 32 ∧ rb < 32)
  | .qstat c rd ra => decide (c < 5 ∧ rd < 32 ∧ ra < 32)
  | .ksubmit c rd ra => decide (c < 5 ∧ rd < 32 ∧ ra < 32)
  | .kpoll c rd ra => decide (c < 5 ∧ rd < 32 ∧ ra < 32)
  | .krand c rd => decide (c < 5 ∧ rd < 32)
  | .krandResume c => decide (c < 4)
  | .waitWake c => decide (c < 5)
  | .waittDeadline c => decide (c < 5)
  | .urgentEntry c => decide (c < 5)
  | .sfcTmonTimeout => true
  | .sfcTimebaseCheck => true
  | .sfcStestPeriodEnd => true
  | .cpuWdogKick _ _ => true
  | .cpuWdogExpire c => decide (c < 4)
  | .cpuMboxWrite _ n _ => decide (n < 5)
  | .cpuMboxRead _ n => decide (n < 5)
  | .cpuStart _ _ => true
  | .cpuHalt _ _ => true
  | .remoteTimeout c => decide (c < 4)
  | .rwinReq node _ target off size data => decide (node < 65536 ∧ target < 4 ∧ off < 2^29 ∧ (size = 1 ∨ size = 2 ∨ size = 4) ∧ data < 2^32)
  | .rwinAns c _ data => decide (c < 4 ∧ data < 2^32)
  | .supplySelect _ _ _ => true
  | .njPowerLost => true
  | .njRestart source _ mv => decide (source < 3 ∧ mv < 4096)
  | .njFirstStart source => decide (source < 3)
  | .vbatMeasure mv => decide (mv < 4096)
  | .rtcSecond _ => true
  | .oscStop => true
  | .oscResume ms => decide (ms < 2^32)
  | .wrenCycle tmp mag lux temp => decide (tmp < 16 ∧ mag < 256 ∧ lux < 256 ∧ temp < 256)
  | .tamperClear _ _ => true
  | .sealScan sw _ => decide (sw < 256)
  | .logApp0 _ _ => true
  | .logApp1 _ _ => true
  | .kvGenerate => true
  | .kvImportPlain => true
  | .kvImportWrapped => true
  | .kvDeriveHkdf => true
  | .kvAgree => true
  | .kvTls12Prf => true
  | .kvTls13Keys => true
  | .kvSign => true
  | .kvVerify => true
  | .kvEncrypt => true
  | .kvDecrypt => true
  | .kvMac => true
  | .kvHash => true
  | .kvExportPub => true
  | .kvExportWrapped => true
  | .kvExportPlain => true
  | .kvInvalidate => true
  | .kvTighten => true
  | .kvAttest => true
  | .kvReadCert => true
  | .kvCmdDone _ => true
  | .kvSweep _ => true
  | .kvLcReq _ _ => true
  | .kvLcConfirm _ _ => true
  | .rngHealthFail => true
  | .rngRestart _ => true
  | .kvSelftestDone _ _ => true
  | .tapSessionOpen => true
  | .tapDebugHalt c => decide (c < 5)
  | .tapReset => true
  | .tapRefused => true
  | .manifestArrive => true
  | .manifestVerifyDone => true
  | .updBlockArrive => true
  | .partDigestDone k => decide (k < 32)
  | .bootDigestDone => true
  | .updActivate _ _ => true
  | .updAbort _ _ => true
  | .activationRelease _ _ => true
  | .prepare _ => true
  | .prepared _ _ => true
  | .commit _ => true
  | .committed => true
  | .discard => true
  | .partOk => true
  | .partBad => true
  | .imageBad => true
  | .prepareTimeout => true
  | .commitTimeout => true
  | .regRead f _ => decide (f.ok)
  | .regWrite f => decide (f.ok)
  | .writeBufferApply n => decide (1 ≤ n ∧ n ≤ 128)
  | .strRead f => decide (f.ok)
  | .strWrite f => decide (f.ok)
  | .status f => decide (f.ok)
  | .selectRelease f _ => decide (f.ok)
  | .hostAliveTimeout => true
  | .ostrFill n => decide (n < 8)
  | .istrPush n => decide (n < 4)
  | .hspAttnSet _ _ => true
  | .qeTableEnable _ _ => true
  | .tableZeroFillDone => true
  | .qeLoad _ => true
  | .qeApply _ => true
  | .qeEnable _ => true
  | .qeDisable _ => true
  | .qeReset _ => true
  | .qePin _ => true
  | .qeUnpin _ => true
  | .producerDoorbell _ _ => true
  | .consumerDoorbell _ _ => true
  | .qeEvtRead _ => true
  | .resvTimeout q => decide (q < 65536)
  | .fullRetry seq => decide (seq < 65536)
  | .ackTimeout seq => decide (seq < 65536)
  | .copyGo _ n _ => decide (n < 2)
  | .copyAbort _ n _ => decide (n < 2)
  | .copyDone n => decide (n < 2)
  | .xmpCtrlWrite _ _ => true
  | .xmpCommand _ _ => true
  | .xmpCmdDone _ _ _ => true
  | .xmpTimeout _ => true
  | .postedStoreDrain _ => true
  | .presentAssert => true
  | .trainAligned p => decide (p < 4)
  | .trainWordsExchanged p role rate _ => decide (p < 4 ∧ 1 ≤ role ∧ role < 4 ∧ rate < 4)
  | .trainAcked p => decide (p < 4)
  | .linkUp p => decide (p < 4)
  | .trainStepTimeout p => decide (p < 4)
  | .trainRetry p => decide (p < 4)
  | .disconnect p => decide (p < 4)
  | .retrain _ n _ => decide (n < 4)
  | .creditUpdate p _ n => decide (p < 4 ∧ n < 256)
  | .creditRefresh p => decide (p < 4)
  | .frameSend p => decide (p < 4)
  | .frameForward p f => decide (p < 4 ∧ f.ok)
  | .msg p f => decide (p < 4 ∧ f.ok)
  | .ans p f => decide (p < 4 ∧ f.ok)
  | .rtxTimeout seq => decide (seq < 65536)
  | .helloSend => true
  | .hello p f => decide (p < 4 ∧ f.ok)
  | .neighbourAge p => decide (p < 4)
  | .stfRequest => true
  | .probe p f => decide (p < 4 ∧ f.ok)
  | .probeAns p f => decide (p < 4 ∧ f.ok)
  | .probeTimeout => true
  | .assignPost p f => decide (p < 4 ∧ f.ok)
  | .postWrite _ _ => true
  | .sweepStart => true
  | .sweepNow _ _ => true
  | .roll p f => decide (p < 4 ∧ f.ok)
  | .rollAns p f => decide (p < 4 ∧ f.ok)
  | .rollTimeout => true
  | .assignMember p f => decide (p < 4 ∧ f.ok)
  | .admission m => decide (1 ≤ m ∧ m < 16)
  | .admitTimeout m => decide (1 ≤ m ∧ m < 16)
  | .stfCmdAdmit _ _ => true
  | .stfCmdExpel _ _ => true
  | .stfCmdReset _ _ => true
  | .stfCmdRelease _ _ => true
  | .admitMsg => true
  | .expel => true
  | .fabReset => true
  | .stopDusk => true
  | .release => true
  | .rtClear _ _ => true
  | .heartbeatSend => true
  | .heartbeat p f => decide (p < 4 ∧ f.ok)
  | .setpointSend => true
  | .setpointWrite => true
  | .setpoint => true
  | .faultReport p f => decide (p < 4 ∧ f.ok)
  | .heartbeatSilence m => decide (1 ≤ m ∧ m < 16)
  | .leaving p f => decide (p < 4 ∧ f.ok)
  | .removal => true
  | .managerSilent => true
  | .managerForget => true
  | .pilotPeriod => true
  | .pilotRelease _ _ => true
  | .cpSample _ uv => decide (uv ≤ 3300000)
  | .cpInvalidTimeout => true
  | .ppSample code => decide (code < 4096)
  | .asmTransaction => true
  | .asmTransactionDone _ => true
  | .asmInterrupt _ => true
  | .asmDisable _ _ => true
  | .vehTmrStart _ n _ => decide (n < 8)
  | .vehTmrStop _ n _ => decide (n < 8)
  | .vehTmrExpire n => decide (n < 8)
  | .slacWrite _ _ => true
  | .rbnModeWrite _ _ ext cur => decide (ext < 65536 ∧ cur < 256)
  | .extFieldRecheck ext cur => decide (ext < 65536 ∧ cur < 256)
  | .guardEnd => true
  | .readerTransaction => true
  | .readerTransactionDone status lastBits coll _ => decide (status < 10 ∧ lastBits < 8 ∧ coll < 65536)
  | .detectPing ext _ amp phase cur => decide (ext < 65536 ∧ amp < 4096 ∧ phase < 4096 ∧ cur < 256)
  | .detectCalibrate _ _ amp phase => decide (amp < 4096 ∧ phase < 4096)
  | .fieldAppear uid h => decide (uid < 2^24 ∧ h < 256)
  | .tagActivation => true
  | .fieldLost => true
  | .deselect => true
  | .selectByName aid => decide (aid.length < 17)
  | .selectFile fid => decide (fid < 65536)
  | .readBinary p1 p2 le wtx _ => decide (p1 < 256 ∧ p2 < 256 ∧ 1 ≤ le ∧ le < 257 ∧ wtx < 16)
  | .readBinaryOdd off le wtx _ => decide (off < 65536 ∧ 1 ≤ le ∧ le < 257 ∧ wtx < 16)
  | .updateBinary p1 p2 data wtx => decide (p1 < 256 ∧ p2 < 256 ∧ data.length < 256 ∧ wtx < 16)
  | .tagWrite => true
  | .tagRead => true
  | .tagLock => true
  | .tagUnlock => true
  | .wireLockExpire page => decide (page < 32)
  | .harvestOn mv => decide (mv < 4096)
  | .harvestOff mv => decide (mv < 4096)
  | .harvestOverload => true
  | .harvestOvlEnd => true
  | .trip n => decide (n < 32)
  | .sourceDeassert n => decide (n < 32)
  | .safRelReq _ _ => true
  | .safRelConfirm _ _ => true
  | .safeResetRise => true
  | .safeResetFall => true
  | .resetJam => true
  | .outputStuck n _ => decide (n < 16)
  | .vcoreLowHold => true
  | .vcoreHoldRelease => true
  | .thermalSample n code temp => decide (n < 4 ∧ code < 4096 ∧ -1000 ≤ temp ∧ temp ≤ 3000)
  | .commitDone _ => true
  | .reload _ _ => true
  | .safTest _ _ => true
  | .testInjectionDone seen lat => decide (seen < 1024 ∧ lat < 256)
  | .dacReadback c rb => decide (c < 16 ∧ rb < 1024)
  | .sfcTripWrite _ _ => true
  | .rdcUpdate dc100 dc20 ac => decide (-32768 ≤ dc100 ∧ dc100 < 32768 ∧ -32768 ≤ dc20 ∧ dc20 < 32768 ∧ ac < 65536)
  | .fgHalfCycle _ peak _ => decide (peak < 4096)
  | .fgTest _ _ => true
  | .fgTestEnd _ => true
  | .fgTestBlankEnd => true
  | .rcdAuxSample _ => true
  | .rcdTest _ _ => true
  | .rcdTestEnd => true
  | .insHalfPeriod v w => decide (v ≤ 3300000 ∧ w ≤ 3300000)
  | .insStale => true
  | .efmCtrlWrite _ _ => true
  | .efmSettingsWrite _ a _ _ => decide (0x40007000 ≤ a ∧ a < 0x40008000)
  | .envelopeSend c => decide (c < 64)
  | .envelope c => decide (c < 64)
  | .twinSkewTimeout c => decide (c < 64)
  | .connectionTimeout c => decide (c < 64)
  | .payloadCommit _ _ => true
  | .safScCmd _ _ => true
  | .pwmPeriodBoundary => true
  | .pwmLoad _ _ => true
  | .go _ _ => true
  | .stop _ _ => true
  | .currentLimit n _ pos => decide (n < 6 ∧ pos < 2^25)
  | .adcTrigger t => decide (t < 2)
  | .adcSequenceDone codes => decide (codes.length = 16 ∧ codes.all (· < 4096) = true)
  | .backoffEnd => true
  | .ssRelease _ _ => true
  | .ctrClose _ _ => true
  | .ctrOpen _ _ => true
  | .ctrFbSample n _ => decide (n < 4)
  | .ctrCloseTimeout n => decide (n < 4)
  | .weldWindowEnd n => decide (n < 4)
  | .weldRecheck n => decide (n < 4)
  | .ctrVoltageSample codes => decide (codes.length = 16 ∧ codes.all (· < 4096) = true)
  | .prechargeStart _ _ => true
  | .prechargeTimeout => true
  | .prechargeOverlapEnd => true
  | .prechargeAbort _ _ => true
  | .mtrSample u dc v90 bad => decide (u.length = 8 ∧ dc.length = 8 ∧ v90.length = 8 ∧ bad < 256)
  | .accumulationStep => true
  | .mtrSecond temp mhz => decide (-64 ≤ temp ∧ temp ≤ 191 ∧ mhz < 65536)
  | .mtrCtrlWrite _ _ _ => true
  | .mtrUserWrite _ a _ _ => decide (0x4000A000 ≤ a ∧ a < 0x4000B000)
  | .clear _ _ => true
  | .pulseEmit => true
  | .mtrSnap _ _ => true
  | .mtrCapTrig _ _ => true
  | .captureResume u => decide (u < 2)
  | .sessionOpen _ _ => true
  | .sessionClose _ _ => true
  | .sessionAmount _ _ => true
  | .sessionClosingTimeout => true
  | .amountTimeout slot => decide (slot < 8)
  | .recordSigned slot => decide (slot < 8)
  | .signRetry slot => decide (slot < 8)
  | .recordPublish => true
  | .bilMdCmd _ _ => true
  | .topup _ _ => true
  | .ppFbTimeout => true
  | .vanaLow => true
  | .vanaOk => true
  | .buckLimit => true
  | .lifeMinute => true
  | .lifeStore => true
  | .paramCommit _ _ => true
  | .symbolError p _ units => decide (p < 4 ∧ units ≤ 16)
  | .trainFail p => decide (p < 4)
  | .icgLockLost n => decide (n < 4)
  | .tapSessionEnd => true

end Sys2Proof
end

