-- ==== Sys2Proof/Laws/PerInstr.lean ====
section
/-! SUPPORT. Per command: what well-formedness says of the core and the general registers a command names. -/

namespace Sys2Proof.Laws

open Sys2Proof

/-- The core that executes the instruction, or that the event is of. -/
def coreOf : Instr → Option Nat
  | .add c _ _ _ => some c
  | .sub c _ _ _ => some c
  | .and c _ _ _ => some c
  | .or c _ _ _ => some c
  | .xor c _ _ _ => some c
  | .sll c _ _ _ => some c
  | .srl c _ _ _ => some c
  | .sra c _ _ _ => some c
  | .rotl c _ _ _ => some c
  | .slli c _ _ _ => some c
  | .srli c _ _ _ => some c
  | .srai c _ _ _ => some c
  | .slt c _ _ _ => some c
  | .sltu c _ _ _ => some c
  | .min c _ _ _ => some c
  | .max c _ _ _ => some c
  | .minu c _ _ _ => some c
  | .maxu c _ _ _ => some c
  | .clz c _ _ => some c
  | .sextb c _ _ => some c
  | .sexth c _ _ => some c
  | .csel c _ _ _ _ => some c
  | .mul c _ _ _ => some c
  | .mulh c _ _ _ => some c
  | .mulhu c _ _ _ => some c
  | .div c _ _ _ => some c
  | .divu c _ _ _ => some c
  | .rem c _ _ _ => some c
  | .remu c _ _ _ => some c
  | .add64 c _ _ _ => some c
  | .sub64 c _ _ _ => some c
  | .adds64 c _ _ _ => some c
  | .subs64 c _ _ _ => some c
  | .cmp64 c _ _ _ => some c
  | .mac64 c _ _ _ => some c
  | .macs64 c _ _ _ => some c
  | .macu64 c _ _ _ => some c
  | .muls64q c _ _ _ _ => some c
  | .divr64 c _ _ _ => some c
  | .adds c _ _ _ => some c
  | .subs c _ _ _ => some c
  | .addus c _ _ _ => some c
  | .subus c _ _ _ => some c
  | .mulq c _ _ _ _ => some c
  | .sats c _ _ _ => some c
  | .addi c _ _ _ => some c
  | .andi c _ _ _ => some c
  | .ori c _ _ _ => some c
  | .xori c _ _ _ => some c
  | .slti c _ _ _ => some c
  | .sltiu c _ _ _ => some c
  | .lui c _ _ => some c
  | .auipc c _ _ => some c
  | .lw c _ _ _ => some c
  | .lh c _ _ _ => some c
  | .lhu c _ _ _ => some c
  | .lb c _ _ _ => some c
  | .lbu c _ _ _ => some c
  | .ld c _ _ _ => some c
  | .sw c _ _ _ => some c
  | .sh c _ _ _ => some c
  | .sb c _ _ _ => some c
  | .sd c _ _ _ => some c
  | .cas c _ _ _ _ => some c
  | .swap c _ _ _ => some c
  | .fadd c _ _ _ => some c
  | .beq c _ _ _ => some c
  | .bne c _ _ _ => some c
  | .blt c _ _ _ => some c
  | .bge c _ _ _ => some c
  | .bltu c _ _ _ => some c
  | .bgeu c _ _ _ => some c
  | .j c _ => some c
  | .jal c _ => some c
  | .jalr c _ _ _ => some c
  | .ret c => some c
  | .mfcr c _ _ => some c
  | .mtcr c _ _ => some c
  | .eret c => some c
  | .fence c => some c
  | .trap c _ => some c
  | .sigchk c _ => some c
  | .tmon c => some c
  | .stest c _ _ => some c
  | .rdmt c _ => some c
  | .rdmtl c _ => some c
  | .rdwall c _ => some c
  | .rdera c _ => some c
  | .wait c _ _ => some c
  | .waitt c _ _ _ => some c
  | .poll c _ _ => some c
  | .signal c _ => some c
  | .qpush c _ _ _ => some c
  | .qpop c _ _ _ => some c
  | .qstat c _ _ => some c
  | .ksubmit c _ _ => some c
  | .kpoll c _ _ => some c
  | .krand c _ => some c
  | .krandResume c => some c
  | .waitWake c => some c
  | .waittDeadline c => some c
  | .urgentEntry c => some c
  | .cpuWdogExpire c => some c
  | .remoteTimeout c => some c
  | .rwinAns c _ _ => some c
  | .tapDebugHalt c => some c
  | _ => none

/-- The general registers an instruction names. -/
def regsOf : Instr → List Nat
  | .add _ rd ra rb => [rd, ra, rb]
  | .sub _ rd ra rb => [rd, ra, rb]
  | .and _ rd ra rb => [rd, ra, rb]
  | .or _ rd ra rb => [rd, ra, rb]
  | .xor _ rd ra rb => [rd, ra, rb]
  | .sll _ rd ra rb => [rd, ra, rb]
  | .srl _ rd ra rb => [rd, ra, rb]
  | .sra _ rd ra rb => [rd, ra, rb]
  | .rotl _ rd ra rb => [rd, ra, rb]
  | .slli _ rd ra _ => [rd, ra]
  | .srli _ rd ra _ => [rd, ra]
  | .srai _ rd ra _ => [rd, ra]
  | .slt _ rd ra rb => [rd, ra, rb]
  | .sltu _ rd ra rb => [rd, ra, rb]
  | .min _ rd ra rb => [rd, ra, rb]
  | .max _ rd ra rb => [rd, ra, rb]
  | .minu _ rd ra rb => [rd, ra, rb]
  | .maxu _ rd ra rb => [rd, ra, rb]
  | .clz _ rd ra => [rd, ra]
  | .sextb _ rd ra => [rd, ra]
  | .sexth _ rd ra => [rd, ra]
  | .csel _ rd ra rb rc => [rd, ra, rb, rc]
  | .mul _ rd ra rb => [rd, ra, rb]
  | .mulh _ rd ra rb => [rd, ra, rb]
  | .mulhu _ rd ra rb => [rd, ra, rb]
  | .div _ rd ra rb => [rd, ra, rb]
  | .divu _ rd ra rb => [rd, ra, rb]
  | .rem _ rd ra rb => [rd, ra, rb]
  | .remu _ rd ra rb => [rd, ra, rb]
  | .add64 _ rd ra rb => [rd, ra, rb]
  | .sub64 _ rd ra rb => [rd, ra, rb]
  | .adds64 _ rd ra rb => [rd, ra, rb]
  | .subs64 _ rd ra rb => [rd, ra, rb]
  | .cmp64 _ rd ra rb => [rd, ra, rb]
  | .mac64 _ rd ra rb => [rd, ra, rb]
  | .macs64 _ rd ra rb => [rd, ra, rb]
  | .macu64 _ rd ra rb => [rd, ra, rb]
  | .muls64q _ rd ra rb _ => [rd, ra, rb]
  | .divr64 _ rd ra rb => [rd, ra, rb]
  | .adds _ rd ra rb => [rd, ra, rb]
  | .subs _ rd ra rb => [rd, ra, rb]
  | .addus _ rd ra rb => [rd, ra, rb]
  | .subus _ rd ra rb => [rd, ra, rb]
  | .mulq _ rd ra rb _ => [rd, ra, rb]
  | .sats _ rd ra _ => [rd, ra]
  | .addi _ rd ra _ => [rd, ra]
  | .andi _ rd ra _ => [rd, ra]
  | .ori _ rd ra _ => [rd, ra]
  | .xori _ rd ra _ => [rd, ra]
  | .slti _ rd ra _ => [rd, ra]
  | .sltiu _ rd ra _ => [rd, ra]
  | .lui _ rd _ => [rd]
  | .auipc _ rd _ => [rd]
  | .lw _ rd ra _ => [rd, ra]
  | .lh _ rd ra _ => [rd, ra]
  | .lhu _ rd ra _ => [rd, ra]
  | .lb _ rd ra _ => [rd, ra]
  | .lbu _ rd ra _ => [rd, ra]
  | .ld _ rd ra _ => [rd, ra]
  | .sw _ rs ra _ => [rs, ra]
  | .sh _ rs ra _ => [rs, ra]
  | .sb _ rs ra _ => [rs, ra]
  | .sd _ rs ra _ => [rs, ra]
  | .cas _ rd ra rb rc => [rd, ra, rb, rc]
  | .swap _ rd ra rb => [rd, ra, rb]
  | .fadd _ rd ra rb => [rd, ra, rb]
  | .beq _ ra rb _ => [ra, rb]
  | .bne _ ra rb _ => [ra, rb]
  | .blt _ ra rb _ => [ra, rb]
  | .bge _ ra rb _ => [ra, rb]
  | .bltu _ ra rb _ => [ra, rb]
  | .bgeu _ ra rb _ => [ra, rb]
  | .jalr _ rd ra _ => [rd, ra]
  | .mfcr _ rd _ => [rd]
  | .mtcr _ _ ra => [ra]
  | .rdmt _ rd => [rd]
  | .rdmtl _ rd => [rd]
  | .rdwall _ rd => [rd]
  | .rdera _ rd => [rd]
  | .wait _ rd ra => [rd, ra]
  | .waitt _ rd ra rb => [rd, ra, rb]
  | .poll _ rd ra => [rd, ra]
  | .qpush _ rd ra rb => [rd, ra, rb]
  | .qpop _ rd ra rb => [rd, ra, rb]
  | .qstat _ rd ra => [rd, ra]
  | .ksubmit _ rd ra => [rd, ra]
  | .kpoll _ rd ra => [rd, ra]
  | .krand _ rd => [rd]
  | _ => []

/-- A well-formed command names one of the five cores and registers g0 to g31 only (R71). -/
def Ranges.Statement (i : Instr) : Prop :=
  wellFormed i = true → (∀ c, coreOf i = some c → c < 5) ∧ ∀ r, r ∈ regsOf i → r < 32

theorem Ranges.other {i : Instr} (hc : coreOf i = none) (hr : regsOf i = []) : (∀ c, coreOf i = some c → c < 5) ∧ ∀ r, r ∈ regsOf i → r < 32 := by
  simp [hc, hr]

theorem Ranges.coreOnly {i : Instr} {c : Nat} (hc : coreOf i = some c) (hr : regsOf i = []) (h : c < 5) :
    (∀ d, coreOf i = some d → d < 5) ∧ ∀ r, r ∈ regsOf i → r < 32 := by
  simp [hc, hr, h]

theorem Ranges.coreRegs {i : Instr} {c : Nat} {l : List Nat} (hc : coreOf i = some c) (hr : regsOf i = l) (h : c < 5) (hl : ∀ r, r ∈ l → r < 32) :
    (∀ d, coreOf i = some d → d < 5) ∧ ∀ r, r ∈ regsOf i → r < 32 :=
  ⟨fun d e => by rw [hc] at e; cases e; exact h, hr ▸ hl⟩

theorem Ranges.registerWrite : ∀ x0 x1 x2, Ranges.Statement (.registerWrite x0 x1 x2) := fun _ _ _ _ => Ranges.other rfl rfl
theorem Ranges.porRelease : Ranges.Statement .porRelease := fun _ => Ranges.other rfl rfl
theorem Ranges.brownoutReset : Ranges.Statement .brownoutReset := fun _ => Ranges.other rfl rfl
theorem Ranges.dawnSupplyReady : ∀ x0 x1 x2, Ranges.Statement (.dawnSupplyReady x0 x1 x2) := fun _ _ _ _ => Ranges.other rfl rfl
theorem Ranges.xtalMtStarted : ∀ x0 x1, Ranges.Statement (.xtalMtStarted x0 x1) := fun _ _ _ => Ranges.other rfl rfl
theorem Ranges.xtalStartTimeout : Ranges.Statement .xtalStartTimeout := fun _ => Ranges.other rfl rfl
theorem Ranges.dawnSealSample : ∀ x0 x1, Ranges.Statement (.dawnSealSample x0 x1) := fun _ _ _ => Ranges.other rfl rfl
theorem Ranges.dawnSealTimeout : Ranges.Statement .dawnSealTimeout := fun _ => Ranges.other rfl rfl
theorem Ranges.bootVerifyDone : Ranges.Statement .bootVerifyDone := fun _ => Ranges.other rfl rfl
theorem Ranges.extReset : Ranges.Statement .extReset := fun _ => Ranges.other rfl rfl
theorem Ranges.dskReset : ∀ x0 x1, Ranges.Statement (.dskReset x0 x1) := fun _ _ _ => Ranges.other rfl rfl
theorem Ranges.resetSaveDone : Ranges.Statement .resetSaveDone := fun _ => Ranges.other rfl rfl
theorem Ranges.duskWarning : Ranges.Statement .duskWarning := fun _ => Ranges.other rfl rfl
theorem Ranges.duskWarningClear : Ranges.Statement .duskWarningClear := fun _ => Ranges.other rfl rfl
theorem Ranges.duskFreeze : Ranges.Statement .duskFreeze := fun _ => Ranges.other rfl rfl
theorem Ranges.duskSaveDone : ∀ x0, Ranges.Statement (.duskSaveDone x0) := fun _ _ => Ranges.other rfl rfl
theorem Ranges.checkpoint : Ranges.Statement .checkpoint := fun _ => Ranges.other rfl rfl
theorem Ranges.checkpointDone : ∀ x0, Ranges.Statement (.checkpointDone x0) := fun _ _ => Ranges.other rfl rfl
theorem Ranges.opctlWrite : ∀ x0 x1, Ranges.Statement (.opctlWrite x0 x1) := fun _ _ _ => Ranges.other rfl rfl
theorem Ranges.opChangeDone : ∀ x0, Ranges.Statement (.opChangeDone x0) := fun _ _ => Ranges.other rfl rfl
theorem Ranges.opChangeTimeout : ∀ x0, Ranges.Statement (.opChangeTimeout x0) := fun _ _ => Ranges.other rfl rfl
theorem Ranges.mtFloorCommit : Ranges.Statement .mtFloorCommit := fun _ => Ranges.other rfl rfl
theorem Ranges.mtLoRead : ∀ x0, Ranges.Statement (.mtLoRead x0) := fun _ _ => Ranges.other rfl rfl
theorem Ranges.wallSecRead : ∀ x0, Ranges.Statement (.wallSecRead x0) := fun _ _ => Ranges.other rfl rfl
theorem Ranges.wallSet : ∀ x0 x1, Ranges.Statement (.wallSet x0 x1) := fun _ _ _ => Ranges.other rfl rfl
theorem Ranges.bucketDrain : Ranges.Statement .bucketDrain := fun _ => Ranges.other rfl rfl
theorem Ranges.cmpArm : ∀ x0 x1 x2, Ranges.Statement (.cmpArm x0 x1 x2) := fun _ _ _ _ => Ranges.other rfl rfl
theorem Ranges.cmpFire : ∀ x0, Ranges.Statement (.cmpFire x0) := fun _ _ => Ranges.other rfl rfl
theorem Ranges.icgCtrlWrite : ∀ x0 x1, Ranges.Statement (.icgCtrlWrite x0 x1) := fun _ _ _ => Ranges.other rfl rfl
theorem Ranges.icgLock : ∀ x0, Ranges.Statement (.icgLock x0) := fun _ _ => Ranges.other rfl rfl
theorem Ranges.epCalibrate : ∀ x0 x1, Ranges.Statement (.epCalibrate x0 x1) := fun _ _ _ => Ranges.other rfl rfl
theorem Ranges.wearMeasure : ∀ x0 x1 x2, Ranges.Statement (.wearMeasure x0 x1 x2) := fun _ _ _ _ => Ranges.other rfl rfl
theorem Ranges.xtalMtLost : Ranges.Statement .xtalMtLost := fun _ => Ranges.other rfl rfl
theorem Ranges.xtalMtResume : Ranges.Statement .xtalMtResume := fun _ => Ranges.other rfl rfl
theorem Ranges.wtXtalCheck : ∀ x0 x1, Ranges.Statement (.wtXtalCheck x0 x1) := fun _ _ _ => Ranges.other rfl rfl
theorem Ranges.add : ∀ x0 x1 x2 x3, Ranges.Statement (.add x0 x1 x2 x3) := fun _ rd ra rb h => Ranges.coreRegs (l := [rd, ra, rb]) rfl rfl (of_decide_eq_true h).1 (by have := of_decide_eq_true h; simp; omega)
theorem Ranges.sub : ∀ x0 x1 x2 x3, Ranges.Statement (.sub x0 x1 x2 x3) := fun _ rd ra rb h => Ranges.coreRegs (l := [rd, ra, rb]) rfl rfl (of_decide_eq_true h).1 (by have := of_decide_eq_true h; simp; omega)
theorem Ranges.and : ∀ x0 x1 x2 x3, Ranges.Statement (.and x0 x1 x2 x3) := fun _ rd ra rb h => Ranges.coreRegs (l := [rd, ra, rb]) rfl rfl (of_decide_eq_true h).1 (by have := of_decide_eq_true h; simp; omega)
theorem Ranges.or : ∀ x0 x1 x2 x3, Ranges.Statement (.or x0 x1 x2 x3) := fun _ rd ra rb h => Ranges.coreRegs (l := [rd, ra, rb]) rfl rfl (of_decide_eq_true h).1 (by have := of_decide_eq_true h; simp; omega)
theorem Ranges.xor : ∀ x0 x1 x2 x3, Ranges.Statement (.xor x0 x1 x2 x3) := fun _ rd ra rb h => Ranges.coreRegs (l := [rd, ra, rb]) rfl rfl (of_decide_eq_true h).1 (by have := of_decide_eq_true h; simp; omega)
theorem Ranges.sll : ∀ x0 x1 x2 x3, Ranges.Statement (.sll x0 x1 x2 x3) := fun _ rd ra rb h => Ranges.coreRegs (l := [rd, ra, rb]) rfl rfl (of_decide_eq_true h).1 (by have := of_decide_eq_true h; simp; omega)
theorem Ranges.srl : ∀ x0 x1 x2 x3, Ranges.Statement (.srl x0 x1 x2 x3) := fun _ rd ra rb h => Ranges.coreRegs (l := [rd, ra, rb]) rfl rfl (of_decide_eq_true h).1 (by have := of_decide_eq_true h; simp; omega)
theorem Ranges.sra : ∀ x0 x1 x2 x3, Ranges.Statement (.sra x0 x1 x2 x3) := fun _ rd ra rb h => Ranges.coreRegs (l := [rd, ra, rb]) rfl rfl (of_decide_eq_true h).1 (by have := of_decide_eq_true h; simp; omega)
theorem Ranges.rotl : ∀ x0 x1 x2 x3, Ranges.Statement (.rotl x0 x1 x2 x3) := fun _ rd ra rb h => Ranges.coreRegs (l := [rd, ra, rb]) rfl rfl (of_decide_eq_true h).1 (by have := of_decide_eq_true h; simp; omega)
theorem Ranges.slli : ∀ x0 x1 x2 x3, Ranges.Statement (.slli x0 x1 x2 x3) := fun _ rd ra _ h => Ranges.coreRegs (l := [rd, ra]) rfl rfl (of_decide_eq_true h).1 (by have := of_decide_eq_true h; simp; omega)
theorem Ranges.srli : ∀ x0 x1 x2 x3, Ranges.Statement (.srli x0 x1 x2 x3) := fun _ rd ra _ h => Ranges.coreRegs (l := [rd, ra]) rfl rfl (of_decide_eq_true h).1 (by have := of_decide_eq_true h; simp; omega)
theorem Ranges.srai : ∀ x0 x1 x2 x3, Ranges.Statement (.srai x0 x1 x2 x3) := fun _ rd ra _ h => Ranges.coreRegs (l := [rd, ra]) rfl rfl (of_decide_eq_true h).1 (by have := of_decide_eq_true h; simp; omega)
theorem Ranges.slt : ∀ x0 x1 x2 x3, Ranges.Statement (.slt x0 x1 x2 x3) := fun _ rd ra rb h => Ranges.coreRegs (l := [rd, ra, rb]) rfl rfl (of_decide_eq_true h).1 (by have := of_decide_eq_true h; simp; omega)
theorem Ranges.sltu : ∀ x0 x1 x2 x3, Ranges.Statement (.sltu x0 x1 x2 x3) := fun _ rd ra rb h => Ranges.coreRegs (l := [rd, ra, rb]) rfl rfl (of_decide_eq_true h).1 (by have := of_decide_eq_true h; simp; omega)
theorem Ranges.min : ∀ x0 x1 x2 x3, Ranges.Statement (.min x0 x1 x2 x3) := fun _ rd ra rb h => Ranges.coreRegs (l := [rd, ra, rb]) rfl rfl (of_decide_eq_true h).1 (by have := of_decide_eq_true h; simp; omega)
theorem Ranges.max : ∀ x0 x1 x2 x3, Ranges.Statement (.max x0 x1 x2 x3) := fun _ rd ra rb h => Ranges.coreRegs (l := [rd, ra, rb]) rfl rfl (of_decide_eq_true h).1 (by have := of_decide_eq_true h; simp; omega)
theorem Ranges.minu : ∀ x0 x1 x2 x3, Ranges.Statement (.minu x0 x1 x2 x3) := fun _ rd ra rb h => Ranges.coreRegs (l := [rd, ra, rb]) rfl rfl (of_decide_eq_true h).1 (by have := of_decide_eq_true h; simp; omega)
theorem Ranges.maxu : ∀ x0 x1 x2 x3, Ranges.Statement (.maxu x0 x1 x2 x3) := fun _ rd ra rb h => Ranges.coreRegs (l := [rd, ra, rb]) rfl rfl (of_decide_eq_true h).1 (by have := of_decide_eq_true h; simp; omega)
theorem Ranges.clz : ∀ x0 x1 x2, Ranges.Statement (.clz x0 x1 x2) := fun _ rd ra h => Ranges.coreRegs (l := [rd, ra]) rfl rfl (of_decide_eq_true h).1 (by have := of_decide_eq_true h; simp; omega)
theorem Ranges.sextb : ∀ x0 x1 x2, Ranges.Statement (.sextb x0 x1 x2) := fun _ rd ra h => Ranges.coreRegs (l := [rd, ra]) rfl rfl (of_decide_eq_true h).1 (by have := of_decide_eq_true h; simp; omega)
theorem Ranges.sexth : ∀ x0 x1 x2, Ranges.Statement (.sexth x0 x1 x2) := fun _ rd ra h => Ranges.coreRegs (l := [rd, ra]) rfl rfl (of_decide_eq_true h).1 (by have := of_decide_eq_true h; simp; omega)
theorem Ranges.csel : ∀ x0 x1 x2 x3 x4, Ranges.Statement (.csel x0 x1 x2 x3 x4) := fun _ rd ra rb rc h => Ranges.coreRegs (l := [rd, ra, rb, rc]) rfl rfl (of_decide_eq_true h).1 (by have := of_decide_eq_true h; simp; omega)
theorem Ranges.mul : ∀ x0 x1 x2 x3, Ranges.Statement (.mul x0 x1 x2 x3) := fun _ rd ra rb h => Ranges.coreRegs (l := [rd, ra, rb]) rfl rfl (of_decide_eq_true h).1 (by have := of_decide_eq_true h; simp; omega)
theorem Ranges.mulh : ∀ x0 x1 x2 x3, Ranges.Statement (.mulh x0 x1 x2 x3) := fun _ rd ra rb h => Ranges.coreRegs (l := [rd, ra, rb]) rfl rfl (of_decide_eq_true h).1 (by have := of_decide_eq_true h; simp; omega)
theorem Ranges.mulhu : ∀ x0 x1 x2 x3, Ranges.Statement (.mulhu x0 x1 x2 x3) := fun _ rd ra rb h => Ranges.coreRegs (l := [rd, ra, rb]) rfl rfl (of_decide_eq_true h).1 (by have := of_decide_eq_true h; simp; omega)
theorem Ranges.div : ∀ x0 x1 x2 x3, Ranges.Statement (.div x0 x1 x2 x3) := fun _ rd ra rb h => Ranges.coreRegs (l := [rd, ra, rb]) rfl rfl (of_decide_eq_true h).1 (by have := of_decide_eq_true h; simp; omega)
theorem Ranges.divu : ∀ x0 x1 x2 x3, Ranges.Statement (.divu x0 x1 x2 x3) := fun _ rd ra rb h => Ranges.coreRegs (l := [rd, ra, rb]) rfl rfl (of_decide_eq_true h).1 (by have := of_decide_eq_true h; simp; omega)
theorem Ranges.rem : ∀ x0 x1 x2 x3, Ranges.Statement (.rem x0 x1 x2 x3) := fun _ rd ra rb h => Ranges.coreRegs (l := [rd, ra, rb]) rfl rfl (of_decide_eq_true h).1 (by have := of_decide_eq_true h; simp; omega)
theorem Ranges.remu : ∀ x0 x1 x2 x3, Ranges.Statement (.remu x0 x1 x2 x3) := fun _ rd ra rb h => Ranges.coreRegs (l := [rd, ra, rb]) rfl rfl (of_decide_eq_true h).1 (by have := of_decide_eq_true h; simp; omega)
theorem Ranges.add64 : ∀ x0 x1 x2 x3, Ranges.Statement (.add64 x0 x1 x2 x3) := fun _ rd ra rb h => Ranges.coreRegs (l := [rd, ra, rb]) rfl rfl (of_decide_eq_true h).1 (by have := of_decide_eq_true h; simp; omega)
theorem Ranges.sub64 : ∀ x0 x1 x2 x3, Ranges.Statement (.sub64 x0 x1 x2 x3) := fun _ rd ra rb h => Ranges.coreRegs (l := [rd, ra, rb]) rfl rfl (of_decide_eq_true h).1 (by have := of_decide_eq_true h; simp; omega)
theorem Ranges.adds64 : ∀ x0 x1 x2 x3, Ranges.Statement (.adds64 x0 x1 x2 x3) := fun _ rd ra rb h => Ranges.coreRegs (l := [rd, ra, rb]) rfl rfl (of_decide_eq_true h).1 (by have := of_decide_eq_true h; simp; omega)
theorem Ranges.subs64 : ∀ x0 x1 x2 x3, Ranges.Statement (.subs64 x0 x1 x2 x3) := fun _ rd ra rb h => Ranges.coreRegs (l := [rd, ra, rb]) rfl rfl (of_decide_eq_true h).1 (by have := of_decide_eq_true h; simp; omega)
theorem Ranges.cmp64 : ∀ x0 x1 x2 x3, Ranges.Statement (.cmp64 x0 x1 x2 x3) := fun _ rd ra rb h => Ranges.coreRegs (l := [rd, ra, rb]) rfl rfl (of_decide_eq_true h).1 (by have := of_decide_eq_true h; simp; omega)
theorem Ranges.mac64 : ∀ x0 x1 x2 x3, Ranges.Statement (.mac64 x0 x1 x2 x3) := fun _ rd ra rb h => Ranges.coreRegs (l := [rd, ra, rb]) rfl rfl (of_decide_eq_true h).1 (by have := of_decide_eq_true h; simp; omega)
theorem Ranges.macs64 : ∀ x0 x1 x2 x3, Ranges.Statement (.macs64 x0 x1 x2 x3) := fun _ rd ra rb h => Ranges.coreRegs (l := [rd, ra, rb]) rfl rfl (of_decide_eq_true h).1 (by have := of_decide_eq_true h; simp; omega)
theorem Ranges.macu64 : ∀ x0 x1 x2 x3, Ranges.Statement (.macu64 x0 x1 x2 x3) := fun _ rd ra rb h => Ranges.coreRegs (l := [rd, ra, rb]) rfl rfl (of_decide_eq_true h).1 (by have := of_decide_eq_true h; simp; omega)
theorem Ranges.muls64q : ∀ x0 x1 x2 x3 x4, Ranges.Statement (.muls64q x0 x1 x2 x3 x4) := fun _ rd ra rb _ h => Ranges.coreRegs (l := [rd, ra, rb]) rfl rfl (of_decide_eq_true h).1 (by have := of_decide_eq_true h; simp; omega)
theorem Ranges.divr64 : ∀ x0 x1 x2 x3, Ranges.Statement (.divr64 x0 x1 x2 x3) := fun _ rd ra rb h => Ranges.coreRegs (l := [rd, ra, rb]) rfl rfl (of_decide_eq_true h).1 (by have := of_decide_eq_true h; simp; omega)
theorem Ranges.adds : ∀ x0 x1 x2 x3, Ranges.Statement (.adds x0 x1 x2 x3) := fun _ rd ra rb h => Ranges.coreRegs (l := [rd, ra, rb]) rfl rfl (of_decide_eq_true h).1 (by have := of_decide_eq_true h; simp; omega)
theorem Ranges.subs : ∀ x0 x1 x2 x3, Ranges.Statement (.subs x0 x1 x2 x3) := fun _ rd ra rb h => Ranges.coreRegs (l := [rd, ra, rb]) rfl rfl (of_decide_eq_true h).1 (by have := of_decide_eq_true h; simp; omega)
theorem Ranges.addus : ∀ x0 x1 x2 x3, Ranges.Statement (.addus x0 x1 x2 x3) := fun _ rd ra rb h => Ranges.coreRegs (l := [rd, ra, rb]) rfl rfl (of_decide_eq_true h).1 (by have := of_decide_eq_true h; simp; omega)
theorem Ranges.subus : ∀ x0 x1 x2 x3, Ranges.Statement (.subus x0 x1 x2 x3) := fun _ rd ra rb h => Ranges.coreRegs (l := [rd, ra, rb]) rfl rfl (of_decide_eq_true h).1 (by have := of_decide_eq_true h; simp; omega)
theorem Ranges.mulq : ∀ x0 x1 x2 x3 x4, Ranges.Statement (.mulq x0 x1 x2 x3 x4) := fun _ rd ra rb _ h => Ranges.coreRegs (l := [rd, ra, rb]) rfl rfl (of_decide_eq_true h).1 (by have := of_decide_eq_true h; simp; omega)
theorem Ranges.sats : ∀ x0 x1 x2 x3, Ranges.Statement (.sats x0 x1 x2 x3) := fun _ rd ra _ h => Ranges.coreRegs (l := [rd, ra]) rfl rfl (of_decide_eq_true h).1 (by have := of_decide_eq_true h; simp; omega)
theorem Ranges.addi : ∀ x0 x1 x2 x3, Ranges.Statement (.addi x0 x1 x2 x3) := fun _ rd ra _ h => Ranges.coreRegs (l := [rd, ra]) rfl rfl (of_decide_eq_true h).1 (by have := of_decide_eq_true h; simp; omega)
theorem Ranges.andi : ∀ x0 x1 x2 x3, Ranges.Statement (.andi x0 x1 x2 x3) := fun _ rd ra _ h => Ranges.coreRegs (l := [rd, ra]) rfl rfl (of_decide_eq_true h).1 (by have := of_decide_eq_true h; simp; omega)
theorem Ranges.ori : ∀ x0 x1 x2 x3, Ranges.Statement (.ori x0 x1 x2 x3) := fun _ rd ra _ h => Ranges.coreRegs (l := [rd, ra]) rfl rfl (of_decide_eq_true h).1 (by have := of_decide_eq_true h; simp; omega)
theorem Ranges.xori : ∀ x0 x1 x2 x3, Ranges.Statement (.xori x0 x1 x2 x3) := fun _ rd ra _ h => Ranges.coreRegs (l := [rd, ra]) rfl rfl (of_decide_eq_true h).1 (by have := of_decide_eq_true h; simp; omega)
theorem Ranges.slti : ∀ x0 x1 x2 x3, Ranges.Statement (.slti x0 x1 x2 x3) := fun _ rd ra _ h => Ranges.coreRegs (l := [rd, ra]) rfl rfl (of_decide_eq_true h).1 (by have := of_decide_eq_true h; simp; omega)
theorem Ranges.sltiu : ∀ x0 x1 x2 x3, Ranges.Statement (.sltiu x0 x1 x2 x3) := fun _ rd ra _ h => Ranges.coreRegs (l := [rd, ra]) rfl rfl (of_decide_eq_true h).1 (by have := of_decide_eq_true h; simp; omega)
theorem Ranges.lui : ∀ x0 x1 x2, Ranges.Statement (.lui x0 x1 x2) := fun _ rd _ h => Ranges.coreRegs (l := [rd]) rfl rfl (of_decide_eq_true h).1 (by have := of_decide_eq_true h; simp; omega)
theorem Ranges.auipc : ∀ x0 x1 x2, Ranges.Statement (.auipc x0 x1 x2) := fun _ rd _ h => Ranges.coreRegs (l := [rd]) rfl rfl (of_decide_eq_true h).1 (by have := of_decide_eq_true h; simp; omega)
theorem Ranges.lw : ∀ x0 x1 x2 x3, Ranges.Statement (.lw x0 x1 x2 x3) := fun _ rd ra _ h => Ranges.coreRegs (l := [rd, ra]) rfl rfl (of_decide_eq_true h).1 (by have := of_decide_eq_true h; simp; omega)
theorem Ranges.lh : ∀ x0 x1 x2 x3, Ranges.Statement (.lh x0 x1 x2 x3) := fun _ rd ra _ h => Ranges.coreRegs (l := [rd, ra]) rfl rfl (of_decide_eq_true h).1 (by have := of_decide_eq_true h; simp; omega)
theorem Ranges.lhu : ∀ x0 x1 x2 x3, Ranges.Statement (.lhu x0 x1 x2 x3) := fun _ rd ra _ h => Ranges.coreRegs (l := [rd, ra]) rfl rfl (of_decide_eq_true h).1 (by have := of_decide_eq_true h; simp; omega)
theorem Ranges.lb : ∀ x0 x1 x2 x3, Ranges.Statement (.lb x0 x1 x2 x3) := fun _ rd ra _ h => Ranges.coreRegs (l := [rd, ra]) rfl rfl (of_decide_eq_true h).1 (by have := of_decide_eq_true h; simp; omega)
theorem Ranges.lbu : ∀ x0 x1 x2 x3, Ranges.Statement (.lbu x0 x1 x2 x3) := fun _ rd ra _ h => Ranges.coreRegs (l := [rd, ra]) rfl rfl (of_decide_eq_true h).1 (by have := of_decide_eq_true h; simp; omega)
theorem Ranges.ld : ∀ x0 x1 x2 x3, Ranges.Statement (.ld x0 x1 x2 x3) := fun _ rd ra _ h => Ranges.coreRegs (l := [rd, ra]) rfl rfl (of_decide_eq_true h).1 (by have := of_decide_eq_true h; simp; omega)
theorem Ranges.sw : ∀ x0 x1 x2 x3, Ranges.Statement (.sw x0 x1 x2 x3) := fun _ rs ra _ h => Ranges.coreRegs (l := [rs, ra]) rfl rfl (of_decide_eq_true h).1 (by have := of_decide_eq_true h; simp; omega)
theorem Ranges.sh : ∀ x0 x1 x2 x3, Ranges.Statement (.sh x0 x1 x2 x3) := fun _ rs ra _ h => Ranges.coreRegs (l := [rs, ra]) rfl rfl (of_decide_eq_true h).1 (by have := of_decide_eq_true h; simp; omega)
theorem Ranges.sb : ∀ x0 x1 x2 x3, Ranges.Statement (.sb x0 x1 x2 x3) := fun _ rs ra _ h => Ranges.coreRegs (l := [rs, ra]) rfl rfl (of_decide_eq_true h).1 (by have := of_decide_eq_true h; simp; omega)
theorem Ranges.sd : ∀ x0 x1 x2 x3, Ranges.Statement (.sd x0 x1 x2 x3) := fun _ rs ra _ h => Ranges.coreRegs (l := [rs, ra]) rfl rfl (of_decide_eq_true h).1 (by have := of_decide_eq_true h; simp; omega)
theorem Ranges.cas : ∀ x0 x1 x2 x3 x4, Ranges.Statement (.cas x0 x1 x2 x3 x4) := fun _ rd ra rb rc h => Ranges.coreRegs (l := [rd, ra, rb, rc]) rfl rfl (of_decide_eq_true h).1 (by have := of_decide_eq_true h; simp; omega)
theorem Ranges.swap : ∀ x0 x1 x2 x3, Ranges.Statement (.swap x0 x1 x2 x3) := fun _ rd ra rb h => Ranges.coreRegs (l := [rd, ra, rb]) rfl rfl (of_decide_eq_true h).1 (by have := of_decide_eq_true h; simp; omega)
theorem Ranges.fadd : ∀ x0 x1 x2 x3, Ranges.Statement (.fadd x0 x1 x2 x3) := fun _ rd ra rb h => Ranges.coreRegs (l := [rd, ra, rb]) rfl rfl (of_decide_eq_true h).1 (by have := of_decide_eq_true h; simp; omega)
theorem Ranges.beq : ∀ x0 x1 x2 x3, Ranges.Statement (.beq x0 x1 x2 x3) := fun _ ra rb _ h => Ranges.coreRegs (l := [ra, rb]) rfl rfl (of_decide_eq_true h).1 (by have := of_decide_eq_true h; simp; omega)
theorem Ranges.bne : ∀ x0 x1 x2 x3, Ranges.Statement (.bne x0 x1 x2 x3) := fun _ ra rb _ h => Ranges.coreRegs (l := [ra, rb]) rfl rfl (of_decide_eq_true h).1 (by have := of_decide_eq_true h; simp; omega)
theorem Ranges.blt : ∀ x0 x1 x2 x3, Ranges.Statement (.blt x0 x1 x2 x3) := fun _ ra rb _ h => Ranges.coreRegs (l := [ra, rb]) rfl rfl (of_decide_eq_true h).1 (by have := of_decide_eq_true h; simp; omega)
theorem Ranges.bge : ∀ x0 x1 x2 x3, Ranges.Statement (.bge x0 x1 x2 x3) := fun _ ra rb _ h => Ranges.coreRegs (l := [ra, rb]) rfl rfl (of_decide_eq_true h).1 (by have := of_decide_eq_true h; simp; omega)
theorem Ranges.bltu : ∀ x0 x1 x2 x3, Ranges.Statement (.bltu x0 x1 x2 x3) := fun _ ra rb _ h => Ranges.coreRegs (l := [ra, rb]) rfl rfl (of_decide_eq_true h).1 (by have := of_decide_eq_true h; simp; omega)
theorem Ranges.bgeu : ∀ x0 x1 x2 x3, Ranges.Statement (.bgeu x0 x1 x2 x3) := fun _ ra rb _ h => Ranges.coreRegs (l := [ra, rb]) rfl rfl (of_decide_eq_true h).1 (by have := of_decide_eq_true h; simp; omega)
theorem Ranges.j : ∀ x0 x1, Ranges.Statement (.j x0 x1) := fun _ _ h => Ranges.coreOnly rfl rfl (of_decide_eq_true h)
theorem Ranges.jal : ∀ x0 x1, Ranges.Statement (.jal x0 x1) := fun _ _ h => Ranges.coreOnly rfl rfl (of_decide_eq_true h)
theorem Ranges.jalr : ∀ x0 x1 x2 x3, Ranges.Statement (.jalr x0 x1 x2 x3) := fun _ rd ra _ h => Ranges.coreRegs (l := [rd, ra]) rfl rfl (of_decide_eq_true h).1 (by have := of_decide_eq_true h; simp; omega)
theorem Ranges.ret : ∀ x0, Ranges.Statement (.ret x0) := fun _ h => Ranges.coreOnly rfl rfl (of_decide_eq_true h)
theorem Ranges.mfcr : ∀ x0 x1 x2, Ranges.Statement (.mfcr x0 x1 x2) := fun _ rd _ h => Ranges.coreRegs (l := [rd]) rfl rfl (of_decide_eq_true h).1 (by have := of_decide_eq_true h; simp; omega)
theorem Ranges.mtcr : ∀ x0 x1 x2, Ranges.Statement (.mtcr x0 x1 x2) := fun _ _ ra h => Ranges.coreRegs (l := [ra]) rfl rfl (of_decide_eq_true h).1 (by have := of_decide_eq_true h; simp; omega)
theorem Ranges.eret : ∀ x0, Ranges.Statement (.eret x0) := fun _ h => Ranges.coreOnly rfl rfl (of_decide_eq_true h)
theorem Ranges.fence : ∀ x0, Ranges.Statement (.fence x0) := fun _ h => Ranges.coreOnly rfl rfl (of_decide_eq_true h)
theorem Ranges.trap : ∀ x0 x1, Ranges.Statement (.trap x0 x1) := fun _ _ h => Ranges.coreOnly rfl rfl (of_decide_eq_true h)
theorem Ranges.sigchk : ∀ x0 x1, Ranges.Statement (.sigchk x0 x1) := fun _ _ h => Ranges.coreOnly rfl rfl (of_decide_eq_true h)
theorem Ranges.tmon : ∀ x0, Ranges.Statement (.tmon x0) := fun _ h => Ranges.coreOnly rfl rfl (of_decide_eq_true h)
theorem Ranges.stest : ∀ x0 x1 x2, Ranges.Statement (.stest x0 x1 x2) := fun _ _ _ h => Ranges.coreOnly rfl rfl (by have := of_decide_eq_true h; omega)
theorem Ranges.rdmt : ∀ x0 x1, Ranges.Statement (.rdmt x0 x1) := fun _ rd h => Ranges.coreRegs (l := [rd]) rfl rfl (of_decide_eq_true h).1 (by have := of_decide_eq_true h; simp; omega)
theorem Ranges.rdmtl : ∀ x0 x1, Ranges.Statement (.rdmtl x0 x1) := fun _ rd h => Ranges.coreRegs (l := [rd]) rfl rfl (of_decide_eq_true h).1 (by have := of_decide_eq_true h; simp; omega)
theorem Ranges.rdwall : ∀ x0 x1, Ranges.Statement (.rdwall x0 x1) := fun _ rd h => Ranges.coreRegs (l := [rd]) rfl rfl (of_decide_eq_true h).1 (by have := of_decide_eq_true h; simp; omega)
theorem Ranges.rdera : ∀ x0 x1, Ranges.Statement (.rdera x0 x1) := fun _ rd h => Ranges.coreRegs (l := [rd]) rfl rfl (of_decide_eq_true h).1 (by have := of_decide_eq_true h; simp; omega)
theorem Ranges.wait : ∀ x0 x1 x2, Ranges.Statement (.wait x0 x1 x2) := fun _ rd ra h => Ranges.coreRegs (l := [rd, ra]) rfl rfl (of_decide_eq_true h).1 (by have := of_decide_eq_true h; simp; omega)
theorem Ranges.waitt : ∀ x0 x1 x2 x3, Ranges.Statement (.waitt x0 x1 x2 x3) := fun _ rd ra rb h => Ranges.coreRegs (l := [rd, ra, rb]) rfl rfl (of_decide_eq_true h).1 (by have := of_decide_eq_true h; simp; omega)
theorem Ranges.poll : ∀ x0 x1 x2, Ranges.Statement (.poll x0 x1 x2) := fun _ rd ra h => Ranges.coreRegs (l := [rd, ra]) rfl rfl (of_decide_eq_true h).1 (by have := of_decide_eq_true h; simp; omega)
theorem Ranges.signal : ∀ x0 x1, Ranges.Statement (.signal x0 x1) := fun _ _ h => Ranges.coreOnly rfl rfl (by have := of_decide_eq_true h; omega)
theorem Ranges.qpush : ∀ x0 x1 x2 x3, Ranges.Statement (.qpush x0 x1 x2 x3) := fun _ rd ra rb h => Ranges.coreRegs (l := [rd, ra, rb]) rfl rfl (of_decide_eq_true h).1 (by have := of_decide_eq_true h; simp; omega)
theorem Ranges.qpop : ∀ x0 x1 x2 x3, Ranges.Statement (.qpop x0 x1 x2 x3) := fun _ rd ra rb h => Ranges.coreRegs (l := [rd, ra, rb]) rfl rfl (of_decide_eq_true h).1 (by have := of_decide_eq_true h; simp; omega)
theorem Ranges.qstat : ∀ x0 x1 x2, Ranges.Statement (.qstat x0 x1 x2) := fun _ rd ra h => Ranges.coreRegs (l := [rd, ra]) rfl rfl (of_decide_eq_true h).1 (by have := of_decide_eq_true h; simp; omega)
theorem Ranges.ksubmit : ∀ x0 x1 x2, Ranges.Statement (.ksubmit x0 x1 x2) := fun _ rd ra h => Ranges.coreRegs (l := [rd, ra]) rfl rfl (of_decide_eq_true h).1 (by have := of_decide_eq_true h; simp; omega)
theorem Ranges.kpoll : ∀ x0 x1 x2, Ranges.Statement (.kpoll x0 x1 x2) := fun _ rd ra h => Ranges.coreRegs (l := [rd, ra]) rfl rfl (of_decide_eq_true h).1 (by have := of_decide_eq_true h; simp; omega)
theorem Ranges.krand : ∀ x0 x1, Ranges.Statement (.krand x0 x1) := fun _ rd h => Ranges.coreRegs (l := [rd]) rfl rfl (of_decide_eq_true h).1 (by have := of_decide_eq_true h; simp; omega)
theorem Ranges.krandResume : ∀ x0, Ranges.Statement (.krandResume x0) := fun _ h => Ranges.coreOnly rfl rfl (by have := of_decide_eq_true h; omega)
theorem Ranges.waitWake : ∀ x0, Ranges.Statement (.waitWake x0) := fun _ h => Ranges.coreOnly rfl rfl (of_decide_eq_true h)
theorem Ranges.waittDeadline : ∀ x0, Ranges.Statement (.waittDeadline x0) := fun _ h => Ranges.coreOnly rfl rfl (of_decide_eq_true h)
theorem Ranges.urgentEntry : ∀ x0, Ranges.Statement (.urgentEntry x0) := fun _ h => Ranges.coreOnly rfl rfl (of_decide_eq_true h)
theorem Ranges.sfcTmonTimeout : Ranges.Statement .sfcTmonTimeout := fun _ => Ranges.other rfl rfl
theorem Ranges.sfcTimebaseCheck : Ranges.Statement .sfcTimebaseCheck := fun _ => Ranges.other rfl rfl
theorem Ranges.sfcStestPeriodEnd : Ranges.Statement .sfcStestPeriodEnd := fun _ => Ranges.other rfl rfl
theorem Ranges.cpuWdogKick : ∀ x0 x1, Ranges.Statement (.cpuWdogKick x0 x1) := fun _ _ _ => Ranges.other rfl rfl
theorem Ranges.cpuWdogExpire : ∀ x0, Ranges.Statement (.cpuWdogExpire x0) := fun _ h => Ranges.coreOnly rfl rfl (by have := of_decide_eq_true h; omega)
theorem Ranges.cpuMboxWrite : ∀ x0 x1 x2, Ranges.Statement (.cpuMboxWrite x0 x1 x2) := fun _ _ _ _ => Ranges.other rfl rfl
theorem Ranges.cpuMboxRead : ∀ x0 x1, Ranges.Statement (.cpuMboxRead x0 x1) := fun _ _ _ => Ranges.other rfl rfl
theorem Ranges.cpuStart : ∀ x0 x1, Ranges.Statement (.cpuStart x0 x1) := fun _ _ _ => Ranges.other rfl rfl
theorem Ranges.cpuHalt : ∀ x0 x1, Ranges.Statement (.cpuHalt x0 x1) := fun _ _ _ => Ranges.other rfl rfl
theorem Ranges.remoteTimeout : ∀ x0, Ranges.Statement (.remoteTimeout x0) := fun _ h => Ranges.coreOnly rfl rfl (by have := of_decide_eq_true h; omega)
theorem Ranges.rwinReq : ∀ x0 x1 x2 x3 x4 x5, Ranges.Statement (.rwinReq x0 x1 x2 x3 x4 x5) := fun _ _ _ _ _ _ _ => Ranges.other rfl rfl
theorem Ranges.rwinAns : ∀ x0 x1 x2, Ranges.Statement (.rwinAns x0 x1 x2) := fun _ _ _ h => Ranges.coreOnly rfl rfl (by have := of_decide_eq_true h; omega)
theorem Ranges.supplySelect : ∀ x0 x1 x2, Ranges.Statement (.supplySelect x0 x1 x2) := fun _ _ _ _ => Ranges.other rfl rfl
theorem Ranges.njPowerLost : Ranges.Statement .njPowerLost := fun _ => Ranges.other rfl rfl
theorem Ranges.njRestart : ∀ x0 x1 x2, Ranges.Statement (.njRestart x0 x1 x2) := fun _ _ _ _ => Ranges.other rfl rfl
theorem Ranges.njFirstStart : ∀ x0, Ranges.Statement (.njFirstStart x0) := fun _ _ => Ranges.other rfl rfl
theorem Ranges.vbatMeasure : ∀ x0, Ranges.Statement (.vbatMeasure x0) := fun _ _ => Ranges.other rfl rfl
theorem Ranges.rtcSecond : ∀ x0, Ranges.Statement (.rtcSecond x0) := fun _ _ => Ranges.other rfl rfl
theorem Ranges.oscStop : Ranges.Statement .oscStop := fun _ => Ranges.other rfl rfl
theorem Ranges.oscResume : ∀ x0, Ranges.Statement (.oscResume x0) := fun _ _ => Ranges.other rfl rfl
theorem Ranges.wrenCycle : ∀ x0 x1 x2 x3, Ranges.Statement (.wrenCycle x0 x1 x2 x3) := fun _ _ _ _ _ => Ranges.other rfl rfl
theorem Ranges.tamperClear : ∀ x0 x1, Ranges.Statement (.tamperClear x0 x1) := fun _ _ _ => Ranges.other rfl rfl
theorem Ranges.sealScan : ∀ x0 x1, Ranges.Statement (.sealScan x0 x1) := fun _ _ _ => Ranges.other rfl rfl
theorem Ranges.logApp0 : ∀ x0 x1, Ranges.Statement (.logApp0 x0 x1) := fun _ _ _ => Ranges.other rfl rfl
theorem Ranges.logApp1 : ∀ x0 x1, Ranges.Statement (.logApp1 x0 x1) := fun _ _ _ => Ranges.other rfl rfl
theorem Ranges.kvGenerate : Ranges.Statement .kvGenerate := fun _ => Ranges.other rfl rfl
theorem Ranges.kvImportPlain : Ranges.Statement .kvImportPlain := fun _ => Ranges.other rfl rfl
theorem Ranges.kvImportWrapped : Ranges.Statement .kvImportWrapped := fun _ => Ranges.other rfl rfl
theorem Ranges.kvDeriveHkdf : Ranges.Statement .kvDeriveHkdf := fun _ => Ranges.other rfl rfl
theorem Ranges.kvAgree : Ranges.Statement .kvAgree := fun _ => Ranges.other rfl rfl
theorem Ranges.kvTls12Prf : Ranges.Statement .kvTls12Prf := fun _ => Ranges.other rfl rfl
theorem Ranges.kvTls13Keys : Ranges.Statement .kvTls13Keys := fun _ => Ranges.other rfl rfl
theorem Ranges.kvSign : Ranges.Statement .kvSign := fun _ => Ranges.other rfl rfl
theorem Ranges.kvVerify : Ranges.Statement .kvVerify := fun _ => Ranges.other rfl rfl
theorem Ranges.kvEncrypt : Ranges.Statement .kvEncrypt := fun _ => Ranges.other rfl rfl
theorem Ranges.kvDecrypt : Ranges.Statement .kvDecrypt := fun _ => Ranges.other rfl rfl
theorem Ranges.kvMac : Ranges.Statement .kvMac := fun _ => Ranges.other rfl rfl
theorem Ranges.kvHash : Ranges.Statement .kvHash := fun _ => Ranges.other rfl rfl
theorem Ranges.kvExportPub : Ranges.Statement .kvExportPub := fun _ => Ranges.other rfl rfl
theorem Ranges.kvExportWrapped : Ranges.Statement .kvExportWrapped := fun _ => Ranges.other rfl rfl
theorem Ranges.kvExportPlain : Ranges.Statement .kvExportPlain := fun _ => Ranges.other rfl rfl
theorem Ranges.kvInvalidate : Ranges.Statement .kvInvalidate := fun _ => Ranges.other rfl rfl
theorem Ranges.kvTighten : Ranges.Statement .kvTighten := fun _ => Ranges.other rfl rfl
theorem Ranges.kvAttest : Ranges.Statement .kvAttest := fun _ => Ranges.other rfl rfl
theorem Ranges.kvReadCert : Ranges.Statement .kvReadCert := fun _ => Ranges.other rfl rfl
theorem Ranges.kvCmdDone : ∀ x0, Ranges.Statement (.kvCmdDone x0) := fun _ _ => Ranges.other rfl rfl
theorem Ranges.kvSweep : ∀ x0, Ranges.Statement (.kvSweep x0) := fun _ _ => Ranges.other rfl rfl
theorem Ranges.kvLcReq : ∀ x0 x1, Ranges.Statement (.kvLcReq x0 x1) := fun _ _ _ => Ranges.other rfl rfl
theorem Ranges.kvLcConfirm : ∀ x0 x1, Ranges.Statement (.kvLcConfirm x0 x1) := fun _ _ _ => Ranges.other rfl rfl
theorem Ranges.rngHealthFail : Ranges.Statement .rngHealthFail := fun _ => Ranges.other rfl rfl
theorem Ranges.rngRestart : ∀ x0, Ranges.Statement (.rngRestart x0) := fun _ _ => Ranges.other rfl rfl
theorem Ranges.kvSelftestDone : ∀ x0 x1, Ranges.Statement (.kvSelftestDone x0 x1) := fun _ _ _ => Ranges.other rfl rfl
theorem Ranges.tapSessionOpen : Ranges.Statement .tapSessionOpen := fun _ => Ranges.other rfl rfl
theorem Ranges.tapDebugHalt : ∀ x0, Ranges.Statement (.tapDebugHalt x0) := fun _ h => Ranges.coreOnly rfl rfl (of_decide_eq_true h)
theorem Ranges.tapReset : Ranges.Statement .tapReset := fun _ => Ranges.other rfl rfl
theorem Ranges.tapRefused : Ranges.Statement .tapRefused := fun _ => Ranges.other rfl rfl
theorem Ranges.manifestArrive : Ranges.Statement .manifestArrive := fun _ => Ranges.other rfl rfl
theorem Ranges.manifestVerifyDone : Ranges.Statement .manifestVerifyDone := fun _ => Ranges.other rfl rfl
theorem Ranges.updBlockArrive : Ranges.Statement .updBlockArrive := fun _ => Ranges.other rfl rfl
theorem Ranges.partDigestDone : ∀ x0, Ranges.Statement (.partDigestDone x0) := fun _ _ => Ranges.other rfl rfl
theorem Ranges.bootDigestDone : Ranges.Statement .bootDigestDone := fun _ => Ranges.other rfl rfl
theorem Ranges.updActivate : ∀ x0 x1, Ranges.Statement (.updActivate x0 x1) := fun _ _ _ => Ranges.other rfl rfl
theorem Ranges.updAbort : ∀ x0 x1, Ranges.Statement (.updAbort x0 x1) := fun _ _ _ => Ranges.other rfl rfl
theorem Ranges.activationRelease : ∀ x0 x1, Ranges.Statement (.activationRelease x0 x1) := fun _ _ _ => Ranges.other rfl rfl
theorem Ranges.prepare : ∀ x0, Ranges.Statement (.prepare x0) := fun _ _ => Ranges.other rfl rfl
theorem Ranges.prepared : ∀ x0 x1, Ranges.Statement (.prepared x0 x1) := fun _ _ _ => Ranges.other rfl rfl
theorem Ranges.commit : ∀ x0, Ranges.Statement (.commit x0) := fun _ _ => Ranges.other rfl rfl
theorem Ranges.committed : Ranges.Statement .committed := fun _ => Ranges.other rfl rfl
theorem Ranges.discard : Ranges.Statement .discard := fun _ => Ranges.other rfl rfl
theorem Ranges.partOk : Ranges.Statement .partOk := fun _ => Ranges.other rfl rfl
theorem Ranges.partBad : Ranges.Statement .partBad := fun _ => Ranges.other rfl rfl
theorem Ranges.imageBad : Ranges.Statement .imageBad := fun _ => Ranges.other rfl rfl
theorem Ranges.prepareTimeout : Ranges.Statement .prepareTimeout := fun _ => Ranges.other rfl rfl
theorem Ranges.commitTimeout : Ranges.Statement .commitTimeout := fun _ => Ranges.other rfl rfl
theorem Ranges.regRead : ∀ x0 x1, Ranges.Statement (.regRead x0 x1) := fun _ _ _ => Ranges.other rfl rfl
theorem Ranges.regWrite : ∀ x0, Ranges.Statement (.regWrite x0) := fun _ _ => Ranges.other rfl rfl
theorem Ranges.writeBufferApply : ∀ x0, Ranges.Statement (.writeBufferApply x0) := fun _ _ => Ranges.other rfl rfl
theorem Ranges.strRead : ∀ x0, Ranges.Statement (.strRead x0) := fun _ _ => Ranges.other rfl rfl
theorem Ranges.strWrite : ∀ x0, Ranges.Statement (.strWrite x0) := fun _ _ => Ranges.other rfl rfl
theorem Ranges.status : ∀ x0, Ranges.Statement (.status x0) := fun _ _ => Ranges.other rfl rfl
theorem Ranges.selectRelease : ∀ x0 x1, Ranges.Statement (.selectRelease x0 x1) := fun _ _ _ => Ranges.other rfl rfl
theorem Ranges.hostAliveTimeout : Ranges.Statement .hostAliveTimeout := fun _ => Ranges.other rfl rfl
theorem Ranges.ostrFill : ∀ x0, Ranges.Statement (.ostrFill x0) := fun _ _ => Ranges.other rfl rfl
theorem Ranges.istrPush : ∀ x0, Ranges.Statement (.istrPush x0) := fun _ _ => Ranges.other rfl rfl
theorem Ranges.hspAttnSet : ∀ x0 x1, Ranges.Statement (.hspAttnSet x0 x1) := fun _ _ _ => Ranges.other rfl rfl
theorem Ranges.qeTableEnable : ∀ x0 x1, Ranges.Statement (.qeTableEnable x0 x1) := fun _ _ _ => Ranges.other rfl rfl
theorem Ranges.tableZeroFillDone : Ranges.Statement .tableZeroFillDone := fun _ => Ranges.other rfl rfl
theorem Ranges.qeLoad : ∀ x0, Ranges.Statement (.qeLoad x0) := fun _ _ => Ranges.other rfl rfl
theorem Ranges.qeApply : ∀ x0, Ranges.Statement (.qeApply x0) := fun _ _ => Ranges.other rfl rfl
theorem Ranges.qeEnable : ∀ x0, Ranges.Statement (.qeEnable x0) := fun _ _ => Ranges.other rfl rfl
theorem Ranges.qeDisable : ∀ x0, Ranges.Statement (.qeDisable x0) := fun _ _ => Ranges.other rfl rfl
theorem Ranges.qeReset : ∀ x0, Ranges.Statement (.qeReset x0) := fun _ _ => Ranges.other rfl rfl
theorem Ranges.qePin : ∀ x0, Ranges.Statement (.qePin x0) := fun _ _ => Ranges.other rfl rfl
theorem Ranges.qeUnpin : ∀ x0, Ranges.Statement (.qeUnpin x0) := fun _ _ => Ranges.other rfl rfl
theorem Ranges.producerDoorbell : ∀ x0 x1, Ranges.Statement (.producerDoorbell x0 x1) := fun _ _ _ => Ranges.other rfl rfl
theorem Ranges.consumerDoorbell : ∀ x0 x1, Ranges.Statement (.consumerDoorbell x0 x1) := fun _ _ _ => Ranges.other rfl rfl
theorem Ranges.qeEvtRead : ∀ x0, Ranges.Statement (.qeEvtRead x0) := fun _ _ => Ranges.other rfl rfl
theorem Ranges.resvTimeout : ∀ x0, Ranges.Statement (.resvTimeout x0) := fun _ _ => Ranges.other rfl rfl
theorem Ranges.fullRetry : ∀ x0, Ranges.Statement (.fullRetry x0) := fun _ _ => Ranges.other rfl rfl
theorem Ranges.ackTimeout : ∀ x0, Ranges.Statement (.ackTimeout x0) := fun _ _ => Ranges.other rfl rfl
theorem Ranges.copyGo : ∀ x0 x1 x2, Ranges.Statement (.copyGo x0 x1 x2) := fun _ _ _ _ => Ranges.other rfl rfl
theorem Ranges.copyAbort : ∀ x0 x1 x2, Ranges.Statement (.copyAbort x0 x1 x2) := fun _ _ _ _ => Ranges.other rfl rfl
theorem Ranges.copyDone : ∀ x0, Ranges.Statement (.copyDone x0) := fun _ _ => Ranges.other rfl rfl
theorem Ranges.xmpCtrlWrite : ∀ x0 x1, Ranges.Statement (.xmpCtrlWrite x0 x1) := fun _ _ _ => Ranges.other rfl rfl
theorem Ranges.xmpCommand : ∀ x0 x1, Ranges.Statement (.xmpCommand x0 x1) := fun _ _ _ => Ranges.other rfl rfl
theorem Ranges.xmpCmdDone : ∀ x0 x1 x2, Ranges.Statement (.xmpCmdDone x0 x1 x2) := fun _ _ _ _ => Ranges.other rfl rfl
theorem Ranges.xmpTimeout : ∀ x0, Ranges.Statement (.xmpTimeout x0) := fun _ _ => Ranges.other rfl rfl
theorem Ranges.postedStoreDrain : ∀ x0, Ranges.Statement (.postedStoreDrain x0) := fun _ _ => Ranges.other rfl rfl
theorem Ranges.presentAssert : Ranges.Statement .presentAssert := fun _ => Ranges.other rfl rfl
theorem Ranges.trainAligned : ∀ x0, Ranges.Statement (.trainAligned x0) := fun _ _ => Ranges.other rfl rfl
theorem Ranges.trainWordsExchanged : ∀ x0 x1 x2 x3, Ranges.Statement (.trainWordsExchanged x0 x1 x2 x3) := fun _ _ _ _ _ => Ranges.other rfl rfl
theorem Ranges.trainAcked : ∀ x0, Ranges.Statement (.trainAcked x0) := fun _ _ => Ranges.other rfl rfl
theorem Ranges.linkUp : ∀ x0, Ranges.Statement (.linkUp x0) := fun _ _ => Ranges.other rfl rfl
theorem Ranges.trainStepTimeout : ∀ x0, Ranges.Statement (.trainStepTimeout x0) := fun _ _ => Ranges.other rfl rfl
theorem Ranges.trainRetry : ∀ x0, Ranges.Statement (.trainRetry x0) := fun _ _ => Ranges.other rfl rfl
theorem Ranges.disconnect : ∀ x0, Ranges.Statement (.disconnect x0) := fun _ _ => Ranges.other rfl rfl
theorem Ranges.retrain : ∀ x0 x1 x2, Ranges.Statement (.retrain x0 x1 x2) := fun _ _ _ _ => Ranges.other rfl rfl
theorem Ranges.creditUpdate : ∀ x0 x1 x2, Ranges.Statement (.creditUpdate x0 x1 x2) := fun _ _ _ _ => Ranges.other rfl rfl
theorem Ranges.creditRefresh : ∀ x0, Ranges.Statement (.creditRefresh x0) := fun _ _ => Ranges.other rfl rfl
theorem Ranges.frameSend : ∀ x0, Ranges.Statement (.frameSend x0) := fun _ _ => Ranges.other rfl rfl
theorem Ranges.frameForward : ∀ x0 x1, Ranges.Statement (.frameForward x0 x1) := fun _ _ _ => Ranges.other rfl rfl
theorem Ranges.msg : ∀ x0 x1, Ranges.Statement (.msg x0 x1) := fun _ _ _ => Ranges.other rfl rfl
theorem Ranges.ans : ∀ x0 x1, Ranges.Statement (.ans x0 x1) := fun _ _ _ => Ranges.other rfl rfl
theorem Ranges.rtxTimeout : ∀ x0, Ranges.Statement (.rtxTimeout x0) := fun _ _ => Ranges.other rfl rfl
theorem Ranges.helloSend : Ranges.Statement .helloSend := fun _ => Ranges.other rfl rfl
theorem Ranges.hello : ∀ x0 x1, Ranges.Statement (.hello x0 x1) := fun _ _ _ => Ranges.other rfl rfl
theorem Ranges.neighbourAge : ∀ x0, Ranges.Statement (.neighbourAge x0) := fun _ _ => Ranges.other rfl rfl
theorem Ranges.stfRequest : Ranges.Statement .stfRequest := fun _ => Ranges.other rfl rfl
theorem Ranges.probe : ∀ x0 x1, Ranges.Statement (.probe x0 x1) := fun _ _ _ => Ranges.other rfl rfl
theorem Ranges.probeAns : ∀ x0 x1, Ranges.Statement (.probeAns x0 x1) := fun _ _ _ => Ranges.other rfl rfl
theorem Ranges.probeTimeout : Ranges.Statement .probeTimeout := fun _ => Ranges.other rfl rfl
theorem Ranges.assignPost : ∀ x0 x1, Ranges.Statement (.assignPost x0 x1) := fun _ _ _ => Ranges.other rfl rfl
theorem Ranges.postWrite : ∀ x0 x1, Ranges.Statement (.postWrite x0 x1) := fun _ _ _ => Ranges.other rfl rfl
theorem Ranges.sweepStart : Ranges.Statement .sweepStart := fun _ => Ranges.other rfl rfl
theorem Ranges.sweepNow : ∀ x0 x1, Ranges.Statement (.sweepNow x0 x1) := fun _ _ _ => Ranges.other rfl rfl
theorem Ranges.roll : ∀ x0 x1, Ranges.Statement (.roll x0 x1) := fun _ _ _ => Ranges.other rfl rfl
theorem Ranges.rollAns : ∀ x0 x1, Ranges.Statement (.rollAns x0 x1) := fun _ _ _ => Ranges.other rfl rfl
theorem Ranges.rollTimeout : Ranges.Statement .rollTimeout := fun _ => Ranges.other rfl rfl
theorem Ranges.assignMember : ∀ x0 x1, Ranges.Statement (.assignMember x0 x1) := fun _ _ _ => Ranges.other rfl rfl
theorem Ranges.admission : ∀ x0, Ranges.Statement (.admission x0) := fun _ _ => Ranges.other rfl rfl
theorem Ranges.admitTimeout : ∀ x0, Ranges.Statement (.admitTimeout x0) := fun _ _ => Ranges.other rfl rfl
theorem Ranges.stfCmdAdmit : ∀ x0 x1, Ranges.Statement (.stfCmdAdmit x0 x1) := fun _ _ _ => Ranges.other rfl rfl
theorem Ranges.stfCmdExpel : ∀ x0 x1, Ranges.Statement (.stfCmdExpel x0 x1) := fun _ _ _ => Ranges.other rfl rfl
theorem Ranges.stfCmdReset : ∀ x0 x1, Ranges.Statement (.stfCmdReset x0 x1) := fun _ _ _ => Ranges.other rfl rfl
theorem Ranges.stfCmdRelease : ∀ x0 x1, Ranges.Statement (.stfCmdRelease x0 x1) := fun _ _ _ => Ranges.other rfl rfl
theorem Ranges.admitMsg : Ranges.Statement .admitMsg := fun _ => Ranges.other rfl rfl
theorem Ranges.expel : Ranges.Statement .expel := fun _ => Ranges.other rfl rfl
theorem Ranges.fabReset : Ranges.Statement .fabReset := fun _ => Ranges.other rfl rfl
theorem Ranges.stopDusk : Ranges.Statement .stopDusk := fun _ => Ranges.other rfl rfl
theorem Ranges.release : Ranges.Statement .release := fun _ => Ranges.other rfl rfl
theorem Ranges.rtClear : ∀ x0 x1, Ranges.Statement (.rtClear x0 x1) := fun _ _ _ => Ranges.other rfl rfl
theorem Ranges.heartbeatSend : Ranges.Statement .heartbeatSend := fun _ => Ranges.other rfl rfl
theorem Ranges.heartbeat : ∀ x0 x1, Ranges.Statement (.heartbeat x0 x1) := fun _ _ _ => Ranges.other rfl rfl
theorem Ranges.setpointSend : Ranges.Statement .setpointSend := fun _ => Ranges.other rfl rfl
theorem Ranges.setpointWrite : Ranges.Statement .setpointWrite := fun _ => Ranges.other rfl rfl
theorem Ranges.setpoint : Ranges.Statement .setpoint := fun _ => Ranges.other rfl rfl
theorem Ranges.faultReport : ∀ x0 x1, Ranges.Statement (.faultReport x0 x1) := fun _ _ _ => Ranges.other rfl rfl
theorem Ranges.heartbeatSilence : ∀ x0, Ranges.Statement (.heartbeatSilence x0) := fun _ _ => Ranges.other rfl rfl
theorem Ranges.leaving : ∀ x0 x1, Ranges.Statement (.leaving x0 x1) := fun _ _ _ => Ranges.other rfl rfl
theorem Ranges.removal : Ranges.Statement .removal := fun _ => Ranges.other rfl rfl
theorem Ranges.managerSilent : Ranges.Statement .managerSilent := fun _ => Ranges.other rfl rfl
theorem Ranges.managerForget : Ranges.Statement .managerForget := fun _ => Ranges.other rfl rfl
theorem Ranges.pilotPeriod : Ranges.Statement .pilotPeriod := fun _ => Ranges.other rfl rfl
theorem Ranges.pilotRelease : ∀ x0 x1, Ranges.Statement (.pilotRelease x0 x1) := fun _ _ _ => Ranges.other rfl rfl
theorem Ranges.cpSample : ∀ x0 x1, Ranges.Statement (.cpSample x0 x1) := fun _ _ _ => Ranges.other rfl rfl
theorem Ranges.cpInvalidTimeout : Ranges.Statement .cpInvalidTimeout := fun _ => Ranges.other rfl rfl
theorem Ranges.ppSample : ∀ x0, Ranges.Statement (.ppSample x0) := fun _ _ => Ranges.other rfl rfl
theorem Ranges.asmTransaction : Ranges.Statement .asmTransaction := fun _ => Ranges.other rfl rfl
theorem Ranges.asmTransactionDone : ∀ x0, Ranges.Statement (.asmTransactionDone x0) := fun _ _ => Ranges.other rfl rfl
theorem Ranges.asmInterrupt : ∀ x0, Ranges.Statement (.asmInterrupt x0) := fun _ _ => Ranges.other rfl rfl
theorem Ranges.asmDisable : ∀ x0 x1, Ranges.Statement (.asmDisable x0 x1) := fun _ _ _ => Ranges.other rfl rfl
theorem Ranges.vehTmrStart : ∀ x0 x1 x2, Ranges.Statement (.vehTmrStart x0 x1 x2) := fun _ _ _ _ => Ranges.other rfl rfl
theorem Ranges.vehTmrStop : ∀ x0 x1 x2, Ranges.Statement (.vehTmrStop x0 x1 x2) := fun _ _ _ _ => Ranges.other rfl rfl
theorem Ranges.vehTmrExpire : ∀ x0, Ranges.Statement (.vehTmrExpire x0) := fun _ _ => Ranges.other rfl rfl
theorem Ranges.slacWrite : ∀ x0 x1, Ranges.Statement (.slacWrite x0 x1) := fun _ _ _ => Ranges.other rfl rfl
theorem Ranges.rbnModeWrite : ∀ x0 x1 x2 x3, Ranges.Statement (.rbnModeWrite x0 x1 x2 x3) := fun _ _ _ _ _ => Ranges.other rfl rfl
theorem Ranges.extFieldRecheck : ∀ x0 x1, Ranges.Statement (.extFieldRecheck x0 x1) := fun _ _ _ => Ranges.other rfl rfl
theorem Ranges.guardEnd : Ranges.Statement .guardEnd := fun _ => Ranges.other rfl rfl
theorem Ranges.readerTransaction : Ranges.Statement .readerTransaction := fun _ => Ranges.other rfl rfl
theorem Ranges.readerTransactionDone : ∀ x0 x1 x2 x3, Ranges.Statement (.readerTransactionDone x0 x1 x2 x3) := fun _ _ _ _ _ => Ranges.other rfl rfl
theorem Ranges.detectPing : ∀ x0 x1 x2 x3 x4, Ranges.Statement (.detectPing x0 x1 x2 x3 x4) := fun _ _ _ _ _ _ => Ranges.other rfl rfl
theorem Ranges.detectCalibrate : ∀ x0 x1 x2 x3, Ranges.Statement (.detectCalibrate x0 x1 x2 x3) := fun _ _ _ _ _ => Ranges.other rfl rfl
theorem Ranges.fieldAppear : ∀ x0 x1, Ranges.Statement (.fieldAppear x0 x1) := fun _ _ _ => Ranges.other rfl rfl
theorem Ranges.tagActivation : Ranges.Statement .tagActivation := fun _ => Ranges.other rfl rfl
theorem Ranges.fieldLost : Ranges.Statement .fieldLost := fun _ => Ranges.other rfl rfl
theorem Ranges.deselect : Ranges.Statement .deselect := fun _ => Ranges.other rfl rfl
theorem Ranges.selectByName : ∀ x0, Ranges.Statement (.selectByName x0) := fun _ _ => Ranges.other rfl rfl
theorem Ranges.selectFile : ∀ x0, Ranges.Statement (.selectFile x0) := fun _ _ => Ranges.other rfl rfl
theorem Ranges.readBinary : ∀ x0 x1 x2 x3 x4, Ranges.Statement (.readBinary x0 x1 x2 x3 x4) := fun _ _ _ _ _ _ => Ranges.other rfl rfl
theorem Ranges.readBinaryOdd : ∀ x0 x1 x2 x3, Ranges.Statement (.readBinaryOdd x0 x1 x2 x3) := fun _ _ _ _ _ => Ranges.other rfl rfl
theorem Ranges.updateBinary : ∀ x0 x1 x2 x3, Ranges.Statement (.updateBinary x0 x1 x2 x3) := fun _ _ _ _ _ => Ranges.other rfl rfl
theorem Ranges.tagWrite : Ranges.Statement .tagWrite := fun _ => Ranges.other rfl rfl
theorem Ranges.tagRead : Ranges.Statement .tagRead := fun _ => Ranges.other rfl rfl
theorem Ranges.tagLock : Ranges.Statement .tagLock := fun _ => Ranges.other rfl rfl
theorem Ranges.tagUnlock : Ranges.Statement .tagUnlock := fun _ => Ranges.other rfl rfl
theorem Ranges.wireLockExpire : ∀ x0, Ranges.Statement (.wireLockExpire x0) := fun _ _ => Ranges.other rfl rfl
theorem Ranges.harvestOn : ∀ x0, Ranges.Statement (.harvestOn x0) := fun _ _ => Ranges.other rfl rfl
theorem Ranges.harvestOff : ∀ x0, Ranges.Statement (.harvestOff x0) := fun _ _ => Ranges.other rfl rfl
theorem Ranges.harvestOverload : Ranges.Statement .harvestOverload := fun _ => Ranges.other rfl rfl
theorem Ranges.harvestOvlEnd : Ranges.Statement .harvestOvlEnd := fun _ => Ranges.other rfl rfl
theorem Ranges.trip : ∀ x0, Ranges.Statement (.trip x0) := fun _ _ => Ranges.other rfl rfl
theorem Ranges.sourceDeassert : ∀ x0, Ranges.Statement (.sourceDeassert x0) := fun _ _ => Ranges.other rfl rfl
theorem Ranges.safRelReq : ∀ x0 x1, Ranges.Statement (.safRelReq x0 x1) := fun _ _ _ => Ranges.other rfl rfl
theorem Ranges.safRelConfirm : ∀ x0 x1, Ranges.Statement (.safRelConfirm x0 x1) := fun _ _ _ => Ranges.other rfl rfl
theorem Ranges.safeResetRise : Ranges.Statement .safeResetRise := fun _ => Ranges.other rfl rfl
theorem Ranges.safeResetFall : Ranges.Statement .safeResetFall := fun _ => Ranges.other rfl rfl
theorem Ranges.resetJam : Ranges.Statement .resetJam := fun _ => Ranges.other rfl rfl
theorem Ranges.outputStuck : ∀ x0 x1, Ranges.Statement (.outputStuck x0 x1) := fun _ _ _ => Ranges.other rfl rfl
theorem Ranges.vcoreLowHold : Ranges.Statement .vcoreLowHold := fun _ => Ranges.other rfl rfl
theorem Ranges.vcoreHoldRelease : Ranges.Statement .vcoreHoldRelease := fun _ => Ranges.other rfl rfl
theorem Ranges.thermalSample : ∀ x0 x1 x2, Ranges.Statement (.thermalSample x0 x1 x2) := fun _ _ _ _ => Ranges.other rfl rfl
theorem Ranges.commitDone : ∀ x0, Ranges.Statement (.commitDone x0) := fun _ _ => Ranges.other rfl rfl
theorem Ranges.reload : ∀ x0 x1, Ranges.Statement (.reload x0 x1) := fun _ _ _ => Ranges.other rfl rfl
theorem Ranges.safTest : ∀ x0 x1, Ranges.Statement (.safTest x0 x1) := fun _ _ _ => Ranges.other rfl rfl
theorem Ranges.testInjectionDone : ∀ x0 x1, Ranges.Statement (.testInjectionDone x0 x1) := fun _ _ _ => Ranges.other rfl rfl
theorem Ranges.dacReadback : ∀ x0 x1, Ranges.Statement (.dacReadback x0 x1) := fun _ _ _ => Ranges.other rfl rfl
theorem Ranges.sfcTripWrite : ∀ x0 x1, Ranges.Statement (.sfcTripWrite x0 x1) := fun _ _ _ => Ranges.other rfl rfl
theorem Ranges.rdcUpdate : ∀ x0 x1 x2, Ranges.Statement (.rdcUpdate x0 x1 x2) := fun _ _ _ _ => Ranges.other rfl rfl
theorem Ranges.fgHalfCycle : ∀ x0 x1 x2, Ranges.Statement (.fgHalfCycle x0 x1 x2) := fun _ _ _ _ => Ranges.other rfl rfl
theorem Ranges.fgTest : ∀ x0 x1, Ranges.Statement (.fgTest x0 x1) := fun _ _ _ => Ranges.other rfl rfl
theorem Ranges.fgTestEnd : ∀ x0, Ranges.Statement (.fgTestEnd x0) := fun _ _ => Ranges.other rfl rfl
theorem Ranges.fgTestBlankEnd : Ranges.Statement .fgTestBlankEnd := fun _ => Ranges.other rfl rfl
theorem Ranges.rcdAuxSample : ∀ x0, Ranges.Statement (.rcdAuxSample x0) := fun _ _ => Ranges.other rfl rfl
theorem Ranges.rcdTest : ∀ x0 x1, Ranges.Statement (.rcdTest x0 x1) := fun _ _ _ => Ranges.other rfl rfl
theorem Ranges.rcdTestEnd : Ranges.Statement .rcdTestEnd := fun _ => Ranges.other rfl rfl
theorem Ranges.insHalfPeriod : ∀ x0 x1, Ranges.Statement (.insHalfPeriod x0 x1) := fun _ _ _ => Ranges.other rfl rfl
theorem Ranges.insStale : Ranges.Statement .insStale := fun _ => Ranges.other rfl rfl
theorem Ranges.efmCtrlWrite : ∀ x0 x1, Ranges.Statement (.efmCtrlWrite x0 x1) := fun _ _ _ => Ranges.other rfl rfl
theorem Ranges.efmSettingsWrite : ∀ x0 x1 x2 x3, Ranges.Statement (.efmSettingsWrite x0 x1 x2 x3) := fun _ _ _ _ _ => Ranges.other rfl rfl
theorem Ranges.envelopeSend : ∀ x0, Ranges.Statement (.envelopeSend x0) := fun _ _ => Ranges.other rfl rfl
theorem Ranges.envelope : ∀ x0, Ranges.Statement (.envelope x0) := fun _ _ => Ranges.other rfl rfl
theorem Ranges.twinSkewTimeout : ∀ x0, Ranges.Statement (.twinSkewTimeout x0) := fun _ _ => Ranges.other rfl rfl
theorem Ranges.connectionTimeout : ∀ x0, Ranges.Statement (.connectionTimeout x0) := fun _ _ => Ranges.other rfl rfl
theorem Ranges.payloadCommit : ∀ x0 x1, Ranges.Statement (.payloadCommit x0 x1) := fun _ _ _ => Ranges.other rfl rfl
theorem Ranges.safScCmd : ∀ x0 x1, Ranges.Statement (.safScCmd x0 x1) := fun _ _ _ => Ranges.other rfl rfl
theorem Ranges.pwmPeriodBoundary : Ranges.Statement .pwmPeriodBoundary := fun _ => Ranges.other rfl rfl
theorem Ranges.pwmLoad : ∀ x0 x1, Ranges.Statement (.pwmLoad x0 x1) := fun _ _ _ => Ranges.other rfl rfl
theorem Ranges.go : ∀ x0 x1, Ranges.Statement (.go x0 x1) := fun _ _ _ => Ranges.other rfl rfl
theorem Ranges.stop : ∀ x0 x1, Ranges.Statement (.stop x0 x1) := fun _ _ _ => Ranges.other rfl rfl
theorem Ranges.currentLimit : ∀ x0 x1 x2, Ranges.Statement (.currentLimit x0 x1 x2) := fun _ _ _ _ => Ranges.other rfl rfl
theorem Ranges.adcTrigger : ∀ x0, Ranges.Statement (.adcTrigger x0) := fun _ _ => Ranges.other rfl rfl
theorem Ranges.adcSequenceDone : ∀ x0, Ranges.Statement (.adcSequenceDone x0) := fun _ _ => Ranges.other rfl rfl
theorem Ranges.backoffEnd : Ranges.Statement .backoffEnd := fun _ => Ranges.other rfl rfl
theorem Ranges.ssRelease : ∀ x0 x1, Ranges.Statement (.ssRelease x0 x1) := fun _ _ _ => Ranges.other rfl rfl
theorem Ranges.ctrClose : ∀ x0 x1, Ranges.Statement (.ctrClose x0 x1) := fun _ _ _ => Ranges.other rfl rfl
theorem Ranges.ctrOpen : ∀ x0 x1, Ranges.Statement (.ctrOpen x0 x1) := fun _ _ _ => Ranges.other rfl rfl
theorem Ranges.ctrFbSample : ∀ x0 x1, Ranges.Statement (.ctrFbSample x0 x1) := fun _ _ _ => Ranges.other rfl rfl
theorem Ranges.ctrCloseTimeout : ∀ x0, Ranges.Statement (.ctrCloseTimeout x0) := fun _ _ => Ranges.other rfl rfl
theorem Ranges.weldWindowEnd : ∀ x0, Ranges.Statement (.weldWindowEnd x0) := fun _ _ => Ranges.other rfl rfl
theorem Ranges.weldRecheck : ∀ x0, Ranges.Statement (.weldRecheck x0) := fun _ _ => Ranges.other rfl rfl
theorem Ranges.ctrVoltageSample : ∀ x0, Ranges.Statement (.ctrVoltageSample x0) := fun _ _ => Ranges.other rfl rfl
theorem Ranges.prechargeStart : ∀ x0 x1, Ranges.Statement (.prechargeStart x0 x1) := fun _ _ _ => Ranges.other rfl rfl
theorem Ranges.prechargeTimeout : Ranges.Statement .prechargeTimeout := fun _ => Ranges.other rfl rfl
theorem Ranges.prechargeOverlapEnd : Ranges.Statement .prechargeOverlapEnd := fun _ => Ranges.other rfl rfl
theorem Ranges.prechargeAbort : ∀ x0 x1, Ranges.Statement (.prechargeAbort x0 x1) := fun _ _ _ => Ranges.other rfl rfl
theorem Ranges.mtrSample : ∀ x0 x1 x2 x3, Ranges.Statement (.mtrSample x0 x1 x2 x3) := fun _ _ _ _ _ => Ranges.other rfl rfl
theorem Ranges.accumulationStep : Ranges.Statement .accumulationStep := fun _ => Ranges.other rfl rfl
theorem Ranges.mtrSecond : ∀ x0 x1, Ranges.Statement (.mtrSecond x0 x1) := fun _ _ _ => Ranges.other rfl rfl
theorem Ranges.mtrCtrlWrite : ∀ x0 x1 x2, Ranges.Statement (.mtrCtrlWrite x0 x1 x2) := fun _ _ _ _ => Ranges.other rfl rfl
theorem Ranges.mtrUserWrite : ∀ x0 x1 x2 x3, Ranges.Statement (.mtrUserWrite x0 x1 x2 x3) := fun _ _ _ _ _ => Ranges.other rfl rfl
theorem Ranges.clear : ∀ x0 x1, Ranges.Statement (.clear x0 x1) := fun _ _ _ => Ranges.other rfl rfl
theorem Ranges.pulseEmit : Ranges.Statement .pulseEmit := fun _ => Ranges.other rfl rfl
theorem Ranges.mtrSnap : ∀ x0 x1, Ranges.Statement (.mtrSnap x0 x1) := fun _ _ _ => Ranges.other rfl rfl
theorem Ranges.mtrCapTrig : ∀ x0 x1, Ranges.Statement (.mtrCapTrig x0 x1) := fun _ _ _ => Ranges.other rfl rfl
theorem Ranges.captureResume : ∀ x0, Ranges.Statement (.captureResume x0) := fun _ _ => Ranges.other rfl rfl
theorem Ranges.sessionOpen : ∀ x0 x1, Ranges.Statement (.sessionOpen x0 x1) := fun _ _ _ => Ranges.other rfl rfl
theorem Ranges.sessionClose : ∀ x0 x1, Ranges.Statement (.sessionClose x0 x1) := fun _ _ _ => Ranges.other rfl rfl
theorem Ranges.sessionAmount : ∀ x0 x1, Ranges.Statement (.sessionAmount x0 x1) := fun _ _ _ => Ranges.other rfl rfl
theorem Ranges.sessionClosingTimeout : Ranges.Statement .sessionClosingTimeout := fun _ => Ranges.other rfl rfl
theorem Ranges.amountTimeout : ∀ x0, Ranges.Statement (.amountTimeout x0) := fun _ _ => Ranges.other rfl rfl
theorem Ranges.recordSigned : ∀ x0, Ranges.Statement (.recordSigned x0) := fun _ _ => Ranges.other rfl rfl
theorem Ranges.signRetry : ∀ x0, Ranges.Statement (.signRetry x0) := fun _ _ => Ranges.other rfl rfl
theorem Ranges.recordPublish : Ranges.Statement .recordPublish := fun _ => Ranges.other rfl rfl
theorem Ranges.bilMdCmd : ∀ x0 x1, Ranges.Statement (.bilMdCmd x0 x1) := fun _ _ _ => Ranges.other rfl rfl
theorem Ranges.topup : ∀ x0 x1, Ranges.Statement (.topup x0 x1) := fun _ _ _ => Ranges.other rfl rfl
theorem Ranges.ppFbTimeout : Ranges.Statement .ppFbTimeout := fun _ => Ranges.other rfl rfl
theorem Ranges.vanaLow : Ranges.Statement .vanaLow := fun _ => Ranges.other rfl rfl
theorem Ranges.vanaOk : Ranges.Statement .vanaOk := fun _ => Ranges.other rfl rfl
theorem Ranges.buckLimit : Ranges.Statement .buckLimit := fun _ => Ranges.other rfl rfl
theorem Ranges.lifeMinute : Ranges.Statement .lifeMinute := fun _ => Ranges.other rfl rfl
theorem Ranges.lifeStore : Ranges.Statement .lifeStore := fun _ => Ranges.other rfl rfl
theorem Ranges.paramCommit : ∀ x0 x1, Ranges.Statement (.paramCommit x0 x1) := fun _ _ _ => Ranges.other rfl rfl
theorem Ranges.symbolError : ∀ x0 x1 x2, Ranges.Statement (.symbolError x0 x1 x2) := fun _ _ _ _ => Ranges.other rfl rfl
theorem Ranges.trainFail : ∀ x0, Ranges.Statement (.trainFail x0) := fun _ _ => Ranges.other rfl rfl
theorem Ranges.icgLockLost : ∀ x0, Ranges.Statement (.icgLockLost x0) := fun _ _ => Ranges.other rfl rfl
theorem Ranges.tapSessionEnd : Ranges.Statement .tapSessionEnd := fun _ => Ranges.other rfl rfl

end Sys2Proof.Laws
end

