-- ==== Sys2Proof/Laws/Regs.lean ====
section
/-! SUPPORT. Laws of the operations every block uses: which bits of the register file a field write leaves, what logging and a fault change, and
what delivering an event line changes. -/

namespace Sys2Proof.Machine

open Sys2Proof

variable {fs : List Field} {s t u : State}

/-! ## Register bits -/

theorem RegsBut.refl (fs : List Field) (s : State) : RegsBut fs s s := fun _ _ _ _ => rfl

theorem RegsBut.of_regs (h : t.regs = s.regs) : RegsBut fs s t := fun _ _ _ _ => by simp [State.word, h]

theorem RegsBut.trans (h1 : RegsBut fs s t) (h2 : RegsBut fs t u) : RegsBut fs s u :=
  fun a n hn h => (h2 a n hn h).trans (h1 a n hn h)

theorem RegsBut.mono {gs : List Field} (h : RegsBut fs s t) (hs : ∀ f, f ∈ fs → f ∈ gs) : RegsBut gs s t :=
  fun a n hn hg => h a n hn (fun f hf => hg f (hs f hf))

/-- Bits outside a field that is written stay (R5). -/
theorem State.bit_setFld (s : State) (f : Field) (v a n : Nat) (hn : n < 32) (hf : f.hi < 32) (h : f.addr = a → n < f.lo ∨ f.hi < n) :
    ((s.setFld f v).word a).getLsbD n = (s.word a).getLsbD n := by
  by_cases ha : f.addr = a
  · have hb := h ha
    subst ha
    have hw : (s.setFld f v).word f.addr = putBits (s.word f.addr) f.hi f.lo v := by simp [State.word, State.setFld, setField]
    rw [hw]
    by_cases hl : f.lo ≤ f.hi
    · rw [putBits_bit _ _ _ _ _ hl hf hn]
      rcases hb with hb | hb
      · rw [if_neg (by omega)]
      · rw [if_neg (by omega)]
    · have : f.hi + 1 - f.lo = 0 := by omega
      have h0 : putBits (s.word f.addr) f.hi f.lo v = s.word f.addr := by
        simp only [putBits, this]
        rw [show ((1#32 <<< 0) - 1#32) = 0#32 from by decide, BitVec.zero_shiftLeft, BitVec.and_zero, BitVec.or_zero, show (~~~(0#32)) = 4294967295#32 from by decide]
        exact BitVec.and_allOnes
      rw [h0]
  · rw [State.word_setFld_ne _ _ _ _ ha]

theorem RegsBut.setFld (f : Field) (v : Nat) (h : RegsBut fs s t) (hm : f ∈ fs) (hf : f.hi < 32) : RegsBut fs s (t.setFld f v) :=
  fun a n hn hg => (State.bit_setFld t f v a n hn hf (hg f hm)).trans (h a n hn hg)

theorem RegsBut.setWord (a : Nat) (v : Word) (h : RegsBut fs s t) (hm : wordAt a ∈ fs) : RegsBut fs s (t.setWord a v) := by
  intro b n hn hg
  refine Eq.trans ?_ (h b n hn hg)
  by_cases hab : a = b
  · rcases hg (wordAt a) hm hab with h1 | h1
    · exact absurd h1 (Nat.not_lt_zero n)
    · exact absurd h1 (Nat.not_lt.mpr (Nat.le_of_lt_succ hn))
  · rw [State.word_setWord_ne _ _ _ _ hab]

/-! ## One bit of a field -/

theorem getBits_one (w : Word) (k : Nat) (hk : k < 32) : getBits w k k = (if w.getLsbD k then 1 else 0) := by
  have h := getBits_bit w k k 0 (Nat.le_refl k) hk
  have hl := getBits_lt w k k (Nat.le_refl k) hk
  have h2 : getBits w k k < 2 := by simpa using hl
  have hb : (getBits w k k).testBit 0 = w.getLsbD k := by simpa using h
  rw [Nat.testBit_zero] at hb
  rw [← hb]
  rcases Nat.mod_two_eq_zero_or_one (getBits w k k) with h0 | h0 <;> simp [h0] <;> omega

/-- The bit of a field that was written reads as written. -/
theorem State.fldBit_setFldBit_self (s : State) (f : Field) (n : Nat) (b : Bool) (h1 : f.lo + n ≤ f.hi) (h2 : f.hi < 32) :
    (s.setFldBit f n b).fldBit f n = b := by
  have hw : (s.setFldBit f n b).word f.addr = putBits (s.word f.addr) (f.lo + n) (f.lo + n) (bit b) := by
    simp [State.word, State.setFldBit, State.setBit, State.setFld, setField]
  show (getBits ((s.setFldBit f n b).word f.addr) f.hi f.lo).testBit n = b
  rw [getBits_bit _ _ _ _ (by omega) h2, hw]
  have hn : n < f.hi + 1 - f.lo := by omega
  rw [putBits_bit _ _ _ _ _ (Nat.le_refl _) (by omega) (by omega)]
  cases b <;> simp [hn, bit]

/-- The other bits of a field stay when one is written. -/
theorem State.fldBit_setFldBit_ne (s : State) (f : Field) (n m : Nat) (b : Bool) (h1 : f.lo + n ≤ f.hi) (h2 : f.hi < 32) (h : m ≠ n) :
    (s.setFldBit f n b).fldBit f m = s.fldBit f m := by
  have hw : (s.setFldBit f n b).word f.addr = putBits (s.word f.addr) (f.lo + n) (f.lo + n) (bit b) := by
    simp [State.word, State.setFldBit, State.setBit, State.setFld, setField]
  show (getBits ((s.setFldBit f n b).word f.addr) f.hi f.lo).testBit m = (getBits (s.word f.addr) f.hi f.lo).testBit m
  rw [getBits_bit _ _ _ _ (by omega) h2, getBits_bit _ _ _ _ (by omega) h2, hw]
  by_cases hm : m < f.hi + 1 - f.lo
  · rw [putBits_bit _ _ _ _ _ (Nat.le_refl _) (by omega) (by omega), if_neg (by omega)]
  · simp [hm]

/-! ## Event lines -/

/-- Delivering a line changes cores alone. -/
theorem State.deliver_else (line : Nat) : ∀ (cs : List Nat) (s : State),
    s.deliver line cs = { s with cpu := { s.cpu with cores := (s.deliver line cs).cpu.cores } }
  | [], _ => rfl
  | c :: cs, s => by
    have h := State.deliver_else line cs (s.onCore c (fun k => { k with pend := k.pend ||| (1#32 <<< line) }))
    have e : s.deliver line (c :: cs) = (s.onCore c (fun k => { k with pend := k.pend ||| (1#32 <<< line) })).deliver line cs := rfl
    rw [e, h]
    rfl

@[simp] theorem State.deliver_regs (s : State) (line : Nat) (cs : List Nat) : (s.deliver line cs).regs = s.regs := by rw [State.deliver_else]
@[simp] theorem State.deliver_mem (s : State) (line : Nat) (cs : List Nat) : (s.deliver line cs).mem = s.mem := by rw [State.deliver_else]
@[simp] theorem State.deliver_tmk (s : State) (line : Nat) (cs : List Nat) : (s.deliver line cs).tmk = s.tmk := by rw [State.deliver_else]
@[simp] theorem State.deliver_nj (s : State) (line : Nat) (cs : List Nat) : (s.deliver line cs).nj = s.nj := by rw [State.deliver_else]
@[simp] theorem State.deliver_free (s : State) (line : Nat) (cs : List Nat) : (s.deliver line cs).free = s.free := by rw [State.deliver_else]
@[simp] theorem State.deliver_pending (s : State) (line : Nat) (cs : List Nat) : (s.deliver line cs).pending = s.pending := by rw [State.deliver_else]

/-- The cores a line is delivered to have its pending bit set, and nothing else of any core has changed. -/
theorem State.core_deliver (line d : Nat) : ∀ (cs : List Nat) (s : State), (∀ c, c ∈ cs → c < s.cpu.cores.length) →
    (s.deliver line cs).core d = if d ∈ cs then { s.core d with pend := (s.core d).pend ||| (1#32 <<< line) } else s.core d
  | [], _, _ => rfl
  | c :: cs, s, h => by
    have e : s.deliver line (c :: cs) = (s.onCore c (fun k => { k with pend := k.pend ||| (1#32 <<< line) })).deliver line cs := rfl
    have hl : ∀ x, x ∈ cs → x < (s.onCore c (fun k => { k with pend := k.pend ||| (1#32 <<< line) })).cpu.cores.length := by
      intro x hx
      simpa [State.onCore] using h x (List.mem_cons_of_mem _ hx)
    rw [e, State.core_deliver line d cs _ hl]
    by_cases hd : c = d
    · subst hd
      rw [State.core_onCore_self _ _ _ (h c (List.mem_cons_self ..))]
      by_cases hm : c ∈ cs
      · simp [hm, BitVec.or_assoc]
      · simp [hm]
    · rw [State.core_onCore_ne _ _ _ _ hd]
      by_cases hm : d ∈ cs <;> simp [hm, Ne.symm hd]

/-! ## The log -/

theorem LogOnly.refl (s : State) : LogOnly s s := ⟨rfl, RegsBut.refl _ _⟩

theorem LogOnly.trans (h1 : LogOnly s t) (h2 : LogOnly t u) : LogOnly s u := by
  refine ⟨?_, h1.2.trans h2.2⟩
  have a := h1.1
  have b := h2.1
  rw [b, a]

theorem LogOnly.setFld (f : Field) (v : Nat) (h : LogOnly s t) (hm : f ∈ logRegs) (hf : f.hi < 32) : LogOnly s (t.setFld f v) := by
  refine ⟨?_, h.2.setFld f v hm hf⟩
  have a := h.1
  rw [a]
  rfl

theorem LogOnly.setWord (a : Nat) (v : Word) (h : LogOnly s t) (hm : wordAt a ∈ logRegs) : LogOnly s (t.setWord a v) := by
  refine ⟨?_, h.2.setWord a v hm⟩
  have a := h.1
  rw [a]
  rfl

theorem LogOnly.onNj (n : Nj) (h : LogOnly s t) : LogOnly s { t with nj := n } := by
  refine ⟨?_, fun a k hk hg => h.2 a k hk hg⟩
  have a := h.1
  rw [a]

theorem State.putSlot_only (s : State) (e : LogEntry) : LogOnly s (s.putSlot e) := by
  unfold State.putSlot
  dsimp only
  split
  · exact LogOnly.setFld F.NJD_STATUS_nv_fail _ (LogOnly.setFld F.NJD_LOG_COUNT_count _ ((LogOnly.refl s).onNj _) (by decide) (by decide)) (by decide) (by decide)
  · exact LogOnly.setWord Reg.NJD_LOG_HEAD _ (LogOnly.setFld F.NJD_LOG_COUNT_count _ ((LogOnly.refl s).onNj _) (by decide) (by decide)) (by decide)

theorem State.writeEntry_only (e : LogEntry) (limit : Nat) : ∀ (fuel : Nat) (s : State), LogOnly s (s.writeEntry e limit fuel).2.2
  | 0, s => LogOnly.refl s
  | fuel + 1, s => by
    unfold State.writeEntry
    split
    · split
      · exact (State.putSlot_only s e).trans (State.writeEntry_only e limit fuel _)
      · exact State.putSlot_only s e
    · exact LogOnly.refl s

theorem State.logSummary_only (s : State) : LogOnly s s.logSummary := by
  unfold State.logSummary
  dsimp only
  split
  · exact (State.writeEntry_only _ _ _ _).onNj _
  · exact (LogOnly.refl s).onNj _

theorem LogOnly.summary (h : LogOnly s t) : LogOnly s t.logSummary := h.trans (State.logSummary_only t)

theorem LogOnly.cond {c : Prop} [Decidable c] {a b : State} (h1 : LogOnly s a) (h2 : LogOnly s b) : LogOnly s (if c then a else b) := by
  split
  · exact h1
  · exact h2

theorem State.logRefuse_only (s : State) (cls : Nat) : LogOnly s (s.logRefuse cls).1 := by
  have h1 : LogOnly s { s with nj := { s.nj with clsCount := upd s.nj.clsCount cls (fun n => satAdd n 1 (2 ^ 32 - 1)),
                                                 sumMask := s.nj.sumMask ||| (1 <<< cls) } } := (LogOnly.refl s).onNj _
  have h2 := LogOnly.cond (c := (!s.is F.NJD_LOG_COUNT_main_full) = true) (h1.setFld F.NJD_LOG_COUNT_main_full 1 (by decide) (by decide)).summary h1
  exact LogOnly.cond h2.summary h2

theorem LogOnly.entry (h : LogOnly s t) (e : LogEntry) (limit fuel : Nat) : LogOnly s (t.writeEntry e limit fuel).2.2 :=
  h.trans (State.writeEntry_only e limit fuel t)

theorem LogOnly.refuse (h : LogOnly s t) (cls : Nat) : LogOnly s (t.logRefuse cls).1 := h.trans (State.logRefuse_only t cls)

theorem State.logOne_only (s : State) (v : LogEvent) : LogOnly s (s.logOne v).1 := by
  unfold State.logOne
  dsimp only
  generalize (if v.cont.isSome then 2 else 1) = need
  split
  · exact State.logRefuse_only _ _
  · split
    · split
      · exact State.writeEntry_only _ _ _ _
      · split
        · exact (State.writeEntry_only _ _ _ _).entry _ _ _
        · exact ((State.writeEntry_only _ _ _ _).entry _ _ _).refuse _
    · exact (State.writeEntry_only _ _ _ _).refuse _

theorem LogOnly.faults : ∀ (l : List Nat) (t : State), LogOnly s t →
    LogOnly s (l.foldl (fun t c => ((t.setFld F.NJD_FAULT_code c).setFld F.NJD_FAULT_valid 1).setFld F.HSP_ATTN_fault 1) t)
  | [], _, h => h
  | c :: l, t, h => LogOnly.faults l _ (((h.setFld F.NJD_FAULT_code c (by decide) (by decide)).setFld F.NJD_FAULT_valid 1 (by decide) (by decide)).setFld
      F.HSP_ATTN_fault 1 (by decide) (by decide))

theorem State.logRun_only : ∀ (fuel : Nat) (vs : List LogEvent) (s : State), LogOnly s (State.logRun fuel vs s)
  | 0, _, s => LogOnly.refl s
  | _ + 1, [], s => LogOnly.refl s
  | fuel + 1, v :: vs, s => by
    have h := fun l => LogOnly.faults l _ (State.logOne_only s v)
    unfold State.logRun
    dsimp only
    refine LogOnly.trans ?_ (State.logRun_only fuel _ _)
    split
    · exact (h _).setFld F.HSP_ATTN_fault 1 (by decide) (by decide)
    · exact h _

/-- An event logged changes the log and the registers of the log alone (R124). -/
theorem State.log_only (s : State) (v : LogEvent) : LogOnly s (s.log v) := by
  unfold State.log
  split
  · exact LogOnly.refl s
  · exact State.logRun_only _ _ _

@[simp] theorem State.log_mem (s : State) (v : LogEvent) : (s.log v).mem = s.mem := by rw [(State.log_only s v).1]
@[simp] theorem State.log_cpu (s : State) (v : LogEvent) : (s.log v).cpu = s.cpu := by rw [(State.log_only s v).1]
@[simp] theorem State.log_tmk (s : State) (v : LogEvent) : (s.log v).tmk = s.tmk := by rw [(State.log_only s v).1]
@[simp] theorem State.log_free (s : State) (v : LogEvent) : (s.log v).free = s.free := by rw [(State.log_only s v).1]
@[simp] theorem State.log_pending (s : State) (v : LogEvent) : (s.log v).pending = s.pending := by rw [(State.log_only s v).1]

/-- A fault changes its fault register, the log and the registers of the log alone (R8). -/
theorem State.fault_only (s : State) (code : Nat) (reg : Option Nat) :
    s.fault code reg = { s with regs := (s.fault code reg).regs, nj := (s.fault code reg).nj } ∧
    RegsBut (logRegs ++ (match reg with | some a => [⟨a, 15, 0⟩, ⟨a, 31, 31⟩] | none => [])) s (s.fault code reg) := by
  cases reg with
  | none => exact ⟨(State.log_only s (faultEvent code)).1, (State.log_only s (faultEvent code)).2.mono (fun f hf => List.mem_append_left _ hf)⟩
  | some a =>
    have h := State.log_only ((s.setFld ⟨a, 15, 0⟩ code).setFld ⟨a, 31, 31⟩ 1) (faultEvent code)
    refine ⟨?_, ?_⟩
    · have h1 := h.1
      simp only [State.fault] at h1 ⊢
      rw [h1]
      rfl
    · have h0 : RegsBut (logRegs ++ [⟨a, 15, 0⟩, ⟨a, 31, 31⟩]) s ((s.setFld ⟨a, 15, 0⟩ code).setFld ⟨a, 31, 31⟩ 1) :=
        ((RegsBut.refl _ s).setFld _ _ (by simp) (by simp)).setFld _ _ (by simp) (by simp)
      exact h0.trans (h.2.mono (fun f hf => List.mem_append_left _ hf))

@[simp] theorem State.fault_mem (s : State) (code : Nat) (reg : Option Nat) : (s.fault code reg).mem = s.mem := by rw [(State.fault_only s code reg).1]
@[simp] theorem State.fault_cpu (s : State) (code : Nat) (reg : Option Nat) : (s.fault code reg).cpu = s.cpu := by rw [(State.fault_only s code reg).1]
@[simp] theorem State.fault_tmk (s : State) (code : Nat) (reg : Option Nat) : (s.fault code reg).tmk = s.tmk := by rw [(State.fault_only s code reg).1]

end Sys2Proof.Machine
end

