-- ==== Sys2Proof/Tests/Slice0.lean ====
section
/-! SUPPORT. The author's own tests.

1. Well-formedness: an ill-formed command for each check, which the check refuses, and a well-formed one beside it.
2. Witnesses. For a statement X of Certificates/Slice0/Obligations.lean, asks_X lists the hypotheses of each of its clauses as Bools, in the order
of its text, and witness_X names runs (a state and operands) and the clauses whose hypotheses each of them meets all together. Clauses that meet an
opaque constant (a digest, a mark) or a whole block unit are witnessed by theorems of their own (WitUnit, WitBoot).
3. Values from the spec's worked cases, and the statements about the whole block.

Where a statement gathers several parts, the witnesses carry the names of the parts:
- ArithmeticResults: witness_AluResults, witness_ImmediateResults
- WideAndSaturatingResults: witness_ProductsAndSaturation, witness_PairResults
- Control: witness_ControlTransfers, witness_ControlRegisters
- LoadsAndStores: witness_Loads, witness_Stores
- StallsAndEntries: witness_StallsEnd, witness_AsynchronousEntries
- SafetyCoreMonitors: witness_SafetyMonitors, witness_Watchdogs, witness_StartAndHalt
- WaitsAndSignals: witness_WaitInstructions, witness_SignalDelivers
- VaultUpkeepAndLifecycle: witness_VaultUpkeep, witness_LifecycleAndTap
- DoorbellsAndTimeouts: witness_Doorbells, witness_DeliveryTimeouts
- NightjarSupplyAndClock: witness_NightjarSupply, witness_RealTimeClock
- Resets: witness_ResetLeaves, witness_ResetRequests
- TimeUnits: witness_CompareUnits, witness_MeterAndWallTime
- Exceptions: witness_AccessExceptions, witness_SynchronousExceptions
- QueueTableAndDescriptors: witness_QueueTable, witness_QueueDescriptorCommands
- CopyAndMemoryPort: witness_CopyChannels, witness_MemoryPort, witness_RemoteWindowsServed
- VaultCommands: witness_VaultCommandsStart, witness_VaultEffects, witness_VaultCompletion
- AtomicsAndSafetyInstructions: witness_Atomics, witness_SafetyInstructions
- HostWritesAndStreams: witness_HostWritesAndTimeout, witness_HostStreams
- HostFrames: witness_HostFramesIgnored, witness_HostFramesAccepted
- LogAndTamper: witness_LogEntries, witness_TamperAndSeal -/

open Sys2Proof Sys2Proof.Machine

set_option synthInstance.maxHeartbeats 400000
set_option synthInstance.maxSize 2000
set_option maxRecDepth 100000
set_option linter.unusedVariables false
set_option Elab.async false

namespace Sys2Proof.Tests

/-! ## States to test on -/
/-- Fields of registers set one after another. -/
def put (s : State) (l : List (Field × Nat)) : State := l.foldl (fun t p => t.setFld p.1 p.2) s
/-- A Manager after Dawn, meter time running at 1,000,000. -/
def up : State := put { State.reset with tmk := { State.reset.tmk with mtRun := true, mt := 1000000 } } [(F.DSK_DAWN_STATUS_done, 1), (F.SYS_ROLE_role, 1)]
/-- As `up`, a Worker. -/
def wk : State := put up [(F.SYS_ROLE_role, 2)]
/-- Core `c` runs at the start of its SRAM, general register n holding `f n`. -/
def run (c : Nat) (f : Nat → Nat) (s : State := up) : State :=
  s.onCore c (fun k => { k with running := true, started := true, pc := if c = 4 then 0x30000000 else 0x20000000, evec := 0x20001000, g := (List.range 32).map (fun n => if n = 0 then 0 else w32 (f n)) })
/-- Bytes of memory from an address on. -/
def poke (a : Nat) (l : List Nat) (s : State) : State := { s with mem := Store.setBytes s.mem a (l.map (fun x => BitVec.ofNat 8 x)) }
/-- The queue table at the top of SRAM, with 256 descriptors or more, and descriptors in the cache. -/
def queues (l : List (Nat × Desc)) (s : State := up) : State :=
  { put s [(F.QE_TABLE_CFG_base, 0x10080), (F.QE_TABLE_CFG_k, 10), (F.QE_TABLE_CFG_en, 1)] with qe := { s.qe with cache := l.map (fun p => ⟨p.1, p.2, false⟩) } }
/-- Core `c` at Task level with one region over the whole of memory. -/
def task (c : Nat) (s : State) : State := s.onCore c (fun k => { k with task := true, treg := (k.treg.set 0 0x20000000).set 1 0x20100007 })
/-- The command carries this frame. -/
def carries (i : Instr) (f : HostFrame) : Bool :=
  match i with
  | .regRead g _ => decide (g = f ∧ f.op = 1)
  | .regWrite g => decide (g = f ∧ f.op = 2)
  | .strRead g => decide (g = f ∧ f.op = 3)
  | .strWrite g => decide (g = f ∧ f.op = 4)
  | .status g => decide (g = f ∧ f.op = 5)
  | _ => false

/-- Each run's answers hold at the clauses it is named for. -/
def shows (l : List (List Bool × List Nat)) : Bool := l.all (fun p => p.2.all (fun k => p.1.getD k false))

/-- A command with one operand just outside its range is not well formed. -/
theorem test_illFormed_a : ([
    .registerWrite .host (2^32) 0,
    .dawnSupplyReady false 256 0,
    .dawnSupplyReady false 0 8,
    .xtalMtStarted (List.replicate 25 0) 0,
    .xtalMtStarted (List.replicate 24 0) 4,
    .dawnSealSample 256 false,
    .opChangeTimeout 4,
    .cmpArm .host 8 0,
    .icgLock 4,
    .epCalibrate 12 0,
    .wearMeasure 8 0 0,
    .wearMeasure 0 4096 0,
    .add 5 0 0 0,
    .add 0 32 0 0,
    .add 0 0 32 0,
    .add 0 0 0 32,
    .slli 0 0 0 32,
    .csel 0 0 0 0 32,
    .muls64q 0 0 0 0 32,
    .sw 0 32 0 0,
    .mfcr 0 0 32,
    .stest 0 16 false,
    .signal 0 32,
    .krandResume 4,
    .cpuMboxWrite .host 5 0,
    .rwinReq 65536 false 0 0 1 0,
    .rwinReq 0 false 4 0 1 0,
    .rwinReq 0 false 0 (2^29) 1 0,
    .rwinReq 0 false 0 0 3 0,
    .rwinReq 0 false 0 0 1 (2^32),
    .njRestart 3 false 0,
    .njRestart 0 false 4096,
    .oscResume (2^32),
    .wrenCycle 16 0 0 0,
    .wrenCycle 0 256 0 0,
    .wrenCycle 0 0 256 0] : List Instr).all (fun i => !wellFormed i) = true := by decide

/-- A command with one operand just outside its range is not well formed. -/
theorem test_illFormed_b : ([
    .wrenCycle 0 0 0 256,
    .partDigestDone 32,
    .regRead ⟨false, 16, 0, 0, 0, 0, [], 0⟩ 0,
    .writeBufferApply (1 - 1),
    .writeBufferApply 129,
    .resvTimeout 65536,
    .fullRetry 65536,
    .copyGo .host 2 0,
    .trainAligned 4,
    .trainWordsExchanged 0 (1 - 1) 0 false,
    .trainWordsExchanged 0 4 0 false,
    .trainWordsExchanged 0 1 4 false,
    .creditUpdate 0 false 256,
    .admission (1 - 1),
    .admission 16,
    .cpSample false 3300001,
    .ppSample 4096,
    .rbnModeWrite .host 0 65536 0,
    .rbnModeWrite .host 0 0 256,
    .readerTransactionDone 10 0 0 [],
    .readerTransactionDone 0 8 0 [],
    .readerTransactionDone 0 0 65536 [],
    .detectPing 0 false 4096 0 0,
    .detectPing 0 false 0 4096 0,
    .fieldAppear (2^24) 0,
    .fieldAppear 0 256,
    .selectByName (List.replicate 17 0),
    .selectFile 65536,
    .readBinary 256 0 1 0 false,
    .readBinary 0 256 1 0 false,
    .readBinary 0 0 (1 - 1) 0 false,
    .readBinary 0 0 257 0 false,
    .readBinary 0 0 1 16 false,
    .readBinaryOdd 65536 1 0 false,
    .updateBinary 0 0 (List.replicate 256 0) 0,
    .wireLockExpire 32] : List Instr).all (fun i => !wellFormed i) = true := by decide

/-- A command with one operand just outside its range is not well formed. -/
theorem test_illFormed_c : ([
    .thermalSample 0 0 (-1000 - 1),
    .thermalSample 0 0 3001,
    .testInjectionDone 1024 0,
    .testInjectionDone 0 256,
    .dacReadback 16 0,
    .dacReadback 0 1024,
    .rdcUpdate (-32768 - 1) (-32768) 0,
    .rdcUpdate 32768 (-32768) 0,
    .rdcUpdate (-32768) (-32768 - 1) 0,
    .rdcUpdate (-32768) 32768 0,
    .rdcUpdate (-32768) (-32768) 65536,
    .fgHalfCycle false 4096 false,
    .insHalfPeriod 3300001 0,
    .insHalfPeriod 0 3300001,
    .efmSettingsWrite .host (0x40007000 - 1) 0 false,
    .efmSettingsWrite .host 0x40008000 0 false,
    .envelopeSend 64,
    .currentLimit 6 false 0,
    .currentLimit 0 false (2^25),
    .adcTrigger 2,
    .adcSequenceDone (List.replicate 17 0),
    .adcSequenceDone (List.replicate 16 4096),
    .mtrSample (List.replicate 9 0) (List.replicate 8 0) (List.replicate 8 0) 0,
    .mtrSample (List.replicate 8 0) (List.replicate 9 0) (List.replicate 8 0) 0,
    .mtrSample (List.replicate 8 0) (List.replicate 8 0) (List.replicate 9 0) 0,
    .mtrSample (List.replicate 8 0) (List.replicate 8 0) (List.replicate 8 0) 256,
    .mtrSecond (-64 - 1) 0,
    .mtrSecond 192 0,
    .mtrSecond (-64) 65536,
    .mtrUserWrite .host (0x4000A000 - 1) 0 false,
    .mtrUserWrite .host 0x4000B000 0 false,
    .captureResume 2,
    .amountTimeout 8,
    .symbolError 0 false 17,
    .frameForward 0 { hops := 16 }] : List Instr).all (fun i => !wellFormed i) = true := by decide

/-- The same commands with that operand at the end of its range are well formed. -/
theorem test_wellFormed_a : ([
    .registerWrite .host (2^32 - 1) 0,
    .dawnSupplyReady false (256 - 1) 0,
    .dawnSupplyReady false 0 (8 - 1),
    .xtalMtStarted (List.replicate 24 0) 0,
    .xtalMtStarted (List.replicate 24 0) (4 - 1),
    .dawnSealSample (256 - 1) false,
    .opChangeTimeout (4 - 1),
    .cmpArm .host (8 - 1) 0,
    .icgLock (4 - 1),
    .epCalibrate (12 - 1) 0,
    .wearMeasure (8 - 1) 0 0,
    .wearMeasure 0 (4096 - 1) 0,
    .add (5 - 1) 0 0 0,
    .add 0 (32 - 1) 0 0,
    .add 0 0 (32 - 1) 0,
    .add 0 0 0 (32 - 1),
    .slli 0 0 0 (32 - 1),
    .csel 0 0 0 0 (32 - 1),
    .muls64q 0 0 0 0 (32 - 1),
    .sw 0 (32 - 1) 0 0,
    .mfcr 0 0 (32 - 1),
    .stest 0 (16 - 1) false,
    .signal 0 (32 - 1),
    .krandResume (4 - 1),
    .cpuMboxWrite .host (5 - 1) 0,
    .rwinReq (65536 - 1) false 0 0 1 0,
    .rwinReq 0 false (4 - 1) 0 1 0,
    .rwinReq 0 false 0 (2^29 - 1) 1 0,
    .rwinReq 0 false 0 0 4 0,
    .rwinReq 0 false 0 0 1 (2^32 - 1),
    .njRestart (3 - 1) false 0,
    .njRestart 0 false (4096 - 1),
    .oscResume (2^32 - 1),
    .wrenCycle (16 - 1) 0 0 0,
    .wrenCycle 0 (256 - 1) 0 0,
    .wrenCycle 0 0 (256 - 1) 0] : List Instr).all (wellFormed) = true := by decide

/-- The same commands with that operand at the end of its range are well formed. -/
theorem test_wellFormed_b : ([
    .wrenCycle 0 0 0 (256 - 1),
    .partDigestDone (32 - 1),
    .regRead ⟨false, 5, 0, 0, 0, 0, [], 0⟩ 0,
    .writeBufferApply (1),
    .writeBufferApply 128,
    .resvTimeout (65536 - 1),
    .fullRetry (65536 - 1),
    .copyGo .host (2 - 1) 0,
    .trainAligned (4 - 1),
    .trainWordsExchanged 0 (1) 0 false,
    .trainWordsExchanged 0 (4 - 1) 0 false,
    .trainWordsExchanged 0 1 (4 - 1) false,
    .creditUpdate 0 false (256 - 1),
    .admission (1),
    .admission (16 - 1),
    .cpSample false 3300000,
    .ppSample (4096 - 1),
    .rbnModeWrite .host 0 (65536 - 1) 0,
    .rbnModeWrite .host 0 0 (256 - 1),
    .readerTransactionDone (10 - 1) 0 0 [],
    .readerTransactionDone 0 (8 - 1) 0 [],
    .readerTransactionDone 0 0 (65536 - 1) [],
    .detectPing 0 false (4096 - 1) 0 0,
    .detectPing 0 false 0 (4096 - 1) 0,
    .fieldAppear (2^24 - 1) 0,
    .fieldAppear 0 (256 - 1),
    .selectByName (List.replicate 16 0),
    .selectFile (65536 - 1),
    .readBinary (256 - 1) 0 1 0 false,
    .readBinary 0 (256 - 1) 1 0 false,
    .readBinary 0 0 (1) 0 false,
    .readBinary 0 0 (257 - 1) 0 false,
    .readBinary 0 0 1 (16 - 1) false,
    .readBinaryOdd (65536 - 1) 1 0 false,
    .updateBinary 0 0 (List.replicate 255 0) 0,
    .wireLockExpire (32 - 1)] : List Instr).all (wellFormed) = true := by decide

/-- The same commands with that operand at the end of its range are well formed. -/
theorem test_wellFormed_c : ([
    .thermalSample 0 0 (-1000),
    .thermalSample 0 0 3000,
    .testInjectionDone (1024 - 1) 0,
    .testInjectionDone 0 (256 - 1),
    .dacReadback (16 - 1) 0,
    .dacReadback 0 (1024 - 1),
    .rdcUpdate (-32768) (-32768) 0,
    .rdcUpdate (32768 - 1) (-32768) 0,
    .rdcUpdate (-32768) (-32768) 0,
    .rdcUpdate (-32768) (32768 - 1) 0,
    .rdcUpdate (-32768) (-32768) (65536 - 1),
    .fgHalfCycle false (4096 - 1) false,
    .insHalfPeriod 3300000 0,
    .insHalfPeriod 0 3300000,
    .efmSettingsWrite .host (0x40007000) 0 false,
    .efmSettingsWrite .host (0x40008000 - 1) 0 false,
    .envelopeSend (64 - 1),
    .currentLimit (6 - 1) false 0,
    .currentLimit 0 false (2^25 - 1),
    .adcTrigger (2 - 1),
    .adcSequenceDone (List.replicate 16 0),
    .adcSequenceDone (List.replicate 16 4095),
    .mtrSample (List.replicate 8 0) (List.replicate 8 0) (List.replicate 8 0) 0,
    .mtrSample (List.replicate 8 0) (List.replicate 8 0) (List.replicate 8 0) 0,
    .mtrSample (List.replicate 8 0) (List.replicate 8 0) (List.replicate 8 0) 0,
    .mtrSample (List.replicate 8 0) (List.replicate 8 0) (List.replicate 8 0) (256 - 1),
    .mtrSecond (-64) 0,
    .mtrSecond 191 0,
    .mtrSecond (-64) (65536 - 1),
    .mtrUserWrite .host (0x4000A000) 0 false,
    .mtrUserWrite .host (0x4000B000 - 1) 0 false,
    .captureResume (2 - 1),
    .amountTimeout (8 - 1),
    .symbolError 0 false 16,
    .frameForward 0 { hops := 15 }] : List Instr).all (wellFormed) = true := by decide


/-! ## Witnesses -/

/-- What each clause of AluResults asks. -/
def asks_AluResults (s : State) (c rd ra rb rc n : Nat) : List Bool :=
  let base : Bool := decide (s.able c ∧ rd < 32 ∧ n < 32)
  [base]

/-- What each clause of ImmediateResults asks. -/
def asks_ImmediateResults (s : State) (c rd ra : Nat) (imm : BitVec 16) : List Bool :=
  let base : Bool := decide (s.able c ∧ rd < 32)
  [base]

/-- What each clause of ProductsAndSaturation asks. -/
def asks_ProductsAndSaturation (s : State) (c rd ra rb n : Nat) : List Bool :=
  let y := (s.core c).r rb
  let base : Bool := decide (s.able c ∧ rd < 32 ∧ n < 32)
  [base,
   base && decide (y ≠ 0)]

/-- What each clause of PairResults asks. -/
def asks_PairResults (s : State) (c rd ra rb sh : Nat) : List Bool :=
  let y := (s.core c).r rb
  let base : Bool := decide (s.able c ∧ isPair rd = true ∧ isPair ra = true ∧ isPair rb = true ∧ sh < 32)
  [base,
   base && decide (y ≠ 0)]

/-- What each clause of SynchronousExceptions asks. -/
def asks_SynchronousExceptions (s : State) (c rd ra rb crn sh : Nat) (k : BitVec 16) : List Bool :=
  let base : Bool := decide (s.ableCc c ∧ (s.core c).hnd = false)
  [base && decide ((s.core c).r rb = 0),
   base && decide ((s.core c).r rb = 0 ∧ isPair rd = true ∧ isPair ra = true),
   base && decide (isPair rd = false),
   base && decide (isPair ra = false),
   base && decide (isPair rb = false),
   base && decide ((s.core c).task = true),
   base && decide ((s.core c).r ra = 0),
   base]

/-- What each clause of ControlTransfers asks. -/
def asks_ControlTransfers (s : State) (c rd ra rb : Nat) (off imm : BitVec 16) (far : BitVec 26) : List Bool :=
  let k := s.core c
  let x := k.r ra
  let base : Bool := decide (s.able c ∧ rd < 32)
  [base,
   base && decide (c ≠ 4),
   base && decide (c ≠ 4 ∧ (x + BitVec.ofInt 32 imm.toInt) &&& 3 = 0),
   base && decide (c ≠ 4 ∧ k.r 31 &&& 3 = 0),
   base && decide (c = 4 ∧ s.cpu.retStack.length < 8),
   base && decide (c = 4 ∧ k.r 31 &&& 3 = 0 ∧ s.cpu.retStack.head? = some (k.r 31))]

/-- What each clause of ControlRegisters asks. -/
def asks_ControlRegisters (s : State) (c rd ra : Nat) : List Bool :=
  let k := s.core c
  let base : Bool := decide (s.able c ∧ rd < 32 ∧ (s.core c).task = false)
  [base,
   base && (let n := 9; decide ((n ≤ 9 ∨ 16 ≤ n) ∧ n < 32)),
   base && decide (k.hnd = true ∧ k.epc &&& 3 = 0),
   base && (let n := 10; decide (10 ≤ n ∧ n ≤ 15)),
   base && (let n := 10; decide (10 ≤ n ∧ n ≤ 15 ∧ c ≠ 4 ∧ k.hnd = false))]

/-- What each clause of WaitInstructions asks. -/
def asks_WaitInstructions (s : State) (c rd ra rb n : Nat) : List Bool :=
  let k := s.core c
  let mask := k.r ra
  let until_ := (k.rp rb).toNat
  let base : Bool := decide (s.able c ∧ rd < 32 ∧ isPair rb = true)
  [base && decide (n < 32 ∧ (k.pend &&& mask).getLsbD n = true ∧ ((∀ m : Nat, m < n → (k.pend &&& mask).getLsbD m = false))),
   base && decide (k.pend &&& mask = 0),
   base && decide (k.pend &&& mask = 0 ∧ mask ≠ 0),
   base && decide (k.pend &&& mask = 0 ∧ until_ ≤ s.tmk.mt),
   base && decide (k.pend &&& mask = 0 ∧ s.tmk.mt < until_ ∧ s.is F.TMK_STATUS_xtal_mt_lost = true),
   base && decide (k.pend &&& mask = 0 ∧ s.tmk.mt < until_ ∧ s.is F.TMK_STATUS_xtal_mt_lost = false)]

/-- What each clause of SignalDelivers asks. -/
def asks_SignalDelivers (s : State) (c m : Nat) : List Bool :=
  let base : Bool := decide (s.able c ∧ c < 5 ∧ s.cpu.cores.length = 5)
  [base]

/-- What each clause of Loads asks. -/
def asks_Loads (s : State) (c rd ra : Nat) (imm : BitVec 16) : List Bool :=
  let a := ((s.core c).r ra + BitVec.ofInt 32 imm.toInt).toNat
  let base : Bool := decide (s.able c ∧ rd < 32 ∧ isRegAddr a = false ∧ a < 0x80000000 ∧ ((a < 0x7FF000 ∨ 0x800000 ≤ a)))
  [base && decide (s.memLoadOk c a 1 = true ∧ s.sound a 1 = true),
   base && decide (a % 2 = 0 ∧ s.memLoadOk c a 2 = true ∧ s.sound a 2 = true),
   base && decide (a % 4 = 0 ∧ s.memLoadOk c a 4 = true ∧ s.sound a 4 = true),
   base && decide (a % 8 = 0 ∧ isPair rd = true ∧ s.memLoadOk c a 8 = true ∧ s.sound a 8 = true)]

/-- What each clause of Stores asks. -/
def asks_Stores (s : State) (c rs ra size : Nat) (imm : BitVec 16) (i : Instr) : List Bool :=
  let a := ((s.core c).r ra + BitVec.ofInt 32 imm.toInt).toNat
  let base : Bool := decide (s.able c ∧ (((i = .sb c rs ra imm ∧ size = 1) ∨ (i = .sh c rs ra imm ∧ size = 2) ∨ (i = .sw c rs ra imm ∧ size = 4) ∨
      (i = .sd c rs ra imm ∧ size = 8 ∧ isPair rs = true))) ∧ 0x20000000 ≤ a ∧ a < 0x40000000 ∧ a % size = 0 ∧ s.memStoreOk c a size = true ∧ ((size = 8 ∨ s.sound a size = true)))
  [base,
   base && decide (Store.wf s.mem = true)]

/-- What each clause of AccessExceptions asks. -/
def asks_AccessExceptions (s : State) (c rd ra : Nat) (imm : BitVec 16) : List Bool :=
  let w := (s.core c).r ra + BitVec.ofInt 32 imm.toInt
  let a := w.toNat
  let base : Bool := decide (s.ableCc c ∧ (s.core c).hnd = false ∧ isPair rd = true ∧ isRegAddr a = false ∧ a < 0x80000000)
  [base && decide (a % 2 ≠ 0),
   base && decide (a % 4 ≠ 0),
   base && decide (a % 8 ≠ 0),
   base && decide (s.memLoadOk c a 1 = false),
   base && decide (a % 4 = 0 ∧ s.memLoadOk c a 4 = false),
   base && decide (s.memStoreOk c a 1 = false),
   base && decide (a % 4 = 0 ∧ s.memStoreOk c a 4 = false),
   base && decide (a % 4 = 0 ∧ s.memLoadOk c a 4 = true ∧ eccWords s.cpu.eccBad a 4 ≠ []),
   base && decide (a % 4 = 0 ∧ s.memLoadOk c a 4 = true ∧ ((a < 0x7FF000 ∨ 0x800000 ≤ a)) ∧ eccWords s.cpu.eccBad a 4 = [] ∧ rd < 32)]

/-- What each clause of Atomics asks. -/
def asks_Atomics (s : State) (c rd ra rb rc : Nat) (i : Instr) (new : Word) : List Bool :=
  let k := s.core c
  let a := (k.r ra).toNat
  let old := w32 (leNat (Store.bytes s.view a 4))
  let base : Bool := decide (s.able c ∧ rd < 32 ∧ (((i = .swap c rd ra rb ∧ new = k.r rb) ∨ (i = .fadd c rd ra rb ∧ new = old + k.r rb) ∨
      (i = .cas c rd ra rb rc ∧ new = if old = k.r rb then k.r rc else old))) ∧ s.qe.posted = [] ∧ s.atomicOk c a = true ∧ a % 4 = 0 ∧ s.memLoadOk c a 4 = true ∧ s.memStoreOk c a 4 = true ∧ s.sound a 4 = true)
  [base]

/-- What each clause of SafetyInstructions asks. -/
def asks_SafetyInstructions (s : State) (c rd n : Nat) (k16 : BitVec 16) : List Bool :=
  let k := s.core c
  let base : Bool := decide (s.able c ∧ rd < 32 ∧ n < 16)
  [base && decide (s.storesOut c = false),
   base && decide (c ≠ 4),
   base && decide (c = 4 ∧ k.sig.truncate 16 = k16),
   base && decide (c = 4 ∧ 250 * s.fld F.CPU_SFC_TMON_open ≤ s.tmk.mt - s.cpu.tmonFrom ∧ s.tmk.mt - s.cpu.tmonFrom ≤ 250 * s.fld F.CPU_SFC_TMON_close),
   base && decide (c = 4),
   base && decide (c ≠ 4 ∧ k.task = false ∧ s.is F.KV_RNG_health_ok = true),
   base && decide (c ≠ 4 ∧ k.task = false ∧ s.is F.KV_RNG_health_ok = true ∧ rd ≠ 0)]

namespace Of01E01
def s1 := run 0 (fun n => 0x80000000 + n * 0x01234567)
def s2 := run 4 (fun n => n * 3) (put up [(F.CPU_SFC_CTRL_sig_gap, 16), (F.CPU_SFC_CTRL_code_limit, 16)])
def k1 (s : State) (c : Nat) (f : Core → Core) := s.onCore c f
def s4 := k1 (run 0 (fun n => 0xF0F0F0FF + n)) 0 (fun k => { k with hnd := true, epc := 0x20000100, prevTask := true, cause := 7, badaddr := 5, pend := 0x0FF0, urgent := 3, urgEn := true })

theorem witness_AluResults : shows [
    (asks_AluResults s1 0 1 2 3 4 5, [0])] = true := by decide +kernel

theorem witness_ImmediateResults : shows [
    (asks_ImmediateResults s1 0 1 2 0x8001, [0])] = true := by decide +kernel

theorem witness_ProductsAndSaturation : shows [
    (asks_ProductsAndSaturation s1 0 1 2 3 4, [0, 1])] = true := by decide +kernel

theorem witness_PairResults : shows [
    (asks_PairResults s1 0 2 4 6 3, [0, 1])] = true := by decide +kernel

theorem witness_SynchronousExceptions : shows [
    (asks_SynchronousExceptions s1 0 2 4 0 3 1 5, [0, 1, 4, 7]),
    (asks_SynchronousExceptions s1 0 2 0 1 3 1 5, [3, 6]),
    (asks_SynchronousExceptions s1 0 3 4 0 3 1 5, [2]),
    (asks_SynchronousExceptions (k1 s1 0 (fun k => { k with task := true, treg := (k.treg.set 0 0x20000000).set 1 0x20010007 })) 0 2 3 7 3 1 5, [5])] = true := by decide +kernel

theorem witness_ControlTransfers : shows [
    (asks_ControlTransfers (run 1 (fun n => 4*n)) 1 31 2 2 0x10 0x10 0x3FFFFF0, [0, 1, 2, 3]),
    (asks_ControlTransfers (let s := run 4 (fun n => 0x30000000 + 4*n) s2; {s with cpu := {s.cpu with retStack := [0x3000007C, 5]}}) 4 1 2 3 0x10 0x10 100, [4, 5])] = true := by decide +kernel

theorem witness_ControlRegisters : shows [
    (asks_ControlRegisters s4 0 1 2, [0, 1, 2, 3]),
    (asks_ControlRegisters s1 0 0 2, [4])] = true := by decide +kernel

end Of01E01

namespace Of01E02
def k1 (s : State) (c : Nat) (f : Core → Core) := s.onCore c f
def s5 := k1 (run 0 (fun n => if n = 2 then 0xF0 else if n = 3 then 0 else if n = 4 then 1000001 else if n = 8 then 999999 else 0)) 0 (fun k => { k with pend := 0x60 })
def m1 (a : Nat) (l : List Nat) (s : State) : State := { s with mem := Store.setBytes s.mem a (l.map (fun x => BitVec.ofNat 8 x)) }
def s6 := m1 0x20000100 [0x81, 0x92, 0xA3, 0xF4, 5, 6, 7, 0x88] (run 0 (fun n => if n = 2 then 0x20000110 else 0x01020304 * n))
def st (i : Instr) (sz : Nat) (s := s6) (rs := 4) := asks_Stores s 0 rs 2 sz 0xFFF0 i
def s7 := m1 0x20000100 [0x81, 0x92, 0xA3, 0xF4, 5, 6, 7, 0x88] (run 0 (fun n => if n = 2 then 0x20000100 else if n = 5 then 0xF4A39281 else 0x01020304 * n))
def s8 := run 4 (fun n => n * 3) (put { up with cpu := { up.cpu with tmonFrom := 999000 } } [(F.CPU_SFC_CTRL_sig_gap, 16), (F.CPU_SFC_CTRL_code_limit, 16), (F.CPU_SFC_TMON_open, 2), (F.CPU_SFC_TMON_close, 6), (F.CPU_SFC_CTRL_stest_period, 1000), (F.CPU_SFC_STATUS_seg_done, 0x8001)])

theorem witness_WaitInstructions : shows [
    (asks_WaitInstructions (k1 s5 0 (fun k => {k with pend := 0xF00})) 0 1 2 4 5, [1, 2, 5]),
    (asks_WaitInstructions s5 0 1 2 4 5, [0]),
    (asks_WaitInstructions (k1 s5 0 (fun k => {k with pend := 0xF00})) 0 1 2 8 5, [3]),
    (asks_WaitInstructions (put (k1 s5 0 (fun k => {k with pend := 0xF00})) [(F.TMK_STATUS_xtal_mt_lost,1)]) 0 1 2 4 5, [4])] = true := by decide +kernel

theorem witness_SignalDelivers : shows [
    (asks_SignalDelivers s5 0 31, [0])] = true := by decide +kernel

theorem witness_Loads : shows [
    (asks_Loads s6 0 4 2 0xFFF0, [0, 1, 2, 3])] = true := by decide +kernel

theorem witness_Stores : shows [
    (st (.sb 0 4 2 0xFFF0) 1, [0, 1])] = true := by decide +kernel

theorem witness_AccessExceptions : shows [
    (asks_AccessExceptions s6 0 4 3 0, [2, 3, 4, 5, 6]),
    (asks_AccessExceptions s6 0 4 2 1, [0, 1]),
    (asks_AccessExceptions s6 0 4 0 0, [8]),
    (asks_AccessExceptions { s6 with cpu := { s6.cpu with eccBad := [0x20000110] } } 0 4 2 0, [7])] = true := by decide +kernel

theorem witness_Atomics : shows [
    (asks_Atomics s7 0 4 2 3 6 (.swap 0 4 2 3) ((s7.core 0).r 3), [0])] = true := by decide +kernel

theorem witness_SafetyInstructions : shows [
    (asks_SafetyInstructions (put s6 [(F.KV_RNG_health_ok, 1)]) 0 4 3 0x1234, [0, 1, 5, 6]),
    (asks_SafetyInstructions (k1 s8 4 (fun k => { k with sig := 0xAA1234 })) 4 4 3 0x1234, [2, 3, 4])] = true := by decide +kernel

end Of01E02


/-- What each clause of StallsEnd asks. -/
def asks_StallsEnd (s : State) (c rd n d t0 size data : Nat) (m a : Word) : List Bool :=
  let k := s.core c
  let base : Bool := decide (s.stalledAble c ∧ rd < 32)
  [base && decide (n < 32 ∧ (k.pend &&& m).getLsbD n = true ∧ ((∀ j : Nat, j < n → (k.pend &&& m).getLsbD j = false)) ∧ k.stall = .wait m rd),
   base && decide (n < 32 ∧ (k.pend &&& m).getLsbD n = true ∧ ((∀ j : Nat, j < n → (k.pend &&& m).getLsbD j = false)) ∧ k.stall = .waitt m rd d),
   base && decide (k.stall = .waitt m rd d ∧ k.pend &&& m = 0 ∧ d ≤ s.tmk.mt),
   base && decide (k.stall = .waitt m rd d ∧ k.pend &&& m = 0 ∧ s.tmk.mt < d ∧ s.is F.TMK_STATUS_xtal_mt_lost = true),
   base && decide (k.stall = .krand rd ∧ s.is F.KV_RNG_health_ok = true),
   base && decide (k.stall = .remoteLoad rd a size false t0 ∧ (size = 1 ∨ size = 2 ∨ size = 4)),
   base && decide (k.stall = .remoteLoad rd a 2 true t0),
   base && decide (k.stall = .remoteStore a t0)]

/-- What each clause of AsynchronousEntries asks. -/
def asks_AsynchronousEntries (s : State) (c rd n size t0 data : Nat) (sg : Bool) (a : Word) : List Bool :=
  let k := s.core c
  let base : Bool := decide (c < s.cpu.cores.length)
  [base && decide (k.running = true ∧ k.urgEn = true ∧ k.hnd = false ∧ n < 32 ∧ (k.pend &&& k.urgent).getLsbD n = true ∧ ((∀ j : Nat, j < n → (k.pend &&& k.urgent).getLsbD j = false))),
   base && decide (c ≠ 4 ∧ k.hnd = false ∧ ((k.stall = .remoteLoad rd a size sg t0 ∨ k.stall = .remoteStore a t0))),
   base && decide (c ≠ 4 ∧ k.hnd = false ∧ ((k.stall = .remoteLoad rd a size sg t0 ∨ k.stall = .remoteStore a t0)) ∧ t0 + 2500 ≤ s.tmk.mt)]

/-- What each clause of SafetyMonitors asks. -/
def asks_SafetyMonitors (s : State) : List Bool :=
  let base : Bool := decide ((s.core 4).running = true ∧ s.cpu.cores.length = 5)
  [base && decide (s.fld F.CPU_SFC_STATUS_faulted = 0 ∧ 250 * s.fld F.CPU_SFC_TMON_close ≤ s.tmk.mt - s.cpu.tmonFrom),
   base && decide (s.fld F.CPU_SFC_STATUS_faulted = 0 ∧ s.cpu.tbSeen = some s.tmk.mt),
   base && decide (s.fld F.CPU_SFC_STATUS_faulted = 0 ∧ 25000 * s.fld F.CPU_SFC_CTRL_stest_period ≤ s.tmk.mt - s.cpu.stestFrom ∧ s.fld F.CPU_SFC_STATUS_seg_done ≠ 0xFFFF),
   base && decide (s.cpu.tbSeen ≠ some s.tmk.mt),
   base && decide (25000 * s.fld F.CPU_SFC_CTRL_stest_period ≤ s.tmk.mt - s.cpu.stestFrom ∧ s.fld F.CPU_SFC_STATUS_seg_done = 0xFFFF)]

/-- What each clause of Watchdogs asks. -/
def asks_Watchdogs (s : State) (c : Nat) (v : Word) : List Bool :=
  let base : Bool := decide (c < 4 ∧ s.cpu.cores.length = 5 ∧ s.cpu.wdFrom.length = 4)
  [base && decide (s.mayWrite (.core c) Reg.CPU_WDOG_KICK = true ∧ (v >>> 8).toNat % 256 = 0xA5 ∧ v.toNat % 4 = c),
   base && decide (s.mayWrite (.core c) Reg.CPU_WDOG_KICK = true ∧ ((v >>> 8).toNat % 256 ≠ 0xA5 ∨ v.toNat % 4 ≠ c)),
   base && decide ((s.core c).running = true ∧ s.fldBit F.CPU_WDOG_CFG_en c = true ∧ 2500 * s.fld F.CPU_WDOG_CFG_timeout ≤ s.tmk.mt - s.cpu.wdFrom.getD c 0)]

/-- What each clause of Mailboxes asks. -/
def asks_Mailboxes (s : State) (c n : Nat) (v : Word) : List Bool :=
  let shown (t : State) : Prop := t.fldBit F.CPU_MBOX_STATUS_empty n = decide (t.cpu.mbox.getD n [] = []) ∧ t.fldBit F.CPU_MBOX_STATUS_full n = decide ((t.cpu.mbox.getD n []).length = 8)
  let base : Bool := decide (c < 5 ∧ n < 5 ∧ s.cpu.cores.length = 5 ∧ s.cpu.mbox.length = 5 ∧ c ≠ n)
  [base && decide (s.mayWrite (.core c) (Reg.CPU_MBOX0 + 4 * n) = true ∧ ((n = 4 → s.is F.CPU_CTRL_cc_to_sfc = true)) ∧ (s.cpu.mbox.getD n []).length < 8),
   base && decide (s.mayWrite (.core c) (Reg.CPU_MBOX0 + 4 * n) = true ∧ ((n = 4 → s.is F.CPU_CTRL_cc_to_sfc = true)) ∧ 8 ≤ (s.cpu.mbox.getD n []).length),
   base && (match s.cpu.mbox.getD n [] with | w :: ws => true | _ => false),
   base && decide (s.cpu.mbox.getD n [] = [] ∧ shown s),
   base,
   base && decide (c < 4 ∧ s.is F.CPU_CTRL_cc_to_sfc = false)]

/-- What each clause of StartAndHalt asks. -/
def asks_StartAndHalt (s : State) (who : Init) (c : Nat) : List Bool :=
  let base : Bool := decide (s.mayWrite who Reg.CPU_START = true ∧ 1 ≤ c ∧ c < 4 ∧ s.cpu.cores.length = 5)
  [base && decide ((s.core c).running = false),
   base && decide ((s.core c).running = true)]

namespace Of02E02
def k1 (s : State) (c : Nat) (f : Core → Core) := s.onCore c f
def s5 := k1 (run 0 (fun n => if n = 2 then 0xF0 else if n = 3 then 0 else if n = 4 then 1000001 else if n = 8 then 999999 else 0)) 0 (fun k => { k with pend := 0x60 })
def m1 (a : Nat) (l : List Nat) (s : State) : State := { s with mem := Store.setBytes s.mem a (l.map (fun x => BitVec.ofNat 8 x)) }
def s6 := m1 0x20000100 [0x81, 0x92, 0xA3, 0xF4, 5, 6, 7, 0x88] (run 0 (fun n => if n = 2 then 0x20000110 else 0x01020304 * n))
def s8 := run 4 (fun n => n * 3) (put { up with cpu := { up.cpu with tmonFrom := 999000 } } [(F.CPU_SFC_CTRL_sig_gap, 16), (F.CPU_SFC_CTRL_code_limit, 16), (F.CPU_SFC_TMON_open, 2), (F.CPU_SFC_TMON_close, 6), (F.CPU_SFC_CTRL_stest_period, 1000), (F.CPU_SFC_STATUS_seg_done, 0x8001)])
def stl (x : Stall) (s := s5) (c := 0) := k1 s c (fun k => { k with stall := x })
def mb (n : Nat) (l : List Nat) (s : State) : State := { s with cpu := { s.cpu with mbox := s.cpu.mbox.set n (l.map w32) } }

theorem witness_StallsEnd : shows [
    (asks_StallsEnd (stl (.wait 0xF0 3)) 0 3 5 0 0 0 0 0xF0 0, [0]),
    (asks_StallsEnd (stl (.waitt 0xF0 3 2000000)) 0 3 5 2000000 0 0 0 0xF0 0, [1]),
    (asks_StallsEnd (stl (.waitt 0xF 3 20)) 0 3 5 20 0 0 0 0xF 0, [2]),
    (asks_StallsEnd (put (stl (.waitt 0xF 3 2000000)) [(F.TMK_STATUS_xtal_mt_lost,1)]) 0 3 5 2000000 0 0 0 0xF 0, [3]),
    (asks_StallsEnd (put (stl (.krand 3)) [(F.KV_RNG_health_ok,1)]) 0 3 5 2000000 0 0 0 0xF 0, [4]),
    (asks_StallsEnd (stl (.remoteLoad 3 9 4 false 8)) 0 3 5 0 8 4 0x89ABCDEF 0xF 9, [5]),
    (asks_StallsEnd (stl (.remoteLoad 3 9 2 true 8)) 0 3 5 0 8 2 0xCDEF 0xF 9, [6]),
    (asks_StallsEnd (stl (.remoteStore 9 8)) 0 3 5 0 8 1 0xCDEF 0xF 9, [7])] = true := by decide +kernel

theorem witness_AsynchronousEntries : shows [
    (asks_AsynchronousEntries (stl (.remoteLoad 3 9 4 false 8)) 0 3 5 4 8 1 false 9, [1, 2]),
    (asks_AsynchronousEntries (k1 s5 0 (fun k => { k with urgEn := true, urgent := 0xE0, stall := .wait 3 4, task := true })) 0 3 5 0 8 1 false 0, [0])] = true := by decide +kernel

theorem witness_SafetyMonitors : shows [
    (asks_SafetyMonitors (put s8 [(F.CPU_SFC_TMON_close, 3)]), [0, 3]),
    (asks_SafetyMonitors { s8 with cpu := { s8.cpu with tbSeen := some 1000000 } }, [1]),
    (asks_SafetyMonitors (put s8 [(F.CPU_SFC_CTRL_stest_period, 2)]), [2]),
    (asks_SafetyMonitors (put s8 [(F.CPU_SFC_CTRL_stest_period, 2), (F.CPU_SFC_STATUS_seg_done, 0xFFFF)]), [4])] = true := by decide +kernel

theorem witness_Watchdogs : shows [
    (asks_Watchdogs (put s6 [(F.CPU_WDOG_CFG_en, 5), (F.CPU_WDOG_CFG_timeout, 3)]) 0 1, [1, 2]),
    (asks_Watchdogs s6 0 0xA500, [0])] = true := by decide +kernel

theorem witness_Mailboxes : shows [
    (asks_Mailboxes s6 0 3 5, [0, 3, 4, 5]),
    (asks_Mailboxes (mb 3 [1,2,3,4,5,6,7,8] s6) 0 3 5, [1, 2])] = true := by decide +kernel

theorem witness_StartAndHalt : shows [
    (asks_StartAndHalt (put s6 [(F.CPU_ENTRY_entry, 0x20000402)]) (.core 0) 2, [0]),
    (asks_StartAndHalt (run 1 (fun n => n) s6) (.core 0) 1, [1])] = true := by decide +kernel

end Of02E02


/-- What each clause of QueueInstructions asks. -/
def asks_QueueInstructions (s : State) (c rd ra rb : Nat) : List Bool :=
  let k := s.core c
  let a := (k.r rb).toNat
  let q := (k.r ra).toNat
  let u := (s.qReady q).2
  let d := u.qDesc q
  let base : Bool := decide (s.ableCc c ∧ rd < 32 ∧ rd ≠ 0 ∧ q < 65536 ∧ a % 16 = 0)
  [base && decide (s.entryOk c a 16 0 = true ∧ (s.qReady q).1 = .noQueue),
   base && decide (s.entryOk c a 16 0 = true ∧ (s.qReady q).1 = .paused),
   base && decide (s.entryOk c a 16 0 = true ∧ (s.qReady q).1 = .done ∧ d.span = 1 ∧ d.prodDirect = false ∧ u.taskDenied (.core c) q = false ∧ u.resvOf q = none ∧ d.free = 0),
   base && decide (s.entryOk c a 16 0 = true ∧ (s.qReady q).1 = .done ∧ d.span = 1 ∧ d.prodDirect = false ∧ u.taskDenied (.core c) q = false ∧ u.resvOf q = none ∧ 1 ≤ d.free ∧ u.entryOk c a d.esize 0 = true ∧ s.sound a d.esize = true),
   base && decide (s.entryOk c a 16 1 = true ∧ (s.qReady q).1 = .noQueue),
   base && decide (s.entryOk c a 16 1 = true ∧ (s.qReady q).1 = .done ∧ u.qEngine q = false ∧ u.taskDenied (.core c) q = false ∧ d.held = 0),
   base && decide (s.entryOk c a 16 1 = true ∧ (s.qReady q).1 = .done ∧ u.qEngine q = false ∧ u.taskDenied (.core c) q = false ∧ 1 ≤ d.held ∧ u.entryOk c a d.esize 1 = true ∧ u.inTable a d.esize = false ∧ s.sound (d.addr d.cons 0) d.esize = true),
   base && decide (s.qExists q = true ∧ s.is F.QE_STATUS_table_busy = false),
   base && decide (s.qExists q = false)]

/-- What each clause of VaultInstructions asks. -/
def asks_VaultInstructions (s : State) (c rd ra : Nat) : List Bool :=
  let k := s.core c
  let a := (k.r ra).toNat
  let n := a % 256
  let base : Bool := decide (s.ableCc c ∧ c < 4 ∧ rd < 32 ∧ rd ≠ 0 ∧ (s.core c).task = false)
  [base && decide (a % 64 = 0 ∧ inSram a 64 = true ∧ s.sound a 64 = true ∧ s.is F.KV_STATUS_lc_busy = false ∧ s.is F.DSK_STATUS_warn = false ∧ (s.kv.tickets.filter (fun x => x.owner = c)).length < 16 ∧ blockOk (Store.bytes s.view a 64) = true ∧ s.kv.tickets.length < 255),
   base && decide (a % 64 = 0 ∧ inSram a 64 = true ∧ s.sound a 64 = true ∧ 16 ≤ (s.kv.tickets.filter (fun x => x.owner = c)).length ∧ s.is F.KV_STATUS_lc_busy = false ∧ s.is F.DSK_STATUS_warn = false),
   base && decide (((∀ x, x ∈ s.kv.tickets → x.id = n → 4 ≤ x.owner))),
   base && (match s.kv.tickets.find? (fun y => y.id = n && y.owner < 4) with | some x => true | _ => false)]

/-- What each clause of VaultCommandsStart asks. -/
def asks_VaultCommandsStart (s : State) (t : KvTicket) (op : Nat) (i : Instr) : List Bool :=
  let base : Bool := decide ((op, i) ∈ [(1, .kvGenerate), (2, .kvImportPlain), (3, .kvImportWrapped), (4, .kvDeriveHkdf), (5, .kvAgree), (6, .kvTls12Prf), (7, .kvTls13Keys),
      (8, .kvSign), (9, .kvVerify), (10, .kvEncrypt), (11, .kvDecrypt), (12, .kvMac), (13, .kvHash), (14, .kvExportPub), (15, .kvExportWrapped),
      (16, .kvExportPlain), (17, .kvInvalidate), (18, .kvTighten), (19, .kvAttest), (20, .kvReadCert)] ∧ s.kvHead = some t ∧ (s.kvCmd t).op = op ∧ s.kv.running = none ∧ s.kv.lcNext = none ∧ (s.is F.KV_STATUS_ready = true ∨ s.is F.KV_STATUS_selftest_fail = true))
  [base]

/-- What each clause of VaultEffects asks. -/
def asks_VaultEffects (s : State) (t : KvTicket) : List Bool :=
  let c := s.kvCmd t
  let k := s.key c.sa
  let base : Bool := decide (s.kvHead = some t ∧ s.kv.running = none ∧ s.kv.lcNext = none ∧ s.is F.KV_STATUS_ready = true ∧ s.is F.KV_STATUS_selftest_fail = false)
  [base && decide (s.isWorker = true ∧ c.op = 10 ∧ s.lc ≠ 4 ∧ kvBuffers c = [] ∧ k.state = 1 ∧ k.alg = 1 ∧ k.usage.testBit 2 = true ∧ c.fl.testBit 0 = false ∧ c.auxL ≠ 0 ∧ c.inL + 16 ≤ c.outC),
   base && decide (s.isWorker = false ∧ s.lc ≠ 4 ∧ kvBuffers c = [] ∧ c.op = 13 ∧ c.fl.testBit 0 = false ∧ 32 ≤ c.outC),
   base && decide (s.isWorker = false ∧ s.lc ≠ 4 ∧ kvBuffers c = [] ∧ c.op = 13 ∧ c.fl.testBit 0 = true ∧ 48 ≤ c.outC),
   base && decide (s.isWorker = false ∧ s.lc ≠ 4 ∧ kvBuffers c = [] ∧ c.op = 13 ∧ c.fl.testBit 0 = false ∧ c.outC < 32),
   base && decide (s.isWorker = false ∧ s.lc ≠ 4 ∧ kvBuffers c = [] ∧ c.op = 17 ∧ 8 ≤ c.sa ∧ k.state = 1),
   base && decide (s.isWorker = false ∧ s.lc ≠ 4 ∧ kvBuffers c = [] ∧ c.op = 17 ∧ c.sa < 8),
   base && decide (s.isWorker = false ∧ s.lc ≠ 4 ∧ kvBuffers c = [] ∧ c.op = 17 ∧ 8 ≤ c.sa ∧ k.state = 0),
   base && decide (s.isWorker = false ∧ s.lc ≠ 4 ∧ kvBuffers c = [] ∧ c.op = 18 ∧ k.state = 1 ∧ c.pol ≠ 3),
   base && decide (s.isWorker = false ∧ s.lc ≠ 4 ∧ kvBuffers c = [] ∧ c.op = 14 ∧ k.state = 1 ∧ pubLen k.alg ≠ 0 ∧ pubLen k.alg ≤ c.outC),
   base && decide (s.isWorker = false ∧ s.lc ≠ 4 ∧ kvBuffers c = [] ∧ c.op = 16 ∧ k.state = 1 ∧ k.policy ≠ 2 ∧ k.mat.length ≤ c.outC ∧ isPubOnly k.alg = false ∧ ((k.cls = 2 → s.lc ≠ 3))),
   base && decide (s.isWorker = false ∧ s.lc ≠ 4 ∧ kvBuffers c = [] ∧ c.op = 20 ∧ c.sa = 0 ∧ k.state = 1 ∧ s.kv.cert.length ≤ c.outC)]

/-- What each clause of VaultCompletion asks. -/
def asks_VaultCompletion (s : State) (t : KvTicket) (good : Bool) (e : KvEffect) : List Bool :=
  let base : Bool := decide (s.kv.running = some (t.id, e) ∧ s.kv.tickets.find? (fun x => x.id = t.id) = some t ∧ t.job = none ∧ s.kv.lcNext = none)
  [base && (match e with | .failed code => decide (code ≠ 0) | _ => false),
   base && (match e with | .done out none false_ => decide (false_ = false) && true | _ => false),
   base && (match e with | .done [] (some (n, k)) false_ => decide (false_ = false) && decide (n < 256 ∧ s.kv.slots.length = 256 ∧ (good = true ∨ 192 ≤ n)) | _ => false),
   base && (match e with | .done [] (some (n, k)) false_ => decide (false_ = false) && decide (n < 256 ∧ s.kv.slots.length = 256 ∧ good = false ∧ n < 192) | _ => false),
   base && (match e with | .invalidated n => decide (n < 256 ∧ s.kv.slots.length = 256 ∧ ((good = true ∨ 192 ≤ n))) | _ => false)]

/-- What each clause of VaultUpkeep asks. -/
def asks_VaultUpkeep (s : State) (n : Nat) (bad : List Nat) : List Bool :=
  [decide (s.kv.loaded = true ∧ s.kv.slots.length = 256 ∧ n < 256),
   decide (s.kv.loaded = true ∧ s.kv.slots.length = 256 ∧ n < 256 ∧ (s.key n).state < 2),
   decide (s.kv.loaded = true ∧ s.kv.slots.length = 256 ∧ n < 256 ∧ 2 ≤ (s.key n).state ∧ ¬(n ∈ bad ∧ n < 192)),
   decide (s.kv.loaded = true ∧ s.kv.slots.length = 256 ∧ n < 256 ∧ 2 ≤ (s.key n).state ∧ n ∈ bad ∧ n < 192),
   decide (s.fld F.KV_RNG_health_ok = 1),
   (match s.kv.rngAt with | some f => decide (s.kv.rngTries < 3 ∧ f + 250000 ≤ s.tmk.mt) | _ => false),
   decide (s.fld F.DSK_DAWN_STATUS_done = 1 ∧ s.fld F.KV_STATUS_ready = 0 ∧ s.fld F.KV_STATUS_selftest_fail = 0)]

/-- What each clause of LifecycleAndTap asks. -/
def asks_LifecycleAndTap (s : State) (c d dst from_ : Nat) (v : Word) : List Bool :=
  let base : Bool := decide (c < 5 ∧ s.cpu.cores.length = 5)
  [base && decide (s.mayWrite (.core c) Reg.KV_LC_REQ = true ∧ (v >>> 8).toNat % 256 = 0xC3),
   base && decide (s.mayWrite (.core c) Reg.KV_LC_REQ = true ∧ (v >>> 8).toNat % 256 ≠ 0xC3),
   base && decide (s.mayWrite (.core c) Reg.KV_LC_CONFIRM = true ∧ s.kv.lcReq = some (dst, d, from_) ∧ (c ≠ d ∨ 25000 < s.tmk.mt - from_)),
   base && decide (s.mayWrite (.core c) Reg.KV_LC_CONFIRM = true ∧ s.kv.lcReq = some (dst, d, from_) ∧ c = d ∧ s.tmk.mt - from_ ≤ 25000 ∧ s.fld F.KV_STATUS_lc_busy = 0 ∧ lcTransition (s.fld F.KV_LC_state) dst = none ∧ s.outputsOn = false),
   base && decide (s.kv.loaded = true ∧ s.fld F.KV_TAP_level ≠ 0 ∧ s.fld F.KV_TAP_session = 0),
   base && decide (s.fld F.KV_TAP_session = 1),
   base && decide (s.fld F.KV_TAP_session = 1 ∧ s.kv.tapRefused = false),
   base && decide (s.fld F.KV_TAP_session = 1 ∧ c < 4 ∧ (s.kv.tapLevel = 3 ∨ s.kv.tapLevel = 4))]

namespace Of03E03
def d0 : Desc := { base := 0x20004000, ctrl := 1 + 8 * 2, prod := 7, resv := 7, cons := 5 }
def q1 (d : Desc) := queues [(0x102, d)] (poke 0x20004000 [9,8,7] (poke 0x20000200 [1,2,3,4,5,6,7,8,9,10,11,12,13,14,15,16] (run 0 (fun n => if n = 2 then 0x102 else if n = 3 then 0x20000200 else if n = 5 then 0x103 else if n = 6 then 5 else n))))
def kb (op sa fl na inA inL outA outC auxA auxL : Nat) : List Byte := ([op, sa, 0, fl].map (BitVec.ofNat 8)) ++ leBytes 4 na ++ leBytes 4 inA ++ leBytes 4 inL ++ leBytes 4 outA ++ leBytes 4 outC ++ leBytes 4 auxA ++ leBytes 4 auxL ++ List.replicate 32 0
def tk (id op : Nat) (ph : Nat := 1) : KvTicket := { id := id, owner := 0, block := kb op 5 0 0 0x20000400 5 0x20000500 48 0 0, addr := 0x20000300, phase := ph }
def kv (l : List KvTicket) (s : State) : State := { s with kv := { s.kv with tickets := l } }
def v1 := poke 0x20000400 [1,2,3,4,5] ({ (run 0 (fun n => if n = 3 then 0x20000300 else n)) with mem := Store.setBytes [] 0x20000300 (kb 13 5 0 0 0x20000400 5 0x20000500 48 0 0) })
def ops : List (Nat × Instr) := [(1, .kvGenerate), (2, .kvImportPlain), (3, .kvImportWrapped), (4, .kvDeriveHkdf), (5, .kvAgree), (6, .kvTls12Prf), (7, .kvTls13Keys),
       (8, .kvSign), (9, .kvVerify), (10, .kvEncrypt), (11, .kvDecrypt), (12, .kvMac), (13, .kvHash), (14, .kvExportPub), (15, .kvExportWrapped),
       (16, .kvExportPlain), (17, .kvInvalidate), (18, .kvTighten), (19, .kvAttest), (20, .kvReadCert)]
def vr := put v1 [(F.KV_STATUS_ready, 1), (F.KV_RNG_health_ok, 1)]
def tt (op sa fl na outC auxL : Nat) : KvTicket := { id := 3, owner := 0, block := kb op sa fl na 0x20000400 5 0x20000500 outC 0x20000700 auxL, addr := 0x20000300 }
def ke (t : KvTicket) (k : KvKey) (s := vr) := let s := kv [t] s; asks_VaultEffects { s with kv := { s.kv with slots := s.kv.slots.set 40 k } } t
def ky : KvKey := { state := 1, alg := 1, usage := 4, mat := List.replicate 16 7 }
def kc (e : KvEffect) (good : Bool) := let t := {tk 3 13 2 with phase := 2}; let s := kv [t] vr; let s := { s with kv := { s.kv with running := some (3, e), slots := (s.kv.slots.set 40 ky).set 41 {ky with parent := 40} } }; asks_VaultCompletion s t good e
def vk (f : Kv → Kv) (s := vr) : State := { s with kv := f s.kv }
def slots40 (n : Nat) (k : KvKey) (f : Kv → Kv := id) := vk (fun v => f { v with slots := v.slots.set n k, loaded := true })

theorem witness_QueueInstructions : shows [
    (asks_QueueInstructions (q1 d0) 0 4 5 3, [0, 4, 7]),
    (asks_QueueInstructions (q1 { d0 with resv := 9, prod := 9 }) 0 4 2 3, [2, 6]),
    (asks_QueueInstructions (q1 { d0 with cons := 7 }) 0 4 2 3, [3, 5]),
    (asks_QueueInstructions (q1 d0) 0 4 6 3, [8]),
    (asks_QueueInstructions (put (q1 d0) [(F.QE_STATUS_table_busy, 1)]) 0 4 2 3, [1])] = true := by decide +kernel

theorem witness_VaultInstructions : shows [
    (asks_VaultInstructions v1 0 4 3, [0, 2]),
    (asks_VaultInstructions (kv ((List.range 16).map (fun i => tk (i+1) 13)) v1) 0 4 3, [1]),
    (asks_VaultInstructions (kv [tk 7 13 4, tk 3 13 3] (run 0 (fun n => if n = 3 then 7 else n))) 0 4 3, [3])] = true := by decide +kernel

theorem witness_VaultCommandsStart : shows [
    (((ops.flatMap (fun p => [asks_VaultCommandsStart (kv [tk 3 p.1] vr) (tk 3 p.1) p.1 p.2, asks_VaultCommandsStart (kv [tk 9 4 3, tk 3 p.1] (put v1 [(F.KV_STATUS_selftest_fail, 1)])) (tk 3 p.1) p.1 p.2]))).getD 0 [], [0])] = true := by decide +kernel

theorem witness_VaultEffects : shows [
    (ke (tt 10 40 0 0 48 16) ky (put vr [(F.SYS_ROLE_role, 2)]), [0]),
    (ke (tt 13 40 0 0 48 0) ky, [1]),
    (ke (tt 13 40 1 0 48 0) ky, [2]),
    (ke (tt 13 40 0 0 31 0) ky, [3]),
    (ke (tt 17 40 0 0 48 0) ky, [4]),
    (ke (tt 17 4 0 0 48 0) ky, [5]),
    (ke (tt 17 41 0 0 48 0) ky, [6]),
    (ke (tt 18 40 0 0x40000 48 0) ky, [7]),
    (ke (tt 14 40 0 0 99 0) {ky with alg := 0x11, pub := List.replicate 97 1}, [8]),
    (ke (tt 16 40 0 0 99 0) ky, [9]),
    (ke (tt 20 0 0 0 99 0) ky, [10])] = true := by decide +kernel

theorem witness_VaultCompletion : shows [
    (kc (.failed 7) true, [0]),
    (kc (.done [1,2,3] none false) true, [1]),
    (kc (.done [] (some (42, ky)) false) true, [2]),
    (kc (.done [] (some (42, ky)) false) false, [3]),
    (kc (.invalidated 40) true, [4])] = true := by decide +kernel

theorem witness_VaultUpkeep : shows [
    (asks_VaultUpkeep (slots40 40 { ky with state := 2, gen := 5 }) 40 [], [0, 2, 4]),
    (asks_VaultUpkeep (slots40 40 { ky with state := 3, gen := 5 }) 40 [40], [3]),
    (asks_VaultUpkeep (slots40 200 { ky with state := 1, gen := 5 }) 200 [200], [1]),
    (asks_VaultUpkeep (put vr [(F.KV_STATUS_ready, 0)]) 3 [], [6]),
    (asks_VaultUpkeep (put (vk (fun v => { v with rngAt := some 50000, rngTries := 2 })) [(F.KV_RNG_health_ok, 0)]) 3 [], [5])] = true := by decide +kernel

theorem witness_LifecycleAndTap : shows [
    (asks_LifecycleAndTap (put (vk (fun v => { v with loaded := true, tapLevel := 3 })) [(F.KV_TAP_level, 3), (F.KV_TAP_session, 1)]) 0 0 0 999999 0xC403, [1, 5, 6, 7]),
    (asks_LifecycleAndTap vr 0 0 3 0 0xC303, [0]),
    (asks_LifecycleAndTap (vk (fun v => { v with lcReq := some (4, 1, 999999) })) 0 1 4 999999 0xC403, [2]),
    (asks_LifecycleAndTap (vk (fun v => { v with lcReq := some (0, 0, 999999) })) 0 0 0 999999 0xC403, [3]),
    (asks_LifecycleAndTap (put (vk (fun v => { v with loaded := true, sessions := 65535 })) [(F.KV_TAP_level, 3)]) 0 0 0 999999 0xC403, [4])] = true := by decide +kernel

end Of03E03


/-- What each clause of QueueTable asks. -/
def asks_QueueTable (s : State) (who : Init) (v : Word) : List Bool :=
  let k := v.toNat / 2 % 16
  let b := v.toNat / 8192
  [decide (s.mayWrite who Reg.QE_TABLE_CFG = true ∧ s.fld F.QE_TABLE_CFG_en = 0 ∧ v.getLsbD 0 = true ∧ 8 ≤ k ∧ k ≤ 13 ∧ 8192 * b % (32 * 2 ^ k) = 0 ∧ inSram (8192 * b) (32 * 2 ^ k) = true),
   decide (s.fld F.QE_STATUS_table_busy = 1)]

/-- What each clause of QueueDescriptorCommands asks. -/
def asks_QueueDescriptorCommands (s : State) (who : Init) : List Bool :=
  let q := s.fld F.QE_DESC_SEL_queue
  let u := s.qTouch q
  let d := u.qDesc q
  let base : Bool := decide (s.mayWrite who Reg.QE_DESC_CMD = true)
  [base && decide (s.qExists q = false ∧ s.fld F.QE_STATUS_table_busy = 0),
   base && decide (s.qExists q = true ∧ s.fld F.QE_STATUS_table_busy = 0),
   base && decide (s.qExists q = true ∧ s.fld F.QE_STATUS_table_busy = 0 ∧ d.en = false ∧ u.descOk q (u.descStaged d (match sysQueue q with | some p => p.engine | none => false)) = true),
   base && decide (s.qExists q = true ∧ s.fld F.QE_STATUS_table_busy = 0 ∧ d.en = false ∧ u.descOk q (u.descStaged d (match sysQueue q with | some p => p.engine | none => false)) = false),
   base && decide (s.qExists q = true ∧ s.fld F.QE_STATUS_table_busy = 0 ∧ d.en = true),
   base && decide (s.qExists q = true ∧ s.fld F.QE_STATUS_table_busy = 0 ∧ d.en = false ∧ (d.setEn true).bad = false),
   base && decide (s.qExists q = true ∧ s.fld F.QE_STATUS_table_busy = 0 ∧ u.resvOf q = none),
   base && decide (s.qExists q = true ∧ s.fld F.QE_STATUS_table_busy = 0 ∧ d.en = false),
   base && decide (s.qExists q = true ∧ s.fld F.QE_STATUS_table_busy = 0 ∧ u.qe.cache.any (fun l => l.queue = q && l.pinned) = false ∧ 64 ≤ (u.qe.cache.filter (·.pinned)).length),
   base && decide (s.qExists q = true ∧ s.fld F.QE_STATUS_table_busy = 0 ∧ (u.qe.cache.filter (·.pinned)).length < 64)]

/-- What each clause of Doorbells asks. -/
def asks_Doorbells (s : State) (c : Nat) (v : Word) : List Bool :=
  let q := v.toNat % 65536
  let n := v.toNat / 65536 % 256
  let u := (s.qReady q).2
  let d := u.qDesc q
  let base : Bool := decide (c < 4 ∧ c < s.cpu.cores.length)
  [base && decide (s.mayWrite (.core c) Reg.QE_DB_PROD = true ∧ (s.qReady q).1 = .done ∧ d.prodDirect = true ∧ 1 ≤ n ∧ n % d.span = 0 ∧ n ≤ d.free ∧ u.resvOf q = none ∧ u.taskDenied (.core c) q = false),
   base && decide (s.mayWrite (.core c) Reg.QE_DB_PROD = true ∧ ((s.qReady q).1 ≠ .done ∨ d.prodDirect = false ∨ n = 0 ∨ d.free < n)),
   base && decide (s.mayWrite (.core c) Reg.QE_DB_CONS = true ∧ (s.qReady q).1 = .done ∧ u.qEngine q = false ∧ 1 ≤ n ∧ n ≤ d.held ∧ u.taskDenied (.core c) q = false),
   base && decide (s.mayWrite (.core c) Reg.QE_DB_CONS = true ∧ ((s.qReady q).1 ≠ .done ∨ u.qEngine q = true ∨ n = 0 ∨ d.held < n)),
   base && decide (s.coreReads c Reg.QE_EVT = true ∧ s.qe.evtFifo = []),
   base && (decide (s.coreReads c Reg.QE_EVT = true) && (match s.qe.evtFifo with | p :: rest => true | _ => false)),
   base]

/-- What each clause of DeliveryTimeouts asks. -/
def asks_DeliveryTimeouts (s : State) (q seq t0 got src n : Nat) (m : TxMsg) : List Bool :=
  [decide (s.resvOf q = some ⟨q, .stream n, got, t0⟩),
   (match s.resvOf q with | some ⟨q_, .fabric src_ seq_ w, got_, t0_⟩ => decide (q_ = q ∧ src_ = src ∧ seq_ = seq ∧ got_ = got ∧ t0_ = t0) && decide (250000 * s.fld F.QE_CFG_resv_to ≤ s.tmk.mt - t0 ∧ s.qe.cache.any (fun l => l.queue = q) = true) | _ => false),
   decide (s.qe.tx.find? (fun x => x.seq = seq) = some m ∧ m.phase = .again ∧ 5000 ≤ s.tmk.mt - m.since),
   decide (s.qe.tx.find? (fun x => x.seq = seq) = some m ∧ m.phase = .last ∧ 25000 * s.fld F.QE_CFG_ack_to ≤ s.tmk.mt - m.since)]

/-- What each clause of CopyChannels asks. -/
def asks_CopyChannels (s : State) (who : Init) (n : Nat) (v : Word) : List Bool :=
  let src := s.copySrc n
  let dst := s.fld (F.QE_CPYn_DST_dst n)
  let len := v.toNat % 2 ^ 25
  let base : Bool := decide (n < 2 ∧ s.qe.copies.length = 2)
  [base && decide (s.mayWrite who (Reg.QE_CPY0_CTRL + 16 * n) = true ∧ s.fld (F.QE_CPYn_STATUS_state n) ≠ 1 ∧ v.getLsbD 26 = true ∧ v.getLsbD 25 = false ∧ len ≠ 0 ∧ len ≤ 2 ^ 24 ∧ len % 4 = 0 ∧ dst % 4 = 0 ∧ s.copyReads src len = true ∧ s.masterOk dst len = true ∧ ((dst + len ≤ src ∨ src + len ≤ dst))),
   base && decide (s.mayWrite who (Reg.QE_CPY0_CTRL + 16 * n) = true ∧ s.fld (F.QE_CPYn_STATUS_state n) ≠ 1 ∧ v.getLsbD 26 = true ∧ v.getLsbD 25 = false ∧ len ≠ 0 ∧ len ≤ 2 ^ 24 ∧ len % 4 = 0 ∧ dst % 4 = 0 ∧ s.copyReads src len = false),
   base && decide (s.mayWrite who (Reg.QE_CPY0_CTRL + 16 * n) = true ∧ s.fld (F.QE_CPYn_STATUS_state n) ≠ 1 ∧ v.getLsbD 26 = true ∧ v.getLsbD 25 = false ∧ len ≠ 0 ∧ len ≤ 2 ^ 24 ∧ len % 4 = 0 ∧ dst % 4 = 0 ∧ s.copyReads src len = true ∧ s.masterOk dst len = true ∧ src < dst + len ∧ dst < src + len),
   base && decide (s.mayWrite who (Reg.QE_CPY0_CTRL + 16 * n) = true ∧ s.fld (F.QE_CPYn_STATUS_state n) = 1 ∧ v.getLsbD 27 = true ∧ s.fld (F.QE_CPYn_CTRL_mode n) = 0),
   base && (match s.qe.copies.getD n none with | some k => decide (s.fld (F.QE_CPYn_CTRL_mode n) = 0) | _ => false)]

/-- What each clause of MemoryPort asks. -/
def asks_MemoryPort (s : State) (who : Init) (v : Word) (data : List Byte) (good : Bool) : List Bool :=
  [decide (s.mayWrite who Reg.XMP_CTRL = true ∧ v.getLsbD 0 = true ∧ s.fld F.XMP_CTRL_en = 0 ∧ s.icgLocked 0 = true),
   decide (s.mayWrite who Reg.XMP_CTRL = true ∧ v.getLsbD 0 = true ∧ s.fld F.XMP_CTRL_en = 0 ∧ s.icgLocked 0 = false),
   decide (s.mayWrite who Reg.XMP_CTRL = true ∧ v.getLsbD 0 = false ∧ s.fld F.XMP_CTRL_en = 1 ∧ s.xmpUsed = true),
   decide (s.mayWrite who Reg.XMP_CMD = true ∧ s.fld F.XMP_CMD_STATUS_state ≠ 1 ∧ v.getLsbD 31 = true ∧ s.fld F.XMP_CTRL_en = 1 ∧ v.toNat / 65536 % 512 ≤ 256 ∧ inSram (4 * s.fld F.XMP_CMD_BUF_buf) (v.toNat / 65536 % 512) = true),
   decide (s.mayWrite who Reg.XMP_CMD = true ∧ s.fld F.XMP_CMD_STATUS_state ≠ 1 ∧ v.getLsbD 31 = true ∧ s.fld F.XMP_CTRL_en = 1 ∧ 256 < v.toNat / 65536 % 512),
   decide (s.fld F.XMP_CMD_STATUS_state = 1 ∧ s.fld F.XMP_CMD_dir = 0 ∧ data.length = s.fld F.XMP_CMD_len),
   (match s.qe.posted with | p :: rest => decide (rest.length < 8) | _ => false),
   (match s.qe.posted with | p :: rest => decide (rest.length < 8 ∧ good = false) | _ => false)]

namespace Of04E04
def c0 : Init := .core 0
def g0 := run 0 (fun n => n)
def d0 : Desc := { base := 0x20004000, ctrl := 1 + 8 * 2, prod := 7, resv := 7, cons := 5 }
def qd (d : Desc) (q := 0x102) (pin := 0) (st : List (Nat × Word) := []) : State := let s := put (queues [(0x102, d), (0x103, d0)] g0) [(F.QE_DESC_SEL_queue, q)]
  let s := { s with qe := { s.qe with cache := s.qe.cache ++ (List.range pin).map (fun i => ⟨0x200 + i, d0, true⟩) } }
  st.foldl (fun t p => { t with regs := Store.set t.regs p.1 p.2 }) s
def stg (b c : Nat) : List (Nat × Word) := [(Reg.QE_DESC_BASE, w32 b), (Reg.QE_DESC_CTRL, w32 c)]
def qc (s : State) := asks_QueueDescriptorCommands s c0
def db (d : Desc) (v : Word) (f : Qe → Qe := id) := let s := qd d; asks_Doorbells { s with qe := f s.qe } 0 v
def tm (ph : TxPhase) (since : Nat) : TxMsg := { seq := 9, dst := 0x12, queue := 5, bytes := [1], origin := .block, phase := ph, since := since }
def dt (f : Qe → Qe) (s := qd d0) (m := tm .again 10) := asks_DeliveryTimeouts { s with qe := f s.qe } 0x102 9 20 4 0x55 2 m
def cp (v : Word) (src dst : Nat) (l : List (Field × Nat) := []) (f : Qe → Qe := id) := let s := put g0 ([(⟨Reg.QE_CPY0_CTRL + 0x10 + 4, 31, 0⟩, 0), (F.QE_CPYn_DST_dst 1, dst)] ++ l); let s := poke 0x20000010 [1,2,3,4,5,6,7] { (s.setFld (F.QE_CPYn_SRC_src 1) (src / 4)) with qe := f s.qe }; asks_CopyChannels s c0 1 v
def mp (v : Word) (l : List (Field × Nat)) (data : List Byte := []) (f : Qe → Qe := id) (good := true) := let s := put g0 l; asks_MemoryPort { s with qe := f s.qe } c0 v data good

theorem witness_QueueTable : shows [
    (asks_QueueTable g0 c0 (1 + 2 * 8 + 0x20010000), [0]),
    (asks_QueueTable (poke 0x200FFFFF [5,6] (poke 0x20107FFF [3, 4] (queues [] (put up [(F.QE_STATUS_table_busy, 1)])))) c0 0, [1])] = true := by decide +kernel

theorem witness_QueueDescriptorCommands : shows [
    (qc (qd { d0 with ctrl := 16 }), [1, 3, 5, 6, 7, 9]),
    (qc (qd d0 5), [0]),
    (qc (qd d0), [4]),
    (qc (qd { d0 with ctrl := 16 } 0x102 64), [8]),
    (qc (qd { d0 with ctrl := 16 } 0x102 0 (stg 0x20005000 24)), [2])] = true := by decide +kernel

theorem witness_Doorbells : shows [
    (db { d0 with ctrl := 1 + 16 + 2^18 } 0x20102, [0, 2, 4, 6]),
    (db d0 0x00102 (fun q => { q with evtFifo := [3, 4] }), [1, 3, 5])] = true := by decide +kernel

theorem witness_DeliveryTimeouts : shows [
    (dt (fun q => { q with openResv := [⟨0x102, .stream 2, 4, 20⟩] }), [0]),
    (dt (fun q => { q with openResv := [⟨0x102, .fabric 0x55 9 2, 4, 20⟩] }) (put (qd {d0 with resv := 8, rollbacks := 65535}) [(F.QE_CFG_resv_to, 3)]), [1]),
    (dt (fun q => { q with tx := [tm .again 10] }), [2]),
    (dt (fun q => { q with tx := [tm .last 10] }) (put (qd d0) [(F.QE_CFG_ack_to, 3)]) (tm .last 10), [3])] = true := by decide +kernel

theorem witness_CopyChannels : shows [
    (cp 0x08000010 0x20000010 0x20000100 [(F.QE_CPYn_STATUS_state 1, 1), (F.QE_CPYn_CTRL_len 1, 68)] (fun q => { q with copies := [none, some {}] }), [3, 4]),
    (cp 0x04000010 0x20000010 0x20000100, [0]),
    (cp 0x04000010 0x10000010 0x20000100, [1]),
    (cp 0x04000010 0x20000010 0x2000000C, [2])] = true := by decide +kernel

theorem witness_MemoryPort : shows [
    (mp 0 [(F.XMP_CTRL_en, 1), (F.XMP_CMD_STATUS_state, 1), (F.XMP_CMD_BUF_buf, 0x08000100), (F.XMP_CMD_len, 3)] [7,8,9], [2, 5]),
    (mp 0 [(F.XMP_CTRL_en, 1)] [] (fun q => { q with posted := [⟨0, 0x60000000, [1]⟩] }) false, [6, 7]),
    (mp 1 [(F.TMK_ICG_CTRL_locked, 1)], [0]),
    (mp 1 [], [1]),
    (mp 0x80100055 [(F.XMP_CTRL_en, 1), (F.XMP_CMD_BUF_buf, 0x08000100)], [3]),
    (mp 0x81010055 [(F.XMP_CTRL_en, 1), (F.XMP_CMD_BUF_buf, 0x08000100)], [4])] = true := by decide +kernel

end Of04E04


/-- What each clause of RemoteWindowsServed asks. -/
def asks_RemoteWindowsServed (s : State) (node target off size data : Nat) (store : Bool) : List Bool :=
  let a := off + (if target = 0 then 0x20000000 else 0x60000000)
  let open_ := s.fld F.CPU_CTRL_remote_in = 1 ∧ a % size = 0
  let sram := target = 0 ∧ inSram a size = true
  let base : Bool := decide ((size = 1 ∨ size = 2 ∨ size = 4))
  [base && decide (open_ ∧ (sram ∨ (target = 1 ∧ s.inPsram a size = true)) ∧ s.inTable a size = false ∧ store = true),
   base && decide (open_ ∧ (sram ∨ (target = 1 ∧ (s.csOf a size).isSome = true)) ∧ store = false),
   base && decide ((s.fld F.CPU_CTRL_remote_in = 0 ∨ a % size ≠ 0 ∨ 2 ≤ target ∨ (target = 0 ∧ inSram a size = false) ∨ (store = true ∧ s.inTable a size = true)))]

namespace Of04bE04
def g0 := run 0 (fun n => n)
def rw (l : List (Field × Nat)) (target off size data : Nat) (store : Bool) := asks_RemoteWindowsServed (poke 0x20000010 [1,2,3,4,5,6,7] (put g0 l)) 0x33 target off size data store
def ri := [(F.CPU_CTRL_remote_in, 1)]

theorem witness_RemoteWindowsServed : shows [
    (rw ri 0 0x10 4 0x99887766 true, [0]),
    (rw ri 0 0x12 2 0x99887766 false, [1]),
    (rw ri 0 0x12 4 0x99887766 false, [2])] = true := by decide +kernel

end Of04bE04


/-- What each clause of OperatingPoint asks. -/
def asks_OperatingPoint (s : State) (who : Init) (v : Word) (p r out n mon wear : Nat) (taps : List Nat) (tj : Int) : List Bool :=
  let base : Bool := decide (s.cpu.cores.length = 5)
  [base && decide (s.mayWrite who Reg.TMK_OPCTL = true ∧ (s.edgeOn = true ∨ s.fld F.TMK_STATUS_op_busy = 1)),
   base && decide (s.mayWrite who Reg.TMK_OPCTL = true ∧ s.edgeOn = false ∧ s.fld F.TMK_STATUS_op_busy = 0 ∧ v.toNat % 4 ≠ s.fld F.TMK_OPCTL_op_now),
   base,
   base && decide (s.tmk.opTarget = some p ∧ p < 4 ∧ taps.length = 24 ∧ ((∀ x, x ∈ taps → 400 ≤ x ∧ x ≤ 1900))),
   base && decide (s.tmk.opTarget = some p ∧ r < 4),
   base && decide (s.fld F.DSK_DAWN_STATUS_done = 1 ∧ s.tmk.mtRun = true ∧ 1 ≤ out ∧ out < 12 ∧ s.tmk.epTaps.length = 12 ∧ s.tmk.epEdge.length = 12 ∧ 400 ≤ n ∧ n ≤ 1900 ∧ s.tmk.epEdge.getD out false = true),
   base && decide (s.fld F.TMK_CTRL_wear_en = 1 ∧ s.fld F.TMK_STATUS_op_busy = 0 ∧ -20 ≤ tj ∧ tj ≤ 110 ∧ s.tmk.mtRun = true ∧ s.fld F.DSK_DAWN_STATUS_done = 1 ∧ mon < 8 ∧ s.tmk.wear.length = 8 ∧ wear < 600),
   base && decide (s.fld F.TMK_CTRL_wear_en = 1 ∧ s.fld F.TMK_STATUS_op_busy = 0 ∧ -20 ≤ tj ∧ tj ≤ 110 ∧ s.tmk.mtRun = true ∧ s.fld F.DSK_DAWN_STATUS_done = 1 ∧ mon < 8 ∧ s.tmk.wear.length = 8 ∧ 600 ≤ wear ∧ wear < 1000 ∧ (s.tmk.wear.getD mon none).getD 0 < 600 ∧ s.tmk.wearWarned = false ∧ mon ≠ 5)]

/-- What each clause of MeterAndWallTime asks. -/
def asks_MeterAndWallTime (s : State) (who : Init) (v : Word) (hi : Nat) : List Bool :=
  let mag := ((v.toNat : Int) - s.nj.wallSec).natAbs
  [decide (s.mayRead who Reg.TMK_MT_LO = true ∧ s.tmk.mtHi.length = 6),
   decide (s.mayRead who Reg.TMK_WALL_SEC = true ∧ s.tmk.wallSub.length = 6),
   decide (s.tmk.mtRun = true ∧ s.floorTop = some hi ∧ hi < s.tmk.mt / 2 ^ 32 ∧ s.nj.floors.length = 16 ∧ s.nj.floorNext < 16),
   decide (s.mayWrite who Reg.TMK_WALL_SET = true ∧ s.fld F.DSK_STATUS_warn = 1),
   decide (s.mayWrite who Reg.TMK_WALL_SET = true ∧ s.fld F.DSK_STATUS_warn = 0 ∧ s.nj.wallValid = true ∧ v.toNat ≠ s.nj.wallSec ∧ mag ≤ s.fld F.TMK_STEP_CFG_limit_s ∧ 1000 * mag + s.nj.bucketMs ≤ 1000 * s.fld F.TMK_STEP_CFG_budget_s),
   decide (s.mayWrite who Reg.TMK_WALL_SET = true ∧ s.fld F.DSK_STATUS_warn = 0 ∧ s.nj.wallValid = true ∧ s.isManager = false ∧ s.fld F.TMK_STEP_CFG_limit_s < ((v.toNat : Int) - s.nj.wallSec).natAbs),
   decide (s.tmk.mtRun = true ∧ s.tmk.drainFrom + 90000000000 ≤ s.tmk.mt)]

/-- What each clause of CompareUnits asks. -/
def asks_CompareUnits (s : State) (who : Init) (n : Nat) (v : Word) : List Bool :=
  let goal := s.tmk.mt / 2 ^ 56 * 2 ^ 56 + v.toNat % 2 ^ 24 * 2 ^ 32 + s.fld (F.TMK_CMPn_LO_target_lo n)
  let base : Bool := decide (n < 8 ∧ s.cpu.cores.length = 5 ∧ s.tmk.cmpTarget.length = 8)
  [base && decide (s.mayWrite who (Reg.TMK_CMP0_HI + 8 * n) = true ∧ v.getLsbD 24 = true ∧ s.tmk.mt < goal),
   base && decide (s.mayWrite who (Reg.TMK_CMP0_HI + 8 * n) = true ∧ v.getLsbD 24 = true ∧ goal ≤ s.tmk.mt),
   base && decide (s.fld (F.TMK_CMPn_HI_en n) = 1 ∧ s.tmk.cmpTarget.getD n 0 ≤ s.tmk.mt),
   base && decide ((s.fld (F.TMK_CMPn_HI_en n) = 0 ∨ s.tmk.mt < s.tmk.cmpTarget.getD n 0))]

/-- What each clause of ClocksAndCrystals asks. -/
def asks_ClocksAndCrystals (s : State) (who : Init) (v : Word) (n : Nat) (ppm : Int) (lost : Bool) : List Bool :=
  let base : Bool := decide (n < 4)
  [base && decide (s.mayWrite who Reg.TMK_ICG_CTRL = true ∧ s.icgLocked 1 = false ∧ v.toNat % 16 = 2 ^ n ∧ ((∀ m : Nat, m < 4 → s.icgOn m = false))),
   base && decide (s.tmk.mtRun = true ∧ s.icgOn n = true ∧ n ≠ 1 ∧ s.icgLocked n = false),
   base && decide (s.tmk.mtRun = true ∧ s.icgOn n = true ∧ n ≠ 1 ∧ s.icgLocked n = true),
   base && decide (s.tmk.mtRun = true ∧ s.icgOn 1 = false),
   base && decide (s.fld F.TMK_STATUS_xtal_mt_lost = 1),
   base && decide (11 ≤ s.fld F.DSK_DAWN_STATUS_step ∧ s.dsk.off = false ∧ (lost = true ∨ (s.fld F.TMK_CTRL_ratio_en = 1 ∧ s.tmk.mtRun = true ∧ (200 < ppm ∨ ppm < -200)))),
   base && decide (11 ≤ s.fld F.DSK_DAWN_STATUS_step ∧ s.dsk.off = false ∧ lost = false ∧ -200 ≤ ppm ∧ ppm ≤ 200)]

namespace Of05E05
def c0 : Init := .core 0
def g0 := run 0 (fun n => n)
def op (v : Word) (l : List (Field × Nat) := []) (p := 1) (r := 2) (out := 3) (n := 500) (mon := 2) (wear := 20) (f : Tmk → Tmk := id) (tj := 30) :=
  let s := put g0 l; asks_OperatingPoint { s with tmk := f s.tmk } c0 v p r out n mon wear (List.replicate 24 700) tj
def mw (l : List (Field × Nat)) (v : Word) (fn : Nj → Nj := id) (ft : Tmk → Tmk := id) (hi := 0) := let s := put g0 l; asks_MeterAndWallTime { s with nj := fn s.nj, tmk := ft s.tmk } c0 v hi
def wv (n : Nj) : Nj := { n with wallValid := true, wallSec := 1000, wallSub := 5, bucketMs := 3000 }
def cm (v : Word) (n : Nat) (l : List (Field × Nat)) (f : Tmk → Tmk := id) := let s := put g0 l; asks_CompareUnits { s with tmk := f s.tmk } c0 n v
def cx (v : Word) (n : Nat) (l : List (Field × Nat)) (ppm : Int := 0) (lost := false) (f : Tmk → Tmk := id) :=
  let s := put g0 l; let s := { s with tmk := f s.tmk }
  let w := put s [(F.TMK_STATUS_xtal_mt_lost, 1), (F.TMK_STATUS_xtal_mt_fail, 1)]; let u := w.fault 0x0101
  let v' := { u with regs := (put u [(F.TMK_ICG_CTRL_locked, 0)]).regs, tmk := { s.tmk with mtRun := false } }
  asks_ClocksAndCrystals s c0 v n ppm lost

theorem witness_OperatingPoint : shows [
    (op 0 [] 1 2 3 500 2 20 (fun t => { t with opTarget := some 1 }), [1, 2, 3, 4, 6]),
    (op 2 [(F.TMK_STATUS_op_busy, 1)], [0]),
    (op 0 [] 1 2 3 500 2 20 (fun t => { t with epEdge := List.replicate 12 true }), [5]),
    (op 0 [(F.TMK_CTRL_wear_en, 1)] 1 2 3 500 2 700, [7])] = true := by decide +kernel

theorem witness_MeterAndWallTime : shows [
    (mw [(F.DSK_STATUS_warn, 1)] 0, [0, 1, 3]),
    (mw [] 1003 wv, [4]),
    (mw [(F.SYS_ROLE_role, 2)] 999999 wv, [5]),
    (mw [] 0 (fun n => { n with floors := (some 2) :: List.replicate 15 none, floorNext := 1 }) (fun t => { t with mt := 2^33 + 2^32 }) 2, [2]),
    (mw [] 0 id (fun t => { t with mt := 90000000005, drainFrom := 5 }), [6])] = true := by decide +kernel

theorem witness_CompareUnits : shows [
    (cm 0x07000001 3 [], [0, 3]),
    (cm 0x07000000 3 [], [1]),
    (cm 0 3 [(F.TMK_CMPn_HI_en 3, 1), (F.TMK_CMPn_HI_core_mask 3, 0x15)], [2])] = true := by decide +kernel

theorem witness_ClocksAndCrystals : shows [
    (cx 0x54 2 [], [0, 3]),
    (cx 0 0 [(⟨Reg.TMK_ICG_CTRL, 3, 0⟩, 5)], [1]),
    (cx 0 0 [(⟨Reg.TMK_ICG_CTRL, 3, 0⟩, 5), (F.TMK_ICG_CTRL_locked, 5)], [2]),
    (cx 0 0 [(F.DSK_DAWN_STATUS_step, 16)] 200, [6]),
    (cx 0 0 [(F.DSK_DAWN_STATUS_step, 16)] 200 true, [5]),
    (cx 0 0 [(F.TMK_STATUS_xtal_mt_lost, 1)] 0 false (fun t => { t with mtRun := false }), [4])] = true := by decide +kernel

end Of05E05


/-- What each clause of ResetLeaves asks. -/
def asks_ResetLeaves (s : State) (kind : Nat) : List Bool :=
  let base : Bool := decide (kind < 8 ∧ s.storesWf = true)
  [base]

/-- What each clause of DawnSteps asks. -/
def asks_DawnSteps (s : State) (taps : List Nat) (hi sw : Nat) (lp : Bool) : List Bool :=
  [decide ((s.dsk.off = true ∨ s.fld F.DSK_DAWN_STATUS_step = 0)),
   decide (s.fld F.DSK_DAWN_STATUS_step ≠ 0 ∧ s.dsk.off = false ∧ s.nj.holdupFrom = none),
   decide (s.dsk.off = false ∧ s.inHold = false ∧ s.dawnDone = false ∧ s.fld F.DSK_DAWN_STATUS_step = 2),
   decide (s.dsk.off = false ∧ s.inHold = false ∧ s.dawnDone = false ∧ s.duskWarn = false ∧ s.fld F.DSK_DAWN_STATUS_step = 6 ∧ s.floorTop = some hi ∧ taps.length = 24 ∧ ((∀ x, x ∈ taps → 400 ≤ x ∧ x ≤ 1900))),
   decide (s.dsk.off = false ∧ s.inHold = false ∧ s.dawnDone = false ∧ s.duskWarn = false ∧ s.fld F.DSK_DAWN_STATUS_step = 6),
   decide (s.dsk.off = false ∧ s.inHold = false ∧ s.dawnDone = false ∧ s.duskWarn = false ∧ s.fld F.DSK_DAWN_STATUS_step = 11 ∧ s.nj.dawnSeal = []),
   decide (s.dsk.off = false ∧ s.inHold = false ∧ s.dawnDone = false ∧ s.duskWarn = false ∧ s.fld F.DSK_DAWN_STATUS_step = 11 ∧ s.nj.dawnSeal = [(sw, lp), (sw, lp)] ∧ sw < 256 ∧ s.fld F.NJD_SEAL_sw = sw ∧ s.is F.NJD_SEAL_loop_ok = lp),
   decide (s.dsk.off = false ∧ s.inHold = false ∧ s.dawnDone = false ∧ s.duskWarn = false ∧ s.fld F.DSK_DAWN_STATUS_step = 11),
   decide (s.dsk.off = false ∧ s.inHold = false ∧ s.dawnDone = false ∧ s.duskWarn = false ∧ s.fld F.DSK_DAWN_STATUS_step = 13 ∧ s.bootRec = none),
   (decide (s.dsk.off = false ∧ s.inHold = false ∧ s.dawnDone = false ∧ s.duskWarn = false ∧ s.fld F.DSK_DAWN_STATUS_step = 13) && (match s.bootRec with | some r => (let u := (s.setFld F.DSK_BOOT_slot r.slot).setWord Reg.DSK_ACTIVE_SET (w32 r.set); decide (u.bootFault r ≠ 0)) | _ => false)),
   (decide (s.dsk.off = false ∧ s.inHold = false ∧ s.dawnDone = false ∧ s.duskWarn = false ∧ s.fld F.DSK_DAWN_STATUS_step = 13) && (match s.bootRec with | some r => (let u := (s.setFld F.DSK_BOOT_slot r.slot).setWord Reg.DSK_ACTIVE_SET (w32 r.set); decide (u.bootFault r = 0)) | _ => false))]

/-- What each clause of ResetRequests asks. -/
def asks_ResetRequests (s : State) (who : Init) (t0 k : Nat) : List Bool :=
  let base : Bool := decide (s.dsk.off = false ∧ s.dsk.saving = none)
  [base && decide (s.fld F.DSK_DAWN_STATUS_step ≠ 0),
   base && decide (s.fld F.DSK_DAWN_STATUS_step ≠ 0 ∧ s.fld F.KV_TAP_session = 1 ∧ 1 < s.kv.tapLevel),
   base && decide (s.mayWrite who Reg.DSK_RESET = true ∧ s.duskWarn = false),
   base && decide (s.mayWrite who Reg.DSK_RESET = true ∧ s.duskWarn = false ∧ s.dsk.swKey = some (who, t0) ∧ s.tmk.mt ≤ t0 + 25000),
   base && decide (s.mayWrite who Reg.DSK_RESET = true ∧ s.duskWarn = false ∧ s.dsk.swKey = some (who, t0) ∧ t0 + 25000 < s.tmk.mt),
   base && decide (k ≠ 2)]

/-- What each clause of DuskAndCheckpoints asks. -/
def asks_DuskAndCheckpoints (s : State) (sv : Saving) (b : Nat) (img : List Byte) : List Bool :=
  let base : Bool := decide (s.dsk.off = false ∧ s.dsk.banks.length = 2 ∧ s.dsk.ckpts.length = 8 ∧ s.dsk.ckptNext < 8)
  [base && decide (s.duskWarn = false ∧ s.dawnDone = false ∧ s.inHold = false ∧ 3 ≤ s.fld F.DSK_DAWN_STATUS_step),
   base && decide (s.duskWarn = false ∧ s.dawnDone = true ∧ s.inHold = false ∧ 3 ≤ s.fld F.DSK_DAWN_STATUS_step ∧ s.dsk.saving = none),
   base && decide (s.duskWarn = true),
   base && decide (s.dsk.saving = some sv ∧ sv.bank = none ∧ sv.from_ + 2500 ≤ s.tmk.mt ∧ s.isWorker = true ∧ ((∀ j : Nat, j < 2 → s.fld (F.MTR_CAPu_STATUS_state j) = 0))),
   base && (decide (s.dsk.saving = some sv ∧ sv.kind = 2 ∧ sv.bank = some b ∧ b < 2) && (match s.dsk.banks.getD b none with | some i => true | _ => false)),
   base && decide (s.dawnDone = true ∧ s.fld F.DSK_CTRL_ckpt_en = 1 ∧ s.tmk.mtRun = true ∧ s.dsk.saving = none ∧ s.dsk.ckpt = none ∧ s.dsk.ckptAt + s.fld F.DSK_CKPT_CFG_period * 25000000 ≤ s.tmk.mt ∧ s.isWorker = true),
   base && decide (s.dsk.ckpt = some img)]

namespace Of06E06
def c0 : Init := .core 0
def g0 := run 0 (fun n => n)
def big (s : State) : State := { s with cpu := { s.cpu with mbox := [[1],[],[],[],[2]] }, nj := { s.nj with wallSec := 77, log := [default], saveSeq := 9, dawnSeal := [(1, true)] }, kv := { s.kv with slots := (s.kv.slots.set 40 { state := 1, alg := 3 }).set 220 { state := 1, alg := 3 } } }
def s1 := big (poke 0x20000000 [1,2,3] (poke 0x10 [7,8] (poke 0x7FFFFF [9] (poke 0x60000000 [3] (put g0 [(F.NJD_TAMPER_STATUS_latch, 0x55), (F.NJD_SEAL_sw, 0x31), (F.SAF_CTRL_evt_mask, 15)])))))
def hd := { State.reset with dsk := { State.reset.dsk with off := false } }
def dw (l : List (Field × Nat)) (f : State → State := id) (hi := 5) (sw := 3) (lp := true) := let s := f (put hd l); asks_DawnSteps s (List.replicate 24 700) hi sw lp
def wr (a : Nat) (v : Nat) (s : State) : State := { s with mem := Store.setBytes s.mem a (leBytes 4 v) }
def good (f : ActRec → ActRec := id) (g : State → State := id) : State :=
  let s := put hd [(F.DSK_DAWN_STATUS_step, 13), (F.SYS_ROLE_role, 1)]
  let b := slotBase 0
  let s := wr b 0x49534E47 (wr (b+4) 1 (wr (b+8) 7 (wr (b+0xC) 3 (wr (b+0x10) 2 (wr (b+0x14) 0 (wr (b+0x18) 4096 (wr (b+0x1C) 0x100 (wr (b+0x20) 0 (wr (b+0x24) 16 (wr (b+0x28) 8 s))))))))))
  let s := wr (b+256) 0x12345678 s
  let s := g s
  let d := Config.sha384 (s.readBytes b 4096)
  { s with update := { s.update with banks := [some (f { seq := 3, set := 7, slot := 0, digA := d, digB := [], ctrs := List.replicate 64 0, committed := true, activated := true, crcOk := true }), none] } }
def rq (l : List (Field × Nat)) (f : State → State := id) (k := 3) := let s := f (put g0 l); asks_ResetRequests s c0 1000 k
def im (b : Nat) : SaveImg := { bytes := List.replicate 512 (BitVec.ofNat 8 b), commit := 0 }
def du (l : List (Field × Nat)) (f : State → State := id) (sv : Saving := { kind := 2, from_ := 0 }) (b := 1) (img : List Byte := (im 4).bytes) := let s := f (put g0 l); asks_DuskAndCheckpoints s sv b img
def sv1 (k : Nat) (b : Option Nat) : Saving := { kind := k, from_ := 0, bank := b }

theorem witness_ResetLeaves : shows [
    ((((List.range 8).map (fun k => asks_ResetLeaves s1 k))).getD 0 [], [0])] = true := by decide +kernel

theorem witness_DawnSteps : shows [
    (dw [(F.DSK_DAWN_STATUS_step, 6)] (fun s => { s with nj := { s.nj with floors := (some 5) :: List.replicate 15 none } }), [1, 3, 4]),
    (dw [(F.DSK_DAWN_STATUS_step, 11)], [5, 7]),
    (dw [], [0]),
    (dw [(F.DSK_DAWN_STATUS_step, 2)], [2]),
    (dw [(F.DSK_DAWN_STATUS_step, 11), (F.NJD_SEAL_sw, 3), (F.NJD_SEAL_loop_ok, 1)] (fun s => { s with nj := { s.nj with dawnSeal := [(3, true), (3, true)] } }), [6]),
    (dw [(F.DSK_DAWN_STATUS_step, 13)], [9]),
    (dw [] (fun _ => good (fun r => { r with crcOk := false })), [8])] = true := by decide +kernel

theorem witness_ResetRequests : shows [
    (rq [(F.DSK_DAWN_STATUS_step, 17), (F.KV_TAP_session, 1)] (fun s => { s with kv := { s.kv with tapLevel := 2 } }), [0, 1, 2, 5]),
    (rq [] (fun s => { s with dsk := { s.dsk with swKey := some (c0, 1000) } }), [4]),
    (rq [] (fun s => { s with tmk := { s.tmk with mt := 20000 }, dsk := { s.dsk with swKey := some (c0, 1000) } }), [3])] = true := by decide +kernel

theorem witness_DuskAndCheckpoints : shows [
    (du [(F.DSK_DAWN_STATUS_step, 6), (F.DSK_DAWN_STATUS_done, 0)], [0]),
    (du [(F.DSK_DAWN_STATUS_step, 17)] id { kind := 2, from_ := 0 } 1 [], [1]),
    (du [(F.DSK_STATUS_warn, 1), (F.SYS_POST_STATUS_dusk_warn, 1)] id { kind := 2, from_ := 0 } 1 [], [2]),
    (du [(F.SYS_ROLE_role, 2)] (fun s => { s with dsk := { s.dsk with saving := some (sv1 3 none) } }) (sv1 3 none), [3]),
    (du [(F.SYS_ROLE_role, 2), (F.DSK_STATUS_saving, 1)] (fun s => { s with dsk := { s.dsk with saving := some (sv1 2 (some 1)), banks := [some (im 3), some (im 9)] } }) (sv1 2 (some 1)), [4]),
    (du [(F.SYS_ROLE_role, 2), (F.DSK_CTRL_ckpt_en, 1), (F.DSK_CKPT_CFG_period, 0)], [5]),
    (du [(F.SYS_ROLE_role, 2), (F.DSK_STATUS_ckpt_busy, 1)] (fun s => { s with dsk := { s.dsk with ckpt := some (im 4).bytes } }), [6])] = true := by decide +kernel

end Of06E06


/-- What each clause of NightjarSupply asks. -/
def asks_NightjarSupply (s : State) (a b h src mv : Nat) : List Bool :=
  [decide (s.nj.vnjLost = false ∧ s.fld F.NJD_STATUS_source = 0 ∧ s.nj.isolated = false ∧ (b < a + 30 ∧ h < a + 30)),
   decide (s.nj.vnjLost = false ∧ s.fld F.NJD_STATUS_source = 0 ∧ s.nj.isolated = false ∧ a + 30 ≤ b ∧ h ≤ b),
   decide (s.nj.vnjLost = false ∧ s.fld F.NJD_STATUS_source = 0 ∧ s.nj.isolated = false ∧ a + 30 ≤ h ∧ b < h),
   decide (s.nj.vnjLost = true ∧ s.nj.initialised = true ∧ src < 4),
   decide (s.nj.initialised = false ∧ src < 4),
   decide (s.nj.vnjLost = false ∧ s.nj.isolated = false ∧ 1900 ≤ mv ∧ mv < 2300 ∧ s.fld F.NJD_STATUS_vbat_low = 0),
   decide (s.nj.vnjLost = false ∧ s.nj.isolated = false ∧ 2300 ≤ mv ∧ mv ≤ 2400),
   decide (s.nj.vnjLost = false ∧ s.nj.isolated = false ∧ 2400 < mv ∧ mv < 4096 ∧ s.fld F.NJD_STATUS_vbat_low = 1)]

/-- What each clause of RealTimeClock asks. -/
def asks_RealTimeClock (s : State) (temp : Int) (ms : Nat) : List Bool :=
  let acc := s.nj.rtcAcc + s.rtcCorr temp
  let base : Bool := decide (s.nj.vnjLost = false)
  [base && decide (s.nj.oscStopped = false ∧ s.nj.wallSub < 32768 ∧ s.nj.wallSec < 2 ^ 32 ∧ -3052 < acc ∧ acc < 3052),
   base && decide (s.nj.oscStopped = false ∧ s.nj.wallSub < 32768 ∧ s.nj.wallSec < 2 ^ 32 ∧ 3052 ≤ acc ∧ acc < 6104 ∧ s.nj.wallSub < 32767),
   base && decide (s.nj.oscStopped = false ∧ s.nj.wallSub < 32768 ∧ s.nj.wallSec < 2 ^ 32 ∧ -6104 < acc ∧ acc ≤ -3052 ∧ 1 ≤ s.nj.wallSub),
   base && decide (s.nj.oscStopped = false),
   base && decide (s.nj.oscStopped = true)]

/-- What each clause of TamperAndSeal asks. -/
def asks_TamperAndSeal (s : State) (who : Init) (v : Word) (n tmp mag lux temp sw : Nat) (lp : Bool) : List Bool :=
  let base : Bool := decide (s.nj.vnjLost = false)
  [base && decide (((∀ m : Nat, m < 7 → s.wrenOn m = false))),
   base && decide (((∀ m : Nat, m < 7 → m ≠ 4 → s.wrenOn m = false)) ∧ s.wrenOn 4 = true ∧ s.nj.abnormal.length = 7 ∧ s.nj.normal.length = 7 ∧ mag < 256 ∧ s.fldBit F.NJD_TAMPER_STATUS_live 4 = false ∧ s.fld F.NJD_MAG_CFG_thr ≤ mag ∧ s.fld F.NJD_WREN_CFG_assert_cnt ≤ min 15 (s.nj.abnormal.getD 4 0 + 1)),
   base && decide (s.mayWrite who Reg.NJD_TAMPER_CLR = true ∧ n < 8 ∧ v.toNat % 256 = 2 ^ n ∧ s.tamperEn = true ∧ s.fldBit F.NJD_TAMPER_STATUS_latch n = true ∧ s.fldBit F.NJD_TAMPER_STATUS_live n = false),
   base && decide (s.mayWrite who Reg.NJD_TAMPER_CLR = true ∧ n < 8 ∧ v.toNat % 256 = 2 ^ n ∧ s.tamperEn = true ∧ s.fldBit F.NJD_TAMPER_STATUS_live n = true),
   base && decide (s.mayWrite who Reg.NJD_TAMPER_CLR = true ∧ n < 8 ∧ v.toNat % 256 = 2 ^ n ∧ s.tamperEn = false),
   base && decide (s.nj.sealFallback = false ∧ sw < 256 ∧ s.saf.armed = false ∧ (s.metroEn = true ∨ sw / 2 % 2 = 0) ∧ s.nj.sealScanned = true ∧ s.fld F.NJD_SEAL_raw = sw ∧ s.is F.NJD_SEAL_loop_raw = lp ∧ s.is F.NJD_SEAL_loop_ok = lp ∧ s.fld F.NJD_SEAL_sw ≠ sw),
   base && decide (s.nj.sealFallback = false ∧ sw < 256 ∧ s.saf.armed = false ∧ (s.metroEn = true ∨ sw / 2 % 2 = 0) ∧ s.fld F.NJD_SEAL_raw ≠ sw)]

/-- What each clause of LogEntries asks. -/
def asks_LogEntries (s : State) (c : Nat) (v : Word) (e : LogEvent) : List Bool :=
  [decide (s.nj.vnjLost = false ∧ s.fld F.NJD_LOG_COUNT_main_full = 0 ∧ s.nj.log.length < 4032 ∧ s.nj.badCells = [] ∧ e.cont = none ∧ e.wall = none ∧ e.cls ≠ 7 ∧ e.info < 65536),
   decide (s.nj.vnjLost = true),
   decide (s.mayWrite (.core c) Reg.NJD_LOG_APP0 = true ∧ c < 4 ∧ (s.core c).task = false),
   decide (s.mayWrite (.core c) Reg.NJD_LOG_APP1 = true ∧ c < 4 ∧ (s.core c).task = false ∧ s.nj.app0 = false),
   decide (s.mayWrite (.core c) Reg.NJD_LOG_APP1 = true ∧ c < 4 ∧ (s.core c).task = false ∧ s.nj.app0 = true)]

/-- What each clause of SuppliesAndLife asks. -/
def asks_SuppliesAndLife (s : State) (f : Nat) : List Bool :=
  let base : Bool := decide (s.dsk.off = false)
  [base && decide (s.duskWarn = false ∧ s.fld F.SYS_SUPPLY_vana_ok = 1),
   base,
   base && decide (s.fld F.SYS_SUPPLY_buck_limit = 0),
   base && decide (s.life.minuteFrom = some f ∧ s.tmk.mtRun = true ∧ f + 1500000000 ≤ s.tmk.mt ∧ s.life.minutes.length = 9),
   base && decide (s.life.unstored < 60),
   base && decide (60 ≤ s.life.unstored ∧ s.life.copies.length = 2 ∧ s.profileOver = false ∧ s.rateOver = false),
   base && decide (60 ≤ s.life.unstored ∧ s.life.copies.length = 2 ∧ s.profileOver = false ∧ s.rateOver = false ∧ s.lifeCopy = none)]

namespace Of07E07
def c0 : Init := .core 0
def g0 := run 0 (fun n => n)
def njs (f : Nj → Nj) (s : State := g0) : State := { s with nj := f s.nj }
def iso : State := njs (fun n => { n with isolated := false })
def ns (s : State) (a b h src mv : Nat) := asks_NightjarSupply s a b h src mv
def rt (s : State) (temp : Int) := asks_RealTimeClock s temp 500
def tm (s : State) (v : Word) (n := 0) (mag := 0) (sw := 0) (lp := true) := asks_TamperAndSeal s c0 v n 0 mag 0 25 sw lp
def woff := put iso ((List.range 4).map (fun n => (F.NJD_TMP_CFG_mode n, 0)) ++ [(F.NJD_MAG_CFG_en, 0), (F.NJD_LIGHT_CFG_en, 0), (F.NJD_DTEMP_CFG_en, 0)])
def wren := put woff [(F.NJD_MAG_CFG_en, 1), (F.NJD_MAG_CFG_thr, 100), (F.NJD_WREN_CFG_assert_cnt, 1)]
def lg (s : State) (e : LogEvent) := asks_LogEntries s 0 0x12345678 e

theorem witness_NightjarSupply : shows [
    (ns (put iso [(F.NJD_STATUS_source, 0)]) 3000 3029 3029 0 2000, [0, 4, 5]),
    (ns iso 3000 0 0 0 2300, [6]),
    (ns (put iso [(F.NJD_STATUS_vbat_low, 1)]) 1 1 1 0 2401, [7]),
    (ns iso 3000 3030 3030 0 1900, [1]),
    (ns iso 3000 3030 3031 0 2299, [2]),
    (ns (njs (fun n => { n with vnjLost := true, initialised := true, log := [default], wallSec := 99, wallValid := true }) (put g0 [(F.NJD_TAMPER_STATUS_live, 1), (F.NJD_SEAL_sw, 3), (F.NJD_RTC_EFF_corr, 3)])) 1 1 1 3 2000, [3])] = true := by decide +kernel

theorem witness_RealTimeClock : shows [
    (rt (put iso [(F.NJD_RTC_TCOMP_k, 250), (F.NJD_RTC_TCOMP_tcomp_en, 1), (F.NJD_RTC_TCOMP_t0, 25)]) (-40), [0, 3]),
    (rt (njs (fun n => { n with rtcAcc := 3052 })) 3, [1]),
    (rt (njs (fun n => { n with rtcAcc := -3052, wallSub := 1 })) 3, [2]),
    (rt (njs (fun n => { n with oscStopped := true })) 3, [4])] = true := by decide +kernel

theorem witness_TamperAndSeal : shows [
    (tm woff 1, [0, 4]),
    (tm (put iso [(F.NJD_SEAL_sw, 8), (F.NJD_TAMPER_STATUS_latch, 0x55)]) 4 2 0 9 true, [2, 6]),
    (tm wren 1 0 100, [1]),
    (tm (put iso [(F.NJD_SEAL_sw, 8), (F.NJD_TAMPER_STATUS_latch, 0x55), (F.NJD_TAMPER_STATUS_live, 4)]) 4 2, [3]),
    (tm (njs (fun n => { n with sealScanned := true }) (put iso [(F.NJD_SEAL_sw, 0), (F.NJD_SEAL_raw, 0xF1), (F.NJD_SEAL_loop_raw, 1), (F.NJD_SEAL_loop_ok, 1)])) 1 0 0 0xF1 true, [5])] = true := by decide +kernel

theorem witness_LogEntries : shows [
    (lg iso ⟨5, 3, 7, 9, none, none⟩, [0, 2, 3]),
    (lg (njs (fun n => { n with app0 := true }) (put iso [(F.NJD_LOG_APP0_info, 77)])) ⟨11, 3, 65535, 9, none, none⟩, [4]),
    (lg (njs (fun n => { n with vnjLost := true })) ⟨5, 3, 7, 9, none, none⟩, [1])] = true := by decide +kernel

end Of07E07

namespace Of07E08
def sl (s : State) (f : Nat := 0) := asks_SuppliesAndLife s f
def lf (f : Life → Life) (s : State := up) : State := { s with life := f s.life }

theorem witness_SuppliesAndLife : shows [
    (sl (put up [(F.SYS_SUPPLY_vana_ok, 1)]), [0, 1, 2, 4]),
    (sl (lf (fun l => { l with unstored := 60 })), [5, 6]),
    (sl (lf (fun l => { l with minuteFrom := some 5, peak := some 253, minutes := [2^32-1, 1,2,3,4,5,6,7,2^32-1] }) { up with tmk := { up.tmk with mt := 1500000005 } }) 5, [3])] = true := by decide +kernel

end Of07E08


/-- What each clause of UpdateStaging asks. -/
def asks_UpdateStaging (s : State) (l : List Byte) (man : Manifest) (x : KvTicket) (i : Nat) : List Bool :=
  let t (b : Bool) : State := (s.unitFront b).2
  let d := (l.drop 32).take 4096
  let n := u l 8 1
  let p := man.parts.getD n default
  [(let b := true; decide ((s.unitFront b).1 = some l ∧ unitOk l = false)),
   decide ((s.unitFront true).1 = some l ∧ unitOk l = true ∧ (t true).isManager = false ∧ (t true).isWorker = true ∧ (t true).updState ≠ 6 ∧ (t true).updState ≠ 4 ∧ (t true).update.man = none ∧ formatOk d = true),
   decide ((s.unitFront true).1 = some l ∧ unitOk l = true ∧ (t true).isManager = true ∧ (t true).updState ≠ 3 ∧ (t true).updState ≠ 4 ∧ (t true).update.checking = none ∧ (t true).update.man = none ∧ (t true).manBarred = false ∧ formatOk d = false),
   (decide ((s.unitFront false).1 = some l ∧ unitOk l = true ∧ (t false).update.man = some man ∧ u l 4 4 = man.set ∧ u l 8 1 < man.parts.length ∧ (t false).updState = 1 ∧ (t false).isWorker = true ∧ (t false).isManager = false) && (let b := u l 10 2; decide ((t false).ownPart p = true ∧ b < p.len / 4096 ∧ b ∉ ((t false).stagedPart n).held ∧ ((p.off ≠ 0 ∨ b ≠ 0)) ∧ n < (t false).update.parts.length))),
   decide (s.kvJob .manifest = some x ∧ s.update.checking = some man ∧ (s.kv.tickets.all (fun y => match y.job with | some (.retained _, _) => false | _ => true) = true) ∧ x.phase = 3 ∧ coverageOk man = true ∧ s.stageOk man = true ∧ man.set < 2 ^ 32 ∧ man.set ≠ s.fld F.DSK_ACTIVE_SET_active_set),
   decide (s.kvJob .manifest = some x ∧ s.update.checking = some man ∧ (s.kv.tickets.all (fun y => match y.job with | some (.retained _, _) => false | _ => true) = true) ∧ x.phase = 4),
   decide (s.update.man = some man ∧ s.isWorker = true ∧ i < man.parts.length ∧ i < s.update.parts.length ∧ s.partComplete man i = true ∧ (s.stagedPart i).verified = false ∧ s.stages (man.parts.getD i default) = true ∧ Config.sha384 (s.partBytes man i) = (man.parts.getD i default).digest),
   decide (s.update.man = some man ∧ s.isWorker = true ∧ i < man.parts.length ∧ i < s.update.parts.length ∧ s.partComplete man i = true ∧ (s.stagedPart i).verified = false ∧ s.stages (man.parts.getD i default) = true ∧ Config.sha384 (s.partBytes man i) ≠ (man.parts.getD i default).digest),
   decide (s.update.man = some man ∧ s.isWorker = true ∧ s.isManager = false ∧ s.updState = 1 ∧ s.update.boot = none ∧ s.ownVerified man = true ∧ partsOf man s.ownMember ≠ [])]

/-- What each clause of UpdateActivation asks. -/
def asks_UpdateActivation (s : State) (who : Init) (v : Word) (man : Manifest) (old : ActRec) : List Bool :=
  [decide (s.mayWrite who Reg.UPD_ACTIVATE = true ∧ v.toNat % 65536 ≠ 0xAC71),
   decide (s.mayWrite who Reg.UPD_ACTIVATE = true ∧ v.toNat % 65536 = 0xAC71 ∧ s.isManager = true ∧ s.update.man = some man ∧ s.updState = 2 ∧ s.fld F.UPD_STATUS_restage = 0 ∧ v.toNat / 65536 = man.set % 65536 ∧ s.heldReasons = 0),
   decide (s.mayWrite who Reg.UPD_ACTIVATE = true ∧ v.toNat % 65536 = 0xAC71 ∧ s.isManager = true ∧ s.update.man = some man ∧ s.updState = 2 ∧ s.fld F.UPD_STATUS_restage = 0 ∧ v.toNat / 65536 = man.set % 65536 ∧ s.bil.session.isSome = true),
   decide (s.mayWrite who Reg.UPD_ACTIVATE = true ∧ v.toNat % 65536 = 0xAC71 ∧ s.isManager = true ∧ s.update.man = some man ∧ (s.updState ≠ 2 ∨ v.toNat / 65536 ≠ man.set % 65536)),
   decide (s.mayWrite who Reg.UPD_ABORT = true ∧ v.toNat % 65536 ≠ 0x5AB0),
   decide (s.mayWrite who Reg.UPD_ABORT = true ∧ v.toNat % 65536 = 0x5AB0 ∧ s.updState ≠ 3 ∧ s.updState ≠ 4 ∧ s.updState ≠ 6),
   decide (s.update.man = some man ∧ s.isManager = true ∧ s.updState = 3 ∧ s.updateHold = false ∧ s.heldReasons ≠ 0),
   decide (s.update.man = some man ∧ s.isManager = true ∧ s.updState = 3 ∧ s.updateHold = false ∧ s.heldReasons = 0 ∧ s.admittedList = [] ∧ s.update.prepared = 0 ∧ s.dawnDone = true ∧ s.dsk.off = false ∧ s.dsk.saving = none ∧ s.bootRec = some old ∧ s.update.banks = [some old, none] ∧ old.seq + 1 < 2 ^ 32 ∧ old.slot < 2),
   decide (s.update.man = some man ∧ s.isManager = true ∧ s.updState = 3 ∧ s.updateHold = true ∧ s.update.waitPrep ≠ 0 ∧ s.update.prepared = 0 ∧ s.update.sentAt + 5000000 ≤ s.tmk.mt),
   decide (s.isManager = true ∧ s.updState = 4 ∧ s.update.waitCommit ≠ 0 ∧ s.update.sentAt + 5000000 ≤ s.tmk.mt)]

/-- What each clause of UpdateMessages asks. -/
def asks_UpdateMessages (s : State) (l : List Byte) (f : MsgFrom) (man : Manifest) (m : Nat) : List Bool :=
  let r := s.peekFrom 0x0021
  let t := (r.2.takeFrom 0x0021).2
  let base : Bool := decide (r.1 = some (l, some f))
  [base && decide (s.isWorker = true ∧ t.isWorker = true ∧ t.fld F.STF_STATUS_has_owner = 1 ∧ f.src = t.fld F.STF_MGR_owner ∧ u l 0 1 = 1 ∧ t.update.man = some man ∧ u l 4 4 = man.set ∧ t.updState = 2 ∧ t.isManager = false),
   base && (decide (s.isWorker = true ∧ t.isWorker = true ∧ t.fld F.STF_STATUS_has_owner = 1 ∧ f.src = t.fld F.STF_MGR_owner ∧ u l 0 1 = 3) && (match t.prepRec with | some p => decide (u l 4 4 = p.set) | _ => false)),
   base && decide (s.isWorker = true ∧ t.isWorker = true ∧ t.fld F.STF_STATUS_has_owner = 1 ∧ f.src = t.fld F.STF_MGR_owner ∧ u l 0 1 = 5 ∧ t.updState = 6 ∧ t.prepRec = none),
   base && decide (s.isManager = true ∧ t.isManager = true ∧ t.isWorker = false ∧ t.samePost f.src = true ∧ f.src % 16 = m ∧ u l 1 1 = m ∧ m ≠ 0 ∧ m < 16 ∧ u l 0 1 = 2 ∧ t.lateOf m = none ∧ t.updState = 3 ∧ t.update.waitPrep.testBit m = true ∧ t.update.waitPrep ≠ 2 ^ m),
   base && decide (s.isManager = true ∧ t.isManager = true ∧ t.isWorker = false ∧ t.samePost f.src = true ∧ f.src % 16 = m ∧ u l 1 1 = m ∧ m ≠ 0 ∧ m < 16 ∧ u l 0 1 = 4 ∧ t.lateOf m = none ∧ t.updState = 4 ∧ t.update.waitCommit.testBit m = true ∧ t.update.waitCommit ≠ 2 ^ m),
   base && decide (s.isManager = true ∧ t.isManager = true ∧ t.isWorker = false ∧ t.samePost f.src = true ∧ f.src % 16 = m ∧ u l 1 1 = m ∧ m ≠ 0 ∧ m < 16 ∧ u l 0 1 = 6 ∧ t.lateOf m = none ∧ t.update.late.find? (fun p => p.1 = m) = none ∧ t.update.man = some man ∧ u l 4 4 = man.set ∧ t.updState ≠ 1 ∧ t.update.ready.length = 16),
   base && decide (s.isManager = true ∧ t.isManager = true ∧ t.isWorker = false ∧ t.samePost f.src = true ∧ f.src % 16 = m ∧ u l 1 1 = m ∧ m ≠ 0 ∧ m < 16 ∧ u l 0 1 = 7 ∧ t.update.late.find? (fun p => p.1 = m) = none ∧ t.update.man = some man ∧ u l 4 4 = man.set ∧ t.update.ready.length = 16),
   base && decide (s.isManager = true ∧ t.isManager = true ∧ t.isWorker = false ∧ t.samePost f.src = true ∧ f.src % 16 = m ∧ u l 1 1 = m ∧ m ≠ 0 ∧ m < 16 ∧ u l 0 1 = 8 ∧ t.update.man = some man ∧ u l 4 4 = man.set ∧ (t.updState = 1 ∨ t.updState = 2))]

namespace Of08E08
def c0 : Init := .core 0
def g0 := run 0 (fun n => n)
def dC : Desc := { base := 0x20030000, ctrl := 1 + 2*1 + 5*8, prod := 1, resv := 1 }
def pk (a : Nat) (l : List Byte) (s : State) : State := { s with mem := Store.setBytes s.mem a l }
def partB (mask ctr off len floor : Nat) (dg : List Byte) : List Byte := leBytes 2 mask ++ leBytes 1 ctr ++ leBytes 1 0 ++ leBytes 4 off ++ leBytes 4 len ++ leBytes 4 floor ++ dg
def zer (n : Nat) : List Byte := List.replicate n 0
def manB (set : Nat) (ps : List (List Byte)) : List Byte :=
  let l := leBytes 4 0x4E414D55 ++ leBytes 2 1 ++ leBytes 2 ps.length ++ leBytes 4 set ++ leBytes 2 0 ++ leBytes 2 7420 ++ leBytes 1 9 ++ zer 47 ++ ps.flatten
  l
def dig1 : List Byte := List.replicate 48 1
def manD := manB 9 [partB 3 0 0 4096 0 dig1, partB 1 0 4096 8192 0 dig1]
def man := manifestOf manD
def role (r : Nat) : State := put g0 [(F.SYS_ROLE_role, r), (F.UPD_CTRL_en, 1)]
def us (s : State) (_ : List Byte := []) (x : KvTicket := { id := 0, owner := 0, block := [], addr := 0 }) (i := 0) (m := man) := asks_UpdateStaging s (((s.unitFront true).1.orElse (fun _ => (s.unitFront false).1)).getD []) m x i
def staged (r : Nat) (f : Upd → Upd := id) (st := 1) : State := let s := put (role r) [(F.UPD_STATUS_state, st)]; { s with update := f { s.update with man := some man, parts := [{}, {}] } }
def tick (ph : Nat) : KvTicket := { id := 4, owner := 5, block := [], addr := 0, job := some (.manifest, [], []), phase := ph }
def chk (ph : Nat) (r := 1) : State := let s := put (role r) [(F.UPD_STAGE_SIZE_size, 100)]; { s with update := { s.update with checking := some man }, kv := { s.kv with tickets := [tick ph] } }
def wst (f : Upd → Upd := id) := put (staged 2 f) [(F.STF_NODE_node_id, 17)]
def man3 := manifestOf (manB 9 [partB 3 0 0 4096 0 dig1, partB 2 0 4096 8192 0 dig1])
def w3 (f : Upd → Upd := id) := let s := wst f; { s with update := { s.update with man := some man3 } }
def full : State := let s := w3 (fun u => { u with parts := [{ held := [0] }, { held := [0, 1] }] }); s
def old : ActRec := { seq := 4, set := 7, slot := 1, digA := [1], digB := [2], ctrs := List.replicate 32 0, activated := true }
def ua (s : State) (v : Word) := asks_UpdateActivation s c0 v man old
def rec_ (f : Upd → Upd) (s : State) : State := { s with update := f s.update }
def act (s : State) : State := rec_ (fun u => { u with banks := [some old, none], parts := [{ held := [0], verified := true }, { held := [0, 1], verified := true }], boot := some [9] }) s
def mb (code member fault set parts : Nat) : List Byte := leBytes 1 code ++ leBytes 1 member ++ leBytes 2 fault ++ leBytes 4 set ++ leBytes 4 parts ++ leBytes 20 0
def um (s : State) (code member fault set parts src : Nat) (m := 1) := 
  let s := pk 0x20030000 (mb code member fault set parts) (queues [(0x21, dC)] s)
  let s := { s with stf := { s.stf with from_ := [{ queue := 0x21, count := 0, src := src, bcast := false }] } }
  let r := s.peekFrom 0x0021
  asks_UpdateMessages s ((r.1.map (·.1)).getD []) { queue := 0x21, count := 0, src := src, bcast := false } man m
def ow (s : State) : State := put s [(F.STF_STATUS_has_owner, 1), (F.STF_MGR_owner, 16), (F.STF_NODE_node_id, 17), (F.STF_NODE_post, 1)]
def mg (s : State) : State := put s [(F.STF_NODE_node_id, 16), (F.STF_NODE_post, 1)]
def prep := { old with seq := 5, set := 9, activated := false }

theorem witness_UpdateStaging : shows [
    (us { full with update := { full.update with parts := [{ held := [0], verified := true }, { held := [0,1], verified := true }] } } [] (tick 3) 1 man3, [8]),
    (us (chk 3) [] (tick 3), [4]),
    (us (chk 4) [] (tick 4), [5])] = true := by decide +kernel

theorem witness_UpdateActivation : shows [
    (ua (act (staged 1 id 3)) 5, [0, 4, 7]),
    (ua (staged 1 id 5) 0x00005AB0, [5]),
    (ua (rec_ (fun u => { u with waitPrep := 6 }) (put { act (staged 1 id 3) with tmk := { up.tmk with mt := 5000000 } } [(F.UPD_STATUS_hold_on, 1)])) 5, [8]),
    (ua (rec_ (fun u => { u with waitCommit := 6, awaiting := 1 }) (put { act (staged 1 id 4) with tmk := { up.tmk with mt := 5000000 } } [])) 5, [9]),
    (ua { act (staged 1 id 3) with bil := { up.bil with session := some { num := 1, era := 0, start := 0, wall := 0, flags := 0, a0 := 0, b0 := 0, slot := 0, set := 0 } } } 5, [6]),
    (ua (staged 1 id 2) 0x0009AC71, [1]),
    (ua { staged 1 id 2 with bil := { up.bil with session := some { num := 1, era := 0, start := 0, wall := 0, flags := 0, a0 := 0, b0 := 0, slot := 0, set := 0 } } } 0x0009AC71, [2]),
    (ua (staged 1 id 2) 0x0008AC71, [3])] = true := by decide +kernel

theorem witness_UpdateMessages : shows [
    (um (act (ow (staged 2 id 2))) 1 1 0 9 0 16, [0]),
    (um (rec_ (fun u => { u with banks := [some old, some prep] }) (ow (staged 2 id 6))) 3 1 0 9 0 16, [1]),
    (um (act (ow (staged 2 id 6))) 5 1 0 9 0 16, [2]),
    (um (rec_ (fun u => { u with waitPrep := 6 }) (mg (staged 1 id 3))) 2 1 0 9 0 17, [3]),
    (um (rec_ (fun u => { u with waitCommit := 6 }) (mg (staged 1 id 4))) 4 1 0 9 0 17, [4]),
    (um (mg (staged 1 id 2)) 6 1 0 9 3 17, [5]),
    (um (mg (staged 1 id 2)) 7 1 0 9 3 17, [6]),
    (um (mg (staged 1 id 2)) 8 1 0x0E08 9 3 17, [7])] = true := by decide +kernel

end Of08E08


/-- What each clause of HostFramesIgnored asks. -/
def asks_HostFramesIgnored (s : State) (f : HostFrame) (i : Instr) (k : Nat) : List Bool :=
  let format := f.alanes = 3 ∨ f.dlanes = 3 ∨ (f.crc = f.goodCrc ∧ f.malformed = true)
  let base : Bool := decide (s.hspOn = true ∧ carries i f = true ∧ f.units.length = (if f.writes then f.count else 0))
  [base && decide (format ∧ s.hsp.burst < 15),
   base && decide (f.alanes < 3 ∧ f.dlanes < 3 ∧ f.crc ≠ f.goodCrc ∧ s.hsp.burst < 15),
   base && decide (f.alanes < 3 ∧ f.dlanes < 3 ∧ f.crc ≠ f.goodCrc ∧ s.hsp.burst = 15),
   base && decide (GoodFrame f f.op ∧ s.hsp.restart = false ∧ (s.aliveGap f = 0 ∨ (1 + s.hsp.ignored < s.aliveGap f ∧ s.fld F.HSP_CTRL_seq_strict = 1))),
   base && decide (GoodFrame f 2 ∧ s.inHold = false ∧ s.inSeq f ∧ 2 ≤ s.hsp.writes.length),
   base]

/-- What each clause of HostFramesAccepted asks. -/
def asks_HostFramesAccepted (s : State) (f : HostFrame) (ready : Nat) : List Bool :=
  let base : Bool := decide (s.hspOn = true ∧ s.hsp.wrAlive < 16 ∧ s.hsp.truncUnits < 256)
  [base && decide (GoodFrame f 5 ∧ s.inSeq f),
   base && decide (GoodFrame f 5 ∧ s.hsp.restart = false ∧ 1 + s.hsp.ignored < s.aliveGap f ∧ s.fld F.HSP_CTRL_seq_strict = 0),
   base && decide (GoodFrame f 1 ∧ s.inSeq f ∧ s.inHold = false ∧ f.count = 1 ∧ s.hsp.writes = [] ∧ f.bits = 32 ∧ f.addr % 4 = 0 ∧ 0x40000000 ≤ f.addr ∧ f.addr < 0x40012000 ∧ 1 ≤ ready ∧ f.addr ∉ [Reg.TMK_MT_LO, Reg.TMK_WALL_SEC, Reg.QE_EVT, Reg.SYS_SUPPLY] ∧ (f.addr < Reg.CPU_MBOX0 ∨ Reg.CPU_MBOX4 < f.addr)),
   base && decide (GoodFrame f 1 ∧ s.inSeq f ∧ s.inHold = false ∧ f.count = 1 ∧ s.hsp.writes = [] ∧ (f.bits ≠ 32 ∨ f.addr % 4 ≠ 0 ∨ (f.addr < 0x40000000 ∨ 0x40012000 ≤ f.addr) ∧ f.addr < 2 ^ 32) ∧ 1 ≤ ready),
   base && decide (GoodFrame f 1 ∧ s.inSeq f ∧ s.inHold = false ∧ f.count = 1 ∧ s.hsp.writes ≠ []),
   base && decide (GoodFrame f 2 ∧ s.inSeq f ∧ s.inHold = false ∧ s.hsp.writes.length < 2),
   base && decide (GoodFrame f 2 ∧ s.inSeq f ∧ s.inHold = true)]

/-- What each clause of HostWritesAndTimeout asks. -/
def asks_HostWritesAndTimeout (s : State) (w : HspWrite) (v : Word) (vs : List Word) (rest : List HspWrite) : List Bool :=
  [decide (s.hspOn = true ∧ s.hsp.writes = w :: rest ∧ w.words = v :: vs ∧ (w.bits ≠ 32 ∨ w.addr % 4 ≠ 0) ∧ vs ≠ []),
   decide (s.hspOn = true ∧ s.hsp.writes = w :: rest ∧ w.words = v :: vs ∧ (w.bits ≠ 32 ∨ w.addr % 4 ≠ 0) ∧ vs = [] ∧ rest = [] ∧ s.hsp.wrOk = false),
   decide (s.hspOn = true ∧ s.hsp.writes = w :: rest ∧ w.words = v :: vs ∧ w.bits = 32 ∧ w.addr = 0x40002008 ∧ vs = [] ∧ rest = [] ∧ s.hsp.wrOk = false ∧ 2 ≤ v.toNat % 32 ∧ 10 ≤ v.toNat / 65536),
   decide (s.hspOn = true ∧ s.hsp.writes = w :: rest ∧ w.words = v :: vs ∧ w.bits = 32 ∧ w.addr = Reg.HSP_CTRL ∧ vs = [] ∧ rest = [] ∧ s.hsp.wrOk = false ∧ (w32 (s.fld F.HSP_CTRL_seq_strict)).getLsbD 0 ≠ v.getLsbD 0),
   decide (s.fld F.SYS_POST_STATUS_host_alive = 1 ∧ 25000 * s.fld F.HSP_CFG_alive_to ≤ s.tmk.mt - s.hsp.heardAt ∧ s.qe.openResv = [])]

/-- What each clause of HostStreams asks. -/
def asks_HostStreams (s : State) (f : HostFrame) (n : Nat) : List Bool :=
  [decide (s.hspOn = true ∧ s.inHold = false ∧ s.inSeq f ∧ s.hsp.wrAlive < 16 ∧ s.hsp.truncUnits < 256 ∧ GoodFrame f 4 ∧ s.hsp.ins.length = 4 ∧ s.is (F.HSP_ISTRn_CFG_en (f.addr % 16)) = true ∧ (s.hsp.ins.getD (f.addr % 16) []).length + f.count * f.bits ≤ 8192),
   decide (s.hspOn = true ∧ s.inHold = false ∧ s.inSeq f ∧ s.hsp.wrAlive < 16 ∧ s.hsp.truncUnits < 256 ∧ GoodFrame f 3 ∧ s.hsp.outs.length = 8),
   (let q := s.fld (F.HSP_OSTRn_CFG_queue n); decide (n < 8 ∧ s.hsp.outs.length = 8 ∧ s.is (F.HSP_OSTRn_CFG_en n) = true ∧ s.dawnDone = true ∧ (s.qReady q).1 = .done)),
   (let q := s.fld (F.HSP_ISTRn_CFG_queue n); (let u := (s.qReady q).2; (let d := u.qDesc q; decide (n < 4 ∧ s.hsp.ins.length = 4 ∧ s.is (F.HSP_ISTRn_CFG_en n) = true ∧ s.dawnDone = true ∧ (s.qReady q).1 = .done ∧ d.prodDirect = false ∧ d.span = 1 ∧ 1 ≤ d.free ∧ u.resvOf q = none ∧ 8 * d.esize ≤ (s.hsp.ins.getD n []).length ∧ (s.hsp.ins.getD n []).length < 16 * d.esize))))]

/-- What each clause of RegisterWrites asks. -/
def asks_RegisterWrites (s : State) (who : Init) (c a : Nat) (v : Word) : List Bool :=
  [decide ((who = .host ∨ s.mayWrite who Reg.HSP_CFG = true)),
   decide (s.mayWrite (.core c) Reg.HSP_STATUS = true),
   decide (s.mayWrite (.core c) Reg.NJD_WREN_CFG = true ∧ s.tamperEn = true ∧ s.fld F.NJD_TAMPER_STATUS_live = 0 ∧ s.fld F.NJD_WREN_CFG_assert_cnt = 4 ∧ v.toNat % 16 = s.fld F.NJD_WREN_CFG_period_pwr ∧ v.toNat / 16 % 16 = 5 ∧ v.toNat / 256 % 16 = s.fld F.NJD_WREN_CFG_clear_cnt),
   decide (s.mayWrite (.core c) Reg.NJD_WREN_CFG = true ∧ s.tamperEn = false ∧ s.fld F.NJD_TAMPER_STATUS_live = 0 ∧ s.fld F.NJD_WREN_CFG_assert_cnt = 4 ∧ v.toNat / 16 % 16 = 5),
   decide ((colsOf a).any hostCol = false),
   decide (s.mayWrite who a = false ∧ who ≠ .host),
   decide (s.mayWrite (.core c) Reg.HSP_ATTN_SET = true),
   decide (s.mayWrite who Reg.HSP_ATTN_SET = false)]

namespace Of09E09
def fr (op addr bits count alive : Nat) (units : List Nat := []) (al := 0) (dl := 0) (bad := 0) (m3 := false) : HostFrame :=
  let f : HostFrame := { mode3 := m3, op := op, alanes := al, dlanes := dl, addr := addr, ctl := (bits - 1) + 32 * (count - 1) + 4096 * alive, units := units, crc := 0 }
  { f with crc := f.goodCrc ^^^ bad }
def st (alive : Nat) (bad := 0) (al := 0) : HostFrame := fr 5 0 1 1 alive [] al 0 bad
def hs (f : Hsp → Hsp) (s : State := up) : State := { s with hsp := f s.hsp }
def nr : State := put (hs (fun h => { h with restart := false, ignored := 3, bad := true }) up) [(F.HSP_STATUS_last_alive, 14)]
def ig (s : State) (f : HostFrame) (k := 3) := 
  let i : Instr := if f.op = 1 then .regRead f 5 else if f.op = 2 then .regWrite f else if f.op = 3 then .strRead f else if f.op = 4 then .strWrite f else .status f
  asks_HostFramesIgnored s f i k
def igw (s : State) (f : HostFrame) (k := 3) := ig s f k
def wr (alive : Nat) := fr 2 0x40002008 32 2 alive [5, 6]
def ac (s : State) (f : HostFrame) (ready := 5) := asks_HostFramesAccepted s f ready
def hold : State := put up [(F.DSK_DAWN_STATUS_done, 0), (F.DSK_DAWN_STATUS_hold, 1), (F.DSK_DAWN_STATUS_step, 13), (F.SYS_ROLE_role, 0)]
def hw (s : State) (w : HspWrite) (v : Word) (vs : List Word) (rest : List HspWrite) :=
  let s := hs (fun h => { h with writes := w :: rest }) s
  asks_HostWritesAndTimeout s w v vs rest
def g0 := run 0 (fun n => n)
def d1 : Desc := { base := 0x20004000, ctrl := 1 + 8 * 2, prod := 7, resv := 7, cons := 5 }
def sm (s : State) (f : HostFrame) (n : Nat) := asks_HostStreams s f n
def sq (l : List (Field × Nat)) (o : List OutStream := []) (ins : List (List Bool) := []) (d : Desc := d1) : State :=
  let s := put (queues [(0x102, d), (0x103, d1)] (poke 0x20004000 (List.range 80) nr)) l
  { s with hsp := { s.hsp with outs := o ++ s.hsp.outs.drop o.length, ins := ins ++ s.hsp.ins.drop ins.length } }
def bits (n : Nat) : List Bool := (List.range n).map (fun k => k % 3 = 0)
def rw (s : State) (v : Word) (a := Reg.HSP_CFG) (who : Init := .core 0) := asks_RegisterWrites s who 0 a v
def tamp (l : List (Field × Nat)) : State := let s := put g0 ([(F.NJD_SEAL_sw, 8), (F.NJD_WREN_CFG_assert_cnt, 4)] ++ l); { s with nj := { s.nj with sealFallback := false } }

theorem witness_HostFramesIgnored : shows [
    (ig up (st 0 0 3), [0, 5]),
    (ig up (st 3 5), [1]),
    (igw (hs (fun h => { h with burst := 15 })) (st 3 5), [2]),
    (ig nr (st 14), [3]),
    (ig (hs (fun h => { h with writes := [⟨0, 32, [], false⟩, ⟨0, 32, [], false⟩] }) nr) (wr 15), [4])] = true := by decide +kernel

theorem witness_HostFramesAccepted : shows [
    (ac up (st 9), [0]),
    (ac nr (st 3), [1]),
    (ac nr (fr 1 0x40002008 32 1 15), [2]),
    (ac nr (fr 1 0x40002008 31 1 15), [3]),
    (ac (hs (fun h => { h with writes := [⟨0, 32, [5], false⟩] }) nr) (fr 1 0x40002008 32 1 15), [4]),
    (ac nr (wr 15), [5]),
    (ac hold (wr 1), [6])] = true := by decide +kernel

theorem witness_HostWritesAndTimeout : shows [
    (hw (put { g0 with tmk := { up.tmk with mt := 25000*1000 } } [(F.SYS_POST_STATUS_host_alive, 1), (F.HSP_CFG_alive_to, 1000)]) ⟨0x40002000, 32, [1], false⟩ 1 [] [], [3, 4]),
    (hw up ⟨0x40002008, 31, [5, 6], false⟩ 5 [6] [], [0]),
    (hw up ⟨0x4000200A, 32, [5], true⟩ 5 [] [], [1]),
    (hw up ⟨0x40002008, 32, [0x000A0002], false⟩ 0x000A0002 [] [], [2])] = true := by decide +kernel

theorem witness_HostStreams : shows [
    (sm (put nr [(F.HSP_ISTRn_CFG_en 2, 1)]) (fr 4 2 7 3 15 [1, 0x55, 0x7F]) 0, [0]),
    (sm (sq [] [⟨[0xA5, 0x5A, 0xFF], 3, 4⟩]) (fr 3 0 5 9 15 []) 0, [1]),
    (sm (sq [(F.HSP_OSTRn_CFG_en 2, 1), (F.HSP_OSTRn_CFG_queue 2, 0x102)]) (st 1) 2, [2]),
    (sm (sq [(F.HSP_ISTRn_CFG_en 3, 1), (F.HSP_ISTRn_CFG_queue 3, 0x102)] [] [[], [], [], bits 128]) (st 1) 3, [3])] = true := by decide +kernel

theorem witness_RegisterWrites : shows [
    (rw g0 0 0x40000000 (.core 4), [1, 4, 5, 6, 7]),
    (rw (tamp [(F.NJD_WREN_CFG_period_pwr, 1), (F.NJD_WREN_CFG_clear_cnt, 5)]) 0x551, [0, 2]),
    (rw (put (tamp []) [(F.NJD_SEAL_sw, 0)]) 0x550, [3])] = true := by decide +kernel

end Of09E09


/-- What each clause of StarlingLinks asks. -/
def asks_StarlingLinks (s : State) (p role rate n : Nat) (b : Bool) (who : Init) (v : Word) (w : Waiting) (rest : List Waiting) : List Bool :=
  let k := s.sport p
  let st := F.STF_PORTn_STATUS_state p
  let mt := s.tmk.mt
  let ready := 1 ≤ s.fld (F.STF_PORTn_CFG_en p) ∧ (s.dawnDone = true ∨ s.inHold = true)
  let errs := mt :: k.symErrs.filter (fun t => decide (mt < t + 25000))
  let base : Bool := decide (p < 4 ∧ s.stf.ports.length = 4)
  [base && decide (s.isWorker = true ∧ ((∀ q : Nat, q < 4 → s.fld (F.STF_PORTn_STATUS_state q) ≠ 3))),
   base && decide (s.isWorker = true ∧ ((∀ q : Nat, q < 4 → s.fld (F.STF_PORTn_STATUS_state q) ≠ 3)) ∧ ready),
   base && decide (s.isWorker = true ∧ ((∀ q : Nat, q < 4 → s.fld (F.STF_PORTn_STATUS_state q) ≠ 3)) ∧ ¬ ready),
   base && decide (s.mayTrain p = true ∧ s.fld st ≠ 3 ∧ k.step = 1),
   base && decide (s.mayTrain p = true ∧ s.fld st ≠ 3 ∧ k.step = 2 ∧ role < 4),
   base && decide (s.mayTrain p = true ∧ s.fld st ≠ 3 ∧ k.step = 3 ∧ k.barred = none),
   base && decide (s.mayTrain p = true ∧ s.fld st ≠ 3 ∧ k.step = 4),
   base && decide (s.mayTrain p = true ∧ s.fld st ≠ 3 ∧ 1 ≤ k.step ∧ k.step ≤ 3 ∧ k.barred = none ∧ k.since + 50000 ≤ mt),
   base && decide (s.mayTrain p = true ∧ s.fld st ≠ 3 ∧ k.step = 4 ∧ k.since + 25000 ≤ mt ∧ 1 ≤ s.fld (F.STF_PORTn_STATUS_rate p)),
   base && decide (s.mayTrain p = true ∧ s.fld st ≠ 3 ∧ k.step = 3 ∧ k.barred = some n ∧ n + 25000000 ≤ mt),
   base && decide (s.mayTrain p = true ∧ s.fld st ≠ 3 ∧ 1 ≤ k.step ∧ k.peerFrom = some n ∧ k.failed = false ∧ n + 500000 ≤ mt),
   base && decide (s.fld st = 3 ∧ k.waitS = [] ∧ k.waitB = [] ∧ s.qe.openResv = [] ∧ s.fld (F.STF_PORTn_NBR_valid p) = 0),
   base && decide (s.fld st = 3 ∧ k.waitS = [] ∧ k.waitB = [] ∧ s.qe.openResv = [] ∧ s.fld (F.STF_PORTn_NBR_valid p) = 0 ∧ s.mayTrain p = true ∧ s.mayWrite who (Reg.STF_PORT0_CFG + 4 * p) = true ∧ v.getLsbD 2 = true ∧ v.getLsbD 6 = true),
   base && decide (s.fld st ≠ 3),
   base && decide (s.fld st = 3 ∧ errs.length < 4),
   base && decide (s.fld st = 3),
   base && decide (s.fld st = 3 ∧ k.waitS = [] ∧ k.waitB = []),
   base && decide (s.fld st = 3 ∧ k.waitS = w :: rest ∧ w.from_ = none ∧ w.frame.laneS = true ∧ w.frame.units ≤ (k.creditS + 256 - k.usedS) % 256),
   base && decide (s.fld st = 3 ∧ k.waitS = [] ∧ k.waitB = w :: rest ∧ w.from_ = none ∧ w.frame.laneS = false ∧ w.frame.units ≤ (k.creditB + 256 - k.usedB) % 256)]

/-- What each clause of StarlingFrames asks. -/
def asks_StarlingFrames (s : State) (p o oc q seq : Nat) (f : Frame) (l : List Byte) (m : TxMsg) (who : Init) (v : Word) : List Bool :=
  let mt := s.tmk.mt
  let age := s.fld F.STF_SITE_CFG_age * s.fld F.STF_SITE_CFG_hello_period * 2500000
  [decide (s.takesFrame p f ∧ f.rp < f.route.length ∧ o = f.route.getD f.rp 0 ∧ s.fld (F.STF_PORTn_STATUS_state o) = 3 ∧ o < 4 ∧ f.hops < 8),
   decide (s.takesFrame p f ∧ f.rp < f.route.length ∧ o = f.route.getD f.rp 0 ∧ s.fld (F.STF_PORTn_STATUS_state o) = 3 ∧ o < 4 ∧ 8 ≤ f.hops),
   decide (s.takesFrame p f ∧ f.rp < f.route.length ∧ o = f.route.getD f.rp 0 ∧ s.fld (F.STF_PORTn_STATUS_state o) ≠ 3),
   (decide (s.takesFrame p f ∧ s.isHere f ∧ f.body = .msg l ∧ f.segOff = 0 ∧ f.msgLen = l.length ∧ f.noAns = true ∧ f.queue ≠ 0x000B ∧ f.queue ≠ 0x000E ∧ s.inHold = false ∧ s.dupFind f.src f.seq = none ∧ s.dupFull = false ∧ (s.qReady f.queue).1 = .done) && (let x := (s.qReady f.queue).2; (let d := x.qDesc f.queue; decide (d.remoteOk = true ∧ d.prodDirect = false ∧ (d.src = 0 ∨ d.src = f.src) ∧ d.postOnly = false ∧ d.span = 1 ∧ 1 ≤ d.free ∧ x.resvOf f.queue = none ∧ l.length ≤ d.esize)))),
   decide (s.takesFrame p f ∧ s.isHere f ∧ f.body = .ans oc q ∧ s.qe.tx = [m] ∧ m.seq = f.seq ∧ m.dst = f.src ∧ m.phase = .sent ∧ m.origin = .block ∧ s.update.outbox = [] ∧ oc ≠ 1 ∧ oc ≠ 7),
   decide (s.takesFrame p f ∧ s.isHere f ∧ f.body = .ans oc q ∧ s.qe.tx = [m] ∧ m.seq = f.seq ∧ m.dst = f.src ∧ m.phase = .sent ∧ m.origin = .block ∧ s.update.outbox = [] ∧ (oc = 1 ∨ oc = 7) ∧ m.fulls < s.fld F.QE_CFG_full_retries),
   decide (s.qe.tx = [m] ∧ m.seq = seq ∧ m.phase = .sent ∧ m.since + 6250 * s.fld F.STF_CFG_rtx_to ≤ mt ∧ s.fld F.STF_CFG_rtx_max ≤ m.rtx),
   decide (s.qe.tx = [m] ∧ m.seq = seq ∧ m.phase = .sent ∧ m.since + 6250 * s.fld F.STF_CFG_rtx_to ≤ mt ∧ m.rtx < s.fld F.STF_CFG_rtx_max ∧ m.dst ≠ 0xFFFF ∧ m.bytes.length ≤ 64 ∧ s.lostMember m.dst = false ∧ (s.pickRoute (s.routesTo m.dst) (decide ((m.rtx + 1) % 2 = 1))).isSome = true),
   decide (s.isManager = false),
   decide (s.isManager = true ∧ s.stf.ports.length = 4 ∧ s.siteUp p = true ∧ ((∀ x : Nat, x < 4 → x ≠ p → s.siteUp x = false)) ∧ s.is F.STF_CTRL_hello_en = true),
   (match f.body with | .hello node serial nport psrc => decide (s.takesFrame p f ∧ f.route.length ≤ f.rp ∧ s.siteUp p = true ∧ node < 65536 ∧ nport < 4 ∧ (s.postNo = 0 ∨ node / 16 ≠ s.postNo) ∧ s.fld (F.STF_PORTn_NBR_valid p) = 0) | _ => false),
   (match f.body with | .hello node serial nport psrc => decide (s.takesFrame p f ∧ f.route.length ≤ f.rp ∧ s.siteUp p = true ∧ node < 65536 ∧ nport < 4 ∧ (s.postNo = 0 ∨ node / 16 ≠ s.postNo) ∧ s.fld (F.STF_PORTn_NBR_valid p) = 1 ∧ s.fld (F.STF_PORTn_NBR_node p) = node ∧ s.fld (F.STF_PORTn_NBR_port p) = nport) | _ => false),
   decide (p < 4 ∧ s.fld (F.STF_PORTn_NBR_valid p) = 1 ∧ (s.sport p).helloAt + age ≤ mt),
   decide (p < 4 ∧ s.fld (F.STF_PORTn_NBR_valid p) = 1 ∧ mt < (s.sport p).helloAt + age),
   decide (s.isManager = true ∧ (s.blockTake 0x000A).1 = some l ∧ ((l.getD 0 0).toNat = 5 ∨ (l.getD 0 0).toNat = 10)),
   decide (f.body = .probe ∧ s.takesFrame p f ∧ ((f.route.length ≤ f.rp ∧ f.dst = 0) ∨ s.isHere f)),
   (match f.body with | .probeAns node serial role psrc nbrs => decide (s.takesFrame p f ∧ ((f.route.length ≤ f.rp ∧ f.dst = 0) ∨ s.isHere f) ∧ s.stf.probes = []) | _ => false),
   (match f.body with | .probeAns node serial role psrc nbrs => decide (s.takesFrame p f ∧ ((f.route.length ≤ f.rp ∧ f.dst = 0) ∨ s.isHere f) ∧ s.stf.probes.head?.map (·.route) = some (p :: (f.route.drop 1).reverse)) | _ => false),
   (match s.stf.probes with | x :: rest => decide (x.since + 50000 ≤ mt) | _ => false),
   (match f.body with | .assignPost serial post => decide (s.takesFrame p f ∧ ((f.route.length ≤ f.rp ∧ f.dst = 0) ∨ s.isHere f) ∧ s.isManager = true ∧ s.postNo ≠ 0) | _ => false),
   (match f.body with | .assignPost serial post => decide (s.takesFrame p f ∧ ((f.route.length ≤ f.rp ∧ f.dst = 0) ∨ s.isHere f) ∧ s.isManager = true ∧ s.postNo = 0 ∧ s.is F.STF_CTRL_assign_ok = true ∧ serial = s.serial ∧ 1 ≤ post ∧ post ≤ 4095) | _ => false),
   decide (s.mayWrite who Reg.STF_NODE = true ∧ s.isManager = true ∧ s.postNo ≠ 0),
   decide (s.mayWrite who Reg.STF_NODE = true ∧ s.isManager = true ∧ s.postNo = 0 ∧ v.toNat / 65536 % 4096 ≠ 0 ∧ ((∀ x : Nat, x < 16 → 1 ≤ x → (s.member x).state = 0)))]

namespace Of10E10
def g0 := run 0 (fun n => n)
def c0 : Init := .core 0
def pt (p : Nat) (f : Port → Port) (s : State) : State := { s with stf := { s.stf with ports := upd s.stf.ports p f } }
def rdy (s : State := g0) : State := put s ((List.range 4).flatMap (fun p => [(F.STF_PORTn_CFG_en p, 1), (F.STF_PORTn_CFG_post_ok p, 1)]))
def sl (s : State) (p : Nat) (role := 1) (rate := 2) (n := 5) (b := true) (v : Word := 0) (w : Waiting := ⟨{}, none⟩) (rest : List Waiting := []) :=
  asks_StarlingLinks s p role rate n b c0 v w rest
def late (s : State) : State := { s with tmk := { s.tmk with mt := 90000000 } }
def wkr (s : State) : State := put { s with stf := { s.stf with present := true } } [(F.SYS_ROLE_role, 2)]
def stp (p k : Nat) (f : Port → Port := id) (s : State := rdy) : State := pt p (fun q => f { q with step := k }) s
def upP (p : Nat) (f : Port → Port := id) (s : State := rdy) : State := put (stp p 5 f s) [(F.STF_PORTn_STATUS_state p, 3), (F.STF_PORTn_STATUS_rate p, 2)]
def fS : Frame := { laneS := true, body := .probe, seq := 4 }
def fB : Frame := { laneS := false, body := .msg (List.replicate 100 3), msgLen := 100, seq := 4 }
def node (n : Nat) (s : State) : State := put s [(F.STF_NODE_node_id, n), (F.STF_NODE_post, n / 16), (F.SYS_ROLE_node_id, n)]
def allup (s : State := rdy) : State := (List.range 4).foldl (fun t p => upP p (fun k => { k with greeted := true, rcvdS := 3, freedS := 19, sentS := 19, freedB := 3, sentB := 3, rcvdB := 200 }) t) (node 32 s)
def sf (s : State) (p : Nat) (f : Frame) (o := 1) (oc := 0) (q := 0) (seq := 0) (l : List Byte := []) (m : TxMsg := { seq := 0, dst := 0, queue := 0, bytes := [], origin := .block }) (v : Word := 0) (keys : List Nat := []) :=
  asks_StarlingFrames s p o oc q seq f l m c0 v
def d1 : Desc := { base := 0x20004000, ctrl := 1 + 2 + 8 * 2 + 65536, prod := 7, resv := 7, cons := 5 }
def fm (n : Nat) : Frame := { noAns := true, body := .msg (List.replicate n 3), msgLen := n, seq := 4, dst := 32, src := 5, queue := 0x102 }
def qs (s : State) (d : Desc := d1) : State := queues [(0x102, d), (0x103, d1)] s
def tx (f : TxMsg → TxMsg := id) : TxMsg := f { seq := 9, dst := 33, queue := 4, bytes := [1], origin := .block, phase := .sent }
def tq (m : TxMsg) (s : State := allup) : State := { s with qe := { s.qe with tx := [m] }, tmk := { s.tmk with mt := 90000000 } }
def fa (oc : Nat) : Frame := { laneS := true, dst := 32, src := 33, seq := 9, body := .ans oc 4 }
def mem1 (s : State) : State := { s with stf := { s.stf with members := upd s.stf.members 0 (fun m => { m with state := 3, pathA := [2], pathB := [1] }) } }
def site (p : Nat) (s : State := allup) : State := put s [(F.STF_PORTn_STATUS_kind p, 1), (F.STF_CTRL_hello_en, 1)]
def fh (nd pn : Nat) : Frame := { laneS := true, hops := 1, body := .hello nd 77 pn 1, src := nd }
def dR : Desc := { base := 0x20030000, ctrl := 1 + 8 * 2 + (1 * 2), prod := 1, resv := 1 }
def req (l : List Nat) (s : State) := poke 0x20030000 l (queues [(0x0A, dR)] s)
def reqL (s : State) := ((s.blockTake 0x000A).1).getD []
def sr (s : State) := sf s 0 fS 0 0 0 0 (reqL s)
def pr (s : State) (r : List Nat) : State := { s with stf := { s.stf with probes := [⟨r, 5, 4⟩, ⟨[3], 6, 5⟩] } }

theorem witness_StarlingLinks : shows [
    (sl (wkr rdy) 1, [0, 1, 3, 7, 13]),
    (sl (upP 0) 0 1 2 5 true 0x45, [11, 12, 14, 15, 16]),
    (sl (put (stp 1 4 (fun k => { k with peerRate := 3 })) [(F.STF_PORTn_CFG_max_rate 1, 3), (F.STF_PORTn_STATUS_rate 1, 2), (F.STF_PORTn_STATUS_kind 1, 1)]) 1, [6, 8]),
    (sl (stp 2 2 id (wkr rdy)) 2 0 3, [4]),
    (sl (put (wkr g0) [(F.STF_PORTn_CFG_en 0, 0)]) 0, [2]),
    (sl (late (stp 0 1 (fun k => { k with peerFrom := some 5 }))) 0, [10]),
    (sl (stp 1 3 (fun k => { k with peerRate := 1 })) 1, [5]),
    (sl (late (stp 2 3 (fun k => { k with barred := some 5 }))) 2, [9]),
    (sl (upP 1 (fun k => { k with waitS := [⟨fS, none⟩, ⟨fB, none⟩], waitB := [⟨fB, none⟩], creditS := 2, usedS := 255 })) 1 1 2 5 false 0 ⟨fS, none⟩ [⟨fB, none⟩], [17]),
    (sl (upP 1 (fun k => { k with waitS := [], waitB := [⟨fB, none⟩], creditB := 2, usedB := 0 })) 1 1 2 5 false 0 ⟨fB, none⟩ [], [18])] = true := by decide +kernel

theorem witness_StarlingFrames : shows [
    (sf (put (site 2) [(F.STF_PORTn_NBR_valid 2, 1), (F.STF_PORTn_NBR_node 2, 48), (F.STF_PORTn_NBR_port 2, 3)]) 2 (fh 48 3), [9, 11, 13, 21]),
    (sf (tq (tx (fun m => { m with rtx := 200 }))) 1 (fa 6) 0 6 4 9 [] (tx (fun m => { m with rtx := 200 })), [4, 6]),
    (sr (req [5, 3, 0x39, 0, 1, 2, 3, 4, 5, 6, 7, 8] allup), [14, 15]),
    (sf (pr allup [1,3,2]) 1 { fS with dst := 0, route := [0,2,3], rp := 3, src := 5, body := .probeAns 4 5 1 0 [] }, [17, 18]),
    (sf allup 0 { fB with src := 5, dst := 50, route := [1, 2], rp := 0 } 1, [0]),
    (sf allup 0 { fB with src := 5, dst := 50, route := [1, 2], rp := 0, hops := 8 } 1, [1]),
    (sf (put allup [(F.STF_PORTn_STATUS_state 1, 1)]) 2 { fS with src := 5, dst := 50, route := [1, 2], rp := 0, hops := 7 } 1, [2]),
    (sf (qs allup) 0 (fm 32) 0 0 0 0 (List.replicate 32 3) (tx) 0 ((List.range 40).map (0x20004000 + 7 % 4 * 32 + ·)), [3]),
    (sf (mem1 (tq tx)) 1 (fa 6) 0 6 4 9 [] tx, [7]),
    (sf (tq tx) 1 (fa 1) 0 1 4 9 [] tx, [5]),
    (sf (wkr rdy) 0 fS, [8]),
    (sf (site 2) 2 (fh 48 3), [10]),
    (sf (put (late (site 2)) [(F.STF_PORTn_NBR_valid 2, 1), (F.STF_SITE_CFG_age, 3), (F.STF_SITE_CFG_hello_period, 1), (F.STF_PORTn_NBR_node 2, 48), (F.STF_PORTn_NBR_port 2, 3)]) 2 (fh 48 3), [12]),
    (sf (node 0 allup) 1 fS 0 0 0 0 [] tx 0x0FFF0000, [22]),
    (sf allup 1 { fS with dst := 0, route := [0,2,3], rp := 3, body := .probeAns 4 5 1 0 [] }, [16]),
    (sf allup 1 { fS with src := 48, body := .assignPost 0 5 }, [19]),
    (sf (put (node 0 allup) [(F.STF_CTRL_assign_ok, 1)]) 1 { fS with src := 48, body := .assignPost (allup).serial 5 }, [20])] = true := by decide +kernel

end Of10E10


/-- What each clause of StarlingRollCall asks. -/
def asks_StarlingRollCall (s : State) (p m post mgr serial t0 act : Nat) (b : Bool) (f : Frame) (who : Init) (v : Word) (w : Sweep) (ps r q : List Nat) (rs : List (List Nat)) : List Bool :=
  let mt := s.tmk.mt
  let back := p :: (f.route.drop 1).reverse
  [decide (s.isManager = true ∧ s.postNo ≠ 0 ∧ s.stf.sweep = none ∧ s.duskWarn = false ∧ s.dawnDone = true ∧ [0, 1, 2, 3].filter s.postUp = p :: ps ∧ s.stf.ports.length = 4),
   decide (s.isManager = true ∧ s.postNo ≠ 0 ∧ s.stf.sweep = none ∧ s.duskWarn = false ∧ s.dawnDone = true ∧ [0, 1, 2, 3].filter s.postUp = p :: ps ∧ s.stf.ports.length = 4 ∧ s.mayWrite who Reg.STF_CTRL = true ∧ v.getLsbD 3 = true),
   decide (s.isManager = false),
   decide (f.body = .roll ∧ s.takesFrame p f ∧ ((f.route.length ≤ f.rp ∧ f.dst = 0) ∨ s.isHere f) ∧ s.isWorker = false),
   decide (f.body = .roll ∧ s.takesFrame p f ∧ ((f.route.length ≤ f.rp ∧ f.dst = 0) ∨ s.isHere f) ∧ s.isWorker = true ∧ s.bootRec = none ∧ s.prepRec = none),
   decide (s.stf.sweep = some w ∧ w.waiting = some (r, t0) ∧ s.duskWarn = false ∧ w.paths = q :: rs ∧ t0 + 50000 ≤ mt),
   decide (s.stf.sweep = some w ∧ w.waiting = some (r, t0) ∧ s.duskWarn = false ∧ mt < t0 + 50000),
   (decide (s.stf.sweep = some w ∧ w.waiting = some (r, t0) ∧ s.duskWarn = false) && (match f.body with | .rollAns serial_ owner node flags m_ hold act_ prep => decide (serial_ = serial ∧ m_ = m ∧ act_ = act) && decide (s.takesFrame p f ∧ ((f.route.length ≤ f.rp ∧ f.dst = 0) ∨ s.isHere f) ∧ back = r ∧ s.isManager = true ∧ w.paths = q :: rs ∧ owner ≠ 0 ∧ owner ≠ s.serial) | _ => false)),
   (decide (s.stf.sweep = some w ∧ w.waiting = some (r, t0) ∧ s.duskWarn = false) && (match f.body with | .rollAns serial_ owner node flags m_ hold act_ prep => decide (serial_ = serial ∧ m_ = m ∧ act_ = act) && decide (s.takesFrame p f ∧ ((f.route.length ≤ f.rp ∧ f.dst = 0) ∨ s.isHere f) ∧ back = r ∧ s.isManager = true ∧ w.paths = q :: rs ∧ owner = 0 ∧ w.found = [] ∧ flags < 16 ∧ flags % 2 = 0 ∧ prep = 0 ∧ s.stf.members.length = 15 ∧ s.stf.held = [] ∧ s.update.late = [] ∧ s.updState ≠ 3 ∧ s.fld F.STF_CAPACITY_capacity = 0 ∧ (match s.bootRec with | some x => x.set | none => 0) = act ∧ serial ≠ 0 ∧ ((∀ n : Nat, n < 16 → 1 ≤ n → (s.member n).state = 0 ∧ (s.member n).pinned = false))) | _ => false)),
   decide (f.body = .assignMember post m mgr serial b ∧ s.takesFrame p f ∧ ((f.route.length ≤ f.rp ∧ f.dst = 0) ∨ s.isHere f) ∧ s.isWorker = true ∧ s.duskWarn = false ∧ 1 ≤ m ∧ m ≤ 15 ∧ post < 4096 ∧ mgr < 65536 ∧ (s.stf.ownerSerial = none ∨ s.stf.ownerSerial = some serial)),
   (decide (f.body = .assignMember post m mgr serial b ∧ s.takesFrame p f ∧ ((f.route.length ≤ f.rp ∧ f.dst = 0) ∨ s.isHere f) ∧ s.isWorker = true ∧ s.duskWarn = false ∧ 1 ≤ m ∧ m ≤ 15 ∧ post < 4096 ∧ mgr < 65536) && (match s.stf.ownerSerial with | some other => decide (other ≠ serial) | _ => false)),
   decide (1 ≤ m ∧ m ≤ 15 ∧ s.stf.members.length = 15 ∧ s.admissible m = true ∧ s.updState ≠ 3 ∧ s.fld F.STF_CAPACITY_capacity = 0 ∧ s.update.man = none),
   decide (1 ≤ m ∧ m ≤ 15 ∧ s.stf.members.length = 15 ∧ s.isManager = true ∧ (s.member m).rollAt = some t0 ∧ t0 + 7500000 ≤ mt),
   decide (s.mayWrite who Reg.STF_CMD = true ∧ s.isManager = true ∧ s.stf.members.length = 15 ∧ v.toNat % 16 = m ∧ (s.member m).state ≠ 0 ∧ v.toNat / 16 % 16 = 1 ∧ v.toNat / 65536 = 0),
   decide (s.mayWrite who Reg.STF_CMD = true ∧ s.isManager = true ∧ s.stf.members.length = 15 ∧ v.toNat % 16 = m ∧ (s.member m).state ≠ 0 ∧ v.toNat / 16 % 16 = 2 ∧ v.toNat / 65536 = 0 ∧ (s.member m).state ≠ 5 ∧ s.fld F.STF_CAPACITY_capacity = 0),
   decide (s.mayWrite who Reg.STF_CMD = true ∧ s.isManager = true ∧ s.stf.members.length = 15 ∧ v.toNat % 16 = m ∧ (s.member m).state ≠ 0 ∧ v.toNat / 16 % 16 = 3 ∧ v.toNat / 65536 = 0x5A17),
   decide (s.mayWrite who Reg.STF_CMD = true ∧ s.isManager = true ∧ s.stf.members.length = 15 ∧ v.toNat % 16 = m ∧ (s.member m).state ≠ 0 ∧ v.toNat / 16 % 16 = 3 ∧ v.toNat / 65536 ≠ 0x5A17),
   decide (s.mayWrite who Reg.STF_CMD = true ∧ s.isManager = true ∧ s.stf.members.length = 15 ∧ v.toNat % 16 = m ∧ (s.member m).state ≠ 0 ∧ v.toNat / 16 % 16 = 4 ∧ v.toNat / 65536 = 0),
   decide (s.isWorker = true ∧ s.is F.STF_STATUS_has_owner = true ∧ s.stf.mgrAt + s.fld F.STF_CFG_forget * 2500000 ≤ mt),
   decide (s.isWorker = true ∧ s.is F.STF_STATUS_has_owner = true ∧ s.stf.mgrAt + s.fld F.STF_CFG_forget * 2500000 ≤ mt ∧ (s.pwrState = 0 ∨ s.pwrState = 5)),
   decide (s.isWorker = true ∧ s.is F.STF_STATUS_has_owner = true ∧ mt < s.stf.mgrAt + s.fld F.STF_CFG_forget * 2500000),
   decide (s.isWorker = true ∧ s.is F.STF_STATUS_has_owner = true ∧ s.stf.mgrSilent = false ∧ s.stf.mgrAt + 750000 ≤ mt)]

/-- What each clause of StarlingHierarchy asks. -/
def asks_StarlingHierarchy (s : State) (p m : Nat) (f : Frame) (l : List Byte) (from_ : MsgFrom) (who : Init) (v : Word) : List Bool :=
  let mt := s.tmk.mt
  let y := (s.peekFrom 0x000F).2
  let x := (y.takeFrom 0x000F).2
  let z := (s.blockTake 0x000C).2
  [decide (s.isWorker = true ∧ (s.peekFrom 0x000F).1 = some (l, some from_) ∧ from_.src = x.fld F.STF_MGR_owner ∧ x.is F.STF_STATUS_has_owner = true ∧ leNat (l.take 1) = 1 ∧ x.inHold = false),
   decide (s.isWorker = true ∧ (s.peekFrom 0x000F).1 = some (l, some from_) ∧ from_.src = x.fld F.STF_MGR_owner ∧ x.is F.STF_STATUS_has_owner = true ∧ leNat (l.take 1) = 1 ∧ x.inHold = false ∧ x.pwrState = 6),
   decide (s.isWorker = true ∧ (s.peekFrom 0x000F).1 = some (l, some from_) ∧ from_.src = x.fld F.STF_MGR_owner ∧ x.is F.STF_STATUS_has_owner = true ∧ leNat (l.take 1) = 1 ∧ x.inHold = false ∧ x.pwrState ≠ 6),
   decide (s.isWorker = true ∧ (s.peekFrom 0x000F).1 = some (l, some from_) ∧ from_.src = x.fld F.STF_MGR_owner ∧ x.is F.STF_STATUS_has_owner = true ∧ leNat (l.take 1) = 2),
   decide (s.isWorker = true ∧ (s.peekFrom 0x000F).1 = some (l, some from_) ∧ from_.src = x.fld F.STF_MGR_owner ∧ x.is F.STF_STATUS_has_owner = true ∧ leNat (l.take 1) = 2 ∧ (x.pwrState = 1 ∨ x.pwrState = 2)),
   decide (s.isWorker = true ∧ (s.peekFrom 0x000F).1 = some (l, some from_) ∧ from_.src = x.fld F.STF_MGR_owner ∧ x.is F.STF_STATUS_has_owner = true ∧ leNat (l.take 1) = 2 ∧ (x.pwrState = 0 ∨ x.pwrState = 5)),
   decide (s.isWorker = true ∧ (s.peekFrom 0x000F).1 = some (l, some from_) ∧ from_.src = x.fld F.STF_MGR_owner ∧ x.is F.STF_STATUS_has_owner = true ∧ leNat (l.take 1) = 3 ∧ leNat ((l.drop 2).take 2) = 0x5A17),
   decide (s.isWorker = true ∧ (s.peekFrom 0x000F).1 = some (l, some from_) ∧ from_.src = x.fld F.STF_MGR_owner ∧ x.is F.STF_STATUS_has_owner = true ∧ leNat (l.take 1) = 3 ∧ leNat ((l.drop 2).take 2) ≠ 0x5A17),
   decide (s.isWorker = true ∧ (s.peekFrom 0x000F).1 = some (l, some from_) ∧ from_.src = x.fld F.STF_MGR_owner ∧ x.is F.STF_STATUS_has_owner = true ∧ leNat (l.take 1) = 5 ∧ (x.pwrState = 1 ∨ x.pwrState = 2)),
   decide (s.isWorker = true ∧ (s.peekFrom 0x000F).1 = some (l, some from_) ∧ from_.src = x.fld F.STF_MGR_owner ∧ x.is F.STF_STATUS_has_owner = true ∧ leNat (l.take 1) = 4 ∧ x.pwrState = 5),
   decide (s.isWorker = true ∧ (s.peekFrom 0x000F).1 = some (l, some from_) ∧ from_.src = x.fld F.STF_MGR_owner ∧ x.is F.STF_STATUS_has_owner = true ∧ leNat (l.take 1) = 4 ∧ x.pwrState ≠ 5),
   decide (s.mayWrite who Reg.STF_CTRL = true ∧ v.getLsbD 2 = true ∧ v.getLsbD 3 = false),
   decide (s.isWorker = true ∧ s.is F.STF_STATUS_has_owner = true),
   decide (s.isManager = true ∧ s.stf.members.length = 15 ∧ s.takesFrame p f ∧ s.isHere f ∧ f.src / 16 = s.postNo ∧ f.src % 16 = m ∧ 1 ≤ m ∧ f.body = .msg l ∧ (s.member m).state ≠ 0 ∧ (s.member m).state ≠ 5 ∧ f.queue = 0x000B ∧ l.length = 32),
   decide (s.isManager = true ∧ s.stf.members.length = 15 ∧ s.takesFrame p f ∧ s.isHere f ∧ f.src / 16 = s.postNo ∧ f.src % 16 = m ∧ 1 ≤ m ∧ f.body = .msg l ∧ (s.member m).state ≠ 0 ∧ (s.member m).state ≠ 5 ∧ f.queue = 0x000E ∧ l.length = 16 ∧ leNat ((l.drop 1).take 1) % 2 = 1 ∧ s.fld F.STF_CAPACITY_capacity = 0 ∧ s.updState ≠ 3),
   decide (s.isManager = true ∧ s.stf.members.length = 15 ∧ s.takesFrame p f ∧ s.isHere f ∧ f.src / 16 = s.postNo ∧ f.src % 16 = m ∧ 1 ≤ m ∧ f.body = .msg l ∧ (s.member m).state ≠ 0 ∧ (s.member m).state ≠ 5 ∧ f.queue = 0x000E ∧ l.length = 16 ∧ leNat ((l.drop 1).take 1) % 2 = 0),
   decide (s.isManager = false),
   decide (s.isManager = true ∧ 1 ≤ m ∧ m ≤ 15 ∧ ((∀ n : Nat, n < 16 → n ≠ m → (s.member n).state = 0)) ∧ 1 ≤ (s.member m).state ∧ (s.member m).state ≤ 4),
   decide (s.isManager = true ∧ s.stf.members.length = 15 ∧ (s.blockTake 0x000D).1 = some l ∧ leNat (l.take 1) % 16 = m ∧ 1 ≤ m),
   decide (s.isWorker = true ∧ (s.blockTake 0x000C).1 = some l ∧ leNat (l.take 1) = z.nodeId % 16),
   decide (s.isWorker = true ∧ (s.blockTake 0x000C).1 = some l ∧ leNat (l.take 1) = z.nodeId % 16 ∧ leNat ((l.drop 2).take 2) ≠ z.fld F.PWR_SP_INFO_seq),
   (decide (s.isManager = true ∧ s.stf.members.length = 15 ∧ 1 ≤ m ∧ m ≤ 15 ∧ (s.member m).state ≠ 0 ∧ (s.member m).state ≠ 5 ∧ s.fld F.STF_CAPACITY_capacity = 0 ∧ s.updState ≠ 3 ∧ s.qe.tx = [] ∧ s.qe.openResv = []) && (match (s.member m).beatAt with | some a => decide (a + 750000 ≤ mt) | _ => false)),
   (decide (s.isManager = true ∧ s.stf.members.length = 15 ∧ 1 ≤ m ∧ m ≤ 15 ∧ (s.member m).state ≠ 0 ∧ (s.member m).state ≠ 5 ∧ s.fld F.STF_CAPACITY_capacity = 0 ∧ s.updState ≠ 3 ∧ s.qe.tx = [] ∧ s.qe.openResv = []) && (match f.body with | .leaving m_ a => decide (m_ = m) && decide (s.takesFrame p f ∧ s.isHere f ∧ f.src / 16 = s.postNo ∧ f.src % 16 = m) | _ => false)),
   decide (s.isWorker = false),
   decide (s.isWorker = true ∧ s.is F.STF_STATUS_has_owner = false ∧ s.stf.ports.length = 4 ∧ ((∀ q : Nat, q < 4 → s.fld (F.STF_PORTn_STATUS_state q) ≠ 3))),
   decide (s.isWorker = true ∧ s.is F.STF_STATUS_has_owner = false ∧ s.stf.ports.length = 4 ∧ ((∀ q : Nat, q < 4 → s.fld (F.STF_PORTn_STATUS_state q) ≠ 3)) ∧ (s.pwrState = 1 ∨ s.pwrState = 2))]

namespace Of11E11
def g0 := run 0 (fun n => n)
def c0 : Init := .core 0
def pt (p : Nat) (f : Port → Port) (s : State) : State := { s with stf := { s.stf with ports := upd s.stf.ports p f } }
def rdy (s : State := g0) : State := put s ((List.range 4).flatMap (fun p => [(F.STF_PORTn_CFG_en p, 1), (F.STF_PORTn_CFG_post_ok p, 1)]))
def late (s : State) : State := { s with tmk := { s.tmk with mt := 90000000 } }
def wkr (s : State) : State := put { s with stf := { s.stf with present := true } } [(F.SYS_ROLE_role, 2)]
def stp (p k : Nat) (f : Port → Port := id) (s : State := rdy) : State := pt p (fun q => f { q with step := k }) s
def upP (p : Nat) (f : Port → Port := id) (s : State := rdy) : State := put (stp p 5 f s) [(F.STF_PORTn_STATUS_state p, 3), (F.STF_PORTn_STATUS_rate p, 2)]
def fS : Frame := { laneS := true, body := .probe, seq := 4 }
def node (n : Nat) (s : State) : State := put s [(F.STF_NODE_node_id, n), (F.STF_NODE_post, n / 16), (F.SYS_ROLE_node_id, n)]
def allup (s : State := rdy) : State := (List.range 4).foldl (fun t p => upP p (fun k => { k with greeted := true, rcvdS := 3, freedS := 19, sentS := 19, freedB := 3, sentB := 3, rcvdB := 200 }) t) (node 32 s)
def mems (m : Nat) (f : Member → Member) (s : State := allup) : State := { s with stf := { s.stf with members := upd s.stf.members (m - 1) f } }
def rc (s : State) (p := 0) (m := 1) (post := 2) (mgr := 32) (serial := 77) (t0 := 500) (act := 0) (b := false) (f : Frame := fS) (v : Word := 0) (w : Sweep := ⟨1, [], [], [], none, 0⟩) (ps : List Nat := [1,2,3]) (r q : List Nat := []) (rs : List (List Nat) := []) :=
  asks_StarlingRollCall s p m post mgr serial t0 act b f c0 v w ps r q rs
def swp (w : Sweep) (s : State := allup) : State := { s with stf := { s.stf with sweep := some w } }
def w1 : Sweep := ⟨1, [[2], [3]], [], [], some ([1], 500), 400⟩
def fR (b : Body) (rt : List Nat := [0, 1]) : Frame := { laneS := true, hops := 1, route := rt, rp := rt.length, src := 33, body := b }
def noRec (s : State) : State := { s with update := { s.update with banks := [none, none] } }
def aw (s : State) (p := 1) (m := 3) (b := false) (serial := 77) (rt := [0, 1]) := rc s p m 5 80 serial 500 0 b (fR (.assignMember 5 m 80 serial b) rt)
def adm (s : State) (m := 3) (v : Word := 0) := rc s 0 m 0 0 0 500 0 false fS v
def okm (m : Member) : Member := { m with state := 2, rollAt := some 500, beatAt := some 999000, beats := 3, beatFlags := 1, flags := 14, joinOk := true, permitted := true, rating := 3 }
def mf (s : State) := rc s 0 1 2 32 77 500 0 false fS 0 ⟨1, [], [], [], none, 0⟩ [1,2,3]
def own (s : State := allup) : State := put { (wkr s) with stf := { (wkr s).stf with ownerSerial := some 5, revA := [1], mgrAt := 300 } } [(F.STF_STATUS_has_owner, 1), (F.STF_MGR_owner, 80), (F.SYS_ROLE_admitted, 1), (F.STF_CFG_forget, 1)]
def sh (s : State) (p := 0) (m := 1) (f : Frame := fS) (l : List Byte := []) (v : Word := 0) (src := 80) (q := 0x0F) :=
  let fr : MsgFrom := { queue := q, count := 0, src := src, bcast := false }
  let l := match (s.peekFrom 0x000F).1 with | some (l, _) => l | none => match (s.blockTake 0x000D).1 with | some l => l | none => match (s.blockTake 0x000C).1 with | some l => l | none => l
  asks_StarlingHierarchy s p m f l fr c0 v
def dF : Desc := { base := 0x20031000, ctrl := 1 + 8 * 2 + 1 * 2, prod := 1, resv := 1 }
def cmd (code : Nat) (s : State) (key := 0) : State := let s := { (queues [(0x0F, dF)] s) with stf := { s.stf with from_ := [⟨0x0F, 0, 80, false⟩] } }
  { s with mem := Store.setBytes s.mem 0x20031000 (leBytes 1 code ++ leBytes 1 3 ++ leBytes 2 key ++ List.replicate 12 0) }
def pws (n : Nat) (s : State := own) : State := put s [(F.PWR_STATUS_state, n), (F.PWR_RUN_go, 1)]
def mm (f : Member → Member) := mems 1 (fun m => f { m with state := 1, beatAt := some 700000, beats := 2, serial := 5, pathA := [2] })
def fm (q : Nat) (l : List Byte) : Frame := { noAns := true, laneS := true, body := .msg l, msgLen := l.length, seq := 4, dst := 32, src := 33, queue := q }
def hbL : List Byte := (List.range 32).map (BitVec.ofNat 8 ·)
def smsg (q : Nat) (l : List Byte) (s : State) : State := let s := queues [(q, { dF with ctrl := 1 + 8 * 2 + 2 * 1 })] s; { s with mem := Store.setBytes s.mem 0x20031000 l }

theorem witness_StarlingRollCall : shows [
    (mf (put (late own) [(F.PWR_STATUS_state, 5)]), [2, 18, 19, 21]),
    (adm (late (mems 3 okm)), [0, 11, 12]),
    (rc (swp w1) 1 2 2 32 77 500 5 false (fR (.rollAns 77 99 33 0 2 0 5 0) [0]) 0 w1 [] [1] [2] [[3]], [5, 7]),
    (rc allup 0 1 2 32 77 500 0 false fS 8, [1]),
    (adm (mems 3 okm) 3 0x13, [13]),
    (adm (mems 3 okm) 3 0x23, [14]),
    (adm (mems 3 okm) 3 0x5A170033, [15]),
    (adm (mems 3 okm) 3 0x5A180033, [16]),
    (adm (mems 3 okm) 3 0x43, [17]),
    (rc (noRec (wkr allup)) 1 1 2 32 77 500 0 false (fR .roll), [4]),
    (aw (wkr allup), [9]),
    (aw (wkr { allup with stf := { (allup).stf with ownerSerial := some 78 } }), [10]),
    (mf own, [20]),
    (rc allup 1 1 2 32 77 500 0 false (fR .roll), [3]),
    (rc (noRec (swp w1)) 1 2 2 32 77 500 0 false (fR (.rollAns 77 0 0 14 2 0 0 0) [0]) 0 w1 [] [1] [2] [[3]], [8]),
    (rc (swp { w1 with waiting := some ([1], 999999) }) 0 1 2 32 77 999999 0 false fS 0 { w1 with waiting := some ([1], 999999) } [] [1] [2] [[3]], [6])] = true := by decide +kernel

theorem witness_StarlingHierarchy : shows [
    (sh (cmd 1 (pws 6)), [0, 1, 12, 16]),
    (sh (mm id) 1 1 (fm 0x0B hbL) hbL, [13, 17, 23]),
    (sh (cmd 2 (pws 1)), [3, 4]),
    (sh (smsg 0x0C (3 :: List.replicate 31 7) (node 83 own)), [19, 20]),
    (sh (put (wkr rdy) [(F.PWR_STATUS_state, 1), (F.PWR_RUN_go, 1)]), [24, 25]),
    (sh (cmd 1 (pws 0)), [2]),
    (sh (cmd 2 (pws 0)), [5]),
    (sh (cmd 3 own 0x5A17), [6]),
    (sh (cmd 3 own 0x5A18), [7]),
    (sh (cmd 5 (pws 2)), [8]),
    (sh (cmd 4 (pws 5)), [9]),
    (sh (cmd 4 (pws 4)), [10]),
    (sh allup 0 1 fS [] 4, [11]),
    (sh (mm id) 1 1 (fm 0x0E (5 :: 3 :: List.replicate 14 0)) (5 :: 3 :: List.replicate 14 0), [14]),
    (sh (mm id) 1 1 (fm 0x0E (5 :: 2 :: List.replicate 14 0)) (5 :: 2 :: List.replicate 14 0), [15]),
    (sh (smsg 0x0D (1 :: List.replicate 31 7) (mm id)), [18]),
    (sh (late (mm id)), [21]),
    (sh (mm id) 1 1 { fS with dst := 32, src := 33, body := .leaving 1 5 }, [22])] = true := by decide +kernel

end Of11E11


/-- What each clause of VehicleInterface asks. -/
def asks_VehicleInterface (s : State) (who : Init) (v : Word) (n uv code band lo hi t0 : Nat) (m rd : List Byte) (r : AsmRun) : List Bool :=
  let mt := s.tmk.mt
  let g (o k : Nat) := leNat ((m.drop o).take k)
  let base : Bool := decide (s.isManager = true ∧ s.dawnDone = true)
  [base && decide (s.fld F.VEH_STATUS_forced = 0),
   base && decide (s.fld F.VEH_STATUS_forced = 1),
   base && decide (s.mayWrite who Reg.VEH_CTRL = true ∧ v.getLsbD 0 = true ∧ v.getLsbD 1 = s.is F.VEH_CTRL_trip_f ∧ s.duskWarn = false ∧ s.fld F.SYS_POST_STATUS_lockout_any = 0),
   base && decide (s.mayWrite who Reg.VEH_CTRL = true ∧ v.getLsbD 0 = true ∧ v.getLsbD 1 = s.is F.VEH_CTRL_trip_f ∧ s.duskWarn = true),
   base && decide ((band, lo, hi) ∈ [(1, 2750000, 2950000), (2, 2450000, 2650000), (3, 2150000, 2350000), (4, 1850000, 2050000), (6, 350000, 550000)] ∧ s.fld F.VEH_CP_CAL_gain = 0 ∧ s.fld F.VEH_CP_CAL_offset = 0 ∧ s.veh.cp = .high ∧ lo ≤ uv ∧ uv ≤ hi ∧ s.fld F.VEH_CP_STATE_state ≠ band ∧ s.veh.band = band ∧ s.fld F.VEH_CP_CFG_deb ≤ s.veh.bandRun + 1),
   base && decide ((band, lo, hi) ∈ [(1, 2750000, 2950000), (2, 2450000, 2650000), (3, 2150000, 2350000), (4, 1850000, 2050000), (6, 350000, 550000)] ∧ s.fld F.VEH_CP_CAL_gain = 0 ∧ s.fld F.VEH_CP_CAL_offset = 0 ∧ s.veh.cp = .high ∧ lo ≤ uv ∧ uv ≤ hi ∧ s.fld F.VEH_CP_STATE_state ≠ band ∧ s.veh.band ≠ band ∧ 2 ≤ s.fld F.VEH_CP_CFG_deb),
   base && decide (s.veh.invalidFrom = some t0 ∧ 25000 * s.fld F.VEH_CP_CFG_inv_ms ≤ mt - t0 ∧ s.veh.invalidLogged = false),
   base && decide (s.fld F.VEH_PP_CFG_en = 1 ∧ code < 4096 ∧ (band, lo, hi) ∈ [(1, 1100, 2200), (2, 470, 1000), (3, 150, 330), (4, 50, 110)] ∧ lo * (4096 - code) ≤ s.fld F.VEH_PP_CFG_r_pu * code ∧ s.fld F.VEH_PP_CFG_r_pu * code ≤ hi * (4096 - code) ∧ s.veh.ppBand = band ∧ 4 ≤ s.veh.ppRun ∧ s.fld F.VEH_PP_STATE_code ≠ band),
   base && decide (s.fld F.VEH_PP_CFG_en = 1 ∧ code < 4096 ∧ (band, lo, hi) ∈ [(1, 1100, 2200), (2, 470, 1000), (3, 150, 330), (4, 50, 110)] ∧ lo * (4096 - code) ≤ s.fld F.VEH_PP_CFG_r_pu * code ∧ s.fld F.VEH_PP_CFG_r_pu * code ≤ hi * (4096 - code) ∧ s.veh.ppBand = band ∧ s.veh.ppRun < 4),
   base && decide (s.fld F.VEH_ASM_CTRL_en = 1 ∧ s.veh.asm = none ∧ s.duskWarn = false ∧ s.veh.template = true ∧ (s.qRoom 0x82).1 = true),
   base && (decide (s.fld F.VEH_ASM_CTRL_en = 1 ∧ s.veh.asm = none ∧ s.duskWarn = false) && (let x := (s.qRoom 0x81).2; decide (s.veh.template = false ∧ (s.qRoom 0x81).1 = true ∧ (x.blockTake 0x80).1 = some m ∧ 1 ≤ g 2 2 + g 4 2 ∧ g 2 2 ≤ 2048 ∧ g 4 2 ≤ 2048 ∧ 8 + g 2 2 ≤ m.length ∧ g 0 1 ≤ 1 ∧ g 1 1 = 0))),
   base && (decide (s.fld F.VEH_ASM_CTRL_en = 1 ∧ s.veh.asm = none ∧ s.duskWarn = false) && (let x := (s.qRoom 0x81).2; decide (s.veh.template = false ∧ (s.qRoom 0x81).1 = true ∧ (x.blockTake 0x80).1 = some m ∧ (2048 < g 2 2 ∨ 2048 < g 4 2 ∨ m.length < 8 + g 2 2 ∨ 1 < g 0 1 ∨ g 1 1 ≠ 0)))),
   base && decide (s.veh.asm = some r ∧ rd.length = r.rdLen),
   base && decide (s.veh.asm = some r ∧ rd.length = r.rdLen ∧ r.evt = true),
   base && decide (s.veh.asm = some r ∧ rd.length = r.rdLen ∧ r.evt = false),
   base,
   base && decide (s.fld F.VEH_ASM_CTRL_int_en = 1 ∧ s.fld F.VEH_EVT_asm_int = 0),
   base && decide (s.fld F.VEH_ASM_CTRL_int_en = 1 ∧ s.fld F.VEH_EVT_asm_int = 1),
   base && decide (s.mayWrite who Reg.VEH_ASM_CTRL = true ∧ s.fld F.VEH_ASM_CTRL_en = 1 ∧ v.toNat % 16 = 0 ∧ s.veh.asm = none),
   base && decide (s.mayWrite who Reg.VEH_ASM_CTRL = true ∧ s.fld F.VEH_ASM_CTRL_en = 1 ∧ v.toNat % 16 = 0 ∧ s.veh.asm = some r),
   base && decide (n < 8 ∧ s.veh.timers.length = 8 ∧ s.mayWrite who (Reg.VEH_TMR0 + 4 * n) = true ∧ v.getLsbD 22 = true ∧ v.toNat % 2 ^ 20 ≠ 0),
   base && decide (n < 8 ∧ s.veh.timers.length = 8 ∧ s.mayWrite who (Reg.VEH_TMR0 + 4 * n) = true ∧ v.getLsbD 22 = false ∧ v.getLsbD 23 = true),
   base && (decide (n < 8 ∧ s.veh.timers.length = 8) && (let x := s.veh.timers.getD n {}; decide (s.fld (F.VEH_TMRn_running n) = 1 ∧ s.tmk.mtRun = true ∧ (x.from_ + 25000 * x.ms + 24999) / 25000 * 25000 ≤ mt))),
   base && (decide (n < 8 ∧ s.veh.timers.length = 8) && (let x := s.veh.timers.getD n {}; decide (s.fld (F.VEH_TMRn_running n) = 1 ∧ s.tmk.mtRun = true ∧ (x.from_ + 25000 * x.ms + 24999) / 25000 * 25000 ≤ mt ∧ s.fld (F.VEH_TMRn_action n) = 0))),
   base && (decide (n < 8 ∧ s.veh.timers.length = 8) && (let x := s.veh.timers.getD n {}; decide (s.fld (F.VEH_TMRn_running n) = 1 ∧ s.tmk.mtRun = true ∧ (x.from_ + 25000 * x.ms + 24999) / 25000 * 25000 ≤ mt ∧ s.fld (F.VEH_TMRn_action n) = 2))),
   base && (decide (n < 8 ∧ s.veh.timers.length = 8) && (let x := s.veh.timers.getD n {}; decide (mt < x.from_ + 25000 * x.ms))),
   base && decide (s.mayWrite who Reg.VEH_SLAC = true ∧ v.toNat % 8 ≤ 4),
   base && decide (s.mayWrite who Reg.VEH_SLAC = true ∧ v.toNat % 8 ≤ 4 ∧ (v.toNat % 8 = 3 ∨ v.toNat % 8 = 4) ∧ v.toNat % 8 ≠ s.fld F.VEH_SLAC_state),
   base && decide (s.mayWrite who Reg.VEH_SLAC = true ∧ v.toNat % 8 ≤ 4 ∧ (v.toNat % 8 < 3 ∨ v.toNat % 8 = s.fld F.VEH_SLAC_state))]

namespace Of12E12
def g0 := run 0 (fun n => n)
def c0 : Init := .core 0
def ve (f : Veh → Veh) (s : State := g0) : State := { s with veh := f s.veh }
def vi (s : State) (v : Word := 0) (n := 0) (uv := 0) (code := 0) (band := 0) (lo := 0) (hi := 0) (t0 := 0) (m : List Byte := []) (rd : List Byte := []) (r : AsmRun := ⟨false, false, 0, 0, []⟩) := asks_VehicleInterface s c0 v n uv code band lo hi t0 m rd r
def hi (f : Veh → Veh := id) (l : List (Field × Nat) := []) := ve (fun v => f { v with cp := .high }) (put g0 ([(F.VEH_CTRL_evt_mask, 15)] ++ l))
def pp (f : Veh → Veh := id) (code band lo hi : Nat) (l : List (Field × Nat) := []) := vi (ve f (put g0 ([(F.VEH_PP_CFG_en, 1), (F.VEH_PP_CFG_r_pu, 330), (F.VEH_CTRL_evt_mask, 15)] ++ l))) 0 0 0 code band lo hi
def dA (n : Nat) : Desc := { base := 0x20040000, ctrl := 1 + 2 * 2 + 4 * 8, prod := n, resv := n }
def asmS (m : List Byte) (l : List (Field × Nat) := []) (f : Veh → Veh := id) : State :=
  let s := ve f (put (queues [(0x80, dA 1), (0x81, { dA 0 with base := 0x20050000 }), (0x82, { dA 0 with base := 0x20060000 })] g0) ([(F.VEH_ASM_CTRL_en, 1)] ++ l))
  { s with mem := Store.setBytes s.mem 0x20040000 (m ++ List.replicate (64 - m.length) 0) }
def hd (fl z wr rd tag : Nat) : List Byte := leBytes 1 fl ++ leBytes 1 z ++ leBytes 2 wr ++ leBytes 2 rd ++ leBytes 2 tag ++ (List.range 40).map (BitVec.ofNat 8 ·)
def va (fl z wr rd tag : Nat) (l : List (Field × Nat) := []) := let s := asmS (hd fl z wr rd tag) l; vi s 0 0 0 0 0 0 0 0 (((((s.qRoom 0x81).2.blockTake 0x80).1)).getD [])

theorem witness_VehicleInterface : shows [
    (vi (asmS [] [(F.VEH_ASM_STATUS_busy, 1), (F.VEH_ASM_STATUS_done, 65535)] (fun v => { v with csN := false, asm := some ⟨false, true, 2, 9, []⟩ })) 0 0 0 0 0 0 0 0 [] [1, 2] ⟨false, true, 2, 9, []⟩, [0, 12, 13, 15, 19, 26, 28]),
    (vi (put g0 [(F.VEH_TMRn_running 7, 1), (F.VEH_TMRn_action 7, 2)]) 0x005FFFFF 7, [2, 20, 22, 24]),
    (vi (asmS [] [(F.VEH_ASM_CTRL_int_rd_len, 3), (F.VEH_ASM_CTRL_int_wr_len, 2)] (fun v => { v with template := true })), [9, 18]),
    (vi (put g0 [(F.VEH_TMRn_running 3, 1)]) 0x00800000 3, [21, 23]),
    (vi (put g0 [(F.DSK_STATUS_warn, 1), (F.SYS_POST_STATUS_dusk_warn, 1)]) 3, [3, 27]),
    (vi (hi (fun v => { v with band := 1, bandRun := 2 })) 0 0 2750000 0 1 2750000 2950000, [4]),
    (vi (hi (fun v => { v with band := 6, bandRun := 99 }) [(F.VEH_CP_STATE_state, 4)]) 0 0 2350000 0 3 2150000 2350000, [5]),
    (vi (hi (fun v => { v with invalidFrom := some 4 }) [(F.VEH_CP_CFG_inv_ms, 39)]) 0 0 0 0 0 0 0 4, [6]),
    (pp (fun v => { v with ppBand := 1, ppRun := 4 }) 3400 1 1100 2200, [7]),
    (pp (fun v => { v with ppBand := 3, ppRun := 3 }) 1500 3 150 330, [8]),
    (va 1 0 16 5 77, [10]),
    (va 0 0 2048 1 77, [11]),
    (vi (asmS [] [(F.VEH_ASM_STATUS_busy, 1)] (fun v => { v with csN := false, asm := some ⟨true, false, 0, 9, []⟩ })) 0 0 0 0 0 0 0 0 [] [] ⟨true, false, 0, 9, []⟩, [14]),
    (vi (put g0 [(F.VEH_ASM_CTRL_int_en, 1)]), [16]),
    (vi (put g0 [(F.VEH_ASM_CTRL_int_en, 1), (F.VEH_ASM_STATUS_int, 1), (F.VEH_EVT_asm_int, 1)]), [17]),
    (vi (ve (fun v => { v with timers := v.timers.set 3 { from_ := 3, ms := 40 } }) (put g0 [(F.VEH_TMRn_running 3, 1), (F.VEH_TMRn_action 3, 1)])) 3 3, [25]),
    (vi (put g0 [(F.VEH_STATUS_forced, 1)]), [1])] = true := by decide +kernel

end Of12E12


/-- What each clause of RobinReader asks. -/
def asks_RobinReader (s : State) (who : Init) (v : Word) (ext cur amp phase status lastBits coll t0 : Nat) (l rx : List Byte) (x : RdTxn) : List Bool :=
  let mt := s.tmk.mt
  let fits := s.fld F.RBN_CAL_i_min ≤ cur ∧ cur ≤ s.fld F.RBN_CAL_i_max
  let y := (s.qRoom 0x0089).2
  let g (o n : Nat) := leNat ((l.drop o).take n)
  let near := amp - s.fld F.RBN_DET_REF_amp + (s.fld F.RBN_DET_REF_amp - amp) < s.fld F.RBN_DET_THR_amp ∧ phase - s.fld F.RBN_DET_REF_phase + (s.fld F.RBN_DET_REF_phase - phase) < s.fld F.RBN_DET_THR_phase
  let base : Bool := decide (s.isWorker = false ∧ s.dawnDone = true ∧ s.dsk.off = false)
  [base && decide (s.mayWrite who Reg.RBN_CTRL = true ∧ v.toNat % 4 = 2 ∧ s.icgLocked 2 = true ∧ s.duskWarn = false ∧ s.fld F.RBN_STATUS_mode_now ≠ 2 ∧ s.rbn.txn = none ∧ ext < s.fld F.RBN_EXT_THR_thr ∧ fits),
   base && decide (s.mayWrite who Reg.RBN_CTRL = true ∧ v.toNat % 4 = 2 ∧ s.icgLocked 2 = true ∧ s.duskWarn = false ∧ s.fld F.RBN_STATUS_mode_now ≠ 2 ∧ s.rbn.txn = none ∧ s.fld F.RBN_EXT_THR_thr ≤ ext ∧ (s.qReady 0x0088).1 = .noQueue),
   base && decide (s.mayWrite who Reg.RBN_CTRL = true ∧ v.toNat % 4 = 2 ∧ (s.icgLocked 2 = false ∨ s.duskWarn = true)),
   base && decide (s.mayWrite who Reg.RBN_CTRL = true ∧ v.toNat % 4 ≤ 1 ∧ s.fld F.RBN_STATUS_mode_now = 2 ∧ s.rbn.txn = none),
   base && decide (s.mayWrite who Reg.RBN_CTRL = true ∧ v.toNat % 4 ≤ 1 ∧ s.fld F.RBN_STATUS_mode_now = 2 ∧ s.rbn.txn = some x),
   base && decide (s.rbn.waiting = true ∧ ext < s.fld F.RBN_EXT_THR_thr ∧ s.rbn.extFrom = none),
   base && decide (s.rbn.waiting = true ∧ ext < s.fld F.RBN_EXT_THR_thr ∧ s.rbn.extFrom = some t0 ∧ mt < t0 + 250000),
   base && decide (s.rbn.waiting = true ∧ ext < s.fld F.RBN_EXT_THR_thr ∧ s.rbn.extFrom = some t0 ∧ t0 + 250000 ≤ mt ∧ fits),
   base && decide (s.fld F.RBN_STATUS_guard = 1 ∧ s.rbn.guardEnd ≤ mt),
   base && decide (s.fld F.RBN_STATUS_guard = 1 ∧ mt < s.rbn.guardEnd),
   base && decide (s.fld F.RBN_STATUS_mode_now = 2 ∧ s.rbn.waiting = false ∧ s.fld F.RBN_STATUS_field_on = 1 ∧ s.fld F.RBN_STATUS_guard = 0 ∧ s.rbn.txn = none ∧ s.rbn.leave = none ∧ (s.qRoom 0x0089).1 = true ∧ (y.blockTake 0x0088).1 = some l ∧ 1 ≤ g 0 1 % 4 ∧ g 0 1 < 16 ∧ ((g 0 1 % 4 = 3 → g 0 1 / 4 = 0)) ∧ g 1 1 / 16 % 2 = 0 ∧ 1 ≤ g 2 2 ∧ g 2 2 ≤ 256 ∧ 1 ≤ g 4 2 ∧ 8 + g 2 2 ≤ l.length),
   base && decide (s.fld F.RBN_STATUS_mode_now = 2 ∧ s.rbn.waiting = false ∧ s.fld F.RBN_STATUS_field_on = 1 ∧ s.fld F.RBN_STATUS_guard = 0 ∧ s.rbn.txn = none ∧ s.rbn.leave = none ∧ (s.qRoom 0x0089).1 = true ∧ (y.blockTake 0x0088).1 = some l ∧ (g 0 1 % 4 = 0 ∨ 16 ≤ g 0 1 ∨ g 2 2 = 0 ∨ 256 < g 2 2 ∨ g 4 2 = 0 ∨ l.length < 8 + g 2 2)),
   base && decide (s.rbn.txn = some x ∧ s.rbn.leave = none ∧ status < 10 ∧ (status < 6 ∨ 8 < status)),
   base && decide (s.rbn.txn = some x ∧ s.rbn.leave = none ∧ status < 10 ∧ (status < 6 ∨ 8 < status) ∧ status = 0),
   base && decide (s.rbn.txn = some x ∧ s.rbn.leave = none ∧ status < 10 ∧ (status < 6 ∨ 8 < status) ∧ status ≠ 0),
   base && decide (s.rbn.txn = some x ∧ s.rbn.leave = none ∧ status < 10 ∧ (status < 6 ∨ 8 < status) ∧ leNat ((x.head.drop 1).take 1) / 8 % 2 = 1),
   base && decide (s.fld F.RBN_STATUS_mode_now = 1 ∧ amp < 4096 ∧ phase < 4096 ∧ s.fld F.RBN_EXT_THR_thr ≤ ext),
   base && decide (s.fld F.RBN_STATUS_mode_now = 1 ∧ amp < 4096 ∧ phase < 4096 ∧ ext < s.fld F.RBN_EXT_THR_thr ∧ ¬ near ∧ s.rbn.positives + 1 < s.fld F.RBN_DET_CFG_det_cnt),
   base && decide (s.fld F.RBN_STATUS_mode_now = 1 ∧ amp < 4096 ∧ phase < 4096 ∧ ext < s.fld F.RBN_EXT_THR_thr ∧ ¬ near ∧ s.fld F.RBN_DET_CFG_det_cnt ≤ s.rbn.positives + 1 ∧ s.fld F.RBN_CTRL_auto_field = 0),
   base && decide (s.fld F.RBN_STATUS_mode_now = 1 ∧ amp < 4096 ∧ phase < 4096 ∧ ext < s.fld F.RBN_EXT_THR_thr ∧ near ∧ amp = s.fld F.RBN_DET_REF_amp ∧ phase = s.fld F.RBN_DET_REF_phase ∧ s.rbn.cal = (amp, phase)),
   base && decide (s.mayWrite who Reg.RBN_DET_CFG = true ∧ v.getLsbD 12 = true ∧ amp < 4096 ∧ phase < 4096)]

/-- What each clause of RobinTag asks. -/
def asks_RobinTag (s : State) (uid h p1 p2 le off fid page mv t0 : Nat) (data l : List Byte) : List Bool :=
  let mt := s.tmk.mt
  let len := 256 * s.fld F.RBN_TAG_CFG_ndef_pages
  let a := 256 * p1 + p2
  let y := (s.qRoom 0x008B).2
  let g (o n : Nat) := leNat ((l.drop o).take n)
  let ok := g 1 1 ≤ 31 ∧ 1 ≤ g 4 2 ∧ g 4 2 ≤ 256 ∧ g 2 2 + g 4 2 ≤ 256
  [decide (s.fld F.RBN_STATUS_field_on = 0 ∧ s.nj.vnjLost = false ∧ h < 256 ∧ uid < 2 ^ 24),
   decide (s.fld F.RBN_TAG_STATUS_field = 1 ∧ s.nj.vnjLost = false),
   decide (s.fld F.RBN_TAG_STATUS_field = 1 ∧ s.rbn.written = 0 ∧ s.rbn.deferred = [] ∧ s.rbn.locks = []),
   decide (s.fld F.RBN_TAG_STATUS_active = 1 ∧ s.rbn.written = 0 ∧ s.rbn.locks = [] ∧ s.fld F.QE_STATUS_table_busy = 0 ∧ s.tabOn = false),
   decide (s.fld F.RBN_TAG_STATUS_active = 1 ∧ s.nj.vnjLost = false ∧ s.ndefOn = true),
   decide (s.fld F.RBN_TAG_STATUS_active = 1 ∧ s.nj.vnjLost = false ∧ s.ndefOn = false),
   decide (s.fld F.RBN_TAG_STATUS_active = 1 ∧ s.nj.vnjLost = false ∧ s.fld F.RBN_DEAD_CFG_dead_en = 1),
   decide (s.fld F.RBN_TAG_STATUS_active = 1 ∧ s.nj.vnjLost = false ∧ s.fld F.RBN_TAG_STATUS_app = 1 ∧ s.ndefOn = true),
   decide (s.fld F.RBN_TAG_STATUS_active = 1 ∧ s.nj.vnjLost = false ∧ s.fld F.RBN_TAG_STATUS_app = 1 ∧ s.ndefOn = true ∧ fid ≠ 0xE103 ∧ fid ≠ 0xE104),
   decide (s.fld F.RBN_TAG_STATUS_active = 1 ∧ s.nj.vnjLost = false ∧ 128 ≤ p1),
   decide (s.fld F.RBN_TAG_STATUS_active = 1 ∧ s.nj.vnjLost = false ∧ s.rbn.file = 2 ∧ s.ndefOn = true ∧ p1 < 128 ∧ len ≤ a),
   decide (s.fld F.RBN_TAG_STATUS_active = 1 ∧ s.nj.vnjLost = false ∧ s.rbn.file = 2 ∧ s.ndefOn = true ∧ p1 < 128 ∧ len ≤ a ∧ s.fld F.RBN_TAG_CFG_field_wr = 1),
   decide (s.fld F.RBN_TAG_STATUS_active = 1 ∧ s.nj.vnjLost = false ∧ s.rbn.file = 2 ∧ s.ndefOn = true ∧ p1 < 128 ∧ len ≤ off),
   decide (s.fld F.RBN_TAG_STATUS_active = 1 ∧ s.nj.vnjLost = false ∧ s.rbn.file = 2 ∧ s.ndefOn = true ∧ p1 < 128 ∧ s.rbn.wire = [] ∧ a + le ≤ len ∧ 1 ≤ le),
   decide (s.fld F.RBN_TAG_STATUS_active = 1 ∧ s.nj.vnjLost = false ∧ s.rbn.file = 2 ∧ s.ndefOn = true ∧ p1 < 128 ∧ s.rbn.wire = [] ∧ a < len ∧ len < a + le),
   decide (s.fld F.RBN_TAG_STATUS_active = 1 ∧ s.nj.vnjLost = false ∧ s.rbn.file = 2 ∧ s.ndefOn = true ∧ p1 < 128 ∧ s.rbn.wire = [] ∧ off + le ≤ len ∧ 1 ≤ le),
   decide (s.fld F.RBN_TAG_STATUS_active = 1 ∧ s.nj.vnjLost = false ∧ s.rbn.file = 2 ∧ s.ndefOn = true ∧ p1 < 128 ∧ s.rbn.wire = [] ∧ s.fld F.RBN_TAG_CFG_field_wr = 1 ∧ a + data.length ≤ len ∧ data ≠ []),
   decide (s.fld F.RBN_TAG_STATUS_active = 1 ∧ s.nj.vnjLost = false ∧ s.rbn.file = 2 ∧ s.ndefOn = true ∧ p1 < 128 ∧ s.fld F.RBN_TAG_CFG_field_wr = 1 ∧ a < len ∧ len < a + data.length),
   decide (s.fld F.RBN_TAG_STATUS_active = 1 ∧ s.nj.vnjLost = false ∧ s.rbn.file = 2 ∧ s.ndefOn = true ∧ p1 < 128 ∧ s.fld F.RBN_TAG_CFG_field_wr = 0),
   decide (s.isWorker = false ∧ s.dawnDone = true ∧ s.dsk.off = false ∧ (s.qRoom 0x008B).1 = true ∧ (y.blockPeek 0x008A).1 = some l ∧ g 0 1 = 1 ∧ ok ∧ 8 + g 4 2 ≤ l.length ∧ (s.word Reg.RBN_LOCK_FIELD).getLsbD (g 1 1) = false),
   decide (s.isWorker = false ∧ s.dawnDone = true ∧ s.dsk.off = false ∧ (s.qRoom 0x008B).1 = true ∧ (y.blockPeek 0x008A).1 = some l ∧ g 0 1 = 1 ∧ ok ∧ 8 + g 4 2 ≤ l.length ∧ (s.word Reg.RBN_LOCK_FIELD).getLsbD (g 1 1) = true ∧ s.fld F.RBN_DEFER_bytes + 256 ≤ 2048),
   decide (s.isWorker = false ∧ s.dawnDone = true ∧ s.dsk.off = false ∧ (s.qRoom 0x008B).1 = true ∧ (y.blockPeek 0x008A).1 = some l ∧ g 0 1 = 1 ∧ (¬ ok ∨ l.length < 8 + g 4 2)),
   decide (s.isWorker = false ∧ s.dawnDone = true ∧ s.dsk.off = false ∧ (s.qRoom 0x008B).1 = true ∧ (y.blockPeek 0x008A).1 = some l ∧ g 0 1 = 2 ∧ ok),
   decide (s.isWorker = false ∧ s.dawnDone = true ∧ s.dsk.off = false ∧ (s.qRoom 0x008B).1 = true ∧ (y.blockPeek 0x008A).1 = some l ∧ g 0 1 = 3 ∧ s.word Reg.RBN_LOCK_FIELD = 0),
   decide (s.isWorker = false ∧ s.dawnDone = true ∧ s.dsk.off = false ∧ (s.qRoom 0x008B).1 = true ∧ (y.blockPeek 0x008A).1 = some l ∧ g 0 1 = 4),
   decide (page < 32 ∧ s.rbn.wire = [(page, t0)] ∧ t0 + s.fld F.RBN_TAG_CFG_lock_ms * 250000 ≤ mt),
   decide (page < 32 ∧ s.rbn.wire = [(page, t0)] ∧ mt < t0 + s.fld F.RBN_TAG_CFG_lock_ms * 250000),
   decide (mv < 4096 ∧ 3300 ≤ mv ∧ s.fld F.RBN_HARV_CFG_out_en = 1 ∧ s.fld F.RBN_STATUS_field_on = 0 ∧ s.rbn.ovlOff = false),
   decide (mv < 4096 ∧ (mv < 3300 ∨ s.rbn.ovlOff = true)),
   decide (mv < 4096 ∧ mv < 3100),
   decide (mv < 4096 ∧ 3100 ≤ mv),
   decide (s.fld F.RBN_HARV_STATUS_out_on = 1),
   decide (s.rbn.ovlOff = true),
   decide (s.rbn.ovlOff = true ∧ 3300 ≤ s.fld F.RBN_HARV_STATUS_vharv ∧ s.fld F.RBN_HARV_CFG_out_en = 1 ∧ s.fld F.RBN_STATUS_field_on = 0)]

namespace Of13E13
def g0 := run 0 (fun n => n)
def c0 : Init := .core 0
def rb (f : Rbn → Rbn) (s : State) : State := { s with rbn := f s.rbn }
def rd (s : State) (v : Word := 0) (ext := 0) (cur := 50) (amp := 0) (phase := 0) (status := 0) (coll := 0xFFFF) (t0 := 0) (rx : List Byte := []) (x : RdTxn := ⟨[], []⟩) :=
  let l := (((s.qRoom 0x0089).2.blockTake 0x0088).1).getD []
  asks_RobinReader s c0 v ext cur amp phase status 0 coll t0 l rx x
def b (l : List (Field × Nat) := []) : State := put g0 ([(F.RBN_EXT_THR_thr, 10), (F.RBN_CAL_i_min, 40), (F.RBN_CAL_i_max, 60), (F.RBN_CTRL_evt_mask, 15), (⟨Reg.TMK_ICG_CTRL, 3, 0⟩, 15), (F.TMK_ICG_CTRL_locked, 15)] ++ l)
def tx (n : Nat) : RdTxn := ⟨[1, BitVec.ofNat 8 n, 0,0,0,0,7,8], [3]⟩
def dA (n : Nat) (sp := 5) : Desc := { base := 0x20040000, ctrl := 1 + 2 * 2 + 4 * 8 + (sp - 1) * 256, prod := n, resv := n }
def qrd (m : List Byte) (l : List (Field × Nat) := []) : State :=
  let s := queues [(0x88, dA 5), (0x89, { dA 0 with base := 0x20050000 }), (0x8A, dA 5), (0x8B, { dA 0 with base := 0x20050000 })] (b ([(F.RBN_STATUS_mode_now, 2), (F.RBN_STATUS_field_on, 1)] ++ l))
  { s with mem := Store.setBytes s.mem 0x20040000 m }
def hd (fl fl2 tx till tag : Nat) : List Byte := leBytes 1 fl ++ leBytes 1 fl2 ++ leBytes 2 tx ++ leBytes 2 till ++ leBytes 2 tag ++ (List.range 4).map (BitVec.ofNat 8 ·)
def dt (amp ph ext : Nat) (f : Rbn → Rbn := id) (l : List (Field × Nat) := []) := rd (rb f (b ([(F.RBN_STATUS_mode_now, 1), (F.RBN_DET_CFG_det_cnt, 2), (F.RBN_DET_REF_amp, 2000), (F.RBN_DET_REF_phase, 1000), (F.RBN_DET_THR_amp, 50), (F.RBN_DET_THR_phase, 50)] ++ l))) 0x1000 ext 50 amp ph
def tg (s : State) (uid := 0x123456) (h := 200) (p1 := 0) (p2 := 0) (le := 16) (off := 0) (fid := 1) (page := 0) (mv := 0) (t0 := 0) (data : List Byte := []) :=
  let l := (((s.qRoom 0x008B).2.blockPeek 0x008A).1).getD []
  asks_RobinTag s uid h p1 p2 le off fid page mv t0 data l
def T (f : Rbn → Rbn := id) (l : List (Field × Nat) := []) (iso := false) : State := (fun (s : State) => { s with nj := { s.nj with isolated := iso } }) <| rb (fun r => f { r with tagMem := Store.setBytes [] 0 ((List.range 4).map (fun n => BitVec.ofNat 8 (n+1))) }) (put g0 ([(F.RBN_TAG_STATUS_field, 1), (F.RBN_TAG_STATUS_active, 1), (F.RBN_TAG_CFG_en, 1), (F.RBN_TAG_CFG_ndef_pages, 2), (F.RBN_TAG_CFG_field_wr, 1), (F.RBN_DEAD_CFG_dead_en, 1)] ++ l))
def ndf := T (fun r => { r with file := 2 }) [(F.RBN_TAG_STATUS_app, 1)]
def wc (op page off len tag : Nat) (f : Rbn → Rbn := id) (l : List (Field × Nat) := []) := tg (rb f (qrd (leBytes 1 op ++ leBytes 1 page ++ leBytes 2 off ++ leBytes 2 len ++ leBytes 2 tag ++ (List.range 4).map (BitVec.ofNat 8 ·)) l))
def ha (mv : Nat) (f : Rbn → Rbn := id) (l : List (Field × Nat) := []) := tg (rb f (put g0 ([(F.RBN_HARV_CFG_out_en, 1)] ++ l))) 0 0 0 0 0 0 0 5 mv 100

theorem witness_RobinReader : shows [
    (rd (rb (fun r => { r with txn := some (tx 8) }) (qrd [])) 0 0 0 0 0 0 0 0 [1,2] (tx 8), [4, 12, 13, 15]),
    (rd (b [(F.RBN_STATUS_mode_now, 1)]) 0x2 9 60, [0, 19]),
    (rd (rb (fun r => { r with waiting := true }) (b [(F.RBN_STATUS_mode_now, 2)])) 0 9 50, [3, 5]),
    (dt 2000 1000 10, [16, 20]),
    (rd (b) 2 10 50, [1]),
    (rd (put (b) [(F.DSK_STATUS_warn, 1)]) 0xF02, [2]),
    (rd (rb (fun r => { r with waiting := true, extFrom := some 750001 }) (b [(F.RBN_STATUS_mode_now, 2)])) 0 9 50 0 0 0 0 750001, [6]),
    (rd (rb (fun r => { r with waiting := true, extFrom := some 750000 }) (b [(F.RBN_STATUS_mode_now, 2)])) 0 9 50 0 0 0 0 750000, [7]),
    (rd (qrd (hd 1 0 256 1 9)), [10]),
    (rd (qrd (hd 0 8 10 1 9)), [11]),
    (rd (rb (fun r => { r with txn := some (tx 0) }) (qrd [])) 0 0 0 0 0 5 0 0 [1,2] (tx 0), [14]),
    (rd (rb (fun r => { r with guardEnd := 1000000 }) (b [(F.RBN_STATUS_guard, 1)])), [8]),
    (rd (rb (fun r => { r with guardEnd := 1000001 }) (b [(F.RBN_STATUS_guard, 1)])), [9]),
    (dt 2050 1000 9, [17]),
    (dt 2000 1050 9 (fun r => { r with positives := 1 }) [(F.RBN_CTRL_auto_field, 0)], [18])] = true := by decide +kernel

theorem witness_RobinTag : shows [
    (tg ndf 0 0 2 0 1 512, [0, 1, 2, 3, 4, 6, 7, 8, 10, 11, 12, 28, 29]),
    (tg ndf 0 0 0 0 512 0 1 0 0 0 (List.replicate 255 9), [13, 15, 16]),
    (ha 4095 (fun r => { r with ovlOff := true }) [(F.RBN_HARV_STATUS_vharv, 3300)], [30, 32, 33]),
    (tg (put (T) [(F.RBN_TAG_CFG_en, 0)]), [5]),
    (tg ndf 0 0 1 250 9, [14]),
    (tg ndf 0 0 1 250 1 505 1 0 0 0 [1,2,3,4,5,6,7], [17]),
    (tg (put ndf [(F.RBN_TAG_CFG_field_wr, 0)]) 0 0 1 250 1 505 1 0 0 0 [5], [18]),
    (tg ndf 0 0 128 0, [9]),
    (ha 3300, [27]),
    (ha 3299 (fun r => { r with wire := [(5, 100)] }) [(F.RBN_TAG_CFG_lock_ms, 1)], [25]),
    (ha 3100 (fun r => { r with wire := [(5, 100)] }) [(F.RBN_TAG_CFG_lock_ms, 4)], [26]),
    (ha 3099 id [(F.RBN_HARV_STATUS_out_on, 1)], [31]),
    (wc 1 31 0 256 7, [19]),
    (wc 1 3 0 256 7 id [(F.RBN_LOCK_FIELD_pages, 8)], [20]),
    (wc 1 3 255 2 7, [21]),
    (wc 2 31 0 256 7, [22]),
    (wc 3 0 0x8001 0x8000 7, [23]),
    (wc 4 0 0x8001 0x8000 7 (fun r => { r with wire := [(0, 4), (3, 5), (31, 5)] }), [24])] = true := by decide +kernel

end Of13E13


/-- What each clause of SafetyTrips asks. -/
def asks_SafetyTrips (s : State) (n g c : Nat) (v : Word) : List Bool :=
  let m := s.saf.eff.mask n
  let base : Bool := decide (g < 10 ∧ s.saf.armed = true)
  [base && decide (n < 32 ∧ s.srcLive n = false),
   base && decide (n < 32 ∧ s.srcLive n = false ∧ m ≠ 0),
   base && decide (n < 32 ∧ s.srcLive n = false ∧ m ≠ 0 ∧ s.cpu.cores.length = 5),
   base && decide (n < 32 ∧ s.srcLive n = false ∧ m.testBit g = true),
   base && decide (n < 32 ∧ s.srcLive n = false ∧ m.testBit g = true ∧ s.locked g = false),
   base && decide (n < 32 ∧ s.srcLive n = true),
   base && decide (n < 32 ∧ s.srcLive n = true ∧ ((16 ≤ n → s.saf.dacWrong.getD (n - 16) false = false)) ∧ s.saf.quietFrom.length = 64),
   base && decide (16 ≤ n ∧ n < 32 ∧ s.saf.dacWrong.getD (n - 16) false = true),
   base && decide (n < 16 ∧ s.saf.mismatch.testBit n = false),
   base && decide (n < 16 ∧ s.saf.mismatch.testBit n = false ∧ s.srcLive 55 = false),
   base && decide (n < 16 ∧ s.saf.mismatch.testBit n = true),
   base && decide (n < 16 ∧ s.saf.mismatch < 65536),
   base,
   base && decide (s.saf.hold = true),
   base && decide (s.saf.hold = true ∧ s.srcLive 56 = false),
   base && decide (s.saf.hold = false),
   base && decide (c ≠ 4)]

/-- What each clause of SafetyReleases asks. -/
def asks_SafetyReleases (s : State) (c k m g t0 t1 : Nat) (v : Word) : List Bool :=
  let mt := s.tmk.mt
  let quiet (h : Nat) : Prop := ∀ n : Nat, n < 57 → (s.grp h).causes.getLsbD n = true → s.srcLive n = false ∧ s.saf.quietFrom.getD n 0 + 1250000 ≤ mt
  let open_ (h : Nat) : Prop := (s.grp h).state = 2 ∧ quiet h ∧ s.tmk.mtRun = true
  let base : Bool := decide (g < 10 ∧ m < 1024)
  [base && decide (s.mayWrite (.core c) Reg.SAF_REL_REQ = true ∧ v.toNat / 65536 = 0xC1EA),
   base && decide (s.mayWrite (.core c) Reg.SAF_REL_REQ = true ∧ v.toNat / 65536 ≠ 0xC1EA),
   base,
   base && decide ((s.core c).task = true),
   base && decide (s.mayWrite (.core c) Reg.SAF_REL_CONFIRM = true ∧ (s.saf.relReq = none ∨ v.toNat % 65536 ≠ 0x3E15)),
   base && decide (s.mayWrite (.core c) Reg.SAF_REL_CONFIRM = true ∧ v.toNat % 65536 = 0x3E15 ∧ s.saf.relReq = some (c, m, t0) ∧ mt ≤ t0 + 25000 ∧ m ≠ 0 ∧ ((∀ h : Nat, h < 10 → m.testBit h = true → open_ h ∧ s.lockEdge h = false))),
   base && decide (s.mayWrite (.core c) Reg.SAF_REL_CONFIRM = true ∧ v.toNat % 65536 = 0x3E15 ∧ s.saf.relReq = some (c, m, t0) ∧ mt ≤ t0 + 25000 ∧ m = 2 ^ g ∧ s.lockEdge g = true),
   base && decide (s.mayWrite (.core c) Reg.SAF_REL_CONFIRM = true ∧ v.toNat % 65536 = 0x3E15 ∧ s.saf.relReq = some (c, m, t0) ∧ mt ≤ t0 + 25000 ∧ m = 2 ^ g ∧ s.lockEdge g = false ∧ s.tmk.mtRun = true ∧ (s.grp g).state ≠ 2),
   base && decide (s.mayWrite (.core c) Reg.SAF_REL_CONFIRM = true ∧ v.toNat % 65536 = 0x3E15 ∧ s.saf.relReq = some (c, m, t0) ∧ mt ≤ t0 + 25000 ∧ m = 2 ^ g ∧ s.lockEdge g = false ∧ s.tmk.mtRun = true ∧ (s.grp g).state = 2 ∧ ¬ quiet g),
   base && decide (s.mayWrite (.core c) Reg.SAF_REL_CONFIRM = true ∧ v.toNat % 65536 = 0x3E15 ∧ s.saf.relReq = some (c, m, t0) ∧ mt ≤ t0 + 25000 ∧ m = 2 ^ g ∧ s.lockEdge g = false ∧ s.tmk.mtRun = false ∧ (s.grp g).state = 2 ∧ quiet g),
   base && decide (s.mayWrite (.core c) Reg.SAF_REL_CONFIRM = true ∧ v.toNat % 65536 = 0x3E15 ∧ s.saf.relReq = some (k, m, t0) ∧ m ≠ 0 ∧ (c ≠ k ∨ t0 + 25000 < mt)),
   base && decide (s.saf.lowFrom = some t0 ∧ s.tmk.mtRun = true ∧ s.saf.armed = true),
   base && decide (s.saf.lowFrom = some t0 ∧ s.tmk.mtRun = true ∧ s.saf.armed = true ∧ mt < t0 + 1250000 ∧ s.lockEdge g = true ∧ s.locked g = true),
   base && decide ((s.saf.lowFrom = none ∨ s.tmk.mtRun = false ∨ s.saf.armed = false)),
   base && decide ((s.saf.lowFrom = some t1 ∨ s.tmk.mtRun = false ∨ s.saf.armed = false)),
   base && decide (s.saf.lowFrom = none ∧ s.tmk.mtRun = true ∧ s.saf.armed = true),
   base && decide (s.saf.lowFrom = none ∧ s.tmk.mtRun = true ∧ s.saf.armed = true ∧ s.saf.idleAtRise = true ∧ s.is F.SAF_STATUS_jam = false ∧ 500000 ≤ mt - s.saf.highFrom ∧ mt - s.saf.highFrom ≤ 50000000 ∧ s.lockEdge g = true ∧ s.saf.okAtRise.testBit g = true ∧ open_ g),
   base && decide (s.saf.lowFrom = none ∧ s.tmk.mtRun = true ∧ s.saf.armed = true ∧ s.saf.idleAtRise = true ∧ s.is F.SAF_STATUS_jam = false ∧ 500000 ≤ mt - s.saf.highFrom ∧ mt - s.saf.highFrom ≤ 50000000 ∧ (s.lockEdge g = false ∨ s.saf.okAtRise.testBit g = false ∨ ¬ open_ g)),
   base && decide (s.saf.lowFrom = none ∧ s.tmk.mtRun = true ∧ s.saf.armed = true ∧ (s.saf.idleAtRise = false ∨ s.is F.SAF_STATUS_jam = true ∨ mt - s.saf.highFrom < 500000 ∨ 50000000 < mt - s.saf.highFrom)),
   base && decide (s.saf.lowFrom = none ∧ s.fld F.SAF_STATUS_jam = 0 ∧ s.tmk.mtRun = true ∧ 50000000 < mt - s.saf.highFrom),
   base && decide (s.saf.lowFrom = none ∧ s.fld F.SAF_STATUS_jam = 0 ∧ s.tmk.mtRun = true ∧ mt - s.saf.highFrom ≤ 50000000)]

/-- What each clause of ThermalAndTests asks. -/
def asks_ThermalAndTests (s : State) (n code a seen lat c rb : Nat) (temp : Int) (who : Init) (v : Word) : List Bool :=
  let mt := s.tmk.mt
  let lvl (hi lo : Nat) : Int := 10 * ((getBits (s.saf.eff.thLvl.getD n 0) hi lo : Int) - 64)
  let cfg := s.saf.eff.thCfg.getD n 0
  let runs := s.saf.armed = true ∧ s.tmk.mtRun = true ∧ cfg.getLsbD 20 = true
  let good := if n = 0 then (temp - s.njTemp).natAbs ≤ 80 else 32 ≤ code ∧ code ≤ 4063
  let src := s.srcLive (36 + n)
  let k := v.toNat % 64
  let idle := ∀ g : Nat, g < 10 → (s.saf.eff.mask k).testBit g = true → s.groupOff g = true
  let lv := s.saf.eff.cmp.getD c 0
  let off := lv + 10 < rb ∨ rb + 10 < lv
  let base : Bool := decide (n < 4 ∧ s.saf.therm.length = 4)
  [base && decide (¬ runs),
   base && decide (runs ∧ n ≠ 0 ∧ (code < 32 ∨ 4063 < code)),
   base && decide (runs ∧ n ≠ 0 ∧ (code < 32 ∨ 4063 < code) ∧ (s.th n).sensor = false),
   base && decide (runs ∧ n ≠ 0 ∧ (code < 32 ∨ 4063 < code) ∧ (s.th n).sensor = true),
   base && decide (runs ∧ good ∧ (s.th n).sensor = false),
   base && decide (runs ∧ good ∧ (s.th n).sensor = false ∧ (s.th n).trip = false ∧ src = false ∧ temp < lvl 23 16),
   base && decide (runs ∧ good ∧ (s.th n).sensor = false ∧ (s.th n).trip = false ∧ src = false ∧ lvl 23 16 ≤ temp ∧ (s.th n).tripFrom = some a ∧ mt < a + 250000 * getBits cfg 19 10),
   base && decide (runs ∧ good ∧ (s.th n).sensor = false ∧ (s.th n).trip = false ∧ src = false ∧ lvl 23 16 ≤ temp ∧ (s.th n).tripFrom = some a ∧ a + 250000 * getBits cfg 19 10 ≤ mt),
   base && decide (runs ∧ good ∧ (s.th n).sensor = false ∧ (s.th n).trip = true ∧ src = true ∧ temp < lvl 31 24 ∧ (s.th n).tripFrom = some a ∧ a + 250000 * getBits cfg 19 10 ≤ mt),
   base && decide (runs ∧ good ∧ (s.th n).sensor = false ∧ s.fld (F.SAF_THn_STAT_chatter n) = 0 ∧ s.fld (F.SAF_THn_STAT_warn n) = 0 ∧ temp < lvl 7 0),
   base && decide (runs ∧ good ∧ (s.th n).sensor = false ∧ s.fld (F.SAF_THn_STAT_chatter n) = 0 ∧ s.fld (F.SAF_THn_STAT_warn n) = 0 ∧ lvl 7 0 ≤ temp ∧ (s.th n).warnFrom = some a ∧ a + 250000 * getBits cfg 9 0 ≤ mt),
   base && decide (runs ∧ good ∧ (s.th n).sensor = false ∧ s.fld (F.SAF_THn_STAT_chatter n) = 0 ∧ s.fld (F.SAF_THn_STAT_warn n) = 0 ∧ lvl 7 0 ≤ temp ∧ (s.th n).warnFrom = some a ∧ a + 250000 * getBits cfg 9 0 ≤ mt ∧ (s.thChanges n).length < 12),
   base && decide (runs ∧ good ∧ (s.th n).sensor = false ∧ s.fld (F.SAF_THn_STAT_chatter n) = 0 ∧ s.fld (F.SAF_THn_STAT_warn n) = 0 ∧ lvl 7 0 ≤ temp ∧ (s.th n).warnFrom = some a ∧ a + 250000 * getBits cfg 9 0 ≤ mt ∧ 12 ≤ (s.thChanges n).length),
   base && decide (runs ∧ good ∧ (s.th n).sensor = false ∧ s.fld (F.SAF_THn_STAT_chatter n) = 1 ∧ temp < lvl 15 8 ∧ (s.th n).coolFrom = some a ∧ mt < a + 15000000000),
   base && decide (runs ∧ good ∧ (s.th n).sensor = false ∧ s.fld (F.SAF_THn_STAT_chatter n) = 1 ∧ temp < lvl 15 8 ∧ (s.th n).coolFrom = some a ∧ a + 15000000000 ≤ mt),
   base && decide (s.mayWrite who Reg.SAF_TEST = true ∧ v.toNat / 256 % 256 = 0x7E ∧ k < 57 ∧ s.fld F.SAF_STATUS_test_busy = 0 ∧ idle),
   base && decide (s.mayWrite who Reg.SAF_TEST = true ∧ (v.toNat / 256 % 256 ≠ 0x7E ∨ s.fld F.SAF_STATUS_test_busy = 1 ∨ ¬ idle)),
   base && decide (s.saf.test = some c ∧ seen < 1024 ∧ lat < 256),
   base && decide (s.saf.test = some c ∧ seen < 1024 ∧ lat < 256 ∧ seen &&& s.saf.eff.mask c ≠ s.saf.eff.mask c),
   base && decide (c < 16 ∧ s.saf.dacWrong.length = 16 ∧ off),
   base && decide (c < 16 ∧ s.saf.dacWrong.length = 16 ∧ off ∧ s.saf.dacWrong.getD c false = false),
   base && decide (c < 16 ∧ s.saf.dacWrong.length = 16 ∧ ¬ off),
   base && decide (c < 16 ∧ s.saf.dacWrong.length = 16 ∧ ¬ off ∧ (s.saf.dacWrong.getD c false = false ∨ s.saf.inputs.getLsbD (16 + c) = true)),
   base && decide (c < 16 ∧ s.saf.dacWrong.length = 16 ∧ ¬ off ∧ s.saf.dacWrong.getD c false = true ∧ s.saf.inputs.getLsbD (16 + c) = false)]

/-- What each clause of SealedParameters asks. -/
def asks_SealedParameters (s : State) (who : Init) (v : Word) (m : Commit) (g n : Nat) : List Bool :=
  let tableOk := s.connTableOk s.saf.staged = true
  [decide (s.mayWrite who Reg.SAF_PARAM_CMD = true ∧ v.toNat / 65536 ≠ 0x5EA1),
   decide (s.mayWrite who Reg.SAF_PARAM_CMD = true ∧ v.toNat / 65536 = 0x5EA1 ∧ v.toNat % 4 = 1 ∧ s.configEn = true ∧ s.outputsOn = false ∧ s.saf.commit = none ∧ s.duskWarn = false ∧ tableOk),
   decide (s.mayWrite who Reg.SAF_PARAM_CMD = true ∧ v.toNat / 65536 = 0x5EA1 ∧ v.toNat % 4 = 1 ∧ (s.configEn = false ∨ s.outputsOn = true ∨ s.saf.commit ≠ none ∨ s.duskWarn = true ∨ ¬ tableOk)),
   decide (s.mayWrite who Reg.SAF_PARAM_CMD = true ∧ v.toNat / 65536 = 0x5EA1 ∧ v.toNat % 4 = 1 ∧ s.configEn = false ∧ s.outputsOn = false ∧ s.saf.commit = none ∧ s.duskWarn = false ∧ tableOk),
   decide (s.mayWrite who Reg.SAF_PARAM_CMD = true ∧ v.toNat / 65536 = 0x5EA1 ∧ v.toNat % 4 = 1 ∧ s.configEn = true ∧ s.outputsOn = true ∧ s.saf.commit = none ∧ s.duskWarn = false ∧ tableOk),
   decide (s.mayWrite who Reg.SAF_PARAM_CMD = true ∧ v.toNat / 65536 = 0x5EA1 ∧ v.toNat % 4 = 1 ∧ s.configEn = true ∧ s.outputsOn = false ∧ s.saf.commit = some m ∧ s.duskWarn = false ∧ tableOk),
   decide (s.mayWrite who Reg.SAF_PARAM_CMD = true ∧ v.toNat / 65536 = 0x5EA1 ∧ v.toNat % 4 = 1 ∧ s.configEn = true ∧ s.outputsOn = false ∧ s.saf.commit = none ∧ s.duskWarn = true ∧ tableOk),
   decide (s.mayWrite who Reg.SAF_PARAM_CMD = true ∧ v.toNat / 65536 = 0x5EA1 ∧ v.toNat % 4 = 1 ∧ s.configEn = true ∧ s.outputsOn = false ∧ s.saf.commit = none ∧ s.duskWarn = false ∧ ¬ tableOk),
   decide (s.mayWrite who Reg.SAF_PARAM_CMD = true ∧ v.toNat / 65536 = 0x5EA1 ∧ v.toNat % 4 = 2),
   decide (s.saf.commit = none),
   decide (s.saf.commit = some m ∧ m.slot < s.saf.copies.length),
   decide (s.saf.commit = some m ∧ m.slot < s.saf.copies.length ∧ m.copy.sealCode = s.sealCode),
   decide (s.saf.commit = some m ∧ m.slot < s.saf.copies.length ∧ g < 10 ∧ (n < 45 ∨ 53 ≤ n) ∧ n < 57 ∧ n ≠ 54 ∧ s.srcLive n = true ∧ (m.copy.set.mask n).testBit g = true ∧ (s.saf.eff.mask n).testBit g = false)]

namespace Of14E14
def g0 := run 0 (fun n => n)
def c0 : Init := .core 0
def sf (f : Saf → Saf) (s : State := g0) : State := { s with saf := f s.saf }
def arm (f : Saf → Saf := id) (s : State := g0) : State := sf (fun k => f { k with armed := true }) s
def mp (n : Nat) (m : Nat) (k : Saf) : Saf := { k with eff := { k.eff with map := k.eff.map.set n (w32 m) } }
def lv (n : Nat) (k : Saf) : Saf := { k with live := k.live ||| (1#64 <<< n) }
def gp (g st : Nat) (c : DWord) (k : Saf) : Saf := { k with groups := k.groups.set g ⟨st, c⟩ }
def tr (s : State) (n := 3) (g := 2) (c := 0) (v : Word := 0) := asks_SafetyTrips s n g c v
def rl (s : State) (v : Word := 0x3E15) (c := 0) (k := 0) (m := 4) (g := 2) (t0 := 990000) (t1 := 0) := asks_SafetyReleases s c k m g t0 t1 v
def late (s : State) : State := { s with tmk := { s.tmk with mt := 90000000 } }
def rq (k m t0 : Nat) (q : Saf) : Saf := { q with relReq := some (k, m, t0) }
def clr (g : Nat) (k : Saf) : Saf := gp g 2 8 k
def ed (k : Saf) : Saf := { k with eff := { k.eff with mode := 4 } }
def th (n : Nat) (f : Therm → Therm) (k : Saf) : Saf := { k with therm := upd k.therm n f, eff := { k.eff with thCfg := k.eff.thCfg.set n (w32 (5 + 7*1024 + 2^20)), thLvl := k.eff.thLvl.set n 0x60708090 } }
def tt (s : State) (n := 2) (temp : Int := 0) (code := 100) (a := 500) (seen := 0) (lat := 0) (c := 0) (rb := 0) (v : Word := 0) := asks_ThermalAndTests s n code a seen lat c rb temp c0 v
-- levels: warn_set 0x90=144-64=80C=800; warn_clr 0x80=64C=640; trip_set 0x70=48C = 480; trip_clr 0x60=32C=320
def sp (s : State) (v : Word := 0x5EA10001) (m : Commit := ⟨0, default⟩) (g := 0) (n := 5) := asks_SealedParameters s c0 v m g n
def cf (l : List (Field × Nat) := []) (f : Saf → Saf := id) : State := let s := arm f (put g0 ([(F.NJD_SEAL_sw, 1)] ++ l)); { s with nj := { s.nj with sealFallback := false } }
def cpy (q : Nat) : SafCopy := ⟨true, q, {}, [], 0, List.replicate 32 0⟩
def big (q : Nat) : SafCopy := ⟨true, q, { ({} : SafSet) with map := ({} : SafSet).map.set 5 0x3FF }, [], 0, List.replicate 32 7⟩

theorem witness_SafetyTrips : shows [
    (tr (arm (fun k => { k with hold := true })) 1 2, [0, 1, 2, 3, 4, 8, 9, 11, 12, 13, 14, 16]),
    (tr (arm (lv 3)), [5, 6, 15]),
    (tr (arm (fun k => { k with mismatch := 0x8FFF })) 15 2, [10]),
    (tr (arm (fun k => lv 17 (gp 2 1 (1#64 <<< 17) { k with inputs := 0xFFFFFFFF, dacWrong := k.dacWrong.set 1 true }))) 17 2, [7])] = true := by decide +kernel

theorem witness_SafetyReleases : shows [
    (rl (late (arm (fun k => { ed (clr 2 k) with lowFrom := none, highFrom := 89500000, idleAtRise := true, okAtRise := 4 }))), [1, 2, 4, 13, 15, 16, 20]),
    (rl (arm) 0xC1EA0007, [0, 14]),
    (rl (late (arm (fun k => ed { clr 2 k with lowFrom := some 88750001 }))) 0 0 0 4 2 88750001, [11, 12]),
    (rl (late (arm (fun k => { ed (clr 2 k) with lowFrom := none, highFrom := 39999999, idleAtRise := true, okAtRise := 4 }))), [18, 19]),
    (rl (late (arm (fun k => clr 2 (rq 0 4 89990000 k)))) 0x3E15 0 0 4 2 89990000, [5]),
    (rl (arm (fun k => { clr 2 (rq 0 4 990000 k) with eff := { k.eff with mode := 4 } })), [6]),
    (rl (arm (rq 0 4 990000)), [7]),
    (rl (arm (fun k => lv 3 (clr 2 (rq 0 4 990000 k)))), [8]),
    (rl { late (arm (fun k => clr 2 (rq 0 4 89990000 k))) with tmk := { up.tmk with mtRun := false, mt := 90000000 } } 0x3E15 0 0 4 2 89990000, [9]),
    (rl (late (arm (fun k => clr 2 (rq 0 4 89974999 k)))) 0x3E15 0 0 4 2 89974999, [10]),
    (rl (late (arm (fun k => { ed (clr 2 k) with lowFrom := none, highFrom := 89500000, idleAtRise := true, okAtRise := 3 }))), [17]),
    (rl (task 0 (arm)) 0xC1EA0007, [3])] = true := by decide +kernel

theorem witness_ThermalAndTests : shows [
    (tt (arm (fun k => mp 7 0x15 { k with test := some 7 })) 1 0 0 0 0x14 255 7, [0, 16, 17, 18, 19, 20]),
    (tt (arm (th 2 id)) 2 479, [4, 5, 9]),
    (tt (arm) 1 0 0 0 0 0 15 1010, [21, 22]),
    (tt (arm (th 2 id)) 2 479 31, [1, 2]),
    (tt (late (arm (th 2 (fun k => { k with warnFrom := some 5 })))) 2 800 100 5, [10, 11]),
    (tt (arm) 1 0 0 0 0 0 0 0 0x7E05, [15]),
    (tt (arm (fun k => lv 19 { k with dacWrong := k.dacWrong.set 3 true })) 1 0 0 0 0 0 3 1000, [23]),
    (tt (arm (th 2 (fun k => { k with sensor := true }))) 2 479 4064, [3]),
    (tt (late (arm (th 2 (fun k => { k with tripFrom := some 88249999 })))) 2 480 100 88249999, [7]),
    (tt (late (arm (th 2 (fun k => { k with tripFrom := some 88250001 })))) 2 480 32 88250001, [6]),
    (tt (late (arm (fun k => lv 38 (th 2 (fun k => { k with trip := true, tripFrom := some 5 }) k)))) 2 319 4063 5, [8]),
    (tt (late (arm (th 2 (fun k => { k with warnFrom := some 5, changes := List.replicate 12 7 })))) 2 800 100 5, [12]),
    (tt (put (late (arm (th 2 (fun k => { k with coolFrom := some 5 })))) [(F.SAF_THn_STAT_chatter 2, 1), (F.SAF_THn_STAT_warn 2, 1)]) 2 639 100 5, [13]),
    (tt (put { (arm (th 2 (fun k => { k with coolFrom := some 5 }))) with tmk := { up.tmk with mt := 15000000005 } } [(F.SAF_THn_STAT_chatter 2, 1), (F.SAF_THn_STAT_warn 2, 1)]) 2 639 100 5, [14])] = true := by decide +kernel

theorem witness_SealedParameters : shows [
    (sp (cf [] (fun k => lv 5 { k with commit := some ⟨1, big 2⟩, eff := { k.eff with map := k.eff.map.set 5 0 } })) 1 ⟨1, big 2⟩ 3 5, [0, 10, 11, 12]),
    (sp (cf [(F.NJD_SEAL_sw, 0)]), [2, 3, 9]),
    (sp (cf), [1]),
    (sp (cf [(F.PWR_STATUS_state, 1)]), [4]),
    (sp (cf [] (fun k => { k with commit := some ⟨0, cpy 2⟩ })) 0x5EA10001 ⟨0, cpy 2⟩, [5]),
    (sp (cf [(F.DSK_STATUS_warn, 1)]), [6]),
    (sp (cf [] (fun k => { k with staged := { k.staged with conn := k.staged.conn.set 3 [0, 1, 0x24321405, 0, 0] } })), [7]),
    (sp (cf [] (fun k => { k with staged := { k.staged with conn := k.staged.conn.set 3 [0, 1, 0x24321405, 0, 0] } })) 0x5EA10002, [8])] = true := by decide +kernel

end Of14E14


/-- What each clause of SafetyConnections asks. -/
def asks_SafetyConnections (s : State) (c th : Nat) (e h : List Byte) (v : Word) (who : Init) : List Bool :=
  let p := s.saf.eff
  let k := s.conn c
  let mt := s.tmk.mt
  let gets := (s.blockTake (0x40 + c)).1 = some e ∧ s.saf.armed = true ∧ s.consumer c = true
  let at_ (l : List Byte) (o n : Nat) : Nat := leNat ((l.drop o).take n)
  let ctl (l : List Byte) : Nat := at_ l 2 1
  let passes := e.length = 32 ∧ ctl e < 16 ∧ at_ e 3 1 = 0 ∧ at_ e 0x17 1 = 0 ∧ at_ e 0x14 2 = s.peerOf p c ∧ at_ e 0x16 1 = p.cfg c 13 8 ∧ at_ e 0x1C 4 = (crc32c (p.connWord c 0) (e.take 0x1C)).toNat ∧ (p.twin c = true ∨ ctl e % 2 = 0)
  let d := (at_ e 0 2 + 65536 - k.lastSeq) % 65536
  let errs := mt :: k.errs.filter (fun x => mt < x + 90000000000)
  let base : Bool := decide (c < 64 ∧ s.saf.conns.length = 64)
  [base && decide (s.mayProduce c = false),
   base && decide (s.mayProduce c = true ∧ p.twin c = false ∧ k.tx.length = 16 ∧ k.txSeq < 65536),
   base && decide ((s.blockTake (0x40 + c)).1 = none),
   base && decide (gets ∧ ¬ passes ∧ (k.state ≠ 2 ∨ errs.length ≤ p.time c 31 28)),
   base && decide (gets ∧ ¬ passes ∧ k.state = 2 ∧ p.time c 31 28 < errs.length),
   base && decide (gets ∧ passes ∧ (ctl e).testBit 3 = true ∧ k.state = 2),
   base && decide (gets ∧ passes ∧ (ctl e).testBit 3 = true ∧ k.state ≠ 2),
   base && decide (gets ∧ passes ∧ (ctl e).testBit 3 = false ∧ (k.state = 0 ∨ k.state = 3)),
   base && decide (gets ∧ passes ∧ (ctl e).testBit 3 = false ∧ p.twin c = false ∧ k.state = 2 ∧ 1 ≤ d ∧ d ≤ p.time c 27 25 + 1),
   base && decide (gets ∧ passes ∧ (ctl e).testBit 3 = false ∧ p.twin c = false ∧ k.state = 2 ∧ (d = 0 ∨ 32768 ≤ d)),
   base && decide (gets ∧ passes ∧ (ctl e).testBit 3 = false ∧ p.twin c = false ∧ k.state = 2 ∧ p.time c 27 25 + 1 < d ∧ d < 32768),
   base && decide (gets ∧ passes ∧ (ctl e).testBit 3 = false ∧ p.twin c = false ∧ (k.state = 1 ∨ k.state = 4) ∧ k.count = 2 ∧ d = 1),
   base && decide (gets ∧ passes ∧ (ctl e).testBit 3 = false ∧ p.twin c = false ∧ (k.state = 1 ∨ k.state = 4) ∧ k.count = 1 ∧ d = 1),
   base && decide (gets ∧ passes ∧ (ctl e).testBit 3 = false ∧ p.twin c = false ∧ (k.state = 1 ∨ k.state = 4) ∧ (k.count = 0 ∨ d ≠ 1)),
   base && decide (gets ∧ passes ∧ (ctl e).testBit 3 = false ∧ p.twin c = true ∧ k.held = none ∧ (k.state = 1 ∨ k.state = 4 ∨ (k.state = 2 ∧ 1 ≤ d ∧ d ≤ p.time c 27 25 + 1))),
   base && decide (gets ∧ passes ∧ (ctl e).testBit 3 = false ∧ p.twin c = true ∧ k.held = some (h, th) ∧ at_ h 0 2 = at_ e 0 2 ∧ ctl e % 2 = ctl h % 2),
   base && decide (gets ∧ passes ∧ (ctl e).testBit 3 = false ∧ p.twin c = true ∧ k.held = some (h, th) ∧ at_ h 0 2 = at_ e 0 2 ∧ ctl e % 2 ≠ ctl h % 2 ∧ mt - th ≤ 250 * p.time c 24 16 ∧ k.state = 2 ∧ twinEqual e h = true),
   base && decide (gets ∧ passes ∧ (ctl e).testBit 3 = false ∧ p.twin c = true ∧ k.held = some (h, th) ∧ at_ h 0 2 = at_ e 0 2 ∧ ctl e % 2 ≠ ctl h % 2 ∧ mt - th ≤ 250 * p.time c 24 16 ∧ k.state = 2 ∧ twinEqual e h = false),
   base && decide (gets ∧ passes ∧ (ctl e).testBit 3 = false ∧ p.twin c = true ∧ k.held = some (h, th) ∧ k.state = 2 ∧ 1 ≤ (at_ e 0 2 + 65536 - at_ h 0 2) % 65536 ∧ (at_ e 0 2 + 65536 - at_ h 0 2) % 65536 < 32768),
   base && decide (k.held = some (h, th) ∧ mt - th ≤ 250 * p.time c 24 16),
   base && decide (k.held = some (h, th) ∧ 250 * p.time c 24 16 < mt - th ∧ k.state = 2 ∧ s.consumer c = true),
   base && decide (k.held = some (h, th) ∧ 250 * p.time c 24 16 < mt - th ∧ k.state ≠ 2),
   base && decide (k.held = none),
   base && decide (s.consumer c = true ∧ k.state = 2 ∧ s.duskWarn = false ∧ 25000 * p.time c 15 8 ≤ mt - k.okAt),
   base && decide ((s.consumer c = false ∨ k.state ≠ 2 ∨ s.duskWarn = true ∨ mt - k.okAt < 25000 * p.time c 15 8)),
   base && decide (s.saf.txWords.length = 4 ∧ s.fld F.SAF_SC_TXSEL_conn = c),
   base && decide (who ≠ .core 4),
   base && decide (s.mayWrite who Reg.SAF_SC_CMD = true ∧ v.toNat / 65536 = 0x5C0A ∧ v.toNat / 64 % 4 = 1 ∧ v.toNat % 64 = c ∧ s.consumer c = true ∧ k.state = 3),
   base && decide (s.mayWrite who Reg.SAF_SC_CMD = true ∧ v.toNat / 65536 = 0x5C0A ∧ v.toNat / 64 % 4 = 1 ∧ v.toNat % 64 = c ∧ (s.consumer c = false ∨ k.state ≠ 3))]

namespace Of15E15
def g0 := run 0 (fun n => n)
def sf (f : Saf → Saf) (s : State := g0) : State := { s with saf := f s.saf }
/-- entry c: consumer/producer config -/
def cfgW (prod twin : Nat) (line := 2) (idx := 5) (peer := 0x21) : Word := w32 (1 + 2 * prod + 4 * twin + 16 * line + 256 * idx + 65536 * peer)
def ent (c : Nat) (cfg : Word) (link : Word := 0) (route : Word := 0) (k : Saf) : Saf := { k with armed := true, eff := { k.eff with conn := k.eff.conn.set c [0x1234ABCD, cfg, 0x24321405, link, route] } }
def cn (c : Nat) (f : Conn → Conn) (k : Saf) : Saf := { k with conns := upd k.conns c f }
def node (s : State) : State := put s [(F.STF_NODE_node_id, 32), (F.STF_NODE_post, 2), (F.SYS_ROLE_node_id, 32)]
def dE : Desc := { base := 0x20031000, ctrl := 1 + 8 * 2 + 1 * 2, prod := 1, resv := 1 }
def env (seq ctl : Nat) (idx := 5) (src := 0x21) (bad := 0) (z := 0) (pl := 9) : List Byte :=
  let l := leBytes 2 seq ++ leBytes 1 ctl ++ leBytes 1 z ++ List.replicate 16 (BitVec.ofNat 8 pl) ++ leBytes 2 src ++ leBytes 1 idx ++ leBytes 1 0 ++ leBytes 4 77
  l ++ leBytes 4 ((crc32c 0x1234ABCD l).toNat ^^^ bad)
def sc (s : State) (c := 3) (h : List Byte := []) (th := 0) (v : Word := 0) (who : Init := .core 0) :=
  let e := ((s.blockTake (0x40 + c)).1).getD []
  asks_SafetyConnections s c th e h v who
def rx (e : List Byte) (f : Conn → Conn := id) (tw := 0) (c := 3) (line := 2) : State := let s := sf (fun k => cn c f (ent c (cfgW 0 tw line) 0 0 k)) (queues [(0x40 + c, dE)] (node g0)); { s with mem := Store.setBytes s.mem 0x20031000 e }
def rn (st : Nat) (f : Conn → Conn := id) : Conn → Conn := fun k => f { k with state := st, lastSeq := 100, okAt := 900000 }

theorem witness_SafetyConnections : shows [
    (sc (rx (env 1 0) (rn 3)) 3 [] 0 0x5C0A0043, [0, 7, 22, 24, 26, 27]),
    (sc (rx (env 101 1) (rn 2 (fun k => { k with held := some (env 101 1, 990000) })) 1) 3 (env 101 1) 990000, [15, 19]),
    (sc (rx (env 101 1) (rn 2 (fun k => { k with okAt := 0 })) 1), [14, 23]),
    (sc (rx (env 1 0) (rn 4)) 3 [] 0 0x5C0A0043, [13, 28]),
    (sc (sf (ent 3 (cfgW 1 0)) (node g0)), [1, 2]),
    (sc (rx (env 101 0 5 0x22) (rn 2)), [3]),
    (sc (rx (env 101 0 5 0x21 1) (rn 2 (fun k => { k with errs := [1,2,3], chkErr := 255, safeEntries := 255 }))), [4]),
    (sc (rx (env 101 8) (rn 2)), [5]),
    (sc (rx (env 101 8) (rn 1)), [6]),
    (sc (rx (env 101 6) (rn 2)), [8]),
    (sc (rx (env 100 0) (rn 2)), [9]),
    (sc (rx (env (100 + 32767) 0) (rn 2)), [10]),
    (sc (rx (env 101 0) (rn 1 (fun k => { k with count := 2 }))), [11]),
    (sc (rx (env 101 2) (rn 4 (fun k => { k with count := 1 }))), [12]),
    (sc (rx (env 101 1) (rn 2 (fun k => { k with held := some (env 101 0, 990000) })) 1) 3 (env 101 0) 990000, [16]),
    (sc (rx (env 101 1) (rn 2 (fun k => { k with held := some (env 101 0 5 0x21 0 0 8, 990000) })) 1) 3 (env 101 0 5 0x21 0 0 8) 990000, [17]),
    (sc (rx (env 102 1) (rn 2 (fun k => { k with held := some (env 101 0, 990000) })) 1) 3 (env 101 0) 990000, [18]),
    (sc (rx (env 101 1) (rn 2 (fun k => { k with held := some (env 101 0, 90000) })) 1) 3 (env 101 0) 90000, [20]),
    (sc (rx (env 101 1) (rn 4 (fun k => { k with held := some (env 101 0, 90000) })) 1) 3 (env 101 0) 90000, [21]),
    (sc (put (sf (fun k => { k with txWords := [1,2,3,4] }) (rx (env 1 0))) [(F.SAF_SC_TXSEL_conn, 3)]) 3 [] 0 0xFFEEDDCC (.core 4), [25])] = true := by decide +kernel

end Of15E15


/-- What each clause of ResidualCurrent asks. -/
def asks_ResidualCurrent (s : State) (dc100 dc20 : Int) (ac peak t0 : Nat) (who : Init) (v : Word) (closed sat win compared : Bool) : List Bool :=
  let mt := s.tmk.mt
  let thr := 10 * s.fld F.EFM_RDC_CFG_rdc_thr
  let a := dc100.natAbs
  let runs := s.tmk.mtRun = true ∧ s.icgLocked 1 = true
  let row := (thr ≤ a ∧ s.efm.rdcFrom = some t0 ∧ t0 + 250000 * s.fld F.EFM_RDC_CFG_rdc_dwell ≤ mt) ∨ 6000 ≤ a ∨ 20000 ≤ dc20.natAbs
  let others := s.efm.fgTestBad = false ∧ s.efm.injBad = false ∧ s.efm.stale = false ∧ s.efm.clkBad = false
  let rac := s.fld F.EFM_CTRL_rac_en
  let base : Bool := decide (-32768 ≤ dc100 ∧ dc100 < 32768 ∧ -32768 ≤ dc20 ∧ dc20 < 32768 ∧ ac < 65536 ∧ peak < 4096)
  [base && decide (¬ runs),
   base && decide (runs),
   base && decide (runs ∧ row ∧ s.fld F.EFM_CTRL_rdc_en = 1 ∧ s.rdcBlanked = false),
   base && decide (runs ∧ row ∧ s.fld F.EFM_CTRL_rdc_en = 1 ∧ s.rdcBlanked = false ∧ s.srcLive 32 = false),
   base && decide (runs ∧ row ∧ s.fld F.EFM_CTRL_rdc_en = 1 ∧ s.rdcBlanked = false ∧ s.srcLive 32 = false ∧ rac = 0),
   base && decide (runs ∧ a < thr ∧ a < 6000 ∧ dc20.natAbs < 20000 ∧ s.srcLive 32 = false),
   base && decide (runs ∧ a + 50 < thr ∧ a < 6000 ∧ dc20.natAbs < 20000 ∧ s.srcLive 32 = true ∧ s.efm.rdcLowFrom = some t0 ∧ t0 + 25000000 ≤ mt),
   base && decide (runs ∧ a + 50 < thr ∧ a < 6000 ∧ dc20.natAbs < 20000 ∧ s.srcLive 32 = true ∧ s.efm.rdcLowFrom = none),
   base && decide ((s.fld F.EFM_CTRL_rdc_en = 0 ∨ s.icgLocked 1 = false)),
   base && decide (s.fld F.EFM_CTRL_rdc_en = 1 ∧ s.icgLocked 1 = true),
   base && decide (s.fld F.EFM_CTRL_rdc_en = 1 ∧ s.icgLocked 1 = true ∧ s.efm.fgBad = false ∧ ((sat = false ∧ 2 ≤ s.efm.fgNoSat) ∨ win = false)),
   base && decide (s.fld F.EFM_CTRL_rdc_en = 1 ∧ s.icgLocked 1 = true ∧ s.efm.fgBad = false ∧ (sat = true ∨ s.efm.fgNoSat < 2) ∧ win = true),
   base && decide (s.fld F.EFM_CTRL_rdc_en = 1 ∧ s.icgLocked 1 = true ∧ s.efm.fgBad = true ∧ sat = true ∧ win = true ∧ s.efm.fgGoodFrom = some t0 ∧ t0 + 25000000 ≤ mt),
   base && decide (s.fld F.EFM_CTRL_rdc_en = 1 ∧ s.icgLocked 1 = true ∧ s.efm.fgBad = true ∧ sat = true ∧ win = true ∧ s.efm.fgGoodFrom = some t0 ∧ t0 + 25000000 ≤ mt ∧ others),
   base && decide (s.fld F.EFM_CTRL_rdc_en = 1 ∧ s.icgLocked 1 = true ∧ s.efm.fgBad = true ∧ sat = true ∧ win = true ∧ s.efm.fgGoodFrom = some t0 ∧ mt < t0 + 25000000),
   base && (let op := 1; decide (s.mayWrite who Reg.EFM_CMD = true ∧ v.toNat % 4 = op ∧ v.toNat / 65536 ≠ 0x3F6A)),
   base && (let op := 1; (decide (s.mayWrite who Reg.EFM_CMD = true ∧ v.toNat % 4 = op) && (let free := s.efmWriter who = true ∧ s.efm.test = none ∧ ∀ g : Nat, g < 10 → (s.saf.eff.mask (31 + op)).testBit g = true → s.groupOff g = true; decide (v.toNat / 65536 = 0x3F6A ∧ free)))),
   base && (let op := 1; (decide (s.mayWrite who Reg.EFM_CMD = true ∧ v.toNat % 4 = op) && (let free := s.efmWriter who = true ∧ s.efm.test = none ∧ ∀ g : Nat, g < 10 → (s.saf.eff.mask (31 + op)).testBit g = true → s.groupOff g = true; decide (v.toNat / 65536 = 0x3F6A ∧ ¬ free)))),
   base && decide (s.efm.test = some (1, t0) ∧ mt < t0 + 7500000),
   base && decide (s.efm.test = some (1, t0) ∧ t0 + 7500000 ≤ mt),
   base && decide (s.efm.test = some (1, t0) ∧ t0 + 7500000 ≤ mt ∧ compared = true ∧ 850 ≤ s.fld F.EFM_RDC_DC_dc100 ∧ s.fld F.EFM_RDC_DC_dc100 ≤ 1150),
   base && decide (s.efm.test = some (1, t0) ∧ t0 + 7500000 ≤ mt ∧ (compared = false ∨ s.fld F.EFM_RDC_DC_dc100 < 850 ∨ 1150 < s.fld F.EFM_RDC_DC_dc100)),
   base && decide (s.efm.blankTo = some t0 ∧ mt < t0),
   base && decide (s.efm.blankTo = some t0 ∧ t0 ≤ mt ∧ s.efm.rdcRow = true ∧ s.fld F.EFM_CTRL_rdc_en = 1 ∧ s.efmTesting 1 = false),
   base && decide (s.efm.blankTo = some t0 ∧ t0 ≤ mt ∧ (s.efm.rdcRow = false ∨ s.fld F.EFM_CTRL_rdc_en = 0)),
   base && decide ((s.dawnDone = false ∨ s.tmk.mtRun = false)),
   base && decide (s.dawnDone = true ∧ s.tmk.mtRun = true),
   base && decide (s.dawnDone = true ∧ s.tmk.mtRun = true ∧ s.is F.EFM_RCD_aux_closed = closed),
   base && decide (s.dawnDone = true ∧ s.tmk.mtRun = true ∧ s.is F.EFM_RCD_aux_closed ≠ closed ∧ s.efm.auxRun < 2),
   base && decide (s.dawnDone = true ∧ s.tmk.mtRun = true ∧ s.is F.EFM_RCD_aux_closed ≠ closed ∧ 2 ≤ s.efm.auxRun),
   base && decide (s.dawnDone = true ∧ s.tmk.mtRun = true ∧ s.is F.EFM_RCD_aux_closed ≠ closed ∧ 2 ≤ s.efm.auxRun ∧ closed = true),
   base && decide (s.dawnDone = true ∧ s.tmk.mtRun = true ∧ s.is F.EFM_RCD_aux_closed ≠ closed ∧ 2 ≤ s.efm.auxRun ∧ closed = false ∧ rac = 1 ∧ s.efm.openOk = false ∧ s.efmTesting 2 = false),
   base && decide (s.dawnDone = true ∧ s.tmk.mtRun = true ∧ s.is F.EFM_RCD_aux_closed = true ∧ closed = true ∧ rac = 1 ∧ s.efm.rcdTestBad = false ∧ s.fld F.EFM_RDC_AC_ac < 100 * s.fld F.EFM_RAC_CFG_rac_thr),
   base && decide (s.dawnDone = true ∧ s.tmk.mtRun = true ∧ s.is F.EFM_RCD_aux_closed = true ∧ closed = true ∧ rac = 1 ∧ 100 * s.fld F.EFM_RAC_CFG_rac_thr ≤ s.fld F.EFM_RDC_AC_ac ∧ s.efm.racFrom = some t0 ∧ t0 + 250000 * s.fld F.EFM_RAC_CFG_rac_time ≤ mt),
   base && decide (s.efm.test = some (2, t0) ∧ s.is F.EFM_RCD_aux_closed = true ∧ mt < t0 + 7500000),
   base && decide (s.efm.test = some (2, t0) ∧ s.is F.EFM_RCD_aux_closed = false),
   base && decide (s.efm.test = some (2, t0) ∧ s.is F.EFM_RCD_aux_closed = true ∧ t0 + 7500000 ≤ mt),
   base && decide (s.efm.test = some (2, t0) ∧ s.is F.EFM_RCD_aux_closed = true ∧ t0 + 7500000 ≤ mt ∧ rac = 1),
   base && decide (s.efm.test = some (2, t0) ∧ s.is F.EFM_RCD_aux_closed = true ∧ t0 + 7500000 ≤ mt ∧ rac = 0)]

/-- What each clause of Insulation asks. -/
def asks_Insulation (s : State) (v w v0 w0 a : Nat) (p : Int × Nat) (who : Init) (x : Word) (good : Bool) : List Bool :=
  let mt := s.tmk.mt
  let dv := ((v : Int) - v0).natAbs
  let dw := ((w : Int) - w0).natAbs
  let du := s.fld F.EFM_INS_SCALE_g_ufb * dv
  let r : Int × Nat := ((du * s.fld F.EFM_INS_NET_r_m : Nat) - (1000 * s.fld F.EFM_INS_NET_r_c * dw : Nat), dw)
  let cnt := s.fld F.EFM_INS_CFG_ins_cnt
  let atMost (ohm : Nat) : Prop := dw ≠ 0 ∧ r.1 ≤ (ohm * dw : Nat)
  let low (ohm : Nat) : Prop := atMost ohm ∨ (dw ≠ 0 ∧ r.1 < (10000 * dw : Nat))
  let above (ohm : Nat) : Prop := dw = 0 ∨ (¬ r.1 < (10000 * dw : Nat) ∧ ((11 * ohm * dw : Nat) : Int) < 10 * r.1)
  let warn := s.fld F.EFM_INS_LVL_warn_opv * s.fld F.EFM_INS_CFG_v_rated
  let fault := s.fld F.EFM_INS_LVL_fault_opv * s.fld F.EFM_INS_CFG_v_rated
  let valid := s.efm.lastR = some p ∧ rAgree r p = true
  let noCtr := [0, 1, 2, 3].all (fun n => !(s.ctr n).on)
  let want : Nat := 2000000 * s.fld F.EFM_INS_SCALE_u_inj
  let thr := x.toNat % 64
  let dwell := x.toNat / 256 % 1024
  let differs := thr ≠ s.fld F.EFM_RDC_CFG_rdc_thr ∧ dwell ≠ s.fld F.EFM_RDC_CFG_rdc_dwell
  [decide ((s.injecting = false ∨ s.fld F.EFM_INS_CTRL_hold = 1)),
   decide (s.injecting = true ∧ s.fld F.EFM_INS_CTRL_hold = 0 ∧ s.efm.plateau = none),
   decide (s.injecting = true ∧ s.fld F.EFM_INS_CTRL_hold = 0 ∧ s.efm.plateau = some (v0, w0)),
   decide (s.injecting = true ∧ s.fld F.EFM_INS_CTRL_hold = 0 ∧ s.efm.plateau = some (v0, w0) ∧ valid),
   decide (s.injecting = true ∧ s.fld F.EFM_INS_CTRL_hold = 0 ∧ s.efm.plateau = some (v0, w0) ∧ valid ∧ atMost 10000000 ∧ (10000 * dw : Nat) ≤ r.1),
   decide (s.injecting = true ∧ s.fld F.EFM_INS_CTRL_hold = 0 ∧ s.efm.plateau = some (v0, w0) ∧ valid ∧ ¬ atMost 10000000),
   decide (s.injecting = true ∧ s.fld F.EFM_INS_CTRL_hold = 0 ∧ s.efm.plateau = some (v0, w0) ∧ valid ∧ dw ≠ 0 ∧ r.1 < (10000 * dw : Nat)),
   decide (s.injecting = true ∧ s.fld F.EFM_INS_CTRL_hold = 0 ∧ s.efm.plateau = some (v0, w0) ∧ (s.efm.lastR = none ∨ (s.efm.lastR = some p ∧ rAgree r p = false))),
   decide (s.injecting = true ∧ s.fld F.EFM_INS_CTRL_hold = 0 ∧ s.efm.plateau = some (v0, w0) ∧ valid ∧ low warn ∧ s.fld F.EFM_STATUS_warn = 0),
   decide (s.injecting = true ∧ s.fld F.EFM_INS_CTRL_hold = 0 ∧ s.efm.plateau = some (v0, w0) ∧ valid ∧ low warn ∧ s.fld F.EFM_STATUS_warn = 0 ∧ cnt ≤ s.efm.warnRun + 1),
   decide (s.injecting = true ∧ s.fld F.EFM_INS_CTRL_hold = 0 ∧ s.efm.plateau = some (v0, w0) ∧ valid ∧ above warn ∧ s.fld F.EFM_STATUS_warn = 1),
   decide (s.injecting = true ∧ s.fld F.EFM_INS_CTRL_hold = 0 ∧ s.efm.plateau = some (v0, w0) ∧ low fault ∧ cnt ≤ s.efm.faultRun + 1),
   decide (s.injecting = true ∧ s.fld F.EFM_INS_CTRL_hold = 0 ∧ s.efm.plateau = some (v0, w0) ∧ low fault ∧ s.efm.faultRun + 1 < cnt ∧ s.srcLive 34 = false),
   decide (s.injecting = true ∧ s.fld F.EFM_INS_CTRL_hold = 0 ∧ s.efm.plateau = some (v0, w0) ∧ ¬ low fault ∧ s.srcLive 34 = false),
   decide (s.injecting = true ∧ s.fld F.EFM_INS_CTRL_hold = 0 ∧ s.efm.plateau = some (v0, w0) ∧ valid ∧ above fault ∧ ¬ low fault ∧ s.srcLive 34 = true),
   decide (s.injecting = true ∧ s.fld F.EFM_INS_CTRL_hold = 0 ∧ s.efm.plateau = some (v0, w0) ∧ want < 10 * ((du : Int) - want).natAbs ∧ 1 ≤ s.efm.injOff ∧ s.efm.injBad = false),
   decide (s.injecting = true ∧ s.fld F.EFM_INS_CTRL_hold = 0 ∧ s.efm.plateau = some (v0, w0) ∧ 10 * ((du : Int) - want).natAbs ≤ want ∧ s.efm.injBad = false),
   decide (s.injecting = true ∧ s.fld F.EFM_INS_CTRL_hold = 0 ∧ s.efm.plateau = some (v0, w0) ∧ 10 * ((du : Int) - want).natAbs ≤ want ∧ s.efm.injBad = true ∧ 1 ≤ s.efm.injGood),
   decide (s.fld F.EFM_CTRL_ins_en = 1 ∧ s.efm.stale = false ∧ ¬ noCtr ∧ s.efm.validAt + 25000000 * s.fld F.EFM_INS_CFG_ins_stale ≤ mt),
   decide (s.fld F.EFM_CTRL_ins_en = 1 ∧ s.efm.stale = false ∧ (noCtr ∨ mt < s.efm.validAt + 25000000 * s.fld F.EFM_INS_CFG_ins_stale)),
   decide (s.mayWrite who Reg.EFM_CTRL = true),
   decide (s.mayWrite who Reg.EFM_CTRL = true ∧ s.efmWriter who = true),
   decide (s.mayWrite who Reg.EFM_CTRL = true ∧ s.efmWriter who = true ∧ s.icgLocked 1 = false ∧ x.getLsbD 0 = true ∧ s.fld F.EFM_CTRL_rdc_en = 0),
   decide (s.mayWrite who Reg.EFM_CTRL = true ∧ s.efmWriter who = true ∧ ¬ noCtr ∧ x.getLsbD 1 = false ∧ s.fld F.EFM_CTRL_rac_en = 1),
   decide (s.mayWrite who Reg.EFM_CTRL = true ∧ s.efmWriter who = true ∧ s.fld F.EFM_CTRL_ins_en = 0 ∧ x.getLsbD 2 = true ∧ s.icgLocked 1 = true),
   decide (s.mayWrite who Reg.EFM_CTRL = true ∧ s.efmWriter who = false),
   decide ((efmSettings.contains a = false ∨ s.mayWrite who a = false)),
   decide (s.mayWrite who a = true ∧ a = Reg.EFM_INS_LVL ∧ x.toNat % 1024 ≤ x.toNat / 65536 % 512),
   decide (s.mayWrite who a = true ∧ a = Reg.EFM_RDC_CFG ∧ s.configEn = true ∧ s.outputsOn = false ∧ differs ∧ 35 ≤ thr ∧ thr ≤ 55 ∧ 10 ≤ dwell ∧ dwell ≤ 500 ∧ good = true),
   decide (s.mayWrite who a = true ∧ a = Reg.EFM_RDC_CFG ∧ s.configEn = true ∧ s.outputsOn = false ∧ differs ∧ 35 ≤ thr ∧ thr ≤ 55 ∧ 10 ≤ dwell ∧ dwell ≤ 500 ∧ good = false),
   decide (s.mayWrite who a = true ∧ a = Reg.EFM_RDC_CFG ∧ (s.configEn = false ∨ s.outputsOn = true) ∧ differs)]

namespace Of16E16
def g0 := run 0 (fun n => n)
def c0 : Init := .core 0
def late (s : State) : State := { s with tmk := { s.tmk with mt := 90000000 } }
def b (l : List (Field × Nat) := []) (f : Efm → Efm := id) (live : DWord := 0) : State :=
  let s := late (put g0 ([(⟨Reg.TMK_ICG_CTRL, 3, 0⟩, 15), (F.TMK_ICG_CTRL_locked, 15), (F.EFM_CTRL_rdc_en, 1), (F.EFM_CTRL_rac_en, 1), (F.EFM_CTRL_ins_en, 1), (F.EFM_RDC_CFG_rdc_thr, 45), (F.EFM_RDC_CFG_rdc_dwell, 100), (F.NJD_SEAL_sw, 1)] ++ l))
  { s with efm := f s.efm, saf := { s.saf with armed := true, live := live }, nj := { s.nj with sealFallback := false } }
def rc (s : State) (dc100 : Int := 0) (dc20 : Int := 0) (ac := 0) (peak := 0) (t0 := 5) (v : Word := 0) (closed := true) (sat := true) (win := true) (cmp := true) := asks_ResidualCurrent s dc100 dc20 ac peak t0 c0 v closed sat win cmp
def s32 : DWord := 1#64 <<< 32

theorem witness_ResidualCurrent : shows [
    (rc (b [(F.EFM_RCD_aux_closed, 1)] (fun k => { k with test := some (2, 82500000) })) 0 0 0 0 82500000, [1, 5, 9, 11, 26, 27, 32, 36, 37]),
    (rc (b [(F.EFM_CTRL_rac_en, 0)]) 6001, [2, 3, 4, 28]),
    (rc (put (b) [(F.TMK_ICG_CTRL_locked, 13)]), [0, 8]),
    (rc (b [] (fun k => { k with fgBad := true, fgGoodFrom := some 65000000 }) (1#64 <<< 35)) 0 0 0 5 65000000, [12, 13]),
    (rc (b [(F.EFM_RDC_DC_dc100, 850)] (fun k => { k with test := some (1, 82500000), fgTestBad := true })) 0 0 0 0 82500000, [19, 20]),
    (rc (b [(F.EFM_RCD_aux_closed, 1)] (fun k => { k with auxRun := 2 })) 0 0 0 0 5 0 false, [29, 31]),
    (rc (b [] id s32) 399, [7]),
    (rc (b [] (fun k => { k with rdcLowFrom := some 65000000 }) s32) 399 0 0 0 65000000, [6]),
    (rc (b [] (fun k => { k with blankTo := some 90000001 })) 6000 0 0 0 90000001, [22]),
    (rc (b [] (fun k => { k with fgNoSat := 2 })) 0 0 0 5 5 0 true false true, [10]),
    (rc (b [] (fun k => { k with fgBad := true, fgGoodFrom := some 65000001 }) (1#64 <<< 35)) 0 0 0 5 65000001, [14]),
    (rc (b) 0 0 0 0 5 0x3F6A0001, [16]),
    (rc (b) 0 0 0 0 5 0x3F6BFFF1, [15]),
    (rc (b [] (fun k => { k with test := some (1, 4) })) 0 0 0 0 5 0x3F6A0001, [17]),
    (rc (b [(F.EFM_RDC_DC_dc100, 1150)] (fun k => { k with test := some (1, 82500001) })) 0 0 0 0 82500001, [18]),
    (rc (b [(F.EFM_RDC_DC_dc100, 1151)] (fun k => { k with test := some (1, 82500000) })) 0 0 0 0 82500000, [21]),
    (rc (b [] (fun k => { k with blankTo := some 90000000, rdcRow := true })) 0 0 0 0 90000000, [23]),
    (rc (b [] (fun k => { k with blankTo := some 90000000, rdcRow := false })) 0 0 0 0 90000000, [24]),
    (rc (b [(F.DSK_DAWN_STATUS_done, 0)]), [25]),
    (rc (b [(F.EFM_RCD_aux_closed, 0)] (fun k => { k with auxRun := 2, openOk := true })) 0 0 0 0 5 0 true, [30]),
    (rc (b [(F.EFM_RCD_aux_closed, 1), (F.EFM_RDC_AC_ac, 1000), (F.EFM_RAC_CFG_rac_thr, 10), (F.EFM_RAC_CFG_rac_time, 100)] (fun k => { k with racFrom := some 65000000 })) 0 0 0 0 65000000, [33]),
    (rc (b [(F.EFM_RCD_aux_closed, 1)] (fun k => { k with test := some (2, 82500001) })) 0 0 0 0 82500001, [34]),
    (rc (b [(F.EFM_RCD_aux_closed, 1), (F.EFM_CTRL_rac_en, 0)] (fun k => { k with test := some (2, 82500000) })) 0 0 0 0 82500000, [38]),
    (rc (b [(F.EFM_RCD_aux_closed, 0), (F.EFM_RCD_tests, 255)] (fun k => { k with test := some (2, 82500001), rcdTestBad := true }) (1#64 <<< 33)) 0 0 0 0 82500001, [35])] = true := by decide +kernel

end Of16E16

namespace Of16E16b
def g0 := run 0 (fun n => n)
def c0 : Init := .core 0
def late (s : State) : State := { s with tmk := { s.tmk with mt := 90000000 } }
def b (l : List (Field × Nat) := []) (f : Efm → Efm := id) (live : DWord := 0) : State :=
  let s := late (put g0 ([(⟨Reg.TMK_ICG_CTRL, 3, 0⟩, 15), (F.TMK_ICG_CTRL_locked, 15), (F.EFM_CTRL_rdc_en, 1), (F.EFM_CTRL_rac_en, 1), (F.EFM_CTRL_ins_en, 1), (F.EFM_RDC_CFG_rdc_thr, 45), (F.EFM_RDC_CFG_rdc_dwell, 100), (F.NJD_SEAL_sw, 1)] ++ l))
  { s with efm := f s.efm, saf := { s.saf with armed := true, live := live }, nj := { s.nj with sealFallback := false } }
def rr (dv dw : Nat) : Int × Nat := ((100 * dv * 2000 : Nat) - (1000 * 100 * dw : Nat), dw)
def ii (s : State) (v w v0 w0 : Nat) (p : Int × Nat := (0, 0)) (a := 0) (x : Word := 0) (good := true) := asks_Insulation s v w v0 w0 a p c0 x good
def bi (l : List (Field × Nat) := []) (f : Efm → Efm := id) (live : DWord := 0) := put (b l f live) []
def hp (dw : Nat) (q : Nat) (l : List (Field × Nat) := []) (f : Efm → Efm := id) (live : DWord := 0) (dv := 1000000) :=
  let p := rr 1000000 q
  ii (bi l (fun k => f { k with plateau := some (5, 2000005), lastR := some p }) live) (5 + dv) (2000005 - dw) 5 2000005 p
def ctl (x : Word) (l : List (Field × Nat) := []) (on := false) (f : Efm → Efm := id) (a := 0) (good := true) (who : Init := c0) := let s := bi l f; let s := if on then { s with pwr := { s.pwr with ctrs := upd s.pwr.ctrs 0 (fun c => { c with on := true }) } } else s
  asks_Insulation s 1 1 1 1 a (0,0) who x good
def tsk (s : State) : State := s.onCore 0 (fun k => { k with task := true, tblk := 0x80 })

theorem witness_Insulation : shows [
    (hp 333334 333334 [] (fun k => { k with warnRun := 1 }), [2, 3, 4, 8, 9, 13, 16, 19, 20, 21, 26]),
    (ctl 0x010 [(F.EFM_INS_CFG_ins_stale, 3)] true (fun k => { k with validAt := 15000000 }), [1, 18, 23]),
    (ctl 0x1F7 [(F.TMK_ICG_CTRL_locked, 13), (F.EFM_CTRL_rdc_en, 0), (F.EFM_CTRL_rac_en, 0), (F.EFM_CTRL_ins_en, 0)], [0, 22]),
    (ii (bi [] (fun k => { k with plateau := some (5, 6) })) 7 8 5 6, [7, 12]),
    (ctl 0x1F7 [(F.EFM_CTRL_rdc_en, 0), (F.EFM_CTRL_rac_en, 0), (F.EFM_CTRL_ins_en, 0)], [24]),
    (ctl 0x01F50064 [] false id Reg.EFM_INS_LVL, [27]),
    (ctl (55 + 256 * 500) [] false id Reg.EFM_RDC_CFG, [28]),
    (ctl (35 + 256 * 10) [] false id Reg.EFM_RDC_CFG false, [29]),
    (ctl (50 + 256 * 50) [(F.NJD_SEAL_sw, 0)] false id Reg.EFM_RDC_CFG, [30]),
    (ii (tsk (bi)) 0 0 0 0 (0, 0) 0 0x00030007, [25]),
    (hp 250000 250000 [(F.EFM_STATUS_warn, 1)], [10]),
    (hp 1000000 1000000 [] (fun k => { k with faultRun := 1 }), [11]),
    (hp 500000 500000 [] (fun k => { k with clearRun := 1 }) (1#64 <<< 34), [14]),
    (hp 0 0, [5]),
    (hp 1818182 1818182, [6]),
    (hp 400000 400000 [] (fun k => { k with injOff := 1 }) 0 1100001, [15]),
    (hp 400000 400000 [] (fun k => { k with injBad := true, injGood := 1 }) 0 900000, [17])] = true := by decide +kernel

end Of16E16b


/-- What each clause of PowerStageRuns asks. -/
def asks_PowerStageRuns (s : State) (who : Init) (v : Word) (x : Timing) (at_ n : Nat) : List Bool :=
  let mt := s.tmk.mt
  let st (t : State) : Nat := t.fld F.PWR_STATUS_state
  let k := s.fld F.PWR_SS_RETRY_attempt
  let late := 25000 * s.fld F.PWR_SS_CFG_tmax ≤ mt - s.pwr.rampFrom
  let weak (pct : Nat) : Prop := s.pwr.sample * 100 < pct * s.fld F.PWR_SS_TARGET_target
  let short := (late ∧ weak (s.fld F.PWR_SS_CFG_vmin_pct)) ∨ (s.pwr.limited = true ∧ weak 10 ∧ 7 ≤ s.pwr.lowRun)
  let en := v.toNat / 256 % 64
  let u := if st s = 0 ∨ st s = 6 then s.setFld F.PWR_RUN_ch_en en else s
  let y := s.staged
  let good := ∀ m : Nat, m < 6 → (u.fld F.PWR_RUN_ch_en).testBit m = true → y.tOn m < 400 * y.period ∧ y.tOff m < 400 * y.period ∧ 100 ≤ y.dtH m ∧ y.dtH m ≤ 50000 ∧ 100 ≤ y.dtL m ∧ y.dtL m ≤ 50000
  let fails : List Bool := [(List.range 6).any (fun m => en.testBit m && u.locked m), s.pwr.load.isSome || !s.pwr.eff.ok en, en = 0, s.is F.TMK_STATUS_op_busy || !u.linesOk, s.duskWarn || s.updateHold || s.stf.leaving, s.is F.PWR_SS_TARGET_ss_en && !(s.is (F.PWR_TRIGn_en 0) && s.fldBit F.PWR_TRIG_MASK_mask0 (s.fld F.PWR_SS_TARGET_vch)), s.is F.SAF_STATUS_commit_busy]
  let base : Bool := decide (n < 6 ∧ s.pwr.wave.length = 6)
  [base && decide (st s = 3),
   base && decide (st s = 3 ∧ s.fld F.PWR_STATUS_cause ≠ 2),
   base && decide (st s = 3 ∧ s.fld F.PWR_STATUS_cause = 2 ∧ k ≤ s.fld F.PWR_SS_RETRY_retries),
   base && decide (st s = 3 ∧ s.fld F.PWR_STATUS_cause = 2 ∧ s.fld F.PWR_SS_RETRY_retries < k),
   base && decide ((st s = 0 ∨ st s = 4 ∨ st s = 5 ∨ st s = 6)),
   base && decide (s.pwr.load = some (x, at_) ∧ st s ≠ 3),
   base && decide (s.pwr.load = some (x, at_) ∧ st s ≠ 3 ∧ 10 ≤ mt - at_),
   base && decide (s.pwr.load = some (x, at_) ∧ st s ≠ 3 ∧ mt - at_ < 10),
   base && decide (st s = 2),
   base && decide (st s = 2 ∧ s.pwr.load = none),
   base && decide (st s = 1 ∧ short),
   base && decide (st s = 1 ∧ late ∧ ¬ short),
   base && decide (st s = 1 ∧ ¬ late ∧ ¬ short),
   base && decide (s.mayWrite who Reg.PWR_RUN = true ∧ v.getLsbD 16 = true ∧ ((v.getLsbD 0 = false ∧ s.fld F.PWR_RUN_go = 0) ∨ (v.getLsbD 0 = true ∧ s.fld F.PWR_RUN_go = 1 ∧ (st s = 1 ∨ st s = 2))) ∧ good),
   base && decide (s.mayWrite who Reg.PWR_RUN = true ∧ v.getLsbD 16 = true ∧ ((v.getLsbD 0 = false ∧ s.fld F.PWR_RUN_go = 0) ∨ (v.getLsbD 0 = true ∧ s.fld F.PWR_RUN_go = 1 ∧ (st s = 1 ∨ st s = 2))) ∧ ¬ good),
   base && decide (s.mayWrite who Reg.PWR_RUN = true ∧ v.getLsbD 16 = false ∧ v.getLsbD 0 = true ∧ st s = 0 ∧ fails.all (!·) = true),
   base && decide (s.mayWrite who Reg.PWR_RUN = true ∧ v.getLsbD 16 = false ∧ v.getLsbD 0 = true ∧ st s = 0 ∧ fails.all (!·) = false),
   base && decide (s.mayWrite who Reg.PWR_RUN = true ∧ v.getLsbD 16 = false ∧ v.getLsbD 0 = true ∧ (st s = 3 ∨ st s = 4 ∨ st s = 5 ∨ st s = 6)),
   base && decide (s.mayWrite who Reg.PWR_RUN = true ∧ v.getLsbD 16 = false ∧ v.getLsbD 0 = true ∧ (st s = 1 ∨ st s = 2) ∧ s.fld F.PWR_RUN_go = 1),
   base && decide (s.mayWrite who Reg.PWR_RUN = true ∧ v.getLsbD 16 = false ∧ v.getLsbD 0 = false ∧ s.fld F.PWR_RUN_go = 0),
   base && decide (s.mayWrite who Reg.PWR_RUN = true ∧ v.getLsbD 16 = false ∧ v.getLsbD 0 = false ∧ s.fld F.PWR_RUN_go = 1 ∧ (st s = 1 ∨ st s = 2 ∨ st s = 4)),
   base && decide (st s = 4 ∧ 1 ≤ k ∧ 25000000 * 2 ^ (k - 1) ≤ mt - s.pwr.backoffFrom),
   base && decide (st s = 4 ∧ 1 ≤ k ∧ mt - s.pwr.backoffFrom < 25000000 * 2 ^ (k - 1)),
   base && decide (st s ≠ 4),
   base && decide (s.mayWrite who Reg.PWR_SS_RETRY = true),
   base && decide (s.mayWrite who Reg.PWR_SS_RETRY = true ∧ v.toNat / 65536 = 0x5C1E ∧ (who = .core 4 ∨ ((match who with | .core c => !(s.core c).task | _ => false) = true)) ∧ st s = 5),
   base && decide (s.mayWrite who Reg.PWR_SS_RETRY = true ∧ (v.toNat / 65536 ≠ 0x5C1E ∨ st s ≠ 5))]

/-- What each clause of LimitsAndSamples asks. -/
def asks_LimitsAndSamples (s : State) (n pos i : Nat) (g : Nat × Nat) (codes : List Nat) : List Bool :=
  let x := s.pwr.eff
  let p := x.units
  let w := s.pwr.wave.getD n {}
  let past := (pos + p - g.1 % p) % p
  let inside := 400 * s.fld (F.PWR_BLANK_blank n) ≤ past ∧ past < (g.2 + p - g.1 % p) % p
  let used := (pos + p - x.tOn n % p) % p
  let base : Bool := decide (n < 6 ∧ s.pwr.wave.length = 6)
  [base && decide (w.high = none),
   base && decide (w.low = none),
   base && decide (w.high = some g ∧ (s.fld (F.PWR_CHn_ON_cs_h n) = 15 ∨ ¬ inside)),
   base && decide (w.high = some g ∧ s.fld (F.PWR_CHn_ON_cs_h n) ≠ 15 ∧ inside ∧ s.fld (F.PWR_CHn_ON_low_off n) = 0 ∧ x.dtL n < p - used),
   base && decide (w.high = some g ∧ s.fld (F.PWR_CHn_ON_cs_h n) ≠ 15 ∧ inside ∧ (s.fld (F.PWR_CHn_ON_low_off n) = 1 ∨ p - used ≤ x.dtL n)),
   base && decide (w.low = some g ∧ (s.fld (F.PWR_CHn_OFF_cs_l n) = 15 ∨ ¬ inside)),
   base && decide (w.low = some g ∧ s.fld (F.PWR_CHn_OFF_cs_l n) ≠ 15 ∧ inside),
   base && (let k := 0; decide (k < 2 ∧ s.fld (F.PWR_TRIGn_en k) = 0)),
   base && (let k := 0; decide (k < 2 ∧ s.fld (F.PWR_TRIGn_en k) = 1 ∧ s.pwr.seq = none)),
   base && (let k := 0; decide (k < 2 ∧ s.fld (F.PWR_TRIGn_en k) = 1 ∧ s.pwr.seq ≠ none)),
   base && (match s.pwr.seq with | some k => decide (k < 2 ∧ ((∀ c, c ∈ codes → c < 4096)) ∧ i < 16) | _ => false),
   base && decide (s.pwr.seq = none)]

/-- What each clause of Contactors asks. -/
def asks_Contactors (s : State) (who : Init) (v : Word) (n : Nat) (level : Bool) (codes : List Nat) (p : Precharge) : List Bool :=
  let mt := s.tmk.mt
  let st := s.ctrState n
  let fbEn := s.fld (F.PWR_CTR_MODE_fb_en n) = 1
  let fb := s.fbClosed n
  let volt := s.fld (F.PWR_CTR_MODE_weld_volt n) = 1
  let diff (m : Nat) : Nat := codeDiff (s.ctrVolts m)
  let why (m k : Nat) : Prop := ((k = 1 ∧ (s.locked (6 + m) = true)) ∨ (k = 2 ∧ (s.ctrState m = 4 ∨ s.ctrState m = 5)) ∨ (k = 3 ∧ (s.pwr.pre.any (fun q => q.pc = m || q.main = m) = true)) ∨ (k = 4 ∧ (s.duskWarn = true ∨ s.updateHold = true ∨ s.stf.leaving = true)) ∨ (k = 5 ∧ (s.isWorker = true ∧ s.fld F.SYS_ROLE_admitted = 0)) ∨ (k = 6 ∧ (s.fld (F.PWR_CTR_MODE_close_chk m) = 1 ∧ s.fld F.PWR_PC_CFG_dv < diff m)) ∨ (k = 7 ∧ (s.fld F.SAF_STATUS_commit_busy = 1)))
  let free (m : Nat) : Prop := ∀ k : Nat, k < 16 → ¬ why m k
  let may := s.mayWrite who Reg.PWR_CTR_CMD = true
  let close (m : Nat) : Bool := v.getLsbD m && !v.getLsbD (4 + m)
  let welds := if s.is (F.PWR_CTR_MODE_weld_volt n) then decide (s.fld F.PWR_CTR_MODE_weld_vmin ≤ (s.ctrVolts n).1 ∧ diff n ≤ s.fld F.PWR_PC_CFG_weld_dv) else s.is (F.PWR_CTR_MODE_fb_en n) && fb
  let read := level != s.is (F.PWR_CTR_MODE_fb_pol n)
  let pc := s.fld F.PWR_PC_CFG_pc
  let main := s.fld F.PWR_PC_CFG_main
  let ready := pc ≠ main ∧ s.ctrState pc = 0 ∧ s.ctrState main = 0
  let win := if s.is (F.PWR_CTR_MODE_weld_volt n) then s.fld F.PWR_CTR_CFG_weld_win else s.fld F.PWR_CTR_CFG_fb_open
  let q := (codes.getD (s.fld (F.PWR_CTR_MAP_ch_a p.main)) 0, codes.getD (s.fld (F.PWR_CTR_MAP_ch_b p.main)) 0)
  let base : Bool := decide (n < 4 ∧ s.pwr.ctrs.length = 4)
  [base && decide (may ∧ v.getLsbD 8 = false ∧ v.getLsbD 9 = false),
   base && decide (may ∧ v.getLsbD 8 = false ∧ v.getLsbD 9 = false ∧ v.getLsbD (4 + n) = true),
   base && decide (may ∧ v.getLsbD 8 = false ∧ v.getLsbD 9 = false ∧ close n = true ∧ free n ∧ (st = 1 ∨ st = 2)),
   base && decide (may ∧ v.getLsbD 8 = false ∧ v.getLsbD 9 = false ∧ close n = true ∧ free n ∧ st ≠ 1 ∧ st ≠ 2),
   base && decide (may ∧ v.getLsbD 8 = false ∧ v.getLsbD 9 = false ∧ close n = true ∧ ¬ free n),
   base && decide (may ∧ v.getLsbD 8 = false ∧ v.getLsbD 9 = false ∧ close n = true ∧ ¬ free n ∧ ((∀ m : Nat, m < n → close m = true → free m))),
   base && decide (may ∧ v.getLsbD 8 = false ∧ v.getLsbD 9 = false ∧ v.getLsbD n = false ∧ v.getLsbD (4 + n) = false),
   base && decide (may ∧ v = 0x100#32 ∧ s.pwr.pre = none ∧ ready ∧ ((∀ k : Nat, k < 16 → ¬ why pc k))),
   base && decide (may ∧ v = 0x100#32 ∧ s.pwr.pre ≠ none),
   base && decide (may ∧ v = 0x100#32 ∧ s.pwr.pre = none ∧ ¬ ready),
   base && decide (may ∧ v = 0x200#32 ∧ s.pwr.pre = some p ∧ p.pc < 4 ∧ p.main < 4),
   base && decide (may ∧ v = 0x200#32 ∧ s.pwr.pre = none),
   base && decide ((¬ fbEn ∨ s.dawnDone = false)),
   base && decide (fbEn ∧ s.dawnDone = true ∧ ((s.ctr n).fbRaw ≠ read ∨ (s.ctr n).fbRun < 2)),
   base && decide (fbEn ∧ s.dawnDone = true ∧ (s.ctr n).fbRaw = read ∧ 2 ≤ (s.ctr n).fbRun),
   base && decide (fbEn ∧ s.dawnDone = true ∧ (s.ctr n).fbRaw = read ∧ 2 ≤ (s.ctr n).fbRun ∧ (s.fld F.BIL_PP_STATUS_exhausted = 0 ∨ n ≠ s.fld F.BIL_PP_CFG_ctr) ∧ (st = 1 ∨ st = 2) ∧ read = true),
   base && decide (fbEn ∧ s.dawnDone = true ∧ (s.ctr n).fbRaw = read ∧ 2 ≤ (s.ctr n).fbRun ∧ st = 0 ∧ read = false),
   base && decide (fbEn ∧ s.dawnDone = true ∧ (s.ctr n).fbRaw = read ∧ 2 ≤ (s.ctr n).fbRun ∧ st = 3 ∧ read = false ∧ mt - (s.ctr n).since ≤ 250000 * s.fld F.PWR_CTR_CFG_fb_open),
   base && decide (fbEn ∧ s.dawnDone = true ∧ (s.ctr n).fbRaw = read ∧ 2 ≤ (s.ctr n).fbRun ∧ st = 2 ∧ read = false),
   base && decide (fbEn ∧ s.dawnDone = true ∧ (s.ctr n).fbRaw = read ∧ 2 ≤ (s.ctr n).fbRun ∧ st = 0 ∧ read = true ∧ ¬ volt),
   base && decide (st = 1 ∧ 250000 * s.fld F.PWR_CTR_CFG_fb_close ≤ mt - (s.ctr n).since),
   base && decide ((st ≠ 1 ∨ mt - (s.ctr n).since < 250000 * s.fld F.PWR_CTR_CFG_fb_close)),
   base && decide (((s.ctr n).window = false ∨ mt - (s.ctr n).since < 250000 * win)),
   base && decide ((s.ctr n).window = true ∧ 250000 * win ≤ mt - (s.ctr n).since ∧ welds = true),
   base && decide ((s.ctr n).window = true ∧ 250000 * win ≤ mt - (s.ctr n).since ∧ welds = false ∧ fbEn ∧ fb = true),
   base && decide ((s.ctr n).window = true ∧ 250000 * win ≤ mt - (s.ctr n).since ∧ welds = false ∧ (¬ fbEn ∨ fb = false)),
   base && decide (st ≠ 4),
   base && decide (st = 4 ∧ welds = true),
   base && decide (st = 4 ∧ welds = false ∧ (s.ctr n).clear = 0),
   base && decide (st = 4 ∧ welds = false ∧ (s.ctr n).clear ≠ 0),
   base && decide (st = 4 ∧ welds = false ∧ (s.ctr n).clear ≠ 0 ∧ ((∀ m : Nat, m < 4 → m ≠ n → s.ctrState m ≠ 4))),
   base && decide (s.pwr.pre = none),
   base && decide (s.pwr.pre = some p ∧ p.pc < 4 ∧ p.main < 4 ∧ p.pc ≠ p.main ∧ s.fld F.PWR_CTR_STATUS_pc = 1 ∧ s.ctrState p.pc = 2 ∧ s.ctrState p.main = 0 ∧ s.fld F.PWR_PC_CFG_dv < codeDiff q),
   base && decide (s.pwr.pre = some p ∧ p.pc < 4 ∧ p.main < 4 ∧ p.pc ≠ p.main ∧ s.fld F.PWR_CTR_STATUS_pc = 1 ∧ s.ctrState p.pc = 2 ∧ s.ctrState p.main = 0 ∧ codeDiff q ≤ s.fld F.PWR_PC_CFG_dv ∧ p.run < 9),
   base && decide (s.pwr.pre = some p ∧ p.pc < 4 ∧ p.main < 4 ∧ p.pc ≠ p.main ∧ s.fld F.PWR_CTR_STATUS_pc = 1 ∧ s.ctrState p.pc = 2 ∧ s.ctrState p.main = 0 ∧ codeDiff q ≤ s.fld F.PWR_PC_CFG_dv ∧ 9 ≤ p.run ∧ ((∀ k : Nat, k < 16 → k ≠ 3 → k ≠ 6 → ¬ why p.main k))),
   base && decide (s.pwr.pre = some p ∧ p.pc < 4 ∧ p.main < 4 ∧ s.fld F.PWR_CTR_STATUS_pc = 1 ∧ 2500000 * s.fld F.PWR_CTR_CFG_pc_tmax ≤ mt - p.from_),
   base && decide (s.pwr.pre = some p ∧ p.pc < 4 ∧ p.main < 4 ∧ (s.fld F.PWR_CTR_STATUS_pc ≠ 1 ∨ mt - p.from_ < 2500000 * s.fld F.PWR_CTR_CFG_pc_tmax)),
   base && decide (s.pwr.pre = some p ∧ p.pc < 4 ∧ p.main < 4 ∧ s.fld F.PWR_CTR_STATUS_pc = 3 ∧ 250000 * s.fld F.PWR_CTR_CFG_pc_overlap ≤ mt - p.overlapFrom ∧ p.pc ≠ p.main),
   base && decide (s.pwr.pre = some p ∧ p.pc < 4 ∧ p.main < 4 ∧ (s.fld F.PWR_CTR_STATUS_pc ≠ 3 ∨ mt - p.overlapFrom < 250000 * s.fld F.PWR_CTR_CFG_pc_overlap))]

namespace Of17E17
def g0 := run 0 (fun n => n)
def c0 : Init := .core 0
def late (s : State) : State := { s with tmk := { s.tmk with mt := 90000000 } }
def pw (l : List (Field × Nat) := []) (f : Pwr → Pwr := id) : State := let s := late (put g0 ([(F.SYS_ROLE_role, 2), (F.SYS_ROLE_admitted, 1), (F.PWR_CTRL_evt_en, 255), (F.PWR_CTRL_evt_mask, 15), (F.PWR_PERIOD_period, 250)] ++ l)); { s with pwr := f s.pwr, tmk := { s.tmk with epTaps := List.replicate 24 (3, 4) } }
def pr (s : State) (v : Word := 0) (n := 1) (x : Timing := {}) (at_ := 0) (who : Init := c0) := asks_PowerStageRuns s who v x at_ n
def S (n : Nat) (l : List (Field × Nat) := []) (f : Pwr → Pwr := id) := pw ((F.PWR_STATUS_state, n) :: l) f
def tg : Timing := { period := 250, on := (List.range 6).map (fun n => w32 (1000 * n)), off := (List.range 6).map (fun n => w32 (1000 * n + 50000)), dt := List.replicate 6 0x03E803E8 }
def A := F.PWR_SS_RETRY_attempt
def G := F.PWR_RUN_go
def go (l : List (Field × Nat) := []) (v : Word := 0x3F01) (f : Pwr → Pwr := id) (st := 0) := pr (S st ([(F.PWR_RUN_ch_en, 63)] ++ l) (fun p => f { p with eff := tg })) v
def lm (s : State) (n := 2) (pos := 5000) (g : Nat × Nat := (1000, 51000)) (codes : List Nat := (List.range 16).map (· + 100)) (i := 4) := asks_LimitsAndSamples s n pos i g codes
def wv (h l : Option (Nat × Nat)) (q : List (Field × Nat) := []) (f : Pwr → Pwr := id) : State := pw ([(F.PWR_CHn_ON_cs_h 2, 3), (F.PWR_CHn_OFF_cs_l 2, 3), (F.PWR_BLANK_blank 2, 5)] ++ q) (fun p => f { p with eff := tg, wave := p.wave.set 2 ⟨h, l⟩ })
def ct (s : State) (n := 1) (v : Word := 0) (level := true) (codes : List Nat := List.replicate 16 7) (p : Precharge := ⟨0, 1, 5, 0, 0⟩) := asks_Contactors s c0 v n level codes p
def K (l : List (Field × Nat) := []) (f : Nat → Ctr → Ctr := fun _ => id) (g : Pwr → Pwr := id) : State :=
  pw ([(F.PWR_CTR_CFG_fb_close, 10), (F.PWR_CTR_CFG_fb_open, 10), (F.PWR_CTR_CFG_weld_win, 20)] ++ l) (fun p => g { p with ctrs := (List.range 4).map (fun n => f n {}) })
def st (n k : Nat) : Field × Nat := (F.PWR_CTR_STATUS_state n, k)
def fbe (n : Nat) : Field × Nat := (F.PWR_CTR_MODE_fb_en n, 1)
def PC (l : List (Field × Nat)) (p : Precharge) : State := K ([(F.PWR_CTR_STATUS_pc, 1), st 0 2, st 1 0, (F.PWR_CTR_MAP_ch_a 1, 3), (F.PWR_CTR_MAP_ch_b 1, 5), (F.PWR_PC_CFG_dv, 10)] ++ l) (fun n c => { c with on := decide (n = 0) }) (fun q => { q with pre := some p })
def vs (k : Nat) := (List.range 16).map (· * k)
def nofb (s : State) : State := put s [(F.PWR_CTR_MODE_fb_en 0, 0), (F.PWR_CTR_MODE_fb_en 1, 0), (F.PWR_CTR_MODE_fb_en 2, 0), (F.PWR_CTR_MODE_fb_en 3, 0)]
def pl (n k : Nat) : Field × Nat := (F.PWR_CTR_MODE_fb_pol n, k)
def fbc (r : Bool) (since : Nat := 87500000) : Nat → Ctr → Ctr := fun _ c => { c with fbRaw := r, fbRun := 2, since := since, on := true }

theorem witness_PowerStageRuns : shows [
    (pr (S 2 [] (fun p => { p with load := some (tg, 89999990) })) 0 1 tg 89999990, [5, 6, 8, 19, 23, 24, 26]),
    (go [] 0x3F01 id 3, [0, 1, 17]),
    (go, [4, 16]),
    (pr (S 1 [] (fun p => { p with load := some (tg, 89999991) })) 0 1 tg 89999991, [7, 11]),
    (go [(G, 1)] 0x3F01 id 2, [9, 18]),
    (pr (S 3 [(F.PWR_STATUS_cause, 2), (A, 2), (F.PWR_SS_RETRY_retries, 2)]), [2]),
    (pr (S 3 [(F.PWR_STATUS_cause, 2), (A, 3), (G, 1), (F.PWR_SS_RETRY_retries, 2)]), [3]),
    (go [(F.PWR_SS_TARGET_ss_en, 1), (F.PWR_TRIGn_en 0, 1), (F.PWR_SS_TARGET_vch, 5), (F.PWR_TRIG_MASK_mask0, 32)], [15]),
    (go [(G, 1)] 0x0 id 4, [20]),
    (go [] 0x10000 id 0, [13]),
    (go [(⟨Reg.PWR_CH0_DT, 31, 0⟩, 0x03E80063), (⟨Reg.PWR_CH0_ON, 31, 0⟩, 99999), (⟨Reg.PWR_CH0_OFF, 31, 0⟩, 0)] 0x10100 id 6, [14]),
    (pr (S 4 [(A, 1)] (fun p => { p with backoffFrom := 65000000 })), [21]),
    (pr (S 4 [(A, 1)] (fun p => { p with backoffFrom := 65000001 })), [22]),
    (pr (S 5 [] (fun p => { p with ssLock := true })) 0x5C1E0003, [25]),
    (pr (S 1 [(A, 7), (F.PWR_SS_CFG_tmax, 10), (F.PWR_SS_CFG_vmin_pct, 90), (F.PWR_SS_TARGET_target, 1000)] (fun p => { p with rampFrom := 89750000, sample := 899 })), [10]),
    (pr (S 1 [(A, 2), (F.PWR_SS_CFG_tmax, 10), (F.PWR_SS_CFG_vmin_pct, 90), (F.PWR_SS_TARGET_target, 1000)] (fun p => { p with rampFrom := 89750001, sample := 5, limited := true, lowRun := 6 })), [12])] = true := by decide +kernel

theorem witness_LimitsAndSamples : shows [
    (lm (wv none none), [0, 1, 7, 11]),
    (lm (wv none none [(F.PWR_TRIGn_en 1, 1), (F.PWR_TRIGn_en 0, 1), (F.PWR_CNT_adc_ovr, 255), (F.PWR_TRIG_MASK_mask0, 0x8010), (F.PWR_SS_TARGET_vch, 4)] (fun p => { p with seq := some 0 })), [9, 10]),
    (lm (wv none (some (1000, 51000))) 2 5000, [6]),
    (lm (wv none (some (1000, 51000)) [(F.PWR_CHn_OFF_cs_l 2, 15)]) 2 5000, [5]),
    (lm (wv none none [(F.PWR_TRIGn_en 0, 1)]), [8]),
    (lm (wv (some (1000, 51000)) none [(F.PWR_CHn_ON_cs_h 2, 15)]), [2]),
    (lm (wv (some (1000, 51000)) none) 2 3000, [3]),
    (lm (wv (some (90000, 10000)) none [(F.PWR_CHn_ON_low_off 2, 1)]) 2 99999 (90000, 10000), [4])] = true := by decide +kernel

theorem witness_Contactors : shows [
    (ct (PC [] ⟨0, 1, 5, 3, 0⟩) 1 0 true (vs 6) ⟨0, 1, 5, 3, 0⟩, [0, 6, 13, 21, 22, 26, 32, 35, 38]),
    (ct (K [st 1 4]) 1 0x0F, [4, 5, 28, 31]),
    (ct (nofb (K [st 1 4] (fun _ c => { c with clear := 1 }))), [12, 29, 30]),
    (ct (K [fbe 1, pl 1 0, st 1 1] (fbc true)), [14, 15, 20]),
    (ct (PC [(F.PWR_CTR_CFG_pc_tmax, 20)] ⟨0, 1, 40000001, 9, 0⟩) 1 0 true (vs 5) ⟨0, 1, 40000001, 9, 0⟩, [34, 36]),
    (ct (K) 1 0x02, [3]),
    (ct (K [st 1 1, fbe 1]) 1 0x22, [1]),
    (ct (K [st 1 2]) 1 0x02, [2]),
    (ct (K [fbe 1, st 1 0, (F.PWR_CTR_MODE_fb_pol 1, 1)] (fun _ c => { c with fbRaw := false, fbRun := 3 })), [16]),
    (ct (K [fbe 1, st 1 3] (fun _ c => { c with since := 87500000, window := true })), [25]),
    (ct (K [fbe 1, st 1 3, (F.PWR_CTR_STATUS_fb, 15)] (fun _ c => { c with since := 87500000, window := true })), [23]),
    (ct (K [fbe 1, (F.PWR_CTR_STATUS_fb, 15), st 1 3, (F.PWR_CTR_MODE_weld_volt 1, 1), (F.PWR_CTR_MODE_weld_vmin, 9)] (fun _ c => { c with since := 85000000, window := true })), [24]),
    (ct (K [fbe 1, st 1 4, (F.PWR_CTR_STATUS_fb, 15)] (fun _ c => { c with clear := 1 })), [27]),
    (ct (PC [] ⟨0, 1, 5, 8, 0⟩) 1 0 true (vs 5) ⟨0, 1, 5, 8, 0⟩, [33]),
    (ct (PC [(F.PWR_CTR_STATUS_pc, 3), st 1 2, (F.PWR_CTR_CFG_pc_overlap, 20)] ⟨0, 1, 5, 9, 85000000⟩) 1 0 true (vs 5) ⟨0, 1, 5, 9, 85000000⟩, [37]),
    (ct (K [fbe 1, pl 1 0, st 1 0] (fbc true)), [19]),
    (ct (K [fbe 1, pl 1 0, st 1 2] (fbc false)) 1 0 false, [18]),
    (ct (K [fbe 1, pl 1 0, st 1 3] (fbc false)) 1 0 false, [17]),
    (ct (K [(F.PWR_PC_CFG_pc, 2), (F.PWR_PC_CFG_main, 1)]) 1 0x100, [7]),
    (ct (K [(F.PWR_PC_CFG_pc, 2), (F.PWR_PC_CFG_main, 1)] (fun _ => id) (fun p => { p with pre := some ⟨0, 1, 5, 0, 0⟩ })) 1 0x100, [8]),
    (ct (K [(F.PWR_PC_CFG_pc, 2), (F.PWR_PC_CFG_main, 2)]) 1 0x100, [9]),
    (ct (K [(F.PWR_CTR_STATUS_pc, 2), st 0 2, st 1 1] (fun n c => { c with on := decide (n < 2) }) (fun p => { p with pre := some ⟨0, 1, 5, 0, 0⟩ })) 1 0x200, [10]),
    (ct (K) 1 0x200, [11])] = true := by decide +kernel

end Of17E17


/-- What each clause of Metrology asks. -/
def asks_Metrology (s : State) (us dc v90 : List Int) (bad n ch mhz : Nat) (temp : Int) (who : Init) (v : Word) : List Bool :=
  let mt := s.tmk.mt
  let settled (c : Nat) : Bool := match s.mtr.chFrom.getD c none with | some t => 100000 ≤ mt - t | none => false
  let m := s.mset n
  let work := s.mtrOn = true ∧ s.tmk.mtRun = true ∧ mt % 25000 = 0 ∧ s.mtr.lastStep ≠ mt ∧ s.fld F.MTR_STATUS_frozen = 0
  let den : Int := (max 1 s.mtr.sumN : Nat) * valueDen * valueDen
  let p := s.mtr.sumP.getD n 0
  let names (c : Nat) : Bool := (v.toNat / 256 % 16).testBit c
  let may := s.mayWrite who Reg.MTR_CMD = true ∧ s.isManager = true ∧ v.toNat / 65536 = 0xC1A4 ∧ v.toNat % 4 = 1
  let due := s.mtrOn = true ∧ s.mtr.pulses ≠ 0 ∧ s.mtr.pulseAt.all (fun t => decide (250000 ≤ mt - t)) = true
  let base : Bool := decide (n < 4 ∧ ch < 8 ∧ s.mtr.sets.length = 4)
  [base && decide ((s.sampling = false ∨ mt % 3125 ≠ 0)),
   base && decide (s.sampling = true ∧ mt % 3125 = 0),
   base && decide (s.sampling = true ∧ mt % 3125 = 0 ∧ m.live = false),
   base && decide (s.sampling = true ∧ mt % 3125 = 0 ∧ m.live = true),
   base && decide (s.sampling = true ∧ mt % 3125 = 0 ∧ settled ch = true ∧ 49 * 2 ^ 24 ≤ (us.getD ch 0).natAbs * 100),
   base && decide (s.sampling = true ∧ mt % 3125 = 0 ∧ settled ch = true ∧ 49 * 2 ^ 24 ≤ (us.getD ch 0).natAbs * 100 ∧ s.fldBit F.MTR_CLIP_live ch = false),
   base && decide (s.sampling = true ∧ mt % 3125 = 0 ∧ (settled ch = false ∨ (us.getD ch 0).natAbs * 100 < 49 * 2 ^ 24)),
   base && decide (¬ work),
   base && decide (work ∧ m.live = true ∧ m.acc.length = 8),
   base && decide (s.mtrOn = false),
   base && decide (s.mtrOn = true ∧ -64 ≤ temp ∧ temp ≤ 191 ∧ mhz < 65536),
   base && decide (s.mtrOn = true ∧ -64 ≤ temp ∧ temp ≤ 191 ∧ mhz < 65536 ∧ p < 2147483647 * den ∧ -2147483648 * den ≤ p),
   base && decide (¬ may),
   base && (let ok := s.metroEn = true ∧ s.fld F.KV_LC_state ≤ 1 ∧ ∀ c : Nat, c < 4 → names c = true → s.setEn c = false; decide (may ∧ ok)),
   base && (let ok := s.metroEn = true ∧ s.fld F.KV_LC_state ≤ 1 ∧ ∀ c : Nat, c < 4 → names c = true → s.setEn c = false; decide (may ∧ ¬ ok)),
   base && decide (due),
   base && decide (¬ due),
   base && decide (s.isManager = true ∧ v.getLsbD 0 = true),
   base && (decide (s.isManager = true ∧ v.getLsbD 0 = true) && (let c := 0; decide (s.mayWrite (.core c) Reg.MTR_SNAP = true))),
   base && decide ((s.isManager = false ∨ v.getLsbD 0 = false ∨ s.mayWrite who Reg.MTR_SNAP = false)),
   base && (decide (s.mayWrite who Reg.MTR_CAP_TRIG = true ∧ s.isManager = true ∧ s.mtr.caps.length = 2) && (let u := 0; decide (u < 2))),
   base && (decide (s.mayWrite who Reg.MTR_CAP_TRIG = true ∧ s.isManager = true ∧ s.mtr.caps.length = 2) && (let u := 0; (decide (u < 2) && (let armed := v.getLsbD u = true ∧ s.fld (F.MTR_CAPu_CFG_mode u) = 2 ∧ s.fld (F.MTR_CAPu_CFG_trig u) = 0 ∧ s.fld (F.MTR_CAPu_STATUS_state u) = 1; decide (armed))))),
   base && (decide (s.mayWrite who Reg.MTR_CAP_TRIG = true ∧ s.isManager = true ∧ s.mtr.caps.length = 2) && (let u := 0; (decide (u < 2) && (let armed := v.getLsbD u = true ∧ s.fld (F.MTR_CAPu_CFG_mode u) = 2 ∧ s.fld (F.MTR_CAPu_CFG_trig u) = 0 ∧ s.fld (F.MTR_CAPu_STATUS_state u) = 1; decide (¬ armed))))),
   base && (decide (s.mtr.caps.length = 2) && (let u := 0; decide (u < 2 ∧ (s.fld (F.MTR_CAPu_STATUS_state u) ≠ 2 ∨ (s.cap u).lost = 0)))),
   base && (decide (s.mtr.caps.length = 2) && (let u := 0; decide (u < 2 ∧ s.fld (F.MTR_CAPu_STATUS_state u) = 2 ∧ (s.cap u).lost ≠ 0 ∧ (s.capFree u).1 < (if (s.cap u).entry = [] then 1 else 2)))),
   base && (decide (s.mtr.caps.length = 2) && (let u := 0; decide (u < 2 ∧ s.fld (F.MTR_CAPu_STATUS_state u) = 2 ∧ (s.cap u).lost ≠ 0 ∧ (if (s.cap u).entry = [] then 1 else 2) ≤ (s.capFree u).1)))]

/-- What each clause of MetrologySettings asks. -/
def asks_MetrologySettings (s : State) (n ch : Nat) (who : Init) (v : Word) (good : Bool) : List Bool :=
  let old := s.fld F.MTR_CTRL_ch_en
  let new := v.toNat % 256
  let rises (c : Nat) : Prop := new.testBit c = true ∧ old.testBit c = false
  let shut := (∃ c : Nat, c < 8 ∧ rises c) ∧ (s.icgLocked 1 = false ∨ ∃ c : Nat, c < 8 ∧ rises c ∧ (s.factory c).ok = false)
  let sel := s.fld F.MTR_CAL_SEL_ch
  let idle := ∀ m : Nat, m < 4 → ∀ e : Nat, e < 4 → s.setEn m = true → s.fldBit (F.MTR_SET_MAP_el m) e = true → s.fld (F.MTR_ELEM_v e) ≠ sel ∧ s.fld (F.MTR_ELEM_i e) ≠ sel
  let g := sgn 16 (v.toNat % 65536)
  let u := s.mtr.user.getD sel {}
  let base : Bool := decide (n < 4 ∧ ch < 8 ∧ s.mtr.sets.length = 4 ∧ s.mtr.user.length = 8)
  [base && decide ((s.mayWrite who Reg.MTR_CTRL = false ∨ s.isManager = false)),
   base && decide (s.mayWrite who Reg.MTR_CTRL = true ∧ s.isManager = true ∧ v.toNat / 4096 % 16 = s.fld F.MTR_CTRL_accum_mode),
   base && decide (s.mayWrite who Reg.MTR_CTRL = true ∧ s.isManager = true ∧ v.toNat / 4096 % 16 = s.fld F.MTR_CTRL_accum_mode ∧ shut),
   base && decide (s.mayWrite who Reg.MTR_CTRL = true ∧ s.isManager = true ∧ v.toNat / 4096 % 16 = s.fld F.MTR_CTRL_accum_mode ∧ ¬ shut),
   base && decide (s.mayWrite who Reg.MTR_CTRL = true ∧ s.isManager = true ∧ v.toNat / 4096 % 16 = s.fld F.MTR_CTRL_accum_mode ∧ s.setEn n = v.getLsbD (8 + n)),
   base && decide (s.mayWrite who Reg.MTR_CTRL = true ∧ s.isManager = true ∧ v.toNat / 4096 % 16 = s.fld F.MTR_CTRL_accum_mode ∧ s.setEn n = true ∧ v.getLsbD (8 + n) = false),
   base && decide (s.mayWrite who Reg.MTR_CTRL = true ∧ s.isManager = true ∧ v.toNat / 4096 % 16 = s.fld F.MTR_CTRL_accum_mode ∧ s.setEn n = true ∧ v.getLsbD (8 + n) = false ∧ (s.mset n).live = false),
   base && decide (s.mayWrite who Reg.MTR_CTRL = true ∧ s.isManager = true ∧ v.toNat / 4096 % 16 ≠ s.fld F.MTR_CTRL_accum_mode ∧ s.metroEn = false),
   base && (let a := Reg.MTR_UCAL_GAIN; decide ((s.mayWrite who a = false ∨ s.isManager = false ∨ (mtrCopyRegs.contains a = false ∧ isUcal a = false)))),
   base && decide (s.mayWrite who Reg.MTR_UCAL_GAIN = true ∧ s.isManager = true ∧ sgn 16 (unsgn 16 u.gain) = u.gain ∧ g = u.gain),
   base && decide (s.mayWrite who Reg.MTR_UCAL_GAIN = true ∧ s.isManager = true ∧ sgn 16 (unsgn 16 u.gain) = u.gain ∧ g ≠ u.gain ∧ s.metroEn = true ∧ idle ∧ good = true),
   base && decide (s.mayWrite who Reg.MTR_UCAL_GAIN = true ∧ s.isManager = true ∧ sgn 16 (unsgn 16 u.gain) = u.gain ∧ g ≠ u.gain ∧ s.metroEn = true ∧ idle ∧ good = false),
   base && decide (s.mayWrite who Reg.MTR_UCAL_GAIN = true ∧ s.isManager = true ∧ sgn 16 (unsgn 16 u.gain) = u.gain ∧ g ≠ u.gain ∧ (s.metroEn = false ∨ ¬ idle))]

namespace Of18E18
def g0 := run 0 (fun n => n)
def c0 : Init := .core 0
def at_ (k : Nat) (s : State) : State := { s with tmk := { s.tmk with mt := k } }
def mt_ (f : Mtr → Mtr) (s : State) : State := { s with mtr := f s.mtr }
def b (l : List (Field × Nat) := []) (k := 9000000) (f : Mtr → Mtr := id) : State :=
  mt_ (fun m => f { m with chFrom := List.replicate 8 (some 8900000), temp := 30 }) (at_ k (put g0 ([(F.TMK_ICG_CTRL_locked, 15), (F.MTR_CTRL_ch_en, 255), (F.MTR_CTRL_set_en, 3), (F.MTR_SET_MAP_el 0, 3), (F.MTR_SET_MAP_el 1, 8), (F.MTR_ELEM_en 0, 1), (F.MTR_ELEM_v 0, 0), (F.MTR_ELEM_i 0, 1), (F.MTR_ELEM_en 1, 1), (F.MTR_ELEM_v 1, 2), (F.MTR_ELEM_i 1, 3), (F.MTR_ELEM_v 3, 4), (F.MTR_ELEM_i 3, 5), (F.MTR_SETn_NOM_un 0, 230), (F.MTR_SETn_NOM_in 0, 40), (F.MTR_NL_nl 0, 3)] ++ l)))
def us : List Int := [100000, -200000, 3000000, 49 * 2 ^ 24 / 100, 0, 5, 8388607, -8388608]
def me (s : State) (n := 0) (ch := 3) (bad := 0) (v : Word := 0) (us_ := us) (t : Int := 40) (mhz := 50000) (who : Init := c0) := asks_Metrology s us_ [5, -6] [1,2,3] bad n ch mhz t who v
def live (p q : Int) (n := 0) (a := (List.range 8).map (· * 1000)) (m : Mtr) : Mtr := { m with sets := (m.sets.set n { acc := a, p := p, q := q, n := 7, live := true }), sumN := 100, sumP := [12345678 * 10 ^ 60, -7 * 10 ^ 63, 0, 2 ^ 200], lastStep := 3 }
def qs (e : List Word) (l : List (Field × Nat)) (pr : Nat := 0) : State := let s := queues [(0x30, { base := 0x20040000, ctrl := 1 + 2 * 2 + 2 * 8, prod := pr, resv := pr })] (b l); mt_ (fun m => { m with caps := m.caps.set 0 { lost := 5, entry := e, frame := 3, hist := [[1,2]] } }) s
def ms (s : State) (n := 0) (ch := 3) (v : Word := 0) (good := true) (who : Init := c0) := asks_MetrologySettings s n ch who v good

theorem witness_Metrology : shows [
    (me (b [] 9000000 (live (-5) 6)) 0 7 2, [1, 3, 4, 5, 8, 10, 11, 12, 16, 19, 20, 22, 23]),
    (me (b [(F.NJD_SEAL_sw, 2), (F.MTR_CTRL_set_en, 0)] 9000000 (live 5 6)) 1 0 0 0xC1A40501, [2, 6, 13, 17, 18]),
    (me (put (b) [(F.SYS_ROLE_role, 2)]), [0, 7, 9]),
    (me (b [(F.NJD_SEAL_sw, 2), (F.MTR_CTRL_set_en, 4)] 9000000 (live 5 6)) 1 0 0 0xC1A40501, [14]),
    (me (b [] 9000000 (fun m => { m with pulses := 3 })), [15]),
    (me (b [(F.MTR_CAPu_CFG_mode 0, 2), (F.MTR_CAPu_STATUS_state 0, 1), (F.MTR_CAPu_CFG_post 0, 7)]) 0 0 0 1, [21]),
    (me (qs [] [(F.MTR_CAPu_STATUS_state 0, 2)]), [25]),
    (me (qs [1] [(F.MTR_CAPu_STATUS_state 0, 2)] 3), [24])] = true := by decide +kernel

theorem witness_MetrologySettings : shows [
    (ms (b), [1, 3, 5, 6, 9]),
    (ms (b [(F.MTR_CTRL_ch_en, 1), (F.TMK_ICG_CTRL_locked, 13)]) 0 3 0xF03FF, [2, 4, 12]),
    (ms (put (b) [(F.SYS_ROLE_role, 2)]), [0, 8]),
    (ms (b [(F.NJD_SEAL_sw, 0)]) 0 3 0x13FF, [7]),
    (ms (b [(F.NJD_SEAL_sw, 2), (F.MTR_CTRL_set_en, 0)]) 0 3 0x10FF, [10]),
    (ms (b [(F.NJD_SEAL_sw, 2), (F.MTR_CAL_SEL_ch, 6)]) 0 3 0xFFFE false, [11])] = true := by decide +kernel

end Of18E18


/-- What each clause of Sessions asks. -/
def asks_Sessions (s : State) (who : Init) (v : Word) (r : OpenRec) (c t0 slot : Nat) : List Bool :=
  let mt := s.tmk.mt
  let may := s.mayWrite who Reg.BIL_SES_CMD = true ∧ s.bilOn = true
  let key := v.toNat / 65536 = 0xB11E
  let op := v.toNat % 4
  let free := (s.bil.slots.filter (fun k => k.state = 0)).length
  let need := if s.bil.interval.isSome then 1 else 2
  let rec_ := s.fld F.BIL_CTRL_en = 1 ∧ s.nj.wallValid = true ∧ s.fld F.TMK_STATUS_mt_untrusted = 0 ∧ s.bil.noSave = false
  let lc := s.fld F.KV_LC_state = 1 ∨ s.fld F.KV_LC_state = 2
  let none_ := s.bil.session = none ∧ s.bil.opening = none
  let to_ := 2500000 * s.fld F.BIL_SES_CFG_amount_to
  let k := s.bil.slots.getD slot {}
  let only := k.amountFrom = some t0 ∧ ∀ o : Nat, o < 8 → o ≠ slot → (s.bil.slots.getD o {}).amountFrom = none
  let base : Bool := decide (s.bil.slots.length = 8 ∧ slot < 8)
  [base && decide (¬ may),
   base && decide (may ∧ ¬ key),
   base && decide (may ∧ key ∧ op = 0),
   base && decide (may ∧ key ∧ op = 1 ∧ rec_ ∧ need ≤ free ∧ lc ∧ none_ ∧ s.bil.badSlots = []),
   base && decide (may ∧ key ∧ op = 1 ∧ ¬ rec_ ∧ need ≤ free ∧ lc ∧ none_),
   base && decide (may ∧ key ∧ op = 1 ∧ rec_ ∧ free < need ∧ lc ∧ none_),
   base && decide (may ∧ key ∧ op = 1 ∧ rec_ ∧ need ≤ free ∧ ¬ lc ∧ none_),
   base && decide (may ∧ key ∧ op = 1 ∧ rec_ ∧ need ≤ free ∧ lc ∧ ¬ none_),
   base && decide (may ∧ key ∧ op = 2 ∧ s.bil.session ≠ none ∧ 0x10 ≤ v.toNat / 256 % 256),
   base && decide (may ∧ key ∧ op = 2 ∧ (s.bil.session = none ∨ v.toNat / 256 % 256 < 0x10)),
   base && decide (may ∧ key ∧ op = 3 ∧ only ∧ mt - t0 ≤ to_ ∧ k.body.length = 96),
   base && decide (may ∧ key ∧ op = 3 ∧ ((∀ o : Nat, o < 8 → (s.bil.slots.getD o {}).amountFrom = none) ∨ (only ∧ to_ < mt - t0))),
   base && decide (s.bil.closing = none),
   base && decide (s.bil.closing = some (c, t0) ∧ (s.bilOn = false ∨ mt - t0 < 25000000)),
   base && decide (s.bil.closing = some (c, t0) ∧ s.bilOn = true ∧ 25000000 ≤ mt - t0 ∧ s.bil.session = some r ∧ r.slot < 8),
   base && decide (k.amountFrom = none),
   base && decide (k.amountFrom = some t0 ∧ (s.bilOn = false ∨ mt - t0 ≤ to_)),
   base && decide (k.amountFrom = some t0 ∧ s.bilOn = true ∧ to_ < mt - t0)]

/-- What each clause of RecordsAndCredit asks. -/
def asks_RecordsAndCredit (s : State) (who : Init) (v : Word) (slot t0 n : Nat) (x : KvTicket) : List Bool :=
  let mt := s.tmk.mt
  let k := s.bil.slots.getD slot {}
  let p : List Byte := k.body ++ k.sig
  let push := s.blockPush 0x38 p
  let lowest := k.state = 3 ∧ ∀ o : Nat, o < 8 → (s.bil.slots.getD o {}).state = 3 → o ≠ slot → k.num < (s.bil.slots.getD o {}).num
  let amount := sgn 64 ((s.word Reg.BIL_PP_TOPUP_LO).toNat + 2 ^ 32 * (s.word Reg.BIL_PP_TOPUP_HI).toNat)
  let ctr := s.fld F.BIL_PP_CFG_ctr
  let due := s.bilOn = true ∧ k.state = 2 ∧ k.signing = false ∧ k.amountFrom = none ∧ 250000000 ≤ mt - k.triedAt
  let base : Bool := decide (s.bil.slots.length = 8 ∧ slot < 8 ∧ s.bil.demand.length = 8 ∧ n < 8)
  [base && decide (s.kvJob (.record slot) = none),
   base && decide (s.kvJob (.record slot) = some x ∧ x.phase < 3),
   base && decide (s.kvJob (.record slot) = some x ∧ x.phase = 3 ∧ x.out.length = 64),
   base && decide (s.kvJob (.record slot) = some x ∧ 3 < x.phase),
   base && decide (s.kvJob (.record slot) = some x ∧ 3 < x.phase ∧ k.failed = false),
   base && decide (s.kvJob (.record slot) = some x ∧ 3 < x.phase ∧ k.failed = true),
   base && decide (¬ due),
   base && decide (due),
   base && decide (due ∧ s.fld F.BIL_SIGN_KEY_slot = 0xFF),
   base && decide ((s.bilOn = false ∨ (∀ o : Nat, o < 8 → (s.bil.slots.getD o {}).state ≠ 3))),
   base && decide (s.bilOn = true ∧ lowest ∧ push.1 = true),
   base && decide (s.bilOn = true ∧ lowest ∧ push.1 = false),
   base && decide (s.mayWrite who Reg.BIL_MD_CMD = true ∧ (s.bilOn = false ∨ v.toNat / 65536 ≠ 0xDE5E)),
   base && decide (s.mayWrite who Reg.BIL_MD_CMD = true ∧ s.bilOn = true ∧ v.toNat / 65536 = 0xDE5E),
   base && decide (s.mayWrite who Reg.BIL_PP_TOPUP_SEQ = true ∧ s.bilOn = false),
   base && decide (s.mayWrite who Reg.BIL_PP_TOPUP_SEQ = true ∧ s.bilOn = true ∧ 0 < amount ∧ s.bil.topSeq < v.toNat ∧ s.bil.credit + amount < 2 ^ 63),
   base && decide (s.mayWrite who Reg.BIL_PP_TOPUP_SEQ = true ∧ s.bilOn = true ∧ 0 < amount ∧ s.bil.topSeq < v.toNat ∧ s.bil.credit + amount < 2 ^ 63 ∧ 0 < s.bil.credit + amount),
   base && decide (s.mayWrite who Reg.BIL_PP_TOPUP_SEQ = true ∧ s.bilOn = true ∧ 0 < amount ∧ s.bil.topSeq < v.toNat ∧ s.bil.credit + amount < 2 ^ 63 ∧ s.bil.credit + amount < 0 ∧ s.bil.residue < 2 ^ 32),
   base && decide (s.mayWrite who Reg.BIL_PP_TOPUP_SEQ = true ∧ s.bilOn = true ∧ (amount ≤ 0 ∨ v.toNat ≤ s.bil.topSeq)),
   base && decide (s.bil.fbFrom = none),
   base && decide (s.bil.fbFrom = some t0 ∧ mt - t0 < 2500000),
   base && decide (s.bil.fbFrom = some t0 ∧ 2500000 ≤ mt - t0 ∧ s.fbClosed ctr = false),
   base && decide (s.bil.fbFrom = some t0 ∧ 2500000 ≤ mt - t0 ∧ s.fbClosed ctr = true)]

namespace Of19E19
def g0 := run 0 (fun n => n)
def c0 : Init := .core 0
def late (s : State) : State := { s with tmk := { s.tmk with mt := 900000000 } }
def bl (f : Bil → Bil) (s : State) : State := { s with bil := f s.bil }
def b (l : List (Field × Nat) := []) (f : Bil → Bil := id) : State := let s := late (put g0 ([(F.BIL_CTRL_en, 1), (F.KV_LC_state, 1), (F.BIL_SES_CFG_amount_to, 10), (⟨Reg.BIL_SES_AMT_LO, 31, 0⟩, 0x12345678), (⟨Reg.BIL_SES_AMT_HI, 31, 0⟩, 0x80000001)] ++ l)); bl f { s with nj := { s.nj with wallValid := true } }
def sl (n : Nat) (r : RecSlot) (k : Bil) : Bil := { k with slots := k.slots.set n r }
def rr : OpenRec := { num := 7, era := 2, start := 55, wall := 66, flags := 8, a0 := 5, b0 := 3, slot := 2, set := 1 }
def se (s : State) (v : Word := 0) (who : Init := c0) (r : OpenRec := rr) (c := 0x83) (t0 := 5) (slot := 2) := asks_Sessions s who v r c t0 slot
def body : List Byte := (List.range 96).map (fun k => BitVec.ofNat 8 (k + 130))
def open3 (k : Bil) : Bil := (List.range 7).foldl (fun k n => sl n { state := 3 } k) k
def dq : Desc := { base := 0x20040000, ctrl := 1 + 2 * 2 + 3 * 8 + 2 * 256 }
def q (s : State) (n := 0) (d := dq) : State := queues [(0x38, { d with prod := n, resv := n })] s
def tk (p : Nat) (o : List Byte := []) (slot := 2) : KvTicket := { id := 5, owner := 5, block := [], addr := 0, job := some (.record slot, [], []), phase := p, out := o, code := 0x0707 }
def kv (x : KvTicket) (s : State) : State := { s with kv := { s.kv with tickets := [x, { x with id := 6, job := none }] } }
def rc (s : State) (slot := 2) (x : KvTicket := tk 3) (v : Word := 0) (t0 := 5) (n := 1) (who : Init := c0) := asks_RecordsAndCredit s who v slot t0 n x
def us (f : RecSlot → RecSlot := id) : State := b [] (sl 2 (f { state := 2, body := body, num := 7, signing := true }))
def sg : List Byte := List.replicate 64 9
def sn (n : Nat) : RecSlot := { state := 3, body := body, sig := sg, num := n }
def am (x : Int) : List (Field × Nat) := let n := (x % 2 ^ 64).toNat; [(⟨Reg.BIL_PP_TOPUP_LO, 31, 0⟩, n % 2 ^ 32), (⟨Reg.BIL_PP_TOPUP_HI, 31, 0⟩, n / 2 ^ 32)]

theorem witness_Sessions : shows [
    (se (put (b) [(F.SYS_ROLE_role, 2)]) 0xB11E0001, [0, 12, 15]),
    (se (b [] (fun k => { k with closing := some (0x83, 875000000), session := some rr, slots := k.slots.set 2 { state := 1 } })) 0 c0 rr 0x83 875000000, [1, 14]),
    (se (b [] (sl 2 { state := 2, body := body, amountFrom := some 900000000 })) 0xB11E0003 c0 rr 0 900000000, [10, 16]),
    (se (b [] (sl 2 { state := 2, body := body, amountFrom := some 874999999 })) 0xB11E0003 c0 rr 0 874999999, [11, 17]),
    (se (b [] (fun k => { k with closing := some (0x83, 875000001), session := some rr })) 0 c0 rr 0x83 875000001, [13]),
    (se (b) 0xB11E0000, [2]),
    (se (b) 0xB11E0001, [3]),
    (se (b [(F.BIL_CTRL_en, 0)]) 0xB11E0001, [4]),
    (se (b [] open3) 0xB11E0001, [5]),
    (se (b [(F.KV_LC_state, 0)]) 0xB11E0001, [6]),
    (se (b [] (fun k => { k with session := some rr })) 0xB11E0001, [7]),
    (se (b [] (fun k => { k with session := some rr })) 0xB11E1002, [8]),
    (se (b [] (fun k => { k with session := some rr })) 0xB11E0F02, [9])] = true := by decide +kernel

theorem witness_RecordsAndCredit : shows [
    (rc (us (fun r => { r with signing := false, triedAt := 650000000 })), [0, 7, 8, 9, 12, 18, 19]),
    (rc (b (am 500) (fun k => { k with topSeq := 4 })) 2 (tk 3) 5, [6, 15, 16]),
    (rc (kv (tk 4) us) 2 (tk 4), [3, 4]),
    (rc (q (b [] (sl 2 (sn 7)))), [10]),
    (rc (b [] (sl 2 (sn 7))), [11]),
    (rc (b) 2 (tk 3) 0xDE5E0003, [13]),
    (rc (b ((F.BIL_PP_STATUS_exhausted, 1) :: am 500) (fun k => { k with credit := -600 })) 2 (tk 3) 5, [17]),
    (rc (b [(F.BIL_PP_CFG_ctr, 1)] (fun k => { k with fbFrom := some 897500000 })) 2 (tk 3) 0 897500000, [21]),
    (rc (b [(F.BIL_PP_CFG_ctr, 1), (F.PWR_CTR_STATUS_fb, 2), (F.BIL_PP_STATUS_fb_faults, 255)] (fun k => { k with fbFrom := some 897500000 })) 2 (tk 3) 0 897500000, [22]),
    (rc (b [(F.BIL_PP_CFG_ctr, 1)] (fun k => { k with fbFrom := some 897500001 })) 2 (tk 3) 0 897500001, [20]),
    (rc (put (b) [(F.SYS_ROLE_role, 2)]) 2 (tk 3) 0xDE5E0003, [14]),
    (rc (kv (tk 2) us) 2 (tk 2), [1]),
    (rc (kv (tk 3 sg) us) 2 (tk 3 sg), [2]),
    (rc (kv (tk 4) (us (fun r => { r with failed := true }))) 2 (tk 4), [5])] = true := by decide +kernel

end Of19E19


/-! ## Witnesses that meet an opaque constant, a whole block unit, or a queue -/

namespace WitUnit
/-- A store-like list whose tail is all zero leaves a CRC register of 0 as it is. -/
theorem crc_zeros : ∀ (l : List Byte), l.all (fun b => decide (b = 0#8)) = true → l.foldl crcByte 0#32 = 0#32
  | [], _ => rfl
  | b :: t, h => by
    simp only [List.all_cons, Bool.and_eq_true, decide_eq_true_eq] at h
    have hb : crcByte 0#32 b = 0#32 := by rw [h.1]; decide
    simp only [List.foldl_cons, hb]
    exact crc_zeros t h.2

/-- A block whose first `k` bytes bring the CRC register to 0 and whose other bytes are 0 has CRC FFFF_FFFF. -/
theorem crc_block (l : List Byte) (k : Nat) (hk : k ≤ 4096) (h1 : ((l.drop 32).take k).foldl crcByte crcInit = 0#32)
    (h2 : (l.drop (32 + k)).all (fun b => decide (b = 0#8)) = true) : (crc32c crcInit ((l.drop 32).take 4096)).toNat = 0xFFFFFFFF := by
  have e : (l.drop 32).take 4096 = (l.drop 32).take k ++ ((l.drop (32 + k)).take (4096 - k)) := by
    rw [← List.drop_drop, ← List.take_add, Nat.add_sub_cancel' hk]
  have h3 : ((l.drop (32 + k)).take (4096 - k)).all (fun b => decide (b = 0#8)) = true := by
    rw [List.all_eq_true] at h2 ⊢
    exact fun x hx => h2 x (List.mem_of_mem_take hx)
  rw [crc32c, e, List.foldl_append, h1, crc_zeros _ h3]
  decide

def dU : Desc := { base := 0x20010000, ctrl := 1 + 2*2 + 7*8 + 64*256, prod := 65, resv := 65 }
/-- The block-unit queue holds one unit: its header, and a block that begins with `d` and is 0 from there on; its CRC is FFFF_FFFF. -/
def unit (role set part index : Nat) (d : List Byte) : State :=
  let s := queues [(0x20, dU)] (put (run 0 (fun n => n)) [(F.SYS_ROLE_role, role), (F.UPD_CTRL_en, 1)])
  { s with mem := Store.setBytes s.mem 0x20010000 (leBytes 4 0x4B4C4255 ++ leBytes 4 set ++ leBytes 1 part ++ leBytes 1 0 ++ leBytes 2 index ++
    leBytes 4 4096 ++ leBytes 4 0xFFFFFFFF ++ leBytes 12 0 ++ d) }
end WitUnit

namespace WitUnit
theorem some_getD {α : Type} (d : α) : ∀ (o : Option α), o.isSome = true → o = some (o.getD d)
  | some _, _ => rfl

theorem get_high {n : Nat} (B a : Nat) (ha : B ≤ a) : ∀ (m : List (Nat × BitVec n)), m.all (fun p => decide (p.1 < B)) = true → Store.get m a = 0
  | [], _ => rfl
  | (k, v) :: t, h => by
    simp only [List.all_cons, Bool.and_eq_true, decide_eq_true_eq] at h
    rw [Store.get, if_neg (by omega)]
    exact get_high B a ha t h.2

theorem ring_drop (d : Desc) (c : Word) (m : List Host.Cell) : ∀ (k n o : Nat), (ringRead d c m o n).drop k = ringRead d c m (o + k) (n - k)
  | 0, n, o => by simp
  | k + 1, 0, o => by simp [ringRead]
  | k + 1, n + 1, o => by
    rw [ringRead, List.drop_succ_cons, ring_drop d c m k n (o + 1), show n + 1 - (k + 1) = n - k by omega, show o + 1 + k = o + (k + 1) by omega]

/-- Beyond the last byte stored the ring of block units reads 0. -/
theorem ring_zero (m : List Host.Cell) (B : Nat) (hm : m.all (fun p => decide (p.1 < B)) = true) :
    ∀ (n o : Nat), o + n ≤ 8192 → B ≤ 0x20010000 + o → (ringRead dU 0 m o n).all (fun b => decide (b = 0#8)) = true
  | 0, _, _, _ => rfl
  | n + 1, o, h, hB => by
    have ha : dU.addr 0 o = 0x20010000 + o := by
      have hd : dU.depth * dU.esize = 8192 := by decide
      have hz : (0#32).toNat % dU.depth * dU.esize = 0 := by decide
      show dU.base + ((0#32).toNat % dU.depth * dU.esize + o) % (dU.depth * dU.esize) = _
      rw [hd, hz, show dU.base = 0x20010000 from rfl]
      omega
    rw [ringRead, List.all_cons, ha, get_high B _ hB m hm, ring_zero m B hm n (o + 1) (by omega) (by omega)]
    decide

/-- A manifest of one part, the last four bytes of its digest chosen so that the CRC register stands at 0 after it. -/
def manP : List Byte := leBytes 4 0x4E414D55 ++ leBytes 2 1 ++ leBytes 2 1 ++ leBytes 4 9 ++ leBytes 2 0 ++ leBytes 2 7420 ++ leBytes 1 9 ++
  List.replicate 47 0 ++ (leBytes 2 3 ++ leBytes 1 0 ++ [0] ++ leBytes 4 0 ++ leBytes 4 4096 ++ leBytes 4 0 ++ List.replicate 44 1 ++ leBytes 4 3350199417)
def sM : State := unit 2 9 0xFF 0 manP
def lM : List Byte := (sM.unitFront true).1.getD []
def sF : State := unit 1 9 0xFF 0 [255, 255, 255, 255]
def lF : List Byte := (sF.unitFront true).1.getD []
/-- A manifest with one part of two blocks for member 0 and Worker 1, and the second of these blocks. -/
def man2 : Manifest := { data := [], set := 9, parts := [{ mask := 3, ctr := 0, off := 0, len := 8192, floor := 0, digest := [] }] }
def sB : State :=
  let s := put (unit 2 9 0 1 [255, 255, 255, 255]) [(F.UPD_STATUS_state, 1), (F.STF_NODE_node_id, 17)]
  { s with update := { s.update with man := some man2, parts := [{}] } }
def lB : List Byte := (sB.unitFront false).1.getD []

theorem unitOk_block (l : List Byte) (k : Nat) (hk : k ≤ 4096) (h1 : ((l.drop 32).take k).foldl crcByte crcInit = 0#32)
    (h2 : (l.drop (32 + k)).all (fun b => decide (b = 0#8)) = true)
    (h3 : (decide (u l 0 4 = 0x4B4C4255) && decide (u l 9 1 = 0) && decide (u l 12 4 = 4096) && ((l.drop 0x14).take 12).all (fun b => decide (b = 0)) && decide (u l 0x10 4 = 0xFFFFFFFF) &&
      (decide (u l 8 1 < 32) || (decide (u l 8 1 = 0xFF) && decide (u l 10 2 = 0)))) = true) : unitOk l = true := by
  simp only [unitOk, crc_block l k hk h1 h2]
  exact h3

/-- A unit whose first byte is wrong is at the front. -/
theorem witness_UpdateStaging_header : ((poke 0x20010000 [0x54] sM).unitFront true).1.any (fun l => !unitOk l) = true := by decide +kernel

theorem witness_UpdateStaging_manifest : (sM.unitFront true).1 = some lM ∧ unitOk lM = true ∧ (sM.unitFront true).2.isManager = false ∧
    (sM.unitFront true).2.isWorker = true ∧ (sM.unitFront true).2.updState ≠ 6 ∧ (sM.unitFront true).2.updState ≠ 4 ∧
    (sM.unitFront true).2.update.man = none ∧ formatOk ((lM.drop 32).take 4096) = true := by
  have h : (lM.drop (32 + 128)).all (fun b => decide (b = 0#8)) = true := by
    rw [show lM = ringRead dU 0 sM.mem 0 4160 from rfl, ring_drop]
    exact ring_zero sM.mem 0x200100A0 (by decide +kernel) _ _ (by decide) (by decide)
  refine ⟨some_getD _ _ (by decide), unitOk_block lM 128 (by decide) (by decide +kernel) h (by decide +kernel), by decide, by decide, by decide,
    by decide, by decide, ?_⟩
  have hb : manBody ((lM.drop 32).take 4096) = 128 := by decide +kernel
  have hz : (((lM.drop 32).take 4096).drop (128 + 96)).all (fun b => decide (b = 0)) = true := by
    rw [List.all_eq_true] at h ⊢
    intro x hx
    rw [List.drop_take] at hx
    have hx := List.mem_of_mem_take hx
    rw [List.drop_drop, show 32 + (128 + 96) = (32 + 128) + 96 by omega, ← List.drop_drop] at hx
    exact h x (List.mem_of_mem_drop hx)
  simp only [formatOk, hb, hz, Bool.and_true]
  decide +kernel

theorem witness_UpdateStaging_format : (sF.unitFront true).1 = some lF ∧ unitOk lF = true ∧ (sF.unitFront true).2.isManager = true ∧
    (sF.unitFront true).2.updState ≠ 3 ∧ (sF.unitFront true).2.updState ≠ 4 ∧ (sF.unitFront true).2.update.checking = none ∧
    (sF.unitFront true).2.update.man = none ∧ (sF.unitFront true).2.manBarred = false ∧ formatOk ((lF.drop 32).take 4096) = false := by
  have h : (lF.drop (32 + 4)).all (fun b => decide (b = 0#8)) = true := by
    rw [show lF = ringRead dU 0 sF.mem 0 4160 from rfl, ring_drop]
    exact ring_zero sF.mem 0x20010024 (by decide +kernel) _ _ (by decide) (by decide)
  refine ⟨some_getD _ _ (by decide), unitOk_block lF 4 (by decide) (by decide +kernel) h (by decide +kernel), ?_⟩
  decide +kernel

theorem witness_UpdateStaging_block : (sB.unitFront false).1 = some lB ∧ unitOk lB = true ∧ (sB.unitFront false).2.update.man = some man2 ∧
    u lB 4 4 = man2.set ∧ u lB 8 1 < man2.parts.length ∧ (sB.unitFront false).2.updState = 1 ∧ (sB.unitFront false).2.isWorker = true ∧
    (sB.unitFront false).2.isManager = false ∧ (sB.unitFront false).2.ownPart (man2.parts.getD (u lB 8 1) default) = true ∧
    u lB 10 2 < (man2.parts.getD (u lB 8 1) default).len / 4096 ∧ u lB 10 2 ∉ ((sB.unitFront false).2.stagedPart (u lB 8 1)).held ∧
    ((man2.parts.getD (u lB 8 1) default).off ≠ 0 ∨ u lB 10 2 ≠ 0) ∧ u lB 8 1 < (sB.unitFront false).2.update.parts.length := by
  have h : (lB.drop (32 + 4)).all (fun b => decide (b = 0#8)) = true := by
    rw [show lB = ringRead dU 0 sB.mem 0 4160 from rfl, ring_drop]
    exact ring_zero sB.mem 0x20010024 (by decide +kernel) _ _ (by decide) (by decide)
  refine ⟨some_getD _ _ (by decide), unitOk_block lB 4 (by decide) (by decide +kernel) h (by decide +kernel), ?_⟩
  decide +kernel

/-- A Worker that holds the one block of the one part, whose digest is `d`. -/
def manH (d : List Byte) : Manifest := { data := [], set := 9, parts := [{ mask := 3, ctr := 0, off := 0, len := 4096, floor := 0, digest := d }] }
def sH (d : List Byte) : State :=
  let s := put (run 0 (fun n => n)) [(F.SYS_ROLE_role, 2), (F.UPD_STATUS_state, 1), (F.STF_NODE_node_id, 17)]
  { s with update := { s.update with man := some (manH d), parts := [{ held := [0] }] } }
/-- The digest of what is staged. -/
def dH : List Byte := Config.sha384 ((sH []).partBytes (manH []) 0)

theorem append_ne (l : List Byte) : l ≠ l ++ [0#8] := fun h => by simpa using congrArg List.length h

theorem witness_UpdateStaging_digest (d : List Byte) : (sH d).update.man = some (manH d) ∧ (sH d).isWorker = true ∧ (manH d).parts.length = 1 ∧
    (sH d).update.parts.length = 1 ∧ (sH d).partComplete (manH d) 0 = true ∧ ((sH d).stagedPart 0).verified = false ∧
    (sH d).stages ((manH d).parts.getD 0 default) = true :=
  ⟨rfl, (by decide : (sH []).isWorker = true), rfl, rfl, (by decide : (sH []).partComplete (manH []) 0 = true), rfl, (by decide : (sH []).stages ((manH []).parts.getD 0 default) = true)⟩

theorem witness_UpdateStaging_digests : Config.sha384 ((sH dH).partBytes (manH dH) 0) = ((manH dH).parts.getD 0 default).digest ∧
    Config.sha384 ((sH (dH ++ [0])).partBytes (manH (dH ++ [0])) 0) ≠ ((manH (dH ++ [0])).parts.getD 0 default).digest :=
  ⟨rfl, append_ne dH⟩
end WitUnit

namespace WitBoot
/-- A valid image of 4,096 bytes in slot 0 and an activated record that carries its digest. -/
def word (a v : Nat) (s : State) : State := { s with mem := Store.setBytes s.mem a (leBytes 4 v) }
def image : State :=
  let s := put { State.reset with dsk := { State.reset.dsk with off := false } } [(F.DSK_DAWN_STATUS_step, 13), (F.SYS_ROLE_role, 1)]
  let b := slotBase 0
  word (b + 256) 0x12345678 (word b 0x49534E47 (word (b+4) 1 (word (b+8) 7 (word (b+0xC) 3 (word (b+0x10) 2 (word (b+0x14) 0 (word (b+0x18) 4096 (word (b+0x1C) 0x100 (word (b+0x20) 0 (word (b+0x24) 16 (word (b+0x28) 8 s)))))))))))
def record (d : List Byte) : ActRec :=
  { seq := 3, set := 7, slot := 0, digA := d, digB := [], ctrs := List.replicate 64 0, committed := true, activated := true, crcOk := true }
def booted (d : List Byte) : State := { image with update := { image.update with banks := [some (record d), none] } }
/-- The state the check is made in. -/
def at14 (d : List Byte) : State := ((booted d).setFld F.DSK_BOOT_slot 0).setWord Reg.DSK_ACTIVE_SET (w32 7)
def digest : List Byte := Config.sha384 ((at14 []).readBytes (slotBase 0) 4096)

theorem fault_of (d : List Byte) : (at14 d).bootFault (record d) = if Config.sha384 ((at14 []).readBytes (slotBase 0) 4096) = d then 0 else 3 := by
  have h : ((at14 d).readBytes (slotBase 0) 256) = (at14 []).readBytes (slotBase 0) 256 := rfl
  have hr : (at14 d).roleOk ((at14 []).readBytes (slotBase 0) 256) = true := (by decide +kernel : (at14 []).roleOk ((at14 []).readBytes (slotBase 0) 256) = true)
  have hh : headerOk ((at14 []).readBytes (slotBase 0) 256) (slotBase 0) = true := by decide +kernel
  have hs : u ((at14 []).readBytes (slotBase 0) 256) 8 4 = 7 := by decide +kernel
  have hl : u ((at14 []).readBytes (slotBase 0) 256) 0x18 4 = 4096 := by decide +kernel
  have hv : u ((at14 []).readBytes (slotBase 0) 256) 0x10 4 = 2 := by decide +kernel
  have hc : ∀ n, (record d).ctrs.getD n 0 = 0 := by
    intro n
    show (List.replicate 64 0).getD n 0 = 0
    simp only [List.getD_eq_getElem?_getD, List.getElem?_replicate]
    split <;> rfl
  have hm : (at14 d).readBytes (slotBase 0) 4096 = (at14 []).readBytes (slotBase 0) 4096 := rfl
  simp only [State.bootFault, show (record d).slot = 0 from rfl, show (record d).set = 7 from rfl, show (record d).digA = d from rfl, h, hr, hh, hs, hl, hv, hc, hm]
  by_cases e : Config.sha384 ((at14 []).readBytes (slotBase 0) 4096) = d <;> simp [e]

theorem witness_DawnSteps_boot : (booted digest).dsk.off = false ∧ (booted digest).inHold = false ∧ (booted digest).dawnDone = false ∧ (booted digest).duskWarn = false ∧
    (booted digest).fld F.DSK_DAWN_STATUS_step = 13 ∧ (booted digest).bootRec = some (record digest) ∧ (at14 digest).bootFault (record digest) = 0 :=
  ⟨by decide, by decide, by decide, by decide, by decide, rfl, by rw [fault_of, digest, if_pos rfl]⟩
end WitBoot

/-! ## Values from the spec's worked cases -/

/-- The state a command leaves. -/
def after (i : Instr) (s : State) : State := match exec i s with | .next t => t | _ => s

/-- R171: the check value over the ASCII bytes "123456789". -/
theorem test_crc16_check : crc16 ([0x31, 0x32, 0x33, 0x34, 0x35, 0x36, 0x37, 0x38, 0x39].map (fun v => (v, 8))) = 0x29B1 := by decide

/-- The read frame of the worked case of 09 (SYS_POST_STATUS, one 32-bit unit, alive 5). -/
def frame : HostFrame := { op := 1, alanes := 1, dlanes := 1, addr := 0x40000008, ctl := 0x501F, crc := 0x91C2 }

theorem test_request_crc : frame.goodCrc = 0x91C2 := by decide
theorem test_reply_crc : crc16 [(0x00000005, 32), (0x00000070, 32), (1, 16)] = 0x50B7 := by decide

/-- The whole worked case: the reply carries the unit, one valid unit and the CRC of the table. -/
theorem test_register_read_frame :
    ((after (.regRead frame 1) (put up [(F.SYS_POST_STATUS_seal_loop_ok, 1), (F.SYS_POST_STATUS_host_alive, 1), (F.SYS_POST_STATUS_site_link, 1)])).hsp.reply.map
      (fun r => (r.units, r.valid))) = some ([0x70], 1) := by decide

/-- The safety core with cr_sig as given and its pc at an address (03, worked case of R62). -/
def sfcAt (pc sig : Nat) : State := (run 4 (fun n => n) (put up [(F.CPU_SFC_CTRL_code_limit, 63)])).onCore 4 (fun k => { k with pc := w32 pc, sig := w32 sig })

theorem test_sigchk_passes : ((after (.sigchk 4 0x1234#16) (sfcAt 0x30000400 0xABC01234)).core 4).sig = 0x1234#32 := by decide
theorem test_branch_taken_signature : ((after (.beq 4 3 3 0x20#16) (sfcAt 0x30000400 0x1234)).core 4).sig = 0x0C0247A0#32 ∧
    ((after (.beq 4 3 3 0x20#16) (sfcAt 0x30000400 0x1234)).core 4).pc = 0x30000480#32 := by decide
theorem test_branch_not_taken_signature : ((after (.bne 4 3 3 0x20#16) (sfcAt 0x30000490 0x0C0247A0)).core 4).sig = 0x8C48F524#32 ∧
    ((after (.bne 4 3 3 0x20#16) (sfcAt 0x30000490 0x0C0247A0)).core 4).pc = 0x30000494#32 := by decide

/-- Table CPU-5: a load meets an error that cannot be corrected, or one that is corrected and counted (Table CPU-12); R78: SD writes a word anew. -/
def ecc (bad one : List Nat) : State := (fun s => { s with cpu := { s.cpu with eccBad := bad, eccOne := one } }) (run 0 (fun _ => 0x20004000))
theorem test_load_uncorrectable : ((after (.lw 0 4 5 4#16) (ecc [0x20004000] [])).core 0).cause = 8 ∧
    ((after (.lw 0 4 5 4#16) (ecc [0x20004000] [])).core 0).badaddr = 0x20004004#32 := by decide
theorem test_load_corrected : (after (.lw 0 4 5 4#16) (ecc [0x20004008] [0x20004000])).fld F.CPU_STATUS_ecc_corr = 1 := by decide
theorem test_sd_mends : (after (.sd 0 4 6 0#16) (ecc [0x20004000, 0x20004008] [])).cpu.eccBad = [0x20004008] := by decide
theorem test_sw_uncorrectable : ((after (.sw 0 4 6 0#16) (ecc [0x20004000] [])).core 0).cause = 8 := by decide

/-- The registers of the tariff program of 04: E in pair g2, the price in g6, the divisors in g7 and g8, the pair at hand in g4. -/
def tariff (g4 : Nat) : State := run 0 (fun n => match n with | 2 => 0x04319AC0 | 3 => 0xB | 4 => g4 % 2 ^ 32 | 5 => g4 / 2 ^ 32 | 6 => 4900 | 7 => 1000000000 | 8 => 100 | _ => 0)

theorem test_tariff_product : (((after (.muls64q 0 4 2 6 0) (tariff 0)).core 0).g.drop 4).take 2 = [w32 (231843500000000 % 2 ^ 32), w32 (231843500000000 / 2 ^ 32)] := by decide
theorem test_tariff_energy : (((after (.divr64 0 4 4 7) (tariff 231843500000000)).core 0).g.drop 4).take 2 = [w32 231844, 0] := by decide
theorem test_tariff_price : (((after (.divr64 0 4 4 8) (tariff 231844)).core 0).g.drop 4).take 2 = [w32 2318, 0] := by decide
theorem test_lui : ((after (.lui 0 7 0x3B9A#16) (tariff 0)).core 0).g.getD 7 0 = 0x3B9A0000#32 := by decide
theorem test_ori : ((after (.ori 0 7 9 0xCA00#16) ((tariff 0).onCore 0 (fun k => { k with g := k.g.set 9 0x3B9A0000#32 }))).core 0).g.getD 7 0 = 0x3B9ACA00#32 := by decide

/-- Wall time 1,000 and a bucket in seconds (02, worked case of R36 to R38). -/
def bucket (sec : Nat) : State := { put up [(F.TMK_STEP_CFG_limit_s, 20), (F.TMK_STEP_CFG_budget_s, 60)] with nj := { up.nj with wallValid := true, wallSec := 1000, bucketMs := 1000 * sec } }

theorem test_wall_step_small : (after (.wallSet .host 1019#32) (bucket 36)).nj.bucketMs = 55000 ∧ (after (.wallSet .host 1019#32) (bucket 36)).word Reg.TMK_ERA = 0 := by decide
theorem test_wall_step_large : (bucket 36).stepSmall 19 = true ∧ (bucket 54).stepSmall 19 = false := by decide

/-- R114, worked case of 06: with offset −396, k −34 and T0 25, the correction at −15 °C is +5,836. -/
theorem test_rtc_correction : (put up [(F.NJD_RTC_TRIM_offset, unsgn 16 (-396)), (F.NJD_RTC_TCOMP_k, unsgn 8 (-34)), (F.NJD_RTC_TCOMP_t0, 25), (F.NJD_RTC_TCOMP_tcomp_en, 1)]).rtcCorr (-15) = 5836 := by decide
theorem test_rtc_curve : (put up [(F.NJD_RTC_TCOMP_k, unsgn 8 (-34)), (F.NJD_RTC_TCOMP_t0, 25), (F.NJD_RTC_TCOMP_tcomp_en, 1)]).rtcCorr 23 = 14 := by decide

/-- 22, worked case: SAF_TH2_CFG as it stands with the default set. -/
theorem test_default_threshold : State.reset.word 0x4000609C = 0x55E0C832#32 := by decide

/-! ## Witnesses of the statements about the whole block -/

theorem witness_StepRunsTheFrontCommand : ({ State.reset with pending := [.porRelease, .brownoutReset] } : State).pending = .porRelease :: [.brownoutReset] := rfl
theorem test_step_takes_the_front : ((match step { State.reset with pending := [.porRelease, .brownoutReset] } with | .next t => t.pending | _ => []) = [.brownoutReset]) := by decide
theorem witness_IdleStepIsATick : State.reset.pending = [] ∧ State.reset.tmk.mtRun = false ∧ up.pending = [] ∧ up.tmk.mtRun = true ∧ up.tmk.mt < 2 ^ 64 - 1 := by decide
theorem witness_IdleStepIsATick_last : ({ up with tmk := { up.tmk with mt := 2 ^ 64 - 1 } } : State).pending = [] ∧ up.tmk.mtRun = true := by decide
theorem test_idle_step : (match step up with | .next t => t.tmk.mt | _ => 0) = 1000001 := by decide
theorem test_no_word_is_a_command : decodeTableWord 32 5 = none ∧ State.reset.withFetchWord 32 5 = State.reset := ⟨rfl, rfl⟩
theorem witness_CommandsLeaveTheQueue : ∃ t, exec .porRelease State.reset = .next t := ⟨_, rfl⟩
theorem witness_StoresStayCanonical : State.reset.storesWf = true ∧ ∃ t, step State.reset = .next t := ⟨by decide, _, rfl⟩
theorem witness_CoresKeepTheirShape : State.reset.coresWf = true ∧ ∃ t, step State.reset = .next t := ⟨by decide, _, rfl⟩

end Sys2Proof.Tests
end

/-! Laws of completing an instruction, of a stall, of the lowest pending line, and of one operation on several cores. -/

namespace Sys2Proof.Machine

open Sys2Proof

variable {s t : State} {c : Nat}

/-! ## Completing an instruction -/

/-- `State.retire_able` needs of the core only that the SIGCHK gap is not used up (R62). -/
theorem State.retire_of_gap (h : c = 4 → s.cpu.sigCount < 16 * s.fld F.CPU_SFC_CTRL_sig_gap) (f : Core → Core) :
    s.retire c f = { s with cpu := { s.cpu with cores := upd s.cpu.cores c (fun k => { f k with pc := k.pc + 4 }),
                                                sigCount := if c = 4 then s.cpu.sigCount + 1 else s.cpu.sigCount } } := by
  unfold State.retire
  rw [State.counted_able _ (by exact h)]
  rfl

theorem State.retire_core_self (h : c = 4 → s.cpu.sigCount < 16 * s.fld F.CPU_SFC_CTRL_sig_gap) (hc : c < s.cpu.cores.length)
    (f : Core → Core) : (s.retire c f).core c = { f (s.core c) with pc := (s.core c).pc + 4 } := by
  rw [State.retire_of_gap h]
  exact upd_getD_self _ _ _ _ hc

theorem State.retire_core_ne (h : c = 4 → s.cpu.sigCount < 16 * s.fld F.CPU_SFC_CTRL_sig_gap) (f : Core → Core) {d : Nat} (hd : d ≠ c) :
    (s.retire c f).core d = s.core d := by
  rw [State.retire_of_gap h]
  exact upd_getD_ne _ _ _ _ _ (Ne.symm hd)

theorem State.able.length_g (h : s.able c) : (s.core c).g.length = 32 := by
  obtain ⟨_, _, hlen, _, _⟩ := h
  exact hlen

theorem State.able.gap (h : s.able c) : c = 4 → s.cpu.sigCount < 16 * s.fld F.CPU_SFC_CTRL_sig_gap := by
  obtain ⟨_, _, _, hgap, _⟩ := h
  exact hgap

theorem State.able.stall_none (h : s.able c) : (s.core c).stall = .none := by
  obtain ⟨hready, _⟩ := h
  simp only [State.coreReady, Bool.and_eq_true, decide_eq_true_eq] at hready
  exact hready.1.2

theorem State.retire_onlyCore (h : s.able c) (f : Core → Core) : OnlyCore c s (s.retire c f) := by
  have hgap := h.gap
  refine ⟨?_, fun _ hd => State.retire_core_ne hgap f hd, ?_⟩ <;> rw [State.retire_of_gap hgap]

/-- One general register written as the instruction completes (R69, R71). -/
theorem State.retire_w_gives {i : Instr} {rd : Nat} {v : Word} (h : s.able c) (hrd : rd < 32)
    (he : exec i s = .next (s.retire c (fun k => k.w rd v))) : Gives i s c rd v :=
  ⟨_, he, State.retire_gives h _ _ (Core.w_else _ _ _) (by simpa using h.length_g) (fun n _ => Core.r_w _ rd n v h.length_g hrd)⟩

/-- The core enters a stall and nothing else changes. -/
theorem State.onCore_stalls {i : Instr} {w : Stall} (h : s.able c)
    (he : exec i s = .next (s.onCore c (fun k => { k with stall := w }))) : Stalls i s c w :=
  ⟨_, he, rfl, fun _ hd => State.core_onCore_ne _ _ _ _ (Ne.symm hd), State.core_onCore_self _ _ _ h.lt⟩

/-! ## The lowest line -/

theorem lowestLine_eq_iff (w : Word) {n : Nat} (hn : n < 32) :
    lowestLine w = n ↔ w.getLsbD n = true ∧ ∀ m, m < n → w.getLsbD m = false := by
  rw [lowestLine, Option.getD_eq_iff]
  simp [hn, Nat.ne_of_gt hn]

/-- A line of the mask taken is the lowest pending one (R53). -/
theorem State.retire_takes {i : Instr} {mask : Word} {rd n : Nat} (h : s.able c) (hrd : rd < 32)
    (hl : lowestLine ((s.core c).pend &&& mask) = n) (he : exec i s = .next (s.retire c (fun k => k.takeLine mask rd))) :
    TakesLine i s c rd n := by
  have hk := State.retire_core_self h.gap h.lt (fun k => k.takeLine mask rd)
  subst hl
  refine ⟨_, he, State.retire_onlyCore h _, ?_, fun m _ => ?_⟩
  · rw [hk]
    simp only [Core.takeLine]
    rw [Core.w_else]
    simp only [h.stall_none]
  · rw [hk]
    exact Core.r_w _ rd m _ h.length_g hrd

/-! ## One operation on several cores -/

theorem State.foldl_onCore_else (f : Core → Core) : ∀ (cs : List Nat) (s : State),
    cs.foldl (fun u d => u.onCore d f) s = { s with cpu := { s.cpu with cores := (cs.foldl (fun u d => u.onCore d f) s).cpu.cores } }
  | [], _ => rfl
  | d :: cs, s => by
    rw [List.foldl_cons, State.foldl_onCore_else f cs (s.onCore d f)]
    rfl

theorem State.foldl_onCore_length (f : Core → Core) : ∀ (cs : List Nat) (s : State),
    (cs.foldl (fun u d => u.onCore d f) s).cpu.cores.length = s.cpu.cores.length
  | [], _ => rfl
  | _ :: cs, _ => by
    rw [List.foldl_cons, State.foldl_onCore_length f cs]
    exact upd_length _ _ _

@[simp] theorem State.deliver_length (s : State) (line : Nat) (cs : List Nat) :
    (s.deliver line cs).cpu.cores.length = s.cpu.cores.length := State.foldl_onCore_length _ cs s

/-- An operation that may be repeated without effect changes each core named once. -/
theorem State.core_foldl_onCore (f : Core → Core) (hf : ∀ k, f (f k) = f k) (d : Nat) : ∀ (cs : List Nat) (s : State),
    (∀ e, e ∈ cs → e < s.cpu.cores.length) → (cs.foldl (fun u e => u.onCore e f) s).core d = if d ∈ cs then f (s.core d) else s.core d
  | [], _, _ => rfl
  | e :: cs, s, h => by
    have hlen : ∀ x, x ∈ cs → x < (s.onCore e f).cpu.cores.length := fun x hx => by
      simpa [State.onCore] using h x (List.mem_cons_of_mem _ hx)
    rw [List.foldl_cons, State.core_foldl_onCore f hf d cs _ hlen]
    by_cases hed : e = d
    · subst hed
      rw [State.core_onCore_self _ _ _ (h e (List.mem_cons_self ..))]
      simp [hf]
    · rw [State.core_onCore_ne _ _ _ _ hed]
      simp [Ne.symm hed]

end Sys2Proof.Machine

/-! The waiting instructions and SIGNAL (R53, R59, R82). -/

namespace Sys2Proof.Machine

open Sys2Proof

variable {s : State} {c rd ra rb : Nat}

/-! ## WAIT, WAITT and POLL -/

theorem exec_wait_able (h : s.able c) : exec (.wait c rd ra) s = .next (
    if (s.core c).r ra = 0 then s.raise c excIllegal none
    else if (s.core c).pend &&& (s.core c).r ra ≠ 0 then s.retire c (fun k => k.takeLine ((s.core c).r ra) rd)
    else s.onCore c (fun k => { k with stall := .wait ((s.core c).r ra) rd })) :=
  congrArg Host.Outcome.next (State.insn_able h true (fun _ => rfl) _)

theorem exec_waitt_able (h : s.able c) (hp : isPair rb = true) : exec (.waitt c rd ra rb) s = .next (
    if (s.core c).pend &&& (s.core c).r ra ≠ 0 then s.retire c (fun k => k.takeLine ((s.core c).r ra) rd)
    else if ((s.core c).rp rb).toNat ≤ s.tmk.mt then s.retire c (fun k => k.w rd 32)
    else if s.is F.TMK_STATUS_xtal_mt_lost then s.retire c (fun k => k.w rd 33)
    else s.onCore c (fun k => { k with stall := .waitt ((s.core c).r ra) rd ((s.core c).rp rb).toNat })) := by
  refine congrArg Host.Outcome.next ((State.insn_able h true (fun _ => rfl) _).trans ?_)
  simp only [hp, Bool.not_true, Bool.false_eq_true, if_false]
  rfl

theorem exec_poll_able (h : s.able c) : exec (.poll c rd ra) s = .next (
    if (s.core c).pend &&& (s.core c).r ra ≠ 0 then s.retire c (fun k => k.takeLine ((s.core c).r ra) rd)
    else s.retire c (fun k => k.w rd 32)) :=
  congrArg Host.Outcome.next (State.insn_able h true (fun _ => rfl) _)

/-- A pending line of the mask ends each of the three with the lowest such line (R53, R82, Table CPU-25). -/
theorem waits_take_lowest (h : s.able c) (hrd : rd < 32) (hp : isPair rb = true) {n : Nat} (hn : n < 32)
    (hbit : ((s.core c).pend &&& (s.core c).r ra).getLsbD n = true)
    (hlow : ∀ m, m < n → ((s.core c).pend &&& (s.core c).r ra).getLsbD m = false) :
    TakesLine (.wait c rd ra) s c rd n ∧ TakesLine (.waitt c rd ra rb) s c rd n ∧ TakesLine (.poll c rd ra) s c rd n := by
  have hne : (s.core c).pend &&& (s.core c).r ra ≠ 0 := fun h0 => by simp [h0] at hbit
  have hmask : (s.core c).r ra ≠ 0 := fun h0 => hne (by simp [h0])
  have hl := (lowestLine_eq_iff _ hn).2 ⟨hbit, hlow⟩
  refine ⟨State.retire_takes h hrd hl ?_, State.retire_takes h hrd hl ?_, State.retire_takes h hrd hl ?_⟩
  · rw [exec_wait_able h, if_neg hmask, if_pos hne]
  · rw [exec_waitt_able h hp, if_pos hne]
  · rw [exec_poll_able h, if_pos hne]

/-- Without a pending line WAIT stalls and POLL answers 32 (R53, Table CPU-25). -/
theorem wait_poll_without_line (h : s.able c) (hrd : rd < 32) (h0 : (s.core c).pend &&& (s.core c).r ra = 0) :
    Gives (.poll c rd ra) s c rd 32 ∧ ((s.core c).r ra ≠ 0 → Stalls (.wait c rd ra) s c (.wait ((s.core c).r ra) rd)) := by
  refine ⟨State.retire_w_gives h hrd ?_, fun hmask => State.onCore_stalls h ?_⟩
  · rw [exec_poll_able h, if_neg (not_not_intro h0)]
  · rw [exec_wait_able h, if_neg hmask, if_neg (not_not_intro h0)]

/-- Without a pending line WAITT answers 32 at its deadline, before it 33 while the crystal is lost, and stalls otherwise (R82). -/
theorem waitt_without_line (h : s.able c) (hrd : rd < 32) (hp : isPair rb = true) (h0 : (s.core c).pend &&& (s.core c).r ra = 0) :
    (((s.core c).rp rb).toNat ≤ s.tmk.mt → Gives (.waitt c rd ra rb) s c rd 32) ∧
    (s.tmk.mt < ((s.core c).rp rb).toNat → s.is F.TMK_STATUS_xtal_mt_lost = true → Gives (.waitt c rd ra rb) s c rd 33) ∧
    (s.tmk.mt < ((s.core c).rp rb).toNat → s.is F.TMK_STATUS_xtal_mt_lost = false →
      Stalls (.waitt c rd ra rb) s c (.waitt ((s.core c).r ra) rd ((s.core c).rp rb).toNat)) := by
  have he := exec_waitt_able (rd := rd) (ra := ra) h hp
  rw [if_neg (not_not_intro h0)] at he
  refine ⟨fun ht => State.retire_w_gives h hrd ?_, fun ht hx => State.retire_w_gives h hrd ?_, fun ht hx => State.onCore_stalls h ?_⟩
  · rw [he, if_pos ht]
  · rw [he, if_neg (Nat.not_le.2 ht), if_pos hx]
  · rw [he, if_neg (Nat.not_le.2 ht), hx]
    rfl

/-! ## SIGNAL -/

/-- The cores other than the issuing one that hear a SIGNAL (R59). -/
def State.signalOthers (s : State) (c m : Nat) : List Nat :=
  (maskCores m).filter (fun d => d ≠ c && (d ≠ 4 || s.is F.CPU_CTRL_cc_to_sfc))

/-- A core with its last sender recorded (R59). -/
def Core.heardFrom (k : Core) (c : Nat) : Core := { k with lastSignaller := c }

/-- The state in which a SIGNAL has been delivered and has not yet completed (R59). -/
def State.signalled (s : State) (c m : Nat) : State :=
  let t := (s.signalOthers c m).foldl (fun u d => u.onCore d (fun k => k.heardFrom c)) (s.deliver 28 (s.signalOthers c m))
  if m.testBit c then t.deliver 31 [c] else t

theorem exec_signal_able (h : s.able c) (m : Nat) : exec (.signal c m) s = .next ((s.signalled c m).retire c id) :=
  congrArg Host.Outcome.next (State.insn_able h true (fun _ => rfl) _)

theorem State.mem_signalOthers (s : State) (c m d : Nat) :
    d ∈ s.signalOthers c m ↔ d < 5 ∧ d ≠ c ∧ m.testBit d = true ∧ (d = 4 → s.is F.CPU_CTRL_cc_to_sfc = true) := by
  have hall : d ∈ allCores ↔ d < 5 := by simp [allCores]; omega
  have hsfc : (d ≠ 4 ∨ s.is F.CPU_CTRL_cc_to_sfc = true) ↔ (d = 4 → s.is F.CPU_CTRL_cc_to_sfc = true) := Decidable.imp_iff_not_or.symm
  simp only [State.signalOthers, maskCores, List.mem_filter, hall, Bool.and_eq_true, Bool.or_eq_true, decide_eq_true_eq, hsfc]
  constructor
  · rintro ⟨⟨hd, hm⟩, hne, hcc⟩
    exact ⟨hd, hne, hm, hcc⟩
  · rintro ⟨hd, hne, hm, hcc⟩
    exact ⟨⟨hd, hm⟩, hne, hcc⟩

theorem State.self_notMem_signalOthers (s : State) (c m : Nat) : c ∉ s.signalOthers c m := by simp [State.mem_signalOthers]

/-- Delivering a SIGNAL changes cores alone. -/
theorem State.signalled_else (s : State) (c m : Nat) :
    s.signalled c m = { s with cpu := { s.cpu with cores := (s.signalled c m).cpu.cores } } := by
  unfold State.signalled
  dsimp only
  split
  · rw [State.deliver_else, State.foldl_onCore_else, State.deliver_else]
  · rw [State.foldl_onCore_else, State.deliver_else]

theorem State.signalled_length (s : State) (c m : Nat) : (s.signalled c m).cpu.cores.length = s.cpu.cores.length := by
  unfold State.signalled
  dsimp only
  split <;> simp [State.foldl_onCore_length]

/-- What each core has after a SIGNAL was delivered: its sender and EVT_SIGNAL on the others named, EVT_SW on the issuing core (R59). -/
theorem State.core_signalled (hlen : s.cpu.cores.length = 5) (hc : c < 5) (m d : Nat) :
    (s.signalled c m).core d =
      if d ∈ s.signalOthers c m then { s.core d with pend := (s.core d).pend ||| (1#32 <<< 28), lastSignaller := c }
      else if d = c ∧ m.testBit c = true then { s.core d with pend := (s.core d).pend ||| (1#32 <<< 31) }
      else s.core d := by
  have hothers : ∀ e, e ∈ s.signalOthers c m → e < s.cpu.cores.length := fun e he => by
    rw [hlen]
    exact ((s.mem_signalOthers c m e).1 he).1
  have hsent : ((s.signalOthers c m).foldl (fun u d => u.onCore d (fun k => k.heardFrom c))
      (s.deliver 28 (s.signalOthers c m))).core d =
      if d ∈ s.signalOthers c m then { s.core d with pend := (s.core d).pend ||| (1#32 <<< 28), lastSignaller := c } else s.core d := by
    rw [State.core_foldl_onCore (fun k => k.heardFrom c) (fun _ => rfl) d _ _ (by rwa [State.deliver_length]), State.core_deliver 28 d _ _ hothers]
    split <;> rfl
  unfold State.signalled
  dsimp only
  by_cases hm : m.testBit c = true
  · rw [if_pos hm, State.core_deliver 31 d [c] _ (by simp [State.foldl_onCore_length, hlen, hc]), hsent]
    by_cases hd : d = c
    · subst hd
      simp [State.self_notMem_signalOthers, hm]
    · simp [hd]
  · rw [if_neg hm, hsent]
    simp [hm]

/-- SIGNAL sends EVT_SIGNAL with its sender to the others named, EVT_SW to the issuing core, and changes no register but the pc (R59). -/
theorem signal_delivers (h : s.able c) (hc : c < 5) (hlen : s.cpu.cores.length = 5) (m : Nat) :
    ∃ t, exec (.signal c m) s = .next t ∧ t.mem = s.mem ∧ t.regs = s.regs ∧
      (t.core c).pc = (s.core c).pc + 4 ∧ (t.core c).g = (s.core c).g ∧
      (t.core c).pend = (if m.testBit c then (s.core c).pend ||| (1#32 <<< 31) else (s.core c).pend) ∧
      ∀ d, d < 5 → d ≠ c →
        t.core d = (if m.testBit d = true ∧ (d = 4 → s.is F.CPU_CTRL_cc_to_sfc = true) then
          { s.core d with pend := (s.core d).pend ||| (1#32 <<< 28), lastSignaller := c } else s.core d) := by
  have helse := s.signalled_else c m
  have hgap : c = 4 → (s.signalled c m).cpu.sigCount < 16 * (s.signalled c m).fld F.CPU_SFC_CTRL_sig_gap := by
    rw [helse]
    exact h.gap
  have hlt : c < (s.signalled c m).cpu.cores.length := by
    rw [State.signalled_length, hlen]
    exact hc
  have hcore : ((s.signalled c m).retire c id).core c = { s.core c with
      pc := (s.core c).pc + 4, pend := if m.testBit c then (s.core c).pend ||| (1#32 <<< 31) else (s.core c).pend } := by
    rw [State.retire_core_self hgap hlt, State.core_signalled hlen hc, if_neg (s.self_notMem_signalOthers c m)]
    by_cases hm : m.testBit c = true <;> simp [hm]
  refine ⟨_, exec_signal_able h m, ?_, ?_, ?_, ?_, ?_, fun d hd hdc => ?_⟩
  · rw [State.retire_of_gap hgap, helse]
  · rw [State.retire_of_gap hgap, helse]
  · rw [hcore]
  · rw [hcore]
  · rw [hcore]
  · rw [State.retire_core_ne hgap _ hdc, State.core_signalled hlen hc]
    simp [State.mem_signalOthers, hd, hdc]

/-- Settles O4: the laws of the three waiting instructions and of SIGNAL, put together. -/
theorem waitsAndSignals : Obligations.WaitsAndSignals := by
  refine ⟨fun s c rd ra rb n hable hrd hp => ⟨fun hn hbit hlow => waits_take_lowest hable hrd hp hn hbit hlow, fun h0 => ?_⟩,
    fun s c m hable hc hlen => signal_delivers hable hc hlen m⟩
  obtain ⟨hpoll, hwait⟩ := wait_poll_without_line hable hrd h0
  exact ⟨hpoll, hwait, waitt_without_line hable hrd hp h0⟩

end Sys2Proof.Machine

/-! The mailboxes of the cores (R60). -/

namespace Sys2Proof.Machine

open Sys2Proof

variable {s t : State} {c n : Nat} {v : Word}

/-! ## Fields written inside a field -/

/-- A write inside a listed field leaves every bit outside the listed fields. -/
theorem RegsBut.setFld_within {fs : List Field} {f g : Field} (v : Nat) (h : RegsBut fs s t) (hm : f ∈ fs) (ha : g.addr = f.addr)
    (hlo : f.lo ≤ g.lo) (hhi : g.hi ≤ f.hi) (hg : g.hi < 32) : RegsBut fs s (t.setFld g v) := fun a k hk hout =>
  (State.bit_setFld t g v a k hk hg (fun e => by have := hout f hm (ha.symm.trans e); omega)).trans (h a k hk hout)

/-- One bit of a listed field written. -/
theorem RegsBut.setFldBit {fs : List Field} {f : Field} {k : Nat} (b : Bool) (h : RegsBut fs s t) (hm : f ∈ fs) (hk : f.lo + k ≤ f.hi)
    (hf : f.hi < 32) : RegsBut fs s (t.setFldBit f k b) :=
  h.setFld_within (bit b) hm rfl (Nat.le_add_right _ _) hk (Nat.lt_of_le_of_lt hk hf)

theorem State.fldBit_congr (h : t.regs = s.regs) (f : Field) (k : Nat) : t.fldBit f k = s.fldBit f k := by
  rw [State.fldBit, State.fldBit, State.fld_congr h]

/-- A bit of a field is left by a write to other bits. -/
theorem State.fldBit_setFld_bits (s : State) (f g : Field) (v k : Nat) (hf : f.lo ≤ f.hi ∧ f.hi < 32) (hg : g.lo ≤ g.hi ∧ g.hi < 32)
    (h : f.hi < g.lo ∨ g.hi < f.lo) : (s.setFld f v).fldBit g k = s.fldBit g k := by
  rw [State.fldBit, State.fld_setFld_bits s f g v hf.1 hf.2 hg.1 hg.2 h, State.fldBit]

/-- The bits of a field are left by a write to one bit of a field beside it. -/
theorem State.fldBit_setFldBit_bits (s : State) (f g : Field) (j k : Nat) (b : Bool) (hj : f.lo + j ≤ f.hi) (hf : f.hi < 32)
    (hg : g.lo ≤ g.hi ∧ g.hi < 32) (h : f.hi < g.lo ∨ g.hi < f.lo) : (s.setFldBit f j b).fldBit g k = s.fldBit g k :=
  State.fldBit_setFld_bits s _ g _ k ⟨Nat.le_refl _, Nat.lt_of_le_of_lt hj hf⟩ hg (by simp only; omega)

/-! ## CPU_MBOX_STATUS (Table CPU-13) -/

/-- The fields of CPU_MBOX_STATUS that follow the mailboxes. -/
def mboxFields : List Field := [F.CPU_MBOX_STATUS_empty, F.CPU_MBOX_STATUS_full, F.CPU_MBOX_STATUS_count]

/-- The bits of CPU_MBOX_STATUS of one mailbox, written from the words it holds. -/
def State.mboxBits (m : List (List Word)) (t : State) (n : Nat) : State :=
  ((t.setFldBit F.CPU_MBOX_STATUS_empty n ((m.getD n []).length = 0)).setFldBit F.CPU_MBOX_STATUS_full n ((m.getD n []).length = 8)).setFld
    ⟨F.CPU_MBOX_STATUS_count.addr, F.CPU_MBOX_STATUS_count.lo + 3 * n + 2, F.CPU_MBOX_STATUS_count.lo + 3 * n⟩ ((m.getD n []).length % 8)

theorem State.mboxStatus_eq (s : State) : s.mboxStatus = allCores.foldl (State.mboxBits s.cpu.mbox) s := rfl

theorem RegsBut.mboxBits (m : List (List Word)) (h : RegsBut mboxFields s t) (hn : n < 5) :
    RegsBut mboxFields s (State.mboxBits m t n) := by
  have hempty := h.setFldBit ((m.getD n []).length = 0) (f := F.CPU_MBOX_STATUS_empty) (k := n) (by simp [mboxFields])
    (by simp [F.CPU_MBOX_STATUS_empty]; omega) (by decide)
  have hfull := hempty.setFldBit ((m.getD n []).length = 8) (f := F.CPU_MBOX_STATUS_full) (k := n) (by simp [mboxFields])
    (by simp [F.CPU_MBOX_STATUS_full]; omega) (by decide)
  exact hfull.setFld_within (f := F.CPU_MBOX_STATUS_count) _ (by simp [mboxFields]) rfl (by simp [F.CPU_MBOX_STATUS_count])
    (by simp [F.CPU_MBOX_STATUS_count]; omega) (by simp [F.CPU_MBOX_STATUS_count]; omega)

theorem RegsBut.foldl_mboxBits (m : List (List Word)) : ∀ (l : List Nat) (t : State), (∀ k, k ∈ l → k < 5) → RegsBut mboxFields s t →
    RegsBut mboxFields s (l.foldl (State.mboxBits m) t)
  | [], _, _, h => h
  | k :: l, _, hl, h => RegsBut.foldl_mboxBits m l _ (fun j hj => hl j (List.mem_cons_of_mem _ hj)) (h.mboxBits m (hl k (List.mem_cons_self ..)))

theorem State.mboxStatus_regsBut (s : State) : RegsBut mboxFields s s.mboxStatus := by
  rw [State.mboxStatus_eq]
  exact RegsBut.foldl_mboxBits _ _ s (by simp [allCores]) (RegsBut.refl _ s)

theorem State.fldBit_mboxBits_empty (m : List (List Word)) (t : State) {j : Nat} (hj : j < 5) (hn : n < 5) :
    (State.mboxBits m t j).fldBit F.CPU_MBOX_STATUS_empty n =
      if j = n then decide ((m.getD n []).length = 0) else t.fldBit F.CPU_MBOX_STATUS_empty n := by
  unfold State.mboxBits
  rw [State.fldBit_setFld_bits _ _ _ _ _ (by simp [F.CPU_MBOX_STATUS_count]; omega) (by decide)
      (by simp [F.CPU_MBOX_STATUS_count, F.CPU_MBOX_STATUS_empty]; omega),
    State.fldBit_setFldBit_bits _ _ _ _ _ _ (by simp [F.CPU_MBOX_STATUS_full]; omega) (by decide) (by decide) (by decide)]
  by_cases hjn : j = n
  · subst hjn
    rw [if_pos rfl, State.fldBit_setFldBit_self _ _ _ _ (by simp [F.CPU_MBOX_STATUS_empty]; omega) (by decide)]
  · rw [if_neg hjn, State.fldBit_setFldBit_ne _ _ _ _ _ (by simp [F.CPU_MBOX_STATUS_empty]; omega) (by decide) (Ne.symm hjn)]

theorem State.fldBit_mboxBits_full (m : List (List Word)) (t : State) {j : Nat} (hj : j < 5) (hn : n < 5) :
    (State.mboxBits m t j).fldBit F.CPU_MBOX_STATUS_full n =
      if j = n then decide ((m.getD n []).length = 8) else t.fldBit F.CPU_MBOX_STATUS_full n := by
  unfold State.mboxBits
  rw [State.fldBit_setFld_bits _ _ _ _ _ (by simp [F.CPU_MBOX_STATUS_count]; omega) (by decide)
      (by simp [F.CPU_MBOX_STATUS_count, F.CPU_MBOX_STATUS_full]; omega)]
  by_cases hjn : j = n
  · subst hjn
    rw [if_pos rfl, State.fldBit_setFldBit_self _ _ _ _ (by simp [F.CPU_MBOX_STATUS_full]; omega) (by decide)]
  · rw [if_neg hjn, State.fldBit_setFldBit_ne _ _ _ _ _ (by simp [F.CPU_MBOX_STATUS_full]; omega) (by decide) (Ne.symm hjn),
      State.fldBit_setFldBit_bits _ _ _ _ _ _ (by simp [F.CPU_MBOX_STATUS_empty]; omega) (by decide) (by decide) (by decide)]

/-- A bit that each mailbox shows for itself is, after all were written, the mailbox's own. -/
theorem State.fldBit_foldl_mboxBits {m : List (List Word)} {f : Field} {p : List Word → Bool} (hn : n < 5)
    (hone : ∀ (t : State) (j : Nat), j < 5 → (State.mboxBits m t j).fldBit f n = if j = n then p (m.getD n []) else t.fldBit f n) :
    ∀ (l : List Nat) (t : State), (∀ k, k ∈ l → k < 5) →
      (l.foldl (State.mboxBits m) t).fldBit f n = if n ∈ l then p (m.getD n []) else t.fldBit f n
  | [], _, _ => rfl
  | j :: l, t, hl => by
    rw [List.foldl_cons, State.fldBit_foldl_mboxBits hn hone l _ (fun k hk => hl k (List.mem_cons_of_mem _ hk)),
      hone t j (hl j (List.mem_cons_self ..))]
    by_cases hjn : j = n
    · simp [hjn]
    · simp [hjn, Ne.symm hjn]

/-- CPU_MBOX_STATUS tells of mailbox `n` whether it is empty and whether it is full (Table CPU-13). -/
def State.mboxShown (t : State) (n : Nat) : Prop :=
  t.fldBit F.CPU_MBOX_STATUS_empty n = decide (t.cpu.mbox.getD n [] = []) ∧
    t.fldBit F.CPU_MBOX_STATUS_full n = decide ((t.cpu.mbox.getD n []).length = 8)

theorem State.mboxShown_congr (hr : t.regs = s.regs) (hm : t.cpu.mbox = s.cpu.mbox) : t.mboxShown n ↔ s.mboxShown n := by
  simp only [State.mboxShown, State.fldBit_congr hr, hm]

theorem State.mboxShown_readOut (t : State) (w : Word) (n : Nat) : ({ t with readOut := w } : State).mboxShown n ↔ t.mboxShown n :=
  State.mboxShown_congr rfl rfl

theorem State.mboxStatus_shown (s : State) (hn : n < 5) : s.mboxStatus.mboxShown n := by
  have hall : ∀ k, k ∈ allCores → k < 5 := by simp [allCores]
  have hmem : n ∈ allCores := by simp [allCores]; omega
  refine ⟨?_, ?_⟩
  · rw [State.mboxStatus_eq, State.fldBit_foldl_mboxBits (p := fun l => decide (l.length = 0)) hn
      (fun t j hj => State.fldBit_mboxBits_empty _ t hj hn) _ _ hall, if_pos hmem]
    simp only [List.length_eq_zero_iff]
    rfl
  · rw [State.mboxStatus_eq, State.fldBit_foldl_mboxBits (p := fun l => decide (l.length = 8)) hn
      (fun t j hj => State.fldBit_mboxBits_full _ t hj hn) _ _ hall, if_pos hmem]
    rfl

/-! ## Words in and out -/

/-- The state with the words of mailbox `n` changed, CPU_MBOX_STATUS following. -/
def State.onMbox (s : State) (n : Nat) (f : List Word → List Word) : State :=
  State.mboxStatus { s with cpu := { s.cpu with mbox := upd s.cpu.mbox n f } }

theorem State.onMbox_else (s : State) (n : Nat) (f : List Word → List Word) :
    s.onMbox n f = { s with regs := (s.onMbox n f).regs, cpu := { s.cpu with mbox := upd s.cpu.mbox n f } } := rfl

@[simp] theorem State.onMbox_mem (s : State) (n : Nat) (f : List Word → List Word) : (s.onMbox n f).mem = s.mem := by
  rw [State.onMbox_else]

@[simp] theorem State.onMbox_cpu (s : State) (n : Nat) (f : List Word → List Word) :
    (s.onMbox n f).cpu = { s.cpu with mbox := upd s.cpu.mbox n f } := by
  rw [State.onMbox_else]

theorem State.onMbox_regsBut (s : State) (n : Nat) (f : List Word → List Word) : RegsBut mboxFields s (s.onMbox n f) :=
  (RegsBut.of_regs rfl).trans (State.mboxStatus_regsBut { s with cpu := { s.cpu with mbox := upd s.cpu.mbox n f } })

theorem State.onMbox_shown (s : State) (f : List Word → List Word) (hn : n < 5) : (s.onMbox n f).mboxShown n := State.mboxStatus_shown _ hn

theorem State.onMbox_mbox (s : State) (f : List Word → List Word) (hn : n < s.cpu.mbox.length) (d : Nat) :
    (s.onMbox n f).cpu.mbox.getD d [] = if d = n then f (s.cpu.mbox.getD n []) else s.cpu.mbox.getD d [] := by
  rw [State.onMbox_cpu]
  by_cases hd : d = n
  · rw [if_pos hd, hd]
    exact upd_getD_self f [] _ _ hn
  · rw [if_neg hd]
    exact upd_getD_ne f [] _ _ _ (Ne.symm hd)

/-! ## What a write to CPU_MBOXn and a read of it do (R60) -/

theorem State.mboxWrite_own (s : State) (n : Nat) (v : Word) : s.mboxWrite (.core n) n v = s := by simp [State.mboxWrite]

theorem State.mboxWrite_sfc_closed (hoff : s.is F.CPU_CTRL_cc_to_sfc = false) (c : Nat) (v : Word) : s.mboxWrite (.core c) 4 v = s := by
  simp [State.mboxWrite, hoff]

theorem State.mboxWrite_full (hcn : c ≠ n) (hsfc : n = 4 → s.is F.CPU_CTRL_cc_to_sfc = true) (hfull : 8 ≤ (s.cpu.mbox.getD n []).length) (v : Word) :
    s.mboxWrite (.core c) n v = s.setFldBit F.CPU_MBOX_STATUS_ovf n true := by
  simp only [State.mboxWrite]
  rw [if_neg (by simpa [hcn] using hsfc), if_pos hfull]

theorem State.mboxWrite_room (hcn : c ≠ n) (hsfc : n = 4 → s.is F.CPU_CTRL_cc_to_sfc = true) (hroom : (s.cpu.mbox.getD n []).length < 8) (v : Word) :
    s.mboxWrite (.core c) n v = (s.onMbox n (· ++ [v])).deliver 29 [n] := by
  simp only [State.mboxWrite]
  rw [if_neg (by simpa [hcn] using hsfc), if_neg (Nat.not_le.2 hroom)]
  rfl

theorem State.mboxRead_empty (h : s.cpu.mbox.getD n [] = []) : s.mboxRead (.core n) n = (0, s) := by
  simp only [State.mboxRead, if_true, h]

theorem State.mboxRead_oldest {w : Word} {ws : List Word} (h : s.cpu.mbox.getD n [] = w :: ws) :
    s.mboxRead (.core n) n = (w, s.onMbox n (fun _ => ws)) := by
  simp only [State.mboxRead, if_true, h]
  rfl

theorem State.mboxRead_other (hcn : c ≠ n) (s : State) : s.mboxRead (.core c) n = (0, s) := by simp [State.mboxRead, hcn]

theorem exec_mboxWrite_reaches (hw : s.mayWrite (.core c) (Reg.CPU_MBOX0 + 4 * n) = true) (v : Word) :
    exec (.cpuMboxWrite (.core c) n v) s = .next (s.mboxWrite (.core c) n v) :=
  congrArg Host.Outcome.next (if_pos hw)

/-- A write that the mailbox drops changes nothing, whether or not the initiator may make it. -/
theorem exec_mboxWrite_dropped (h : s.mboxWrite (.core c) n v = s) : exec (.cpuMboxWrite (.core c) n v) s = .next s :=
  congrArg Host.Outcome.next (show (if _ then s.mboxWrite (.core c) n v else s) = s by rw [h, ite_self])

theorem exec_mboxRead {who : Init} {w : Word} {u : State} (h : s.mboxRead who n = (w, u)) :
    exec (.cpuMboxRead who n) s = .next { u with readOut := w } := by
  have he : exec (.cpuMboxRead who n) s = .next { (s.mboxRead who n).2 with readOut := (s.mboxRead who n).1 } := rfl
  rw [he, h]

/-! ## The rules of R60 -/

/-- A write by another core with room is appended, with EVT_MBOX to the owner. -/
theorem mboxWrite_appends (hn : n < 5) (hcores : s.cpu.cores.length = 5) (hmbox : s.cpu.mbox.length = 5) (hcn : c ≠ n)
    (hw : s.mayWrite (.core c) (Reg.CPU_MBOX0 + 4 * n) = true) (hsfc : n = 4 → s.is F.CPU_CTRL_cc_to_sfc = true)
    (hroom : (s.cpu.mbox.getD n []).length < 8) :
    Answers (.cpuMboxWrite (.core c) n v) s (fun t => t = { s with regs := t.regs, cpu := t.cpu } ∧ RegsBut mboxFields s t ∧ t.mboxShown n ∧
      (∀ d, t.cpu.mbox.getD d [] = if d = n then s.cpu.mbox.getD n [] ++ [v] else s.cpu.mbox.getD d []) ∧
      ∀ d, t.core d = if d = n then { s.core d with pend := (s.core d).pend ||| (1#32 <<< 29) } else s.core d) := by
  have helse := State.deliver_else 29 [n] (s.onMbox n (· ++ [v]))
  have hmb : ((s.onMbox n (· ++ [v])).deliver 29 [n]).cpu.mbox = (s.onMbox n (· ++ [v])).cpu.mbox := by rw [helse]
  refine ⟨_, (exec_mboxWrite_reaches hw v).trans (congrArg _ (State.mboxWrite_room hcn hsfc hroom v)), ?_, ?_, ?_, fun d => ?_, fun d => ?_⟩
  · rw [helse, State.onMbox_else]
  · exact (State.onMbox_regsBut s n _).trans (RegsBut.of_regs (State.deliver_regs ..))
  · exact (State.mboxShown_congr (State.deliver_regs ..) hmb).2 (State.onMbox_shown s _ hn)
  · rw [hmb, State.onMbox_mbox s _ (hmbox ▸ hn)]
  · have hlt : n < (s.onMbox n (· ++ [v])).cpu.cores.length := by
      rw [State.onMbox_else]
      exact hcores ▸ hn
    rw [State.core_deliver 29 d [n] _ (by simpa using hlt)]
    simp only [List.mem_singleton]
    rfl

/-- A write to a full mailbox is dropped and sets its ovf bit. -/
theorem mboxWrite_overflows (hn : n < 5) (hcn : c ≠ n) (hw : s.mayWrite (.core c) (Reg.CPU_MBOX0 + 4 * n) = true)
    (hsfc : n = 4 → s.is F.CPU_CTRL_cc_to_sfc = true) (hfull : 8 ≤ (s.cpu.mbox.getD n []).length) :
    Answers (.cpuMboxWrite (.core c) n v) s (fun t =>
      Sets [⟨F.CPU_MBOX_STATUS_ovf.addr, F.CPU_MBOX_STATUS_ovf.lo + n, F.CPU_MBOX_STATUS_ovf.lo + n⟩] s t ∧
      t.fldBit F.CPU_MBOX_STATUS_ovf n = true) := by
  refine ⟨_, (exec_mboxWrite_reaches hw v).trans (congrArg _ (State.mboxWrite_full hcn hsfc hfull v)), ⟨rfl, ?_⟩, ?_⟩
  · exact (RegsBut.refl _ s).setFld _ _ (List.mem_singleton_self _) (by simp [F.CPU_MBOX_STATUS_ovf]; omega)
  · exact State.fldBit_setFldBit_self _ _ _ _ (by simp [F.CPU_MBOX_STATUS_ovf]; omega) (by decide)

/-- The owner's read takes the oldest word. -/
theorem mboxRead_takes_oldest (hn : n < 5) (hmbox : s.cpu.mbox.length = 5) {w : Word} {ws : List Word} (h : s.cpu.mbox.getD n [] = w :: ws) :
    Answers (.cpuMboxRead (.core n) n) s (fun t => t.readOut = w ∧ t.mem = s.mem ∧ t.mboxShown n ∧
      t.cpu = { s.cpu with mbox := t.cpu.mbox } ∧ ∀ d, t.cpu.mbox.getD d [] = if d = n then ws else s.cpu.mbox.getD d []) := by
  have hread := exec_mboxRead (State.mboxRead_oldest h)
  have hshown := State.onMbox_shown s (fun _ => ws) hn
  have hmem := State.onMbox_mem s n (fun _ => ws)
  have hcpu := State.onMbox_cpu s n (fun _ => ws)
  have hwords := State.onMbox_mbox s (fun _ => ws) (by rwa [hmbox])
  generalize s.onMbox n (fun _ => ws) = u at hread hshown hmem hcpu hwords
  exact ⟨_, hread, rfl, hmem, (State.mboxShown_readOut u w n).2 hshown, by simp only [hcpu], hwords⟩

/-- A read that takes nothing reads 0: the owner's of an empty mailbox, and any other core's. -/
theorem mboxRead_reads_zero {who : Init} (h : s.mboxRead who n = (0, s)) :
    Answers (.cpuMboxRead who n) s (fun t => t = { s with readOut := 0 }) :=
  ⟨_, exec_mboxRead h, rfl⟩

/-- Settles O10: the laws of a write and of a read, with the writes that change nothing. -/
theorem mailboxes : Obligations.Mailboxes := by
  intro s c n v _ hn hcores hmbox hcn shown
  refine ⟨fun hw hsfc => ⟨mboxWrite_appends hn hcores hmbox hcn hw hsfc, mboxWrite_overflows hn hcn hw hsfc⟩,
    fun w ws => mboxRead_takes_oldest hn hmbox, fun hempty hshown => ?_, mboxRead_reads_zero (State.mboxRead_other hcn s),
    ⟨s, exec_mboxWrite_dropped (State.mboxWrite_own s n v), rfl⟩,
    fun _ hoff => ⟨s, exec_mboxWrite_dropped (State.mboxWrite_sfc_closed hoff c v), rfl⟩⟩
  obtain ⟨t, ht, rfl⟩ := mboxRead_reads_zero (State.mboxRead_empty hempty)
  exact ⟨_, ht, rfl, hshown.1.trans (decide_eq_true hempty)⟩

end Sys2Proof.Machine

/-! Control transfers, the core control registers, and ERET (R55, R69, R74, R79, R81). -/

namespace Sys2Proof.Machine

open Sys2Proof

variable {s : State} {c rd ra n : Nat}

/-! ## Aligned addresses and word displacements (R69) -/

/-- A displacement in words, sign-extended and scaled to bytes, is four times its signed value. -/
theorem signExtend_shiftLeft_two {w : Nat} (d : BitVec w) : d.signExtend 32 <<< 2 = BitVec.ofInt 32 (4 * d.toInt) := by
  rw [BitVec.shiftLeft_eq_mul_twoPow, BitVec.signExtend, show BitVec.twoPow 32 2 = BitVec.ofInt 32 4 from rfl, ← BitVec.ofInt_mul, Int.mul_comm]

theorem word_and_three_eq_zero_iff (a : Word) : a &&& 3#32 = 0 ↔ a.toNat % 4 = 0 := by
  have hlow : (a &&& 3#32).toNat = a.toNat % 4 := (BitVec.toNat_and ..).trans (Nat.and_two_pow_sub_one_eq_mod a.toNat 2)
  rw [← BitVec.toNat_inj, hlow]
  rfl

theorem word_aligned_add {a b : Word} (ha : a &&& 3#32 = 0) (hb : b &&& 3#32 = 0) : (a + b) &&& 3#32 = 0 := by
  rw [word_and_three_eq_zero_iff] at *
  rw [BitVec.toNat_add]
  omega

theorem word_aligned_shiftLeft_two (a : Word) : (a <<< 2) &&& 3#32 = 0 := by
  rw [word_and_three_eq_zero_iff, BitVec.toNat_shiftLeft, Nat.shiftLeft_eq]
  omega

/-- A core that can fetch stands at an aligned address. -/
theorem State.able.pc_aligned (h : s.able c) : (s.core c).pc &&& 3#32 = 0 := by
  obtain ⟨_, hfetch, _, _, _⟩ := h
  simp only [State.fetchOk, Bool.and_eq_true, decide_eq_true_eq] at hfetch
  exact (word_and_three_eq_zero_iff _).2 hfetch.1

theorem State.able.pc_next_aligned (h : s.able c) : ((s.core c).pc + 4) &&& 3#32 = 0 :=
  word_aligned_add h.pc_aligned (by decide)

theorem State.able.pc_displaced_aligned {w : Nat} (h : s.able c) (d : BitVec w) :
    ((s.core c).pc + (d.signExtend 32 <<< 2)) &&& 3#32 = 0 :=
  word_aligned_add h.pc_aligned (word_aligned_shiftLeft_two _)

/-! ## Going on at an address -/

/-- A transfer to an aligned target takes place (R69). -/
theorem State.transfer_aligned {a : Word} (ha : a &&& 3#32 = 0) (s : State) (c : Nat) (f : Core → Core) :
    s.transfer c a f = ((s.onCore c f).goTo c a).counted c := if_neg (not_not_intro ha)

/-- The core that goes on at an address has its registers changed, its pc there and, on the SFC, its signature following (R62). -/
theorem State.counted_goTo_core_self (hgap : c = 4 → s.cpu.sigCount < 16 * s.fld F.CPU_SFC_CTRL_sig_gap) (hc : c < s.cpu.cores.length)
    (f : Core → Core) (a : Word) : (((s.onCore c f).goTo c a).counted c).core c =
      { f (s.core c) with pc := a, sig := if c = 4 then sigNext (f (s.core c)).sig a else (f (s.core c)).sig } := by
  rw [State.counted_able _ (by exact hgap)]
  refine (State.core_onCore_self (s.onCore c f) c _ (by simpa [State.onCore] using hc)).trans ?_
  rw [State.core_onCore_self s c f hc]

theorem State.counted_goTo_onlyCore (hgap : c = 4 → s.cpu.sigCount < 16 * s.fld F.CPU_SFC_CTRL_sig_gap) (f : Core → Core) (a : Word) :
    OnlyCore c s (((s.onCore c f).goTo c a).counted c) := by
  rw [State.counted_able _ (by exact hgap)]
  refine ⟨rfl, fun d hd => ?_, rfl⟩
  exact (State.core_onCore_ne (s.onCore c f) c d _ hd.symm).trans (State.core_onCore_ne s c d f hd.symm)

/-- A completed transfer that changes, besides the pc and the signature, at most general registers (R62, R69, R71). -/
theorem State.transfer_goesTo {i : Instr} {a : Word} {f : Core → Core} {r : Nat → Word} (h : s.able c) (ha : a &&& 3#32 = 0)
    (hf : f (s.core c) = { s.core c with g := (f (s.core c)).g }) (hl : (f (s.core c)).g.length = 32)
    (hr : ∀ n, n < 32 → (f (s.core c)).r n = if n = 0 then 0 else r n) (he : exec i s = .next (s.transfer c a f)) : GoesTo i s c a r := by
  rw [State.transfer_aligned ha] at he
  have hcore := State.counted_goTo_core_self h.gap h.lt f a
  refine ⟨_, he, State.counted_goTo_onlyCore h.gap f a, ?_, ?_, fun n hn => ?_⟩ <;> rw [hcore]
  · rw [hf]
    rfl
  · exact hl
  · exact hr n hn

theorem State.transfer_id_goesTo {i : Instr} {a : Word} (h : s.able c) (ha : a &&& 3#32 = 0)
    (he : exec i s = .next (s.transfer c a id)) : GoesTo i s c a (s.core c).r :=
  State.transfer_goesTo h ha rfl h.length_g (fun n _ => by by_cases hn : n = 0 <;> simp [hn]) he

/-- A transfer that links: the return address goes to a general register. -/
theorem State.transfer_w_goesTo {i : Instr} {a v : Word} (h : s.able c) (hrd : rd < 32) (ha : a &&& 3#32 = 0)
    (he : exec i s = .next (s.transfer c a (fun k => k.w rd v))) : GoesTo i s c a (fun n => if n = rd then v else (s.core c).r n) :=
  State.transfer_goesTo h ha (Core.w_else _ _ _) (by simpa using h.length_g) (fun n _ => Core.r_w _ rd n v h.length_g hrd) he

/-! ## Branches and jumps (Table CPU-23) -/

theorem not_slt_eq_decide (x y : Word) : (!x.slt y) = decide (y.toInt ≤ x.toInt) := by
  rw [BitVec.slt, ← decide_not, decide_eq_decide, Int.not_lt]

theorem not_ult_eq_decide (x y : Word) : (!x.ult y) = decide (y.toNat ≤ x.toNat) := by
  rw [BitVec.ult, ← decide_not, decide_eq_decide, Nat.not_lt]

/-- A conditional branch goes on at its displaced target or at the next word. -/
theorem State.branch_goesTo {i : Instr} {off : BitVec 16} {cond : Core → Bool} {b : Bool} (h : s.able c) (hb : cond (s.core c) = b)
    (he : exec i s = .next (s.branch c off cond)) :
    GoesTo i s c (if b then (s.core c).pc + BitVec.ofInt 32 (4 * off.toInt) else (s.core c).pc + 4) (s.core c).r := by
  rw [State.branch, State.insn_able h true (fun _ => rfl), hb] at he
  rw [← signExtend_shiftLeft_two]
  refine State.transfer_id_goesTo h ?_ he
  cases b
  · exact h.pc_next_aligned
  · exact h.pc_displaced_aligned off

theorem j_goesTo (h : s.able c) (far : BitVec 26) :
    GoesTo (.j c far) s c ((s.core c).pc + BitVec.ofInt 32 (4 * far.toInt)) (s.core c).r := by
  rw [← signExtend_shiftLeft_two]
  exact State.transfer_id_goesTo h (h.pc_displaced_aligned far) (congrArg Host.Outcome.next (State.insn_able h true (fun _ => rfl) _))

theorem jal_goesTo (h : s.able c) (hc : c ≠ 4) (far : BitVec 26) :
    GoesTo (.jal c far) s c ((s.core c).pc + BitVec.ofInt 32 (4 * far.toInt))
      (fun n => if n = 31 then (s.core c).pc + 4 else (s.core c).r n) := by
  rw [← signExtend_shiftLeft_two]
  exact State.transfer_w_goesTo h (by decide) (h.pc_displaced_aligned far)
    (congrArg Host.Outcome.next ((State.insn_able h true (fun _ => rfl) _).trans (if_neg hc)))

theorem jalr_goesTo (h : s.able c) (hc : c ≠ 4) (hrd : rd < 32) (imm : BitVec 16)
    (ha : ((s.core c).r ra + BitVec.ofInt 32 imm.toInt) &&& 3#32 = 0) :
    GoesTo (.jalr c rd ra imm) s c ((s.core c).r ra + BitVec.ofInt 32 imm.toInt)
      (fun n => if n = rd then (s.core c).pc + 4 else (s.core c).r n) :=
  State.transfer_w_goesTo h hrd ha (congrArg Host.Outcome.next (State.insn_able h false (absurd · hc) _))

theorem ret_goesTo (h : s.able c) (hc : c ≠ 4) (ha : (s.core c).r 31 &&& 3#32 = 0) : GoesTo (.ret c) s c ((s.core c).r 31) (s.core c).r :=
  State.transfer_id_goesTo h ha (congrArg Host.Outcome.next ((State.insn_able h true (fun _ => rfl) _).trans (if_neg hc)))

/-! ## The return stack of the SFC (R74) -/

/-- The state with another return stack. -/
def State.withRetStack (s : State) (l : List Word) : State := { s with cpu := { s.cpu with retStack := l } }

/-- A transfer made over a changed return stack keeps that stack, and leaves memory and registers. -/
theorem State.transfer_withRetStack (h : s.able c) {a : Word} (ha : a &&& 3#32 = 0) (l : List Word) (f : Core → Core) :
    let t := (s.withRetStack l).transfer c a f
    (t.core c).pc = a ∧ (t.core c).g = (f (s.core c)).g ∧ t.cpu.retStack = l ∧ t.mem = s.mem ∧ t.regs = s.regs := by
  intro t
  have hgap : c = 4 → (s.withRetStack l).cpu.sigCount < 16 * (s.withRetStack l).fld F.CPU_SFC_CTRL_sig_gap := h.gap
  have ht : t = (((s.withRetStack l).onCore c f).goTo c a).counted c := State.transfer_aligned ha _ _ _
  have hcore := State.counted_goTo_core_self hgap h.lt f a
  obtain ⟨helse, -, -⟩ := State.counted_goTo_onlyCore hgap f a
  rw [← ht] at hcore helse
  refine ⟨?_, ?_, ?_, ?_, ?_⟩
  · rw [hcore]
  · rw [hcore]
    rfl
  all_goals
    rw [helse]
    rfl

/-- JAL on the SFC pushes the return address while the stack has room. -/
theorem jal_pushes (h : s.able c) (hc : c = 4) (hroom : s.cpu.retStack.length < 8) (far : BitVec 26) :
    ∃ t, exec (.jal c far) s = .next t ∧ (t.core c).pc = (s.core c).pc + BitVec.ofInt 32 (4 * far.toInt) ∧
      (t.core c).r 31 = (s.core c).pc + 4 ∧ t.cpu.retStack = ((s.core c).pc + 4) :: s.cpu.retStack ∧ t.mem = s.mem ∧ t.regs = s.regs := by
  obtain ⟨hpc, hg, hrest⟩ := State.transfer_withRetStack h (h.pc_displaced_aligned far) (((s.core c).pc + 4) :: s.cpu.retStack)
    (fun k => k.w 31 ((s.core c).pc + 4))
  rw [← signExtend_shiftLeft_two]
  refine ⟨_, congrArg Host.Outcome.next ((State.insn_able h true (fun _ => rfl) _).trans
    ((if_pos hc).trans (if_neg (Nat.not_le.2 hroom)))), hpc, ?_, hrest⟩
  exact (congrArg (fun g => g.getD 31 0) hg).trans (Core.r_w _ 31 31 _ h.length_g (by decide))

/-- RET on the SFC pops the return stack where its top agrees with g31. -/
theorem ret_pops (h : s.able c) (hc : c = 4) (ha : (s.core c).r 31 &&& 3#32 = 0) {rest : List Word}
    (htop : s.cpu.retStack = (s.core c).r 31 :: rest) :
    ∃ t, exec (.ret c) s = .next t ∧ (t.core c).pc = (s.core c).r 31 ∧ t.cpu.retStack = rest ∧ t.mem = s.mem ∧ t.regs = s.regs := by
  obtain ⟨hpc, -, hrest⟩ := State.transfer_withRetStack h ha rest id
  refine ⟨_, congrArg Host.Outcome.next ((State.insn_able h true (fun _ => rfl) _).trans ((if_pos hc).trans ?_)), hpc, hrest⟩
  rw [htop]
  exact if_pos rfl

/-! ## Core control registers (Table CPU-3) -/

/-- At Kernel level a Kernel-only instruction runs its own meaning (R52). -/
theorem State.kernel_of_kernel (hk : (s.core c).task = false) (body : State → State) : s.kernel c body = body s :=
  if_neg (by simp [hk])

/-- An instruction that can complete at Kernel level runs its own meaning. -/
theorem State.insn_kernel_able (h : s.able c) (hk : (s.core c).task = false) (body : Core → State → State) :
    s.insn c true (fun k t => t.kernel c (body k)) = body (s.core c) s :=
  (State.insn_able h true (fun _ => rfl) _).trans (State.kernel_of_kernel hk _)

/-- The control registers that exist: 10 to 15 do not (R79). -/
theorem crn_exists_iff (n : Nat) : (decide (10 ≤ n) && decide (n ≤ 15)) = false ↔ n ≤ 9 ∨ 16 ≤ n := by
  simp only [Bool.and_eq_false_iff, decide_eq_false_iff_not]
  omega

theorem exec_mfcr_able (h : s.able c) (hk : (s.core c).task = false) (rd n : Nat) : exec (.mfcr c rd n) s = .next (
    if 10 ≤ n && n ≤ 15 then s.raise c excIllegal none else s.retire c (fun k => k.w rd ((s.core c).cr c n))) :=
  congrArg Host.Outcome.next (State.insn_kernel_able h hk _)

theorem exec_mtcr_able (h : s.able c) (hk : (s.core c).task = false) (n ra : Nat) : exec (.mtcr c n ra) s = .next (
    if 10 ≤ n && n ≤ 15 then s.raise c excIllegal none else s.retire c (fun k => k.setCr c n ((s.core c).r ra))) :=
  congrArg Host.Outcome.next (State.insn_kernel_able h hk _)

theorem mfcr_gives (h : s.able c) (hk : (s.core c).task = false) (hrd : rd < 32) (hn : n ≤ 9 ∨ 16 ≤ n) :
    Gives (.mfcr c rd n) s c rd ((s.core c).cr c n) :=
  State.retire_w_gives h hrd (by rw [exec_mfcr_able h hk, (crn_exists_iff n).2 hn]; rfl)

theorem Core.status_of_kernel {k : Core} (hk : k.task = false) :
    k.status = w32 ((if k.hnd then 2 else 0) + (if k.prevTask then 4 else 0) + (if k.urgEn then 8 else 0)) := by
  rw [Core.status, hk]
  cases k.hnd <;> cases k.prevTask <;> cases k.urgEn <;> rfl

/-- What a control register write changes of a core: no register, mode or cause, and each control register by its own number (R81). -/
theorem Core.setCr_eq (k : Core) (c n : Nat) (v : Word) : k.setCr c n v = { k with
    urgEn := if n = 0 then v.getLsbD 3 else k.urgEn, prevTask := if n = 0 then v.getLsbD 2 else k.prevTask,
    epc := if n = 1 then v else k.epc, evec := if n = 4 then v &&& 0xFFFFFF00#32 else k.evec,
    urgent := if n = 5 then v else k.urgent, pend := if n = 6 then k.pend &&& ~~~v else k.pend,
    tblk := (k.setCr c n v).tblk, sig := (k.setCr c n v).sig, treg := (k.setCr c n v).treg } := by
  unfold Core.setCr
  split
  case h_6 | h_7 => split <;> rfl
  case h_8 h0 h1 h4 h5 h6 _ _ =>
    simp only [if_neg h0, if_neg h1, if_neg h4, if_neg h5, if_neg h6]
    split <;> rfl
  all_goals rfl

theorem mtcr_writes (h : s.able c) (hk : (s.core c).task = false) (hn : n ≤ 9 ∨ 16 ≤ n) (ra : Nat) :
    ∃ t, exec (.mtcr c n ra) s = .next t ∧ OnlyCore c s t ∧
      t.core c = { (s.core c).setCr c n ((s.core c).r ra) with pc := (s.core c).pc + 4 } :=
  ⟨_, by rw [exec_mtcr_able h hk, (crn_exists_iff n).2 hn]; rfl, State.retire_onlyCore h _, State.retire_core_self h.gap h.lt _⟩

/-- Control registers 10 to 15 raise ILLEGAL, read or written (R79). -/
theorem crn_missing_raises (h : s.able c) (hk : (s.core c).task = false) (hlo : 10 ≤ n) (hhi : n ≤ 15) (rd ra : Nat) :
    exec (.mfcr c rd n) s = .next (s.raise c excIllegal none) ∧ exec (.mtcr c n ra) s = .next (s.raise c excIllegal none) := by
  rw [exec_mfcr_able h hk, exec_mtcr_able h hk]
  simp [hlo, hhi]

/-- ILLEGAL on a CC core that is in no handler enters with the address of the instruction (R55). -/
theorem State.raise_illegal_enters {i : Instr} (h : s.able c) (hc : c ≠ 4) (hh : (s.core c).hnd = false)
    (he : exec i s = .next (s.raise c excIllegal none)) : Enters i s c 0x01 (s.core c).pc (s.core c).badaddr :=
  ⟨_, he, State.raise_enters h.lt hc hh excIllegal (by decide) (by decide) none⟩

/-! ## ERET (R55) -/

theorem eret_returns (h : s.able c) (hk : (s.core c).task = false) (hh : (s.core c).hnd = true) (ha : (s.core c).epc &&& 3#32 = 0) :
    ∃ t, exec (.eret c) s = .next t ∧ OnlyCore c s t ∧
      t.core c = { s.core c with pc := (s.core c).epc, task := (s.core c).prevTask, hnd := false, sig := (t.core c).sig } := by
  have he : exec (.eret c) s = .next ((s.leave c).counted c) := by
    refine congrArg Host.Outcome.next ((State.insn_kernel_able h hk _).trans ?_)
    simp [hh, ha]
  refine ⟨_, he, State.counted_goTo_onlyCore h.gap _ _, ?_⟩
  rw [State.leave, State.counted_goTo_core_self h.gap h.lt]

/-! ## Control transfers, control registers and ERET together -/

/-- Settles O3: the laws of the transfers, of the return stack, of the control registers and of ERET, put together. -/
theorem control : Obligations.Control := by
  refine ⟨fun s c rd ra rb off imm far h hrd => ?_, fun s c rd ra h hrd hk => ?_⟩
  · exact ⟨State.branch_goesTo h rfl rfl, State.branch_goesTo h decide_not.symm rfl,
      State.branch_goesTo h rfl rfl, State.branch_goesTo h (not_slt_eq_decide _ _) rfl,
      State.branch_goesTo h rfl rfl, State.branch_goesTo h (not_ult_eq_decide _ _) rfl,
      j_goesTo h far, fun hc => jal_goesTo h hc far, fun hc => jalr_goesTo h hc hrd imm, fun hc => ret_goesTo h hc,
      fun hc hroom => jal_pushes h hc hroom far, fun hc ha _ => ret_pops h hc ha⟩
  · have reads (n : Nat) (hn : n ≤ 9) := mfcr_gives h hk hrd (Or.inl hn)
    refine ⟨Core.status_of_kernel hk ▸ reads 0 (by decide), reads 1 (by decide), reads 2 (by decide), reads 3 (by decide),
      reads 4 (by decide), reads 5 (by decide), reads 6 (by decide), reads 8 (by decide), fun n hn _ => ?_,
      eret_returns h hk, fun n hlo hhi => ?_⟩
    · obtain ⟨t, he, honly, hcore⟩ := mtcr_writes h hk hn ra
      rw [Core.setCr_eq] at hcore
      refine ⟨t, he, honly, ?_⟩
      rw [hcore]
      exact ⟨fun _ => rfl, rfl, hk, rfl, rfl, rfl, rfl, rfl, rfl, rfl, rfl, rfl⟩
    · obtain ⟨hread, hwrite⟩ := crn_missing_raises h hk hlo hhi rd ra
      exact ⟨hread, hwrite, fun hc hh => ⟨State.raise_illegal_enters h hc hh hread, State.raise_illegal_enters h hc hh hwrite⟩⟩

end Sys2Proof.Machine
